-- ==== Sys2Proof/Word.lean ====
section
/-! DEFINITION. Word.lean: the word types of the SK9600's windows and messages (R36, R37, R61). -/

namespace Sys2Proof

/-- One byte of a datagram, a key or an OCTET STRING. -/
abbrev Byte := BitVec 8

/-- One 32-bit word of a window item, a licence record or a Tally record. -/
abbrev Word := BitVec 32

end Sys2Proof
end

