-- ==== Sys2Proof/Syntax.lean ====
section
/-! DEFINITION. Syntax.lean: the commands of the block, one constructor of `Instr` per row of
spec/opcode_table.json, with the operands that row's rule names. The table gives no operand fields;
an operand is what the row's rule says arrives from outside (a manager and a value, a frame, a
message, a reading). Numbers are the spec's own: channel 0–95, rod 0–5, global carrier slot 0–767
(R3, R4), manager 0–7 and 8 for the monitor (R418). -/

namespace Sys2Proof

/-- One complex sample at a stage boundary: the 48-bit word of R124 (16-bit I and Q, each with its 8-bit
residue) with the tags that travel with it (R25 poison, R93 settling flag, R94 flagged invalid by calibration). -/
structure Smp where
  re : Int := 0
  im : Int := 0
  /-- carried residues of I and of Q (R123) -/
  resI : Nat := 0
  resQ : Nat := 0
  poison : Bool := false
  settle : Bool := false
  invalid : Bool := false
  deriving DecidableEq, Repr

/-- An arithmetic error in one output of a stage of one channel's block (ch. 5). `first` and `second` are added
to the accumulator of I, or of Q, in the first computation and in the recomputation; `flip1` and `flip2`
invert the stage's saturation indicator there (R128). -/
structure Damage where
  ch : Nat
  /-- carrier slot 0–7, or 8 for a channel-wide stage -/
  slot : Nat
  /-- stage code of Table 5.7 -/
  stage : Nat
  /-- part of the stage: half-band 0–4 of a chain; 1 the notch's update of d; 1 + p the rotator of path p; 1 the
  target bank of a cross-fade; 0 the stage's own output -/
  sub : Nat := 0
  /-- position of the output in the block: its sample at CSR, or the carrier sample for the gain -/
  pos : Nat := 0
  /-- false I, true Q -/
  imag : Bool := false
  first : Int := 0
  second : Int := 0
  flip1 : Bool := false
  flip2 : Bool := false
  deriving DecidableEq, Repr

/-- An arithmetic error of a weighted combination in the Crossbar and in its repeat (R133), or of the former of
a route reference (R161, `first` and `flip1` alone; `sub` 5 its multiplication by ḡ, 0–4 its half-bands). -/
structure XbarDamage where
  route : Nat
  sub : Nat := 0
  pos : Nat := 0
  imag : Bool := false
  first : Int := 0
  second : Int := 0
  flip1 : Bool := false
  flip2 : Bool := false
  deriving DecidableEq, Repr

/-- Damage to one 48-bit word between two dies, on the reference bus or in front of an egress check: the bits of
`mask` are inverted (Table 5.1). -/
structure WordHit where
  /-- channel, or endpoint code of an egress stream -/
  num : Nat
  /-- canceller path of a reference word -/
  path : Nat := 0
  /-- position of the word in the block -/
  pos : Nat
  mask : BitVec 48
  deriving DecidableEq, Repr

/-- A word of SRAM read with bad parity (R23): region in the row order of Table 1.7, byte offset in
the region, and whose word it is. -/
structure ParityHit where
  region : Nat
  offset : Nat
  ch : Nat := 0
  slot : Nat := 0
  /-- regions 1 and 13: `ch` is the route; region 3: bank of a coefficient word (0 A, 1 B), else the delay line: 2 and 3
of bank A and B, 4–8 and 9–13 of a half-band stage HB-A to HB-E of the receive and the transmit chain, 14 of the IQ
correction, 16 + path of a canceller path's taps; region 2:
  canceller path of a reference word, 8 + path of an active model word, 16 + path of a replaced model word; region 6:
egress stream of the port `ch`, 0–15 a DN port, 16–31 an XL lane -/
  part : Nat := 0
  /-- region 6: the 64-bit word read, counted from the first of the item's IQ part -/
  word : Nat := 0
  deriving DecidableEq, Repr

/-- What reaches the Reckoners and leaves them in one frame (R17). -/
structure FrameInput where
  /-- the 144 ADC codes of I and Q of each channel in the frame (Table 3.1 stage 2); an absent channel gives zeros -/
  adc : List (Nat × List (Int × Int)) := []
  /-- damage to words of a receive stream on the die-to-die link -/
  rxHits : List WordHit := []
  /-- damage to words of a transmit stream on the die-to-die link -/
  txHits : List WordHit := []
  /-- damage to words of the reference bus, by receiving channel and path -/
  refHits : List WordHit := []
  /-- damage to words in front of a link's egress check, by endpoint code -/
  egressHits : List WordHit := []
  damage : List Damage := []
  xbar : List XbarDamage := []
  /-- errors of the route reference formers (R161) -/
  former : List XbarDamage := []
  parity : List ParityHit := []
  deriving DecidableEq, Repr

/-- A cell found by search or measured by tracking (R209–R211, Table 9.2). -/
structure CellMeas where
  rat : Nat
  pci : Nat
  /-- kHz -/
  freq : Nat
  tdd : Bool := false
  /-- level per resource element at the side's carrier-slot output, 0.01 dBFS -/
  level : Int
  /-- SINR, 0.01 dB -/
  sinr : Int
  /-- where the 10 ms radio frame boundary stands in the carrier-slot output, in the 10 ms grid, samples at CSR -/
  arrival : Nat := 0
  ssb : Nat := 0
  deriving DecidableEq, Repr

/-- What one search dwell finds (R210). -/
structure Dwell where
  cells : List CellMeas := []
  /-- byte offset of a word of the Cell Finder buffers that reads with bad parity (Table 1.7) -/
  bad : Option Nat := none
  deriving DecidableEq, Repr

/-- What a rod calibration measures for one channel (Table 10.8). -/
structure CalValues where
  ch : Nat
  rxGain : Int := 0
  txGain : Int := 0
  noiseFigure : Nat := 0
  outNoise : Int := 0
  fbForward : Int := 0
  fbReflected : Int := 0
  loLeak : Int × Int := (0, 0)
  iqTaps : List (Int × Int) := []
  deriving DecidableEq, Repr

/-- One frame received on a DN port, as the MAC presents it (Table 12.2, R295, R299). -/
structure DnFrame where
  fcsOk : Bool := true
  length : Nat := 0
  dst : Nat := 0
  /-- VID of the 802.1Q tag, none when untagged -/
  tag : Option Nat := none
  etherType : Nat := 0
  hdr0 : Nat := 0
  msgType : Nat := 0
  size : Nat := 0
  pcid : Nat := 0
  seq : Nat := 0
  sub : Nat := 0
  /-- IQ payload bytes of a type 0 message -/
  iq : List Byte := []
  /-- type 5: measurement ID, action, timestamp in ns, compensation in ns -/
  measId : Nat := 0
  action : Nat := 0
  stamp : Nat := 0
  comp : Int := 0
  /-- words of the item read from the port's queue with bad parity (R315): the 64-bit word, counted from the first of the
  IQ payload, and its byte offset in the link-queue region -/
  bad : List (Nat × Nat) := []
  deriving DecidableEq, Repr

/-- One Xanosh superframe (R301, Tables 12.4, 12.5). -/
structure Superframe where
  /-- its 64b/66b blocks in order, the idle blocks among them: the sync header in bits [65:64] -/
  blocks : List (BitVec 66) := []
  /-- words of the item read from the queue with bad parity (R315): the IQ block, 432 the trailer, and the byte offset of
  the word in the link-queue region -/
  bad : List (Nat × Nat) := []
  deriving DecidableEq, Repr

/-- Block `n` of a superframe; an idle block where there is none. -/
def Superframe.block (sf : Superframe) (n : Nat) : BitVec 66 := sf.blocks.getD n 0x21E00000000000000#66

/-- The 432 IQ blocks in order: 108 of each quarter, 114 blocks apart (Table 12.4). -/
def Superframe.iq (sf : Superframe) : List (BitVec 64) :=
  (List.range 432).map fun i => (sf.block (114 * (i / 108) + i % 108)).truncate 64

/-- The trailer block's 56 bits after the type byte. -/
def Superframe.trailer (sf : Superframe) : BitVec 56 := (sf.block 455).truncate 56

/-- Does a block count as failed (R301): a control block that is neither idle nor a trailer, or no block at all? -/
def failedBlock (b : BitVec 66) : Bool :=
  let head := b.toNat / 2 ^ 64
  let type := b.toNat / 2 ^ 56 % 256
  head != 1 && !(head == 2 && (type == 0x1E || type == 0xD2))

/-- Are the blocks of a superframe those of Table 12.4: 455 data blocks, a trailer, then idle blocks, none failed? -/
def Superframe.formed (sf : Superframe) : Bool :=
  let head (n : Nat) : Nat := (sf.block n).toNat / 2 ^ 64
  !sf.blocks.any failedBlock && (List.range 455).all (fun n => head n == 1) && (sf.block 455).toNat / 2 ^ 56 == 0x2D2

/-- One relay message (R309). -/
structure RelayMsg where
  dst : Nat
  src : Nat
  hop : Nat
  /-- 0 OLP, 1 timing, 2 hello -/
  typ : Nat
  ident : Nat
  payload : List Byte := []
  crc : BitVec 32 := 0
  deriving DecidableEq, Repr

/-- The OLP read, write, … operation as bytes of a message (Table 2.5). -/
structure OlpOp where
  opcode : Nat
  index : Nat
  sub : Nat
  /-- the data length field -/
  len : Nat
  data : List Byte := []
  deriving DecidableEq, Repr

/-- Where a datagram came from: port 0 MP0, 1 MP1, 2 + l chain lane l (R41, R68). -/
structure Origin where
  port : Nat := 0
  addr : Nat := 0
  udp : Nat := 0
  /-- the UDP port on which it arrived, and whether it came over IPv6 (R41) -/
  dst : Nat := 19820
  v6 : Bool := false
  /-- a word of the datagram reads with bad parity from the management queue (R314, R315) -/
  bad : Bool := false
  deriving DecidableEq, Repr

/-- External lines the collector samples in one cycle (Tables 14.2–14.4). -/
structure CollectorInput where
  /-- new levels of level lines that no other command carries -/
  levels : List (Nat × Bool) := []
  /-- sources with an occurrence of their event condition -/
  events : List Nat := []
  /-- the independent checker disagrees in this cycle (R358) -/
  disagree : Bool := false
  /-- a new measurement of REFCLK against the uncompensated SUPCLK, in 0.001 ppm (R397) -/
  refOffset : Option Int := none
  deriving DecidableEq, Repr

/-- What the flash and the RAM show Tally at a frame-die reset (R372, R374). -/
structure BootFlash where
  /-- the flash answers -/
  answers : Bool := true
  /-- saved counter entries, newest first from 0, whose CRC fails -/
  badEntries : List Nat := []
  /-- records of the log, oldest first from 0, whose CRC fails -/
  badRecords : List Nat := []
  /-- pages of the ring that fail their test -/
  badPages : List Nat := []
  deriving DecidableEq, Repr

/-- The commands of the SK9600: one constructor per row of the opcode table. `m` is the manager
(0–7, 8 the monitor), `v` a written value, `g` a global carrier slot, `r` a rod. -/
inductive Instr where
  | reckonerFrame (inp : FrameInput)
  | rodDieExitFailure (ch frame : Nat)
  | dieLinkAlignmentLoss (r : Nat) (sentinelLanes : Bool)
  | dieLinkErrorFreeExpiry (r : Nat)
  | refclkLoss
  | refclkReturn
  | corePllUnlock
  | coreClockReturn
  | supclkLoss
  | supclkReturn
  | streamDonorPathLost (code : Nat)
  | olpMessage (origin : Origin) (bytes : List Byte)
  | read (m index sub : Nat)
  | write (m index sub : Nat) (data : List Byte)
  | readStaged (m index sub : Nat)
  | subscribe (m index sub : Nat) (data : List Byte) (origin : Origin)
  | notify (m : Nat)
  | subscriptionLeaseExpiry (m index sub : Nat)
  | stagingLock (m v : Nat)
  | stagingLockTimeout
  | commit (m : Nat)
  | discard (m : Nat)
  | commitChecksDone
  | commitApply
  | windowSelectorWrite (m w v : Nat)
  | windowCursorWrite (m w v : Nat)
  | windowDataWrite (m w : Nat) (words : List Word)
  | windowDataRead (m w n : Nat)
  | windowCrcConfirm (m w : Nat) (crc : BitVec 32)
  | windowClaimTimeout (w : Nat)
  | bankSeal (m : Nat) (crc : BitVec 32)
  | tallyWindowRead (m n : Nat) (parityPage : Option Nat)
  | relayResponseReturn (lane : Nat) (bytes : List Byte)
  | relayResponseTimeout
  | slotReset (m ch v : Nat)
  | channelReset (m ch v : Nat)
  | rodReset (m ch v : Nat)
  | swapRequest (m g v : Nat)
  | crossFadeEnd (g : Nat)
  | powerDetectorWindow (g : Nat)
  | checkInjection (m ch v : Nat)
  | cancellerUpdatePeriod (ch : Nat) (bad : Option Nat)
  | cancellerModelApply (ch : Nat)
  | trainingTimeout (ch p : Nat)
  | pathStale (ch p : Nat)
  | surveyStart (m ch v : Nat)
  | surveyStop (m ch : Nat)
  | surveyComplete (ch : Nat) (badDelay badGain : Option Nat)
  | surveyAbandon (ch : Nat)
  | manualFreeze (m ch p v : Nat)
  | modelReset (m ch p v : Nat)
  | modelSnapshot (m ch v : Nat)
  | governorTick (bad : List (Nat × Nat))
  | loopRelease (m v : Nat)
  | searchDwellComplete (r g : Nat) (dwell : Dwell)
  | trackingMeasurement (entry : Nat) (meas : Option CellMeas) (parity : Bool)
  | ledgerPin (m v : Nat)
  | ledgerUnpin (m v : Nat)
  | ledgerClear (m v : Nat)
  | donorLossEntry (g : Nat)
  | donorLossRelease (g : Nat)
  | identityTest
  | cellFinderFailure (r : Nat)
  | frameSyncInEdge (highNs pos : Nat)
  | ppsInEdge (highNs pos : Nat)
  | tddEpochMissing (grp : Nat)
  | holdoverLimitExpiry (grp : Nat)
  | radioTransitionEnd (ch : Nat)
  | tddTxWindowStart (ch : Nat)
  | tddTxWindowEnd (ch : Nat)
  | synthLockLoss (r n : Nat)
  | synthLock (r n : Nat)
  | txCommandReject (ch : Nat)
  | reliefHandover (r : Nat)
  | rffeTransactionComplete (bus : Nat) (power : Option Int)
  | reflectedWindowLengthEnd (ch : Nat) (power : Int)
  | mismatchMeasurement (ch : Nat) (power : Option Int)
  | mismatchProbe (ch : Nat)
  | tunerSearchStep (ch : Nat)
  | tunerStateWrite (m ch v : Nat)
  | rodCalibrationRequest (m ch : Nat)
  | tunerSearchRequest (m ch : Nat)
  | rodCalibrationComplete (r failStep : Nat) (values : List CalValues)
  | licenceBurn (m : Nat) (crc : BitVec 32) (readBackOk : Bool)
  | licenceGenerationActivate
  | licenceShadowCompare (shadowOk : Bool)
  | sentinelFuseRead (lost : List Nat)
  | sentinelOverpowerInterval (ch : Nat) (fb : Int)
  | sentinelSpectralWindow (ch : Nat) (bins : List Int)
  | gateRelease (m v : Nat)
  | sentinelSelfTest (failed : List Nat)
  | sentinelSelfCheckFailure (kind : Nat)
  | muteNAssert (lowNs : Nat)
  | muteNRelease
  | portRestartComplete (port : Nat)
  | dnFrameDiscard (port : Nat) (frame : DnFrame)
  | ecpriIqMessage (port : Nat) (frame : DnFrame)
  | ecpriDelayRequest (port : Nat) (frame : DnFrame)
  | ecpriRemoteDelayRequest (port : Nat) (frame : DnFrame)
  | ecpriDelayResponse (port : Nat) (frame : DnFrame)
  | delayRequest (m port v : Nat)
  | delayResponseTimeout (port : Nat)
  | streamLossTimeout (port str : Nat)
  | streamMuteRelease (code : Nat)
  | ecpriEgressMessage (port str : Nat)
  | exportPageSend (port : Nat)
  | superframeReceive (lane : Nat) (sf : Superframe) (drift : Int)
  | laneBlockLockLoss (lane : Nat)
  | superframeTransmit (lane : Nat)
  | throughRepeat (lane : Nat) (sf : Superframe)
  | relayMessageReceive (lane : Nat) (blocks : List (BitVec 64)) (bad : Option Nat)
  | helloSend
  | relayAddressAgeOut (addr : Nat)
  | cableDelayMeasurement (lane roundTrip turnaround : Nat)
  | queueFlush (queue num : Nat)
  | captureStart (m v : Nat)
  | captureStop (m v : Nat)
  | capturePageWrite (entry : Nat) (parity overflow : Bool)
  | markWrite (m mark v : Nat)
  | manualTrigger (m mark v : Nat)
  | exportSelect (m port v : Nat)
  | replayStart (m rep v : Nat)
  | replayStop (m rep v : Nat)
  | replayEnd (rep : Nat)
  | ddrChannelFailure (n : Nat) (trainingOrPhy : Bool)
  | collectorCycle (inp : CollectorInput)
  | faultNPulseEnd
  | faultNDrive (m v : Nat)
  | clearMask (m : Nat) (mask : BitVec 320)
  | reactionWrite (m src v : Nat)
  | restartWithheldExpiry (src : Nat)
  | recordForm
  | summaryRecord (code : Nat)
  | tokenRefill (code : Nat)
  | persistentWrite (ok : Bool)
  | operatingTimeSave
  | ringScan (parity : Bool)
  | wallTimeSet (m v : Nat)
  | lastResortClear (m v : Nat)
  | snapshotEntryWrite (m entry v : Nat)
  | thermalDemand
  | thermalReading (results : List Int)
  | throttleFreezeEnd (z : Nat)
  | leaveShutdown (m v : Nat)
  | automaticResume (z : Nat)
  | junctionComparatorTrip (z : Nat)
  | junctionComparatorReset (z : Nat)
  | requestHold (m : Nat)
  | requestServe (m : Nat)
  | requestQuiet (m : Nat)
  | monitorChallenge (level : Nat)
  | monitorUnlock (level : Nat) (response : List Byte)
  | monitorLock
  | monitorLevel
  | monitorRd (index sub n : Nat)
  | monitorWr (index sub : Nat) (data : List Byte)
  | monitorMkey (level : Nat) (key : List Byte)
  | monitorOkey (slot : Nat) (key : List Byte)
  | monitorLifecycle (target : Nat) (token : List Word)
  | monitorScanOn
  | monitorScanOff
  | monitorRecover (image : List Word)
  | monitorIdleTimeout
  | unlockLockoutEnd
  | imageSeal (m : Nat) (crc : BitVec 32) (parityBad : Bool)
  | imageProgrammingComplete
  | activate (m v : Nat)
  | confirm (m v : Nat)
  | trialLimitExpiry
  | supervisorRestart (m v : Nat)
  | lockstepMismatch
  | supervisorWatchdogMiss
  | supervisorStart
  | autonomyLimitExpiry
  | autonomyWatchdogReset
  | resetNAssert (lowNs : Nat)
  | supplyMonitorReset
  | resetNRelease (flash : BootFlash)
  | bootComplete
  | rodRestart (m r : Nat)
  | dnPortRestart (m port : Nat)
  | xlLaneRestart (m lane : Nat)
  | captureControllerRestart (m : Nat)
  | tallyRestart (m : Nat)
  | cellFinderRestart (m r : Nat)
  | rodRestartComplete (r : Nat)
  | blockRestartComplete (kind num : Nat)
  | frameSyncOutPulse
  | eventNPulseEnd
  | supervisorMemoryParity
  | dnPortDown (port : Nat)
  | dnPortUp (port : Nat)
  | frameSyncOutPulseEnd
  | class1SequenceIssue (ch event : Nat)
  deriving DecidableEq, Repr

end Sys2Proof
end

