-- ==== Sys2Proof/Config.lean ====
section
/-! DEFINITION. Config.lean: what the spec leaves to the part, as constants without a body. No proof
can see their values, so a claim about the model holds whatever they are. -/

namespace Sys2Proof.Config

/-- A value the spec leaves open, drawn fresh: the n-th draw since reset (log 4). -/
opaque freeValue : Nat → Nat

/-- A free choice between acting and not acting, drawn fresh: the n-th draw since reset (log 4);
used where the spec allows either (R281 for pulses of 50–200 ns, R429 for pulses of 200 ns–1 µs). -/
opaque freeBool : Nat → Bool

/-- Taps of the fixed half-band filters at the odd offsets 3, 5, … from their centre, Q1.17: filter 0–4 HB-A to
HB-E, 5 receive stage 3, 6 and 7 transmit stage 6. The spec gives their number and their response, no
values (log 6). -/
opaque halfBandTap : Nat → Nat → Int

/-- The 18-bit sine table by the upper 18 bits of the phase (R77): the spec bounds its spurious
content and gives no values; Machine/Arith.lean holds it to that bound (log 6). -/
opaque sineTable : Nat → Int

/-- The 18-bit cosine table, likewise. -/
opaque cosineTable : Nat → Int

/-- Does an ECDSA signature verify: 0 image signature under the root key, 1 licence integrator key,
2 lifecycle token; over a list of words (R267, R402, R405: log 11). -/
opaque signatureOk : Nat → List Word → Bool

/-- The SHA-384 or other digest the security block forms where the spec names it without a
definition of its own (log 11). -/
opaque digest : Nat → List Byte → List Byte

/-- What a word of capture or other external memory never written reads as is not fixed here: see
log 3. A nonce of the security block's random generator, n-th draw, 16 bytes (R415, log 4). -/
opaque nonce : Nat → List Byte

/-- Words that a queue of Table 12.8 holds, by the queue's code: the spec gives no capacity (R316, log 34). -/
opaque queueWords : Nat → Nat

/-- What a device puts into its n-th timing message, and its answer to one it receives, if any: the spec gives the payload
of a timing message no layout (R310, log 34). -/
opaque timingPayload : Nat → List Byte
opaque timingAnswer : List Byte → Option (List Byte)

end Sys2Proof.Config
end

