-- ==== Sys2Proof/Machine/State.lean ====
section
/-! DEFINITION. State.lean: everything the spec gives the SK9600, as plain data, chapter by chapter.
A field's docstring reads: what it is | width | file and rule | reset value. Tables keyed by a number
(channel, slot, rod, entry …) are lists of (key, value) pairs in one canonical form (Machine/Map.lean):
keys strictly rising, an unlisted key standing at the reset value. Object values that a manager
writes are in `ObjStore`; the registers that the device itself changes are fields of their own. -/

namespace Sys2Proof.Machine

/-- A table keyed by a number, in canonical form (Machine/Map.lean). -/
abbrev SMap (α : Type) := List (Nat × α)

/-- The ways a command can stop without a next state. No command of the table has no effect in the
spec, so none is raised: the type has one constructor kept for a queue that holds an ill-formed term. -/
inductive Fault where
  /-- Never raised by any meaning: no row of the table is a stop in the spec (safe). -/
  | stuck
  deriving DecidableEq, Repr

/-- A command without a meaning. -/
inductive Refusal where
  /-- Stands only in arms of `exec` that have no meaning yet (safe: no claim about such a command holds). -/
  | notModelled (mnemonic : String)
  deriving DecidableEq, Repr

/-- Power states of Table 17.5. -/
inductive Power where
  | off | boot | hold | serve | quiet | safe | shutdown
  deriving DecidableEq, Repr

/-- Radio states of Table 10.1. -/
inductive Radio where
  | sleep | standby | synth | receive | transmit | duplex
  deriving DecidableEq, Repr

/-- The scope of a mute (R30, Table 1.9). -/
inductive Scope where
  | slot (g : Nat) | chan (ch : Nat) | rod (r : Nat) | device
  deriving DecidableEq, Repr

/-- Who owns a mute: mutes of different owners are independent (R30). -/
inductive Owner where
  /-- reaction of a fault source (R345) -/
  | fault (src : Nat)
  /-- loop mute of a route (R195) -/
  | loop (route : Nat)
  /-- mute of a transmit side fed by a lost RF donor path (Table 1.8) -/
  | donorPath (g : Nat)
  | donorLoss (g : Nat) | identity (g : Nat) | noiseRise (g : Nat) | tdd (grp : Nat)
  /-- settling mute of a transmit side (R94) -/
  | settling (g : Nat)
  /-- Sentinel channel mute and TXEN-low rod mute (R278) -/
  | sentinel (ch : Nat) | sentinelRod (r : Nat)
  | muteN
  /-- device-scope mute of QUIET, SAFE and SHUTDOWN (R392, R412) -/
  | power
  /-- rod muted while it restarts (R434), calibrates or after a failed calibration (R260) -/
  | rodRestart (r : Nat) | rodCal (r : Nat)
  /-- die-to-die link mute (R12) -/
  | dieLink (r : Nat)
  /-- rod zone in shut-down (R391) -/
  | rodShutdown (r : Nat)
  /-- licence mute of a side (R270); true the transmit side -/
  | licence (g : Nat) (tx : Bool)
  /-- mute of a transmit side fed by a stream not running (R290) -/
  | stream (g : Nat)
  /-- Muted mismatch state and feedback switch failure (Table 10.6, R256) -/
  | mismatch (ch : Nat) | fbSwitch (ch : Nat)
  /-- active bank lost its seal (Table 1.7, Table 4.4) -/
  | bankSeal (g : Nat)
  /-- REFCLK, core PLL, Sentinel self-check: mutes of Table 1.8 -/
  | refclk | corePll | sentinelSelf
  deriving DecidableEq, Repr

/-- One active mute. -/
structure Mute where
  owner : Owner
  scope : Scope
  deriving DecidableEq, Repr

/-- One operation's answer (Tables 2.5 to 2.7). -/
structure Reply where
  opcode : Nat
  status : Nat
  index : Nat
  sub : Nat
  data : List Byte := []
  deriving DecidableEq, Repr

/-- What leaves the device at its ports and pins. -/
inductive Emission where
  /-- an OLP datagram from the management port, UDP port and address on which its request arrived, to the request's
  source (R41) -/
  | olp (dest : Origin) (bytes : List Byte)
  /-- the answer to a single operation commanded outside a message (rows READ, WRITE, …) -/
  | reply (m : Nat) (r : Reply)
  /-- a monitor answer line: the status (0 = OK) and its data (R414) -/
  | monitor (status : Nat) (data : List Byte)
  /-- an Ethernet frame of a DN port, destination MAC to FCS: an IQ message, a delay message or an export frame
  (R292, R299, R300) -/
  | dnFrame (port : Nat) (bytes : List Byte)
  /-- a superframe on a lane (R301): its 64b/66b blocks, the relay messages in its relay blocks (R309) -/
  | superframe (lane : Nat) (blocks : List (BitVec 66))
  /-- an RFFE transaction on a bus (R250): USID, command, address, data -/
  | rffe (bus usid cmd addr : Nat) (data : List Nat)
  /-- a demand to every sensor (R380) -/
  | thermalDemand
  deriving DecidableEq, Repr

/-! ## Chapter 1, 3, 4, 5: rods, channels and carrier slots -/

/-- A coefficient bank (R101–R103). -/
structure Bank where
  /-- content by window word, header first | 257 words of 32 bits | 04 R102 | bank A 0x02000001, 0x40000000; bank B none -/
  words : List (Nat × Word) := []
  /-- header at the last seal | 32 | 04 R106 B+0x8:11–20 | bank A 0x02000001, bank B 0 -/
  header : Word := 0
  /-- seal | 1 | 04 R105, R106 | bank A sealed, bank B unsealed -/
  sealed : Bool := false
  deriving DecidableEq, Repr

/-- A running cross-fade (R111, R112). -/
structure XFade where
  /-- bank faded to -/
  target : Nat
  /-- L_x at its starting boundary -/
  len : Nat
  /-- cross-fade samples computed -/
  done : Nat := 0
  deriving DecidableEq, Repr

/-- A transmit side's gain figures as the last governor tick left them (R207). -/
structure SideSnap where
  /-- caps 1–6, 0.01 dB -/
  caps : List Int := []
  eff : Option Int := none
  bind : Nat := 0
  mult : Nat := 0
  deriving DecidableEq, Repr

/-- Oscillation detector of a receive side (R199, R200). -/
structure Osc where
  flag : Bool := false
  /-- the 128 bin levels of the last unskipped interval -/
  prev : List Nat := []
  /-- unskipped intervals in a row in which each bin, and each bin with its upper neighbour, has stood out and risen -/
  runs : List Nat := []
  pairRuns : List Nat := []
  deriving DecidableEq, Repr

/-- A receive side's spectrum while a tick interval runs (R199): usable samples, the 128 bin powers summed over
the segments done, and the running segment: its samples so far and its 128 complex sums; `segs` counts the segments done. -/
structure SpecAcc where
  count : Nat := 0
  segs : Nat := 0
  bins : List Nat := []
  segCount : Nat := 0
  seg : List (Int × Int) := []
  deriving DecidableEq, Repr

/-- One carrier slot: both sides' sample-path state (chs. 3 and 4). -/
structure SlotPath where
  /-- receive NCO phase accumulator | 32 | 03 R77 | 0 -/
  rxPhase : BitVec 32 := 0
  /-- transmit NCO phase accumulator | 32 | 03 R77 | 0 -/
  txPhase : BitVec 32 := 0
  /-- decimation chain delay lines | k stages of 16-bit I, Q | 03 R78, R91 | zeros -/
  rxChain : List (List Smp) := []
  /-- interpolation chain delay lines | k stages of 16-bit I, Q | 03 R78, R91 | zeros -/
  txChain : List (List Smp) := []
  /-- delay line of bank A and of bank B, newest first (both take every input) | 2 × 127 samples | 04 R101 | zeros -/
  lineA : List Smp := []
  lineB : List Smp := []
  /-- bank A | 257 words and a seal | 04 R101–R103 | sealed pass-through, 0x02000001 0x40000000 -/
  bankA : Bank := { words := [(0, 0x02000001#32), (1, 0x40000000#32)], header := 0x02000001#32, sealed := true }
  /-- bank B | 257 words and a seal | 04 R103 | unsealed, header 0 -/
  bankB : Bank := {}
  /-- bank holding the slot, or being left | 1 | 04 R103, B+0x8:01 [12] | 0, bank A -/
  holds : Nat := 0
  /-- running cross-fade | target, length, count | 04 R111 | none -/
  xf : Option XFade := none
  /-- pending swap's target | 1 | 04 R114 | none -/
  pendSwap : Option Nat := none
  /-- swap result | 8 | 04 Table 4.6 | 0x00 -/
  swapResult : Nat := 0
  /-- receive outputs still flagged settling | count | 03 R93 | 0 -/
  rxSettle : Nat := 0
  /-- transmit outputs at CSR still flagged settling | count | 03 R93 | 0 -/
  txSettle : Nat := 0
  /-- frame of the boundary of the slot's last synchronising reset, for Table 7.1 | 64 | 07 R169 | 0 -/
  resetAt : Nat := 0
  /-- that reset was of channel or rod scope | 1 | 03 R91, R93 | false -/
  resetWide : Bool := false
  /-- spectrum of the receive side in the running tick interval | accumulators | 08 R199 | none -/
  spec : SpecAcc := {}
  /-- slot carried flagged samples in the last block | 1 | 03 R93 B+0xB:04 | false -/
  carriedSettle : Bool := false
  /-- receive output of the last receive computation, released at the next frame (R20) | 72/2^k samples | 03 R20 | none -/
  rxHold : List Smp := []
  /-- stream taken by the Crossbar in the current transfer frame | 72/2^k samples | 06 R151 | none -/
  rxXbar : List Smp := []
  /-- stream delivered to the transmit side by the Crossbar | 72/2^k samples | 06 R149 | none -/
  txIn : List Smp := []
  /-- detector window in progress: Σ(I² + Q²) and samples counted | 54, 23 | 04 R117, R118 | 0, 0 -/
  detSum : Nat := 0
  detCnt : Nat := 0
  /-- power sums of completed windows not yet published, oldest first | sum and exponent a | 04 R118 | none -/
  detDone : List (Nat × Nat) := []
  /-- carrier power | INTEGER16, 0.01 dBFS | 04 B+0x9:01–08 | −32,768 -/
  power : Int := -32768
  /-- HIGH state | 1 | 04 R119 | clear -/
  high : Bool := false
  /-- LOW state | 1 | 04 R119 | clear -/
  low : Bool := false
  deriving DecidableEq, Repr

/-- One carrier slot: gain, caps and protection (chs. 8 and 9). -/
structure SlotGain where
  /-- effective gain E of the transmit side, in 0.01 dB / 10,240 | INTEGER16 at the object | 08 R203 | none, side inactive -/
  eff : Option Int := none
  /-- gain multiplier | 18 | 03 R79, 08 R182 | 0 -/
  mult : Nat := 0
  /-- row 3 steps of Table 8.1 met, for the guard of R194 | count | 08 R194 | 0 -/
  steps : Nat := 0
  /-- multiplier limited at 3.99998 | 1 | 08 R182 0x7020:19–20 [0] | false -/
  unreachable : Bool := false
  /-- E below the least cap because of the recovery slew | 1 | 08 R204 | false -/
  slewLimited : Bool := false
  /-- licence cap | INTEGER16, 0.01 dB | 08 R202 cap 2 | 32,767 none -/
  licCap : Int := 32767
  /-- network-protection cap | INTEGER16, 0.01 dB | 09 R225 cap 4 | 32,767 none -/
  nrCap : Int := 32767
  /-- tuner-mismatch cap | INTEGER16, 0.01 dB | 10 R257 cap 6 | 32,767 none -/
  tunerCap : Int := 32767
  /-- tuner cap kept while a probe lowers it | INTEGER16, 0.01 dB | 10 R257, R258 | none -/
  tunerKept : Option Int := none
  /-- binding cap reported last | 8 | 08 R204 | 0 -/
  bind : Nat := 0
  /-- P_in: mean stream power over the last tick interval | INTEGER16, 0.01 dBFS | 08 R202 | none measured -/
  pin : Option Int := none
  /-- stream power sum and unflagged samples of the running tick interval | sum, count | 08 R202 | 0, 0 -/
  inSum : Nat := 0
  inCnt : Nat := 0
  /-- oscillation detector of the receive side | flag and run | 08 R199 | clear -/
  osc : Osc := {}
  /-- a mute covered the transmit side at the last block boundary | 1 | 08 R203 | true -/
  wasMuted : Bool := true
  /-- figures at the boundary of the last tick | six caps, E, binding cap, multiplier | 08 R207 | none -/
  snap : SideSnap := {}
  /-- serving cell of the receive side | Ledger entry index | 09 R217 0x70A0:09–10 | none -/
  serving : Option Nat := none
  /-- candidates outranking the serving cell and since when | entries, times | 09 R217 | none -/
  candidate : List (Nat × Nat) := []
  /-- time since which every measurement has met the release level | time | 09 R220 | none -/
  goodSince : Option Nat := none
  /-- donor loss of the transmit side | 1 | 09 R219 0x70A0:01–08 [15] | false -/
  donorLoss : Bool := false
  /-- the transmit side is unidentified | 1 | 09 R222 [14] | false -/
  unidentified : Bool := false
  /-- noise-rise mute | 1 | 09 R225 [13] | false -/
  nrMute : Bool := false
  /-- estimated noise rise | UNSIGNED16, 0.01 dB | 09 R224 | 0 -/
  noiseRise : Nat := 0
  deriving DecidableEq, Repr

/-- The sums of one path over an observation window (R164, R172). -/
structure PathSums where
  path : Nat
  /-- the window has held no sample excluded for this path -/
  clean : Bool := true
  /-- sum of |v_p|² after the rotator, LSB² -/
  pr : Nat := 0
  /-- sum of the path estimate's |·|², LSB² in units of 2⁻⁴⁰ -/
  pest : Nat := 0
  /-- Σ y(t)·conj v_p(t − D_p − j) for j = 0–31, LSB² -/
  g : List (Int × Int) := []
  deriving DecidableEq, Repr

/-- An observation window of a channel while it fills and once it is full (R164, R172). -/
structure ObsWindow where
  /-- the window's exponent: it is full with 2^n samples -/
  n : Nat := 0
  count : Nat := 0
  /-- times of its first and last sample -/
  first : Nat := 0
  last : Nat := 0
  /-- sums of |y|², LSB², and of the total estimate's |·|², LSB² in units of 2⁻⁴⁰ -/
  pe : Nat := 0
  ptot : Nat := 0
  paths : List PathSums := []
  /-- the surveyed span, as a path of its own (R163) -/
  survey : Option PathSums := none
  deriving DecidableEq, Repr

/-- What the last frame saw of a channel: what Table 7.1 takes the changes of. -/
structure Watch where
  osc : Bool := false
  txen : Bool := false
  radio : Nat := 0
  inTrans : Bool := false
  rxSynth : Option Nat := none
  txSynth : Option Nat := none
  rxLo : Nat := 0
  txLo : Nat := 0
  /-- by carrier slot 0–7: gain multiplier, transmit NCO frequency, last reset, row 3 steps of its loop -/
  slots : List (Nat × Int × Nat × Nat) := []
  deriving DecidableEq, Repr

/-- One canceller path (ch. 7). -/
structure CPath where
  /-- taps c_p,j as 18-bit parts; an absent tap is zero | 32 × 2 × 18 | 07 R155, R156 | zeros -/
  taps : List (Int × Int) := []
  /-- scale exponent e_p | 2 | 07 R155 | 3 -/
  e : Nat := 3
  /-- state of Table 7.2 | 3 | 07 R174 | 0 -/
  st : Nat := 0
  /-- published depth | INTEGER16, 0.01 dB | 07 R173 | 0 -/
  depth : Int := 0
  /-- time of the last measurement, for the depth age | time | 07 R174 B+0x3:11–18 | 0 -/
  lastMeas : Nat := 0
  /-- time of entry to training, and measurements in a row at or above the target | time, count | 07 R175 | 0, 0 -/
  trainSince : Nat := 0
  okRun : Nat := 0
  /-- flags [14:10]: 45 dB limit, resolution bound, below floor, clipped, reverted | 5 | 07 B+0x3:01–08 | 0 -/
  lim45 : Bool := false
  resBound : Bool := false
  belowFloor : Bool := false
  clipped : Bool := false
  reverted : Bool := false
  /-- last measured mean powers P_est, P_cr and pr, LSB² in units of 2⁻³² | power | 07 R172 | 0 -/
  pest : Nat := 0
  pcr : Nat := 0
  pr : Nat := 0
  /-- a measurement of the present model has been taken | 1 | 07 R172 | false -/
  measured : Bool := false
  /-- the replaced model, if held | 32 × 2 × 18 and e | 07 R159, R168 | none -/
  oldModel : Option (List (Int × Int) × Nat) := none
  /-- new model computed and not yet applied | 32 × 2 × 18 and e | 07 R165 | none -/
  newModel : Option (List (Int × Int) × Nat) := none
  /-- the replaced model was lost to a parity failure | 1 | 07 Table 7.4 | false -/
  oldLost : Bool := false
  /-- a word of the path's reference failed parity: no update in this period | 1 | 01 Table 1.7 | false -/
  skipOnce : Bool := false
  /-- rotator phase accumulator | 32 | 07 R158 | 0 -/
  rotPhase : BitVec 32 := 0
  /-- tap line: the last 31 rotated reference samples, newest first | 31 samples | 07 R91, R156, R177 | zeros -/
  line : List Smp := []
  deriving DecidableEq, Repr

/-- The canceller of one channel (ch. 7). -/
structure Canceller where
  /-- the eight paths | 8 paths | 07 R155 | reset paths -/
  paths : SMap CPath := []
  /-- counters B+0x5:01–05 | 5 × 32, saturating | 07 R179 | 0 -/
  updates : Nat := 0
  reversions : Nat := 0
  clips : Nat := 0
  noUpdate : Nat := 0
  discarded : Nat := 0
  /-- power of the channel's total estimate in the last measurement, LSB² in units of 2⁻³², which the channel depth B+0x0:0A is reckoned from | power | 07 R173 | 0 -/
  totPower : Nat := 0
  /-- estimate and residual power | 2 × INTEGER16, 0.01 dBFS | 07 B+0x0:0B–0C | −32,768 -/
  estPower : Int := -32768
  resPower : Int := -32768
  /-- Σ P_cr of the window the last update came from, awaiting its comparison | power | 07 R168 | none -/
  lastCr : Option Nat := none
  /-- updates still run with the raised b after a reversion | 4 | 07 R164 | 0 -/
  raised : Nat := 0
  /-- the last 64 updates, newest first, true where reverted | 64 | 07 R178 | none -/
  history : List Bool := []
  /-- update periods skipped in a row under throttling | count | 16 R387 | 0 -/
  skip : Nat := 0
  /-- survey reference, state, peak delay, peak gain, progress | 16, 8, 16, 16, 8 | 07 B+0x6 | 0xFFFF, 0, 0, −32,768, 0 -/
  survRef : Nat := 0xFFFF
  survState : Nat := 0
  survDelay : Nat := 0
  survGain : Int := -32768
  survProgress : Nat := 0
  /-- periods in a row with the survey's reference below the floor | count | 07 R163 | 0 -/
  survBelow : Nat := 0
  /-- strongest correlation of the survey so far: |Σ y·conj v|², (Σ|v|²)² and its apparent delay | ratio, delay | 07 R163 | 0, 0 -/
  survBest : Nat × Nat := (0, 0)
  survAt : Nat := 0
  /-- observation window that fills, and the first full one of the period | 2 windows | 07 R164 | none -/
  win : Option ObsWindow := none
  cand : Option ObsWindow := none
  /-- the window of the present period has been worked | 1 | 07 R164 | false -/
  worked : Bool := false
  /-- time by which the new models computed have to be in force | time | 07 R165 | 0 -/
  applyBy : Nat := 0
  /-- time at which the present update period began | time | 07 R164, R175 | 0 -/
  periodAt : Nat := 0
  /-- snapshot path, frame, exponent, taps | 8, 64, 8, 32 × 64 | 07 R180 B+0x7 | 0xFF, 0, 3, 0 -/
  snapPath : Nat := 0xFF
  snapFrame : Nat := 0
  snapExp : Nat := 3
  snapTaps : List (Int × Int) := []
  deriving DecidableEq, Repr

/-- The Nines counters of one channel (Table 5.6). -/
structure Nines where
  /-- blocks checked | 64 | 05 R140 B+0xE:01 | 0 -/
  checked : Nat := 0
  /-- B+0xE:02–08 | 7 × 32, saturating | 05 R140 | 0 -/
  recomputed : Nat := 0
  poisonedAfter : Nat := 0
  noSlot : Nat := 0
  entryFail : Nat := 0
  inherited : Nat := 0
  xbarRepeat : Nat := 0
  exitFail : Nat := 0
  /-- last failure word | 32 | 05 B+0xE:09 | 0 -/
  lastFail : Nat := 0
  /-- last failure frame | 64 | 05 B+0xE:0A | 0 -/
  lastFrame : Nat := 0
  /-- check injection pending | 16 | 05 R141 B+0xE:0C | 0 -/
  inject : Nat := 0
  deriving DecidableEq, Repr

/-- A route reference and its former (R161). -/
structure RouteRef where
  /-- interpolation lines of the former -/
  chain : List (List Smp) := []
  /-- the block formed from the last transfer frame, and the one before it, released with the member blocks -/
  next : List Smp := []
  hold : List Smp := []
  /-- blocks released and not yet at the ball, newest first, each with the gain multipliers of the members whose
  block is neither muted nor poisoned -/
  air : List (List Smp × List (Nat × Nat)) := []
  /-- samples past the ball in slot 0's timing, times ḡ, newest first | 4,608 samples -/
  hist : List Smp := []
  deriving DecidableEq, Repr

/-- Calibration results of one channel (Table 10.8, R262, R274). -/
structure Calib where
  /-- receive chain gain | INTEGER16, 0.01 dB | 10 B+0x6:01 | DESIGN CHOICE 0 (log 2) -/
  rxGain : Int := 0
  /-- transmit chain gain | INTEGER16, 0.01 dB | 10 B+0x6:02 | DESIGN CHOICE 0 (log 2) -/
  txGain : Int := 0
  /-- receive noise figure | UNSIGNED16, 0.01 dB | 10 B+0x6:03 | DESIGN CHOICE 0 (log 2) -/
  noiseFigure : Nat := 0
  /-- transmit output noise | INTEGER16, 0.01 dBm/Hz | 10 B+0x6:04 | DESIGN CHOICE 0 (log 2) -/
  outNoise : Int := 0
  /-- feedback forward and reflected gain | 2 × INTEGER16, 0.01 dB | 10 B+0x6:05–06 | DESIGN CHOICE 0 (log 2) -/
  fbForward : Int := 0
  fbReflected : Int := 0
  /-- calibration temperature | INTEGER16, 0.01 °C | 10 B+0x6:07 | DESIGN CHOICE 0 (log 2) -/
  temp : Int := 0
  /-- calibration frame | 64 | 10 B+0x6:08 | 0 -/
  frame : Nat := 0
  /-- LO-leakage correction | 2 × 16 | 03 B+0x0:05 | DESIGN CHOICE 0 (log 2) -/
  loLeak : Int × Int := (0, 0)
  /-- IQ correction taps | 8 × 2 × 16 | 03 B+0x1 | DESIGN CHOICE zeros (log 2) -/
  iqTaps : List (Int × Int) := []
  /-- the Sentinel's own copy of the forward feedback gain | INTEGER16 | 11 R274 | DESIGN CHOICE 0 (log 2) -/
  sentinelFwd : Int := 0
  deriving DecidableEq, Repr

/-- Mismatch measurement, reflected window and tuner of one channel (ch. 10). -/
structure Mismatch where
  /-- mismatch state | 2 | 10 Table 10.6 | 0 Normal -/
  st : Nat := 0
  /-- P_f, P_r and RL of the last measurement | 3 × INTEGER16 | 10 B+0x5:03–05 | −32,768 -/
  pf : Int := -32768
  pr : Int := -32768
  rl : Int := -32768
  /-- mismatch mutes and measurements skipped | 2 × 32, saturating | 10 B+0x5:08–09 | 0 -/
  mutes : Nat := 0
  skipped : Nat := 0
  /-- time of the last measurement called for and of the last probe | 2 times | 10 R257, R258 | 0 -/
  lastMeas : Nat := 0
  lastProbe : Nat := 0
  /-- the measurements of the last 2,000 ms, newest first: time, return loss | list | 10 Table 10.6 | none -/
  recent : List (Nat × Int) := []
  /-- reflected window: 0 none, 1 event 6 sequence queued, 2 open, 3 length ended, 4 first forward measurement due | 3 | 10 R254, R256 | 0 -/
  win : Nat := 0
  /-- time the window opened, or the last window closed | time | 10 R254 | none -/
  winAt : Option Nat := none
  /-- P_f taken before the window and P_r taken in it | 2 × INTEGER16 | 10 R255 | 0 -/
  winPf : Int := 0
  winPr : Int := 0
  /-- the conditions of the measurement have held so far | 1 | 10 R255 | false -/
  winOk : Bool := false
  /-- a probe is under way | 1 | 10 R258 | false -/
  probing : Bool := false
  /-- tuner state in use | 8 | 10 B+0x4:05 | 0 -/
  tuner : Nat := 0
  /-- search running | 1 | 10 B+0x5:06 [7] | false -/
  search : Bool := false
  /-- a tuner state is tested, and the time its write completed | 1, time | 10 R259 | false, none -/
  testing : Bool := false
  stepAt : Option Nat := none
  /-- the state change or the end of a probe (3) that the next block boundary brings | 2 | 10 R257, R258 | none -/
  due : Option Nat := none
  /-- time of the search's last step, or of its start | time | 10 R257, R259 | 0 -/
  searchAt : Nat := 0
  /-- the tuner state in which the last return loss was measured; the state in use was measured before the search | 8, 1 | 10 R259 | none, false -/
  rlOf : Option Nat := none
  usedKnown : Bool := false
  /-- states tested and the best state with its return loss | count, state, INTEGER16 | 10 R259 | 0, none -/
  tested : Nat := 0
  best : Option (Nat × Int) := none
  deriving DecidableEq, Repr

/-- Radio control of one channel (ch. 10). -/
structure RadioCh where
  /-- radio state | 3 | 10 R235 B+0x0:02 | SLEEP -/
  st : Radio := .sleep
  /-- transition under way and the state it ends in | 1, 3 | 10 R236 B+0x0:02 [7] | none -/
  trans : Option Radio := none
  /-- time the transition under way starts, once its lead has begun | time | 10 R238, R253 | none -/
  go : Option Nat := none
  /-- start of the next transition of a TDD window: into TRANSMIT or out of it | time | 10 R248 | 0 -/
  plan : Nat := 0
  /-- the transitions under way are known in advance: commit-driven, or of a TDD window | 1 | 10 R253 | false -/
  known : Bool := false
  /-- the transition under way calls off a rise into a transmitter | 1 | 10 R251 | false -/
  callOff : Bool := false
  /-- radio transmit enable term of R13 | 1 | 10 R238 | low -/
  txEnable : Bool := false
  /-- TXEN has been high in TRANSMIT or DUPLEX, outside transitions, since | time | 10 R255 | none -/
  highAt : Option Nat := none
  /-- a transmit command held since (R247) | time | 10 R247 | none -/
  held : Option Nat := none
  /-- last transmit command | 8 | 10 B+0x0:06 | 0 -/
  lastCmd : Nat := 0
  /-- a rejected command waits for its synthesiser's next lock | 1 | 10 R247 | false -/
  rejected : Bool := false
  /-- transmit rejections | 32, saturating | 10 B+0x0:07 | 0 -/
  rejections : Nat := 0
  /-- receive and transmit synthesiser | 2 × 8 | 10 B+0x1:03–04 | none, reads 0xFF -/
  rxSynth : Option Nat := none
  txSynth : Option Nat := none
  /-- last interruption frame | 64 | 10 B+0x1:05 | 0 -/
  lastInterrupt : Nat := 0
  /-- class 1 events whose sequence was issued ahead of their transition | 8 | 10 R253 | none -/
  issued : List Nat := []
  /-- inside a TDD transmit window | 1 | 10 R248 | false -/
  inWindow : Bool := false
  /-- rod-die temperature at the last DC offset trim, 0.01 °C | 16 | 10 Table 10.9 | none taken -/
  trimTemp : Option Int := none
  /-- receive samples flagged invalid until this time (DC offset re-trim) | time | 10 R261 | 0 -/
  invalidUntil : Nat := 0
  deriving DecidableEq, Repr

/-- The Sentinel's state of one channel (ch. 11). -/
structure SentCh where
  /-- gate closed | 1 | 11 R278 0x1311 [6] | open -/
  closed : Bool := false
  /-- gate closed by a junction-temperature comparator | 1 | 16 R395 | open -/
  thermClosed : Bool := false
  /-- trip bits: overpower, spectral, TXEN low; locked | 4 | 11 0x1311 [1:3], [7] | clear -/
  overpower : Bool := false
  spectral : Bool := false
  txLow : Bool := false
  locked : Bool := false
  /-- times of the trips of the last 60 s, newest first | times | 11 R279 | none -/
  trips : List Nat := []
  /-- overpower intervals in a row over the ceiling; intervals in a row with TXEN low over −30 dBm | 2 counts | 11 R276 | 0 -/
  overRun : Nat := 0
  lowRun : Nat := 0
  /-- bins that exceeded their limit in the last window | 64 | 11 R276 | none -/
  binsOver : List Nat := []
  deriving DecidableEq, Repr

/-- One channel. -/
structure Chan where
  /-- mute term of R13: high while TXEN is permitted by the mutes | 1 | 01 R13, R31, R32 | low, nothing transmits -/
  muteTerm : Bool := false
  /-- DC notch estimate d with 16 fractional bits, I and Q | 2 × 32 | 03 R75 | 0 -/
  notchRe : Int := 0
  notchIm : Int := 0
  /-- IQ correction delay line, newest first | 7 samples | 03 R76, R91 | zeros -/
  iqLine : List Smp := []
  /-- receive outputs of stage 6 still flagged settling after a channel reset, 38 of them, the first 7 at stage 5 too | count | 03 R93, Table 3.9 | 0 -/
  csrSettle : Nat := 0
  /-- delay line of receive stage 3 on the rod die, newest first | 46 codes | 03 Table 3.1 | zeros -/
  rodLine : List Smp := []
  /-- receive words between the rod die and the frame die, newest first | 78 × 48 | 03 Table 3.6 | zeros -/
  rxLink : List Smp := []
  /-- transmit words between the frame die and the rod die, newest first | 78 × 48 | 03 Table 3.6 | zeros -/
  txLink : List Smp := []
  /-- delay lines of the two interpolators of transmit stage 6, newest first | 11 and 5 samples | 03 Table 3.2 | zeros -/
  rodUp1 : List Smp := []
  rodUp2 : List Smp := []
  /-- the DAC words of the last frame | 288 × 2 × 14 | 03 Table 3.2 stage 7 | none -/
  dac : List (Int × Int) := []
  /-- outputs of receive stages 5 and 6 of the last block, the capture store's taps | 2 × 72 samples | 13 Table 13.3 | none -/
  tap5 : List Smp := []
  tap6 : List Smp := []
  /-- receive block collected in the last frame | 72 samples | 03 R87 | none -/
  rxIn : List Smp := []
  /-- transmit-side contributions of the block computed in the last frame, held for output, by global slot | 8 × 72 samples | 03 R20, R80 | none -/
  txParts : List (Nat × List Smp) := []
  /-- the channel computed the held block | 1 | 03 R20, R80 | false -/
  txHeld : Bool := false
  /-- arithmetic errors, not detected, in the held block's slot sum and LO-leakage correction | list | 05 R127 | none -/
  txErr : List Damage := []
  /-- the held block is poisoned | 1 | 01 R25, 05 R131 | false -/
  txPoison : Bool := false
  /-- the block last output was not zeroed by a mute | 1 | 01 R32 | false -/
  outClear : Bool := false
  /-- the last 4,608 samples of the channel reference, newest first | 4,608 samples | 07 R159 | zeros -/
  ref : List Smp := []
  /-- what Table 7.1 takes changes of, and the times of the last change that bears on the channel as receiver, on
  the channel as transmitter, and on each of its carrier slots | records, times | 07 R169 | none -/
  watch : Watch := {}
  rxEdge : Option Nat := none
  txEdge : Option Nat := none
  slotEdge : List (Nat × Nat) := []
  /-- times at which an oscillation flag on a loop through the channel rose and last stood | times | 07 R169 | 0, none -/
  oscFrom : Nat := 0
  oscAt : Option Nat := none
  /-- ADC overloads, receive and transmit saturations | 3 × 32, saturating | 03 B+0xD:01–03 | 0 -/
  adcOver : Nat := 0
  rxSat : Nat := 0
  txSat : Nat := 0
  /-- last reset frame | 64 | 03 B+0xB:05 | 0 -/
  lastReset : Nat := 0
  nines : Nines := {}
  canc : Canceller := {}
  cal : Calib := {}
  radio : RadioCh := {}
  mis : Mismatch := {}
  sent : SentCh := {}
  deriving DecidableEq, Repr

/-- State of one synthesiser (R240, B+0xF:02–09). -/
structure Synth where
  /-- 0 off, 1 calibrating, 2 settling, 3 locked, 4 relief, 5 due, 6 unlocked | 4 | 10 B+0xF:02–09 [31:28] | 0 off; synthesiser 7 relief -/
  st : Nat := 0
  /-- LO | 23, kHz | 10 B+0xF:02–09 [22:0] | 0 -/
  lo : Nat := 0
  /-- rod-die temperature at the last band calibration, 0.01 °C | 16 | 10 R244 | none -/
  calTemp : Option Int := none
  /-- an LO change awaits permission to retune (R245) | 1 | 10 R245 | false -/
  due : Bool := false
  deriving DecidableEq, Repr

/-- One rod die with its Reckoner, Cell Finder and calibration. -/
structure Rod where
  /-- rod powered | 1 | 16 R391, R394, 18 R430 step 6 | not powered -/
  powered : Bool := false
  /-- rod restarting | 1 | 18 R434 0x1240:02 [5:0] | false -/
  restarting : Bool := false
  /-- die-to-die link aligned | 1 | 01 R12 | true (log 13) -/
  linkOk : Bool := true
  /-- Sentinel lanes pass their CRC | 1 | 01 R12 | true (log 13) -/
  lanesOk : Bool := true
  /-- time since which the link has run without error | time | 01 R12 | 0 -/
  linkSince : Nat := 0
  /-- restart complete, the rod mute held to the next block boundary | 1 | 18 R434 Table 18.6 | false -/
  rejoin : Bool := false
  /-- ADC and DAC reference trim, in steps from that of the last rod calibration | LSB | 10 Table 10.9, 16 R396 | 0 -/
  refTrim : Int := 0
  /-- rod PLL locked | 1 | 16 R399 0x1400:01 [5:0] | locked (log 13) -/
  pll : Bool := true
  /-- calibration result: 0 none, 1 running, 2 passed, 3 failed; failed step | 8 | 10 B+0x8:02 | 0 -/
  cal : Nat := 0
  calStep : Nat := 0
  /-- the rod must pass a calibration before SERVE, HOLD or QUIET is granted from SAFE after a REFCLK loss | 1 | 16 R399 | false -/
  calPending : Bool := false
  /-- the eight synthesisers | 8 × 32 | 10 R240 | off; synthesiser 7 the relief -/
  synths : SMap Synth := [(7, { st := 4 })]
  /-- a handover under way: the due synthesiser and the relief that tunes for it | 2 × 3 | 10 R244 | none -/
  handover : Option (Nat × Nat) := none
  /-- handovers | 32, saturating | 10 B+0xF:0A | 0 -/
  recals : Nat := 0
  /-- blocks counted by R137 in each of the last 4,096 frames, newest first: frame, count | list | 05 R138 | none -/
  ninesLog : List (Nat × Nat) := []
  /-- Cell Finder: 0 idle, 1 searching, 2 restarting, 3 failed | 8 | 09 0x7081:01–06 | 0 -/
  finder : Nat := 0
  /-- fallback active until a search cycle has completed after the return | 1 | 09 R231 | false -/
  fallback : Bool := false
  /-- side searched last | 10 | 09 R210 | none -/
  lastSearched : Option Nat := none
  /-- time the running dwell began, and whether a usable sample has come in it | time, 1 | 09 R208, R210 | 0, false -/
  dwellAt : Nat := 0
  dwellUsable : Bool := false
  /-- sides searched since the Cell Finder's return | list of slots | 09 R231 | none -/
  visited : List Nat := []
  deriving DecidableEq, Repr

/-- One RFFE transaction waiting on a bus (R251, R252). -/
structure Txn where
  cls : Nat
  ch : Nat
  /-- event 0–7 of Table 10.5, 8 a tuner-state write -/
  event : Nat
  usid : Nat
  cmd : Nat
  addr : Nat
  data : List Nat
  /-- last write of its sequence -/
  last : Bool
  /-- time it was queued -/
  at_ : Nat := 0
  /-- a closing event 7 sequence, issued ahead of every other (R254) -/
  closing : Bool := false
  deriving DecidableEq, Repr

/-- One RFFE bus (R250–R253). -/
structure Bus where
  /-- transactions waiting, oldest first | list | 10 R252 | none -/
  queue : List Txn := []
  /-- transaction in progress | 1 | 10 R252 | none -/
  busy : Option Txn := none
  /-- transactions, late transitions | 2 × 32, saturating | 10 B+0xE:02–03 | 0 -/
  count : Nat := 0
  late : Nat := 0
  deriving DecidableEq, Repr

/-! ## Chapter 2: OLP, staging, windows -/

/-- OLP session state of one manager (R50–R52). -/
structure Session where
  /-- a session has been opened since the last frame-die reset or key change | 1 | 02 R51 | closed -/
  isOpen : Bool := false
  /-- newest sequence accepted | 16 | 02 R50 | 0 -/
  newest : Nat := 0
  /-- sequences seen among the 64 below the newest, as offsets 1–64 | 64 | 02 R50 | none -/
  seen : List Nat := []
  /-- tag of the most recently accepted request, its sequence, and the response stored | 128, 16, message | 02 R52 | none -/
  lastTag : List Byte := []
  lastSeq : Nat := 0
  response : Option (List Byte) := none
  /-- notification counter | 16 | 02 R66 | 0 -/
  notifySeq : Nat := 0
  deriving DecidableEq, Repr

/-- One subscription (R64–R67). -/
structure Subscription where
  m : Nat
  index : Nat
  sub : Nat
  /-- 1 on change, 2 periodic -/
  mode : Nat
  /-- in 10 ms -/
  interval : Nat
  lease : Nat
  since : Nat
  /-- time of the last notification, none before the first -/
  lastSent : Option Nat
  /-- the value at the last look, and whether it has changed since the last notification (R65) -/
  seen : List Byte
  changed : Bool := false
  origin : Origin
  deriving DecidableEq, Repr

/-- A relayed request awaiting its response (R68, R69). -/
structure Relayed where
  device : Nat
  m : Nat
  session : Nat
  seq : Nat
  origin : Origin
  since : Nat
  deriving DecidableEq, Repr

/-- A message whose execution waits for a commit (R45, R56). -/
structure InProgress where
  m : Nat
  session : Nat
  seq : Nat
  device : Nat
  tag : List Byte
  origin : Origin
  /-- answers so far, oldest first; the last one is the waiting commit write -/
  done : List Reply
  rest : List OlpOp
  /-- frame snapshots taken for this message (R207, R350) -/
  snapTaken : Bool := false
  deriving DecidableEq, Repr

/-- OLP service (ch. 2). -/
structure Olp where
  /-- sessions by manager | 8 | 02 R50–R52 | closed -/
  sessions : SMap Session := []
  /-- counters 0x1102:01–06 | 6 × 32, saturating | 02 R70 | 0 -/
  accepted : Nat := 0
  tagFail : Nat := 0
  replay : Nat := 0
  malformed : Nat := 0
  relayed : Nat := 0
  relayDrops : Nat := 0
  /-- subscriptions, oldest first | at most 512 | 02 R64 | none -/
  subs : List Subscription := []
  /-- relayed requests awaiting a response, oldest first | at most 32 | 02 R69 | none -/
  waiting : List Relayed := []
  /-- message in execution that waits for its commit | 1 | 02 R45, R56 | none -/
  busy : Option InProgress := none
  /-- datagrams received while a message is in execution, oldest first | queue | 02 R45, 12 Table 12.8 | none -/
  rxq : List (Origin × List Byte) := []
  /-- who asked for the commit under way when it stands outside a message | manager | 02 R56 | none -/
  commitBy : Option Nat := none
  deriving DecidableEq, Repr

/-- Staging and commit (R53–R60). -/
structure Commit where
  /-- staging area by object key index × 256 + subindex | 8,192 entries | 02 R53 | empty -/
  staged : SMap Nat := []
  /-- snapshot of the commit under way | 8,192 entries | 02 R55 | empty -/
  snapshot : SMap Nat := []
  /-- holder of the staging lock | 8 | 02 R54 0x1010:08 | none, reads 0xFF -/
  lock : Option Nat := none
  /-- time of the holder's last operation | time | 02 R54 | 0 -/
  lockAt : Nat := 0
  /-- commit state | 8 | 02 0x1010:03 | 0 -/
  st : Nat := 0
  /-- the checks have passed: the snapshot is held in the blocks' staging registers (R60) | 1 | 02 R60 | false -/
  held : Bool := false
  /-- refusal reason and refused object | 16, 32 | 02 0x1010:04–05 | 0 -/
  reason : Nat := 0
  object : Nat := 0
  /-- commit frame, commit count | 64, 32 | 02 0x1010:06–07 | 0 -/
  frame : Nat := 0
  count : Nat := 0
  deriving DecidableEq, Repr

/-- One window (R61–R63). -/
structure Window where
  /-- selector | 32 | 02 W:01 | 0 -/
  sel : Nat := 0
  /-- cursor | 64 | 02 W:02 | 0 -/
  cursor : Nat := 0
  /-- word offset inside the record (0x6300) | 5 | 15 R376 | 0 -/
  offset : Nat := 0
  /-- holder | 8 | 02 W:07 | none, reads 0xFF -/
  claim : Option Nat := none
  /-- time of the holder's last operation | time | 02 R61 | 0 -/
  claimAt : Nat := 0
  /-- running CRC register before the final XOR | 32 | 02 R63 | 0xFFFFFFFF -/
  crc : BitVec 32 := 0xFFFFFFFF#32
  /-- words moved since the cursor was written | count | 02 R62 | 0 -/
  moved : Nat := 0
  /-- the transfer began with a write of 0 to the cursor; words written in it | 1, count | 04 R106, 17 R407 | false, 0 -/
  fromZero : Bool := false
  written : Nat := 0
  /-- window status | 8 | 02 W:05 | 0 -/
  st : Nat := 0
  deriving DecidableEq, Repr

/-! ## Chapter 8: loops -/

/-- One loop, numbered by its route (R183). -/
structure Loop where
  /-- governor cap in 0.01 dB / 10,240; none released | INTEGER16 at the object | 08 R193 | none -/
  gov : Option Int := none
  /-- 1 holding, 2 slewing down, 3 stepped, 4 recovering, 5 muted, 6 locked out | 8 | 08 0x7010:03 | 1 -/
  st : Nat := 1
  /-- margin, effective target and credited depth at the last tick | 16 each | 08 R193, Table 8.4 | −32,768, 1,500, 0 -/
  margin : Int := -32768
  target : Int := 1500
  dcr : Int := 0
  /-- tick since which m ≥ M_t + 2.00 dB, for the comfort time 0x7010:0D | 16, ms | 08 R193, R195 | none, reads 0 -/
  comfort : Option Nat := none
  /-- tick at which the running loop mute was set | tick | 08 R195 | none -/
  mutedAt : Option Nat := none
  /-- ticks of the loop mutes of the last 60 s, newest first | ticks | 08 R196 | none -/
  mutes : List Nat := []
  /-- locked out | 1 | 08 R196 | false -/
  locked : Bool := false
  /-- slew applied at each block boundary: −1 row 4, 1 row 5, 0 none; its limit (row 5) in 0.01 dB / 10,240 | sign, limit | 08 R194 | 0, 0 -/
  slew : Int := 0
  slewTo : Int := 0
  deriving DecidableEq, Repr

/-- What 0x7010 shows of a loop: the figures of the last tick (R207). -/
structure LoopSnap where
  /-- kind, state, margin, target, L_c, its source, D_cr, its limit, G_loop, G_gov, comfort time, recent mutes | 12 objects | 08 R207 0x7010:02–0B, 0D, 0E | Table 8.6 -/
  kind : Nat := 0
  st : Nat := 0
  margin : Int := -32768
  target : Int := 1500
  lc : Int := -32768
  lcSrc : Nat := 0
  dcr : Int := 0
  limit : Nat := 0
  gloop : Int := -32768
  cap : Int := 32767
  comfort : Nat := 0
  mutes : Nat := 0
  deriving DecidableEq, Repr

/-- The gain governor (ch. 8). -/
structure Governor where
  /-- what the last tick shows of the loops it found, by route | 4,096 | 08 R207 | none -/
  shown : SMap LoopSnap := []
  /-- loops by route | 4,096 | 08 R183 | none -/
  loops : SMap Loop := []
  /-- loops that exist, ascending | list of routes | 08 R183 | none -/
  inUse : List Nat := []
  /-- number of the next tick | count | 08 R192 | 0 -/
  tick : Nat := 0
  /-- loops below target at the last tick | 16 | 08 0x7000:03 | 0 -/
  below : Nat := 0
  /-- oscillation and margin mutes | 2 × 32, saturating | 08 0x7000:06–07 | 0 -/
  oscMutes : Nat := 0
  marginMutes : Nat := 0
  /-- one-tick mean powers of each ingress stream over the last 10 s, newest first, those alone that no later one undercuts: the lowest is the oldest | tick, dBFS lists by endpoint code | 09 R224 | none -/
  streamFloor : SMap (List (Nat × Int)) := []
  /-- power sum and samples of each ingress stream in the running tick interval, by endpoint code | sum, count | 09 R224 | 0, 0 -/
  streamSum : SMap (Nat × Nat) := []
  deriving DecidableEq, Repr

/-- What the reads of 0x7010 or 0x7011 of one message come from (R207): the configuration, loops and sides at
the message's first read of that index. -/
structure GovSnap where
  objs : SMap Nat := []
  gov : Governor := {}
  gains : SMap SlotGain := []
  deriving DecidableEq, Repr

/-! ## Chapter 9: Ledger and TDD -/

/-- One Ledger entry (Table 9.2). -/
structure LedgerEntry where
  valid : Bool := false
  pinned : Bool := false
  rat : Nat := 0
  tdd : Bool := false
  ch : Nat := 0
  pci : Nat := 0
  freq : Nat := 0
  rsrp : Int := 0
  sinr : Int := 0
  timing : Nat := 0
  first : Nat := 0
  last : Nat := 0
  detections : Nat := 0
  ssb : Nat := 0
  /-- latest unfiltered RSRP and its time | INTEGER16, time | 09 R213 | none -/
  raw : Int := 0
  rawAt : Nat := 0
  /-- time of the last synchronisation occasion tracked and the time between the last two | 2 times | 09 R210, R219 | 0 -/
  occAt : Nat := 0
  occGap : Nat := 0
  /-- times of the last three occasions, newest first | list | 09 R219 | none -/
  occs : List Nat := []
  /-- unfiltered measurements of the span of R219, newest first: time, RSRP | list | 09 R219 | none -/
  recent : List (Nat × Int) := []
  deriving DecidableEq, Repr

/-- One TDD timing group (R226–R230). -/
structure TddGroup where
  /-- timing state | 8 | 09 Table 9.4 0x7088:0F | 0 -/
  st : Nat := 0
  /-- applied epoch within the 10 ms grid, core clocks | 24 | 09 R230 | none -/
  applied : Option Nat := none
  /-- last measured epoch and consecutive epochs that agree | 24, count | 09 R229 | none, 0 -/
  lastEpoch : Option Nat := none
  agree : Nat := 0
  /-- time of the last epoch | time | 09 R229 | 0 -/
  epochAt : Nat := 0
  /-- measurement the applied epoch moves towards, and the time of its last move | 24, time | 09 R230 | none, 0 -/
  target : Option Nat := none
  slewAt : Nat := 0
  /-- last PPS_IN edge: time, position in the grid, epochs taken from it | list | 09 R226 | none -/
  pps : Option (Nat × Nat × Nat) := none
  /-- timing difference, core clocks; read in samples at CSR | 24 | 09 0x7088:10, 19 R449 | 0 -/
  diff : Int := 0
  /-- consecutive measurements beyond the step limit | count | 09 R230 | 0 -/
  steps : Nat := 0
  /-- time holdover began | time | 09 R229 | 0 -/
  heldAt : Nat := 0
  deriving DecidableEq, Repr

/-- Network protection (ch. 9). -/
structure Protect where
  /-- Cell Ledger | 65,536 × 256 bits | 09 R212 | empty -/
  ledger : SMap LedgerEntry := []
  /-- replacements, parity discards | 2 × 32, saturating | 09 0x7082:06–07 | 0 -/
  replaced : Nat := 0
  parityDiscards : Nat := 0
  /-- donor-loss mutes, identity mutes | 2 × 32, saturating | 09 0x7080:07–08 | 0 -/
  lossMutes : Nat := 0
  idMutes : Nat := 0
  /-- the eight TDD groups | 8 | 09 R226 | state 0 -/
  groups : SMap TddGroup := []
  deriving DecidableEq, Repr

/-! ## Chapter 11: licence and Sentinel -/

/-- One licence generation in the fuses (R266). -/
structure LicGen where
  /-- the number is consumed: burned, or its burn was interrupted -/
  consumed : Bool := false
  integrator : Nat := 0
  /-- seal burned -/
  sealed : Bool := false
  /-- records of the image with a word that is not zero, 44 words each (Table 11.1) -/
  records : SMap (List Word) := []
  deriving DecidableEq, Repr

/-- Licence shadow and burn (R268–R272). -/
structure Licence where
  /-- licence shadow: records of the active generation | 64 × 44 words | 11 R272 | none -/
  shadow : SMap (List Word) := []
  /-- generation the shadow holds | 3 | 11 0x1300:01 | 0 -/
  active : Nat := 0
  /-- burn state, refusal reason, refused field | 8, 8, 16 | 11 0x1301:02–04 | 0 -/
  burn : Nat := 0
  reason : Nat := 0
  field : Nat := 0
  /-- a read-back generation awaits its block boundary | 3 | 11 R270 | none -/
  due : Option Nat := none
  /-- licence image under load through 0x6500, by word | 2,836 words | 11 R267 | empty -/
  image : List (Nat × Word) := []
  /-- latest generation that changed each record | 64 × 8 | 11 0x1340:21 | 0 -/
  setBy : SMap Nat := []
  deriving DecidableEq, Repr

/-- The Output Sentinel (ch. 11). -/
structure Sentinel where
  /-- the Sentinel's own copy of the active generation's records | 64 × 44 words | 11 R273 | none -/
  copy : SMap (List Word) := []
  copyGen : Nat := 0
  /-- records lost to a parity failure of the copy, judged unlicensed until the re-read completes | list | 11 R273 | none -/
  lost : List Nat := []
  /-- trips | 32, saturating | 11 0x1310:03 | 0 -/
  trips : Nat := 0
  /-- self-tests passed | 64 | 11 0x1310:04 | 0 -/
  selfTests : Nat := 0
  /-- self-check failure standing | 1 | 11 R280 | false -/
  failed : Bool := false
  deriving DecidableEq, Repr

/-! ## Chapter 12: links -/

/-- One ingress stream (R289, R290, R297). -/
structure InStream where
  /-- 0 disabled, 1 acquiring, 2 running, 3 lost | 8 | 12 D+3 | 0 -/
  st : Nat := 0
  /-- next SEQ_ID expected | 8 | 12 R296 | 0 -/
  expected : Nat := 0
  /-- boundary (frame count) at which the next message is scheduled, and the release boundary | 64 | 12 R297 | 0 -/
  sched : Nat := 0
  release : Nat := 0
  /-- samples waiting for playout, oldest first | samples | 12 R297 | none -/
  queue : List Smp := []
  /-- time of the last accepted message; time since which it has run without a break | 2 times | 12 R290, R297 | 0 -/
  lastAt : Nat := 0
  runSince : Nat := 0
  /-- time since which it has been acquiring or lost without a break (R455) | time | 01 R455 | 0 -/
  badSince : Nat := 0
  /-- declared lost as a donor path (R455) | 1 | 01 R455 | false -/
  pathLost : Bool := false
  /-- the stream has resynchronised: its samples are poisoned until the new release boundary | 1 | 12 R297 | false -/
  resynced : Bool := false
  /-- samples taken by the Crossbar in the current transfer frame | samples | 12 R289 | none -/
  xbar : List Smp := []
  deriving DecidableEq, Repr

/-- One egress stream (R298, R301). -/
structure OutStream where
  /-- SEQ_ID of the next message completed | 8 | 12 R296 | 0 -/
  seq : Nat := 0
  /-- samples of the message or superframe being filled, oldest first | samples | 12 R293, R301 | none -/
  queue : List Smp := []
  /-- complete items that wait, oldest first: SEQ_ID (0 on a chain lane) and samples | list | 12 R298, R316 | none -/
  items : List (Nat × List Smp) := []
  /-- donor stream: the frame in which its first message begins, which fixes its message phase | 64 | 12 R298 | 0 -/
  startAt : Nat := 0
  /-- the item being filled was begun before a flush took effect | 1 | 12 R317 | false -/
  drop : Bool := false
  deriving DecidableEq, Repr

/-- One DN port (Table 12.10). -/
structure DnPort where
  /-- the lane has a link | 1 | 12 R290, R319 | down -/
  link : Bool := false
  /-- port restart under way | 1 | 12 R286, 18 0x1240:02 | false -/
  restarting : Bool := false
  ins : SMap InStream := []
  outs : SMap OutStream := []
  /-- counters D+4:01–07 | 7 × 32, saturating | 12 R320 | 0 -/
  accepted : Nat := 0
  discarded : Nat := 0
  fcs : Nat := 0
  late : Nat := 0
  missing : Nat := 0
  resync : Nat := 0
  poisoned : Nat := 0
  /-- measurement ID, one-way delay, delay state | 8, INTEGER32, 8 | 12 D+5:02–04 | 0 -/
  measId : Nat := 0
  delay : Int := 0
  delaySt : Nat := 0
  /-- ID, wall-time ns and time of the Request that awaits its Response | 8, ns, time | 12 R299 | 0 -/
  reqId : Nat := 0
  reqStamp : Nat := 0
  reqAt : Nat := 0
  /-- time until which queue parity counts as failed | time | 12 R319 | 0 -/
  parityUntil : Nat := 0
  deriving DecidableEq, Repr

/-- One XL lane (Table 12.11). -/
structure XlLane where
  /-- the lane has block lock | 1 | 12 R303 | no -/
  locked : Bool := false
  /-- lane up | 1 | 12 R303 X+0:06 | no -/
  up : Bool := false
  restarting : Bool := false
  /-- good consecutive trailers; failed superframes in a row | 2 counts | 12 R303 | 0 -/
  good : Nat := 0
  bad : Nat := 0
  /-- last ingress superframe sequence | 4 | 12 R303 | 0 -/
  rxSeq : Nat := 0
  /-- next egress superframe sequence | 4 | 12 R303 | 0 -/
  txSeq : Nat := 0
  /-- superframes of the device's frame count begun before the next one to send | 64 | 12 R301 | 0 -/
  txDone : Nat := 0
  /-- neighbour address, neighbour lane, through hops | 16, 8, 8 | 12 X+0:07–09 | 0xFFFF, 0xFF, 0 -/
  neighbour : Nat := 0xFFFF
  neighLane : Nat := 0xFF
  hops : Nat := 0
  /-- phase wait φ, drift, cable delay τ | 3 × 32, 0.01 ns | 12 X+2 | 0 -/
  phase : Nat := 0
  drift : Int := 0
  /-- drift at which φ was last measured | INTEGER32, 0.01 ns | 12 R304 | 0 -/
  driftBase : Int := 0
  cable : Nat := 0
  /-- the last 16 timing exchanges, newest first | list | 12 R310 | none -/
  exchanges : List Nat := []
  /-- counters X+3:01–06 | 6 × 32, saturating | 12 R320 | 0 -/
  crcFail : Nat := 0
  poisoned : Nat := 0
  switches : Nat := 0
  sent : Nat := 0
  dropped : Nat := 0
  resync : Nat := 0
  /-- time of the last protection switch (R319) | time | 12 R319 | none -/
  lastSwitch : Option Nat := none
  /-- the ring partner is ignored (R307) | 1 | 12 R307 | false -/
  ignored : Bool := false
  /-- release boundary of the last superframe, frame count | 64 | 12 R304 | 0 -/
  release : Nat := 0
  /-- number of the last superframe, equal for the two copies of a ring pair, and of the last one placed | 2 × 64 | 12 R307 | 0 -/
  rxIdx : Nat := 0
  done : Nat := 0
  /-- ring primary: quarters of the last 64 superframes as they were placed, samples by 3q + j, newest first | list | 12 R307 | none -/
  ring : List (Nat × SMap (List Smp)) := []
  /-- superframes discarded for want of room in the egress queue | count | 12 R316 | 0 -/
  discards : Nat := 0
  streams : SMap InStream := []
  outs : SMap OutStream := []
  parityUntil : Nat := 0
  /-- relay messages that wait, the one being sent first; its blocks sent already | list, count | 12 R309, R316 | none, 0 -/
  relayQ : List RelayMsg := []
  relayAt : Nat := 0
  deriving DecidableEq, Repr

/-- Links (ch. 12). -/
structure Links where
  dn : SMap DnPort := []
  xl : SMap XlLane := []
  /-- learned relay addresses: lane and time last seen | 256 entries | 12 R309 | none -/
  learned : SMap (Nat × Nat) := []
  /-- source address and message ID of the last 64 messages accepted, newest first | 64 × 32 | 12 R309 | none -/
  recent : List (Nat × Nat) := []
  /-- next relay message ID | 16 | 12 R309 | 0 -/
  nextId : Nat := 0
  /-- equalisation delay lines by route, oldest first | 12 MiB | 12 R312 | zeros -/
  eqLine : SMap (List Smp) := []
  /-- words of the equalisation line still to refill and flagged settling, by route | count | 12 R312 | 0 -/
  eqFlag : SMap Nat := []
  /-- PPS_IN edge that the nanoseconds of type 5 timestamps were last aligned to: its time and its wall time in ns | time, 64 | 12 R299 | none -/
  ppsRef : Option (Nat × Int) := none
  /-- queues with a flush requested and not yet effective: queue code × 256 + number | list | 12 R317 | none -/
  flushing : List Nat := []
  /-- the link transmit PLLs and every port and lane restart together (Table 14.5, source 282) | 1 | 18 R435 | false -/
  pllRestart : Bool := false
  deriving DecidableEq, Repr

/-! ## Chapter 13: capture -/

/-- A capture source in a run (R327, R329). -/
structure CapSrc where
  /-- the source writes pages: in the run, its side active, not suspended | 1 | 13 R327–R329 | false -/
  on : Bool := false
  /-- run start frame | 64 | 13 R323 | 0 -/
  startFrame : Nat := 0
  /-- samples at the source rate since the run start frame | 64 | 13 R323 | 0 -/
  count : Nat := 0
  /-- words of the page under construction, newest first | 1,008 words | 13 R323 | none -/
  buf : List Word := []
  /-- groups of the page that are poisoned; settling-flagged or invalid | 2 × 14 | 13 R323 | 0 -/
  pois : List Nat := []
  sett : List Nat := []
  /-- the next page is the source's first in the run | 1 | 13 R323 | true -/
  first : Bool := true
  /-- rate exponent of the page under construction | 3 | 13 R323 | 0 -/
  k : Nat := 0
  /-- suspended under R328 | 1 | 13 R328 | false -/
  suspended : Bool := false
  /-- marks whose trigger instant lies in the page under construction | 16 | 13 R331 | none -/
  marks : List Nat := []
  deriving DecidableEq, Repr

/-- One mark (R330–R332). -/
structure Mark where
  /-- 0 unused, 1 armed, 2 filling, 3 complete, 4 lapsed, 5 holding | 8 | 13 0x1820:04 | 0 -/
  st : Nat := 0
  guard : Nat := 0
  region : Nat := 0
  trigger : Nat := 0
  firings : Nat := 0
  /-- source entries that have closed the page holding F + post | list | 13 R330 | none -/
  closed : List Nat := []
  /-- the write pointer stands at its guard page, to be reached when that page comes to be written | 1 | 13 R332 | false -/
  atPtr : Bool := false
  deriving DecidableEq, Repr

/-- One replay slot (R336, R337). -/
structure Replay where
  /-- 0 idle, 1 running, 2 ended, 3 stopped | 8 | 13 0x1830:05 | 0 -/
  st : Nat := 0
  poisoned : Nat := 0
  mode : Nat := 0
  /-- samples still to play, oldest first, and the whole recording for a loop | samples | 13 R337 | none -/
  rest : List Smp := []
  all : List Smp := []
  target : Nat := 0xFFFF
  mark : Nat := 0
  deriving DecidableEq, Repr

/-- One export port (R335). -/
structure Export where
  /-- 0 idle, 1 live, 2 region, 3 region sent | 8 | 13 0x1840:02 | 0 -/
  st : Nat := 0
  next : Nat := 0
  last : Nat := 0
  sent : Nat := 0
  skipped : Nat := 0
  /-- mark of a region export | 4 | 13 R335 | 0 -/
  mark : Nat := 0
  deriving DecidableEq, Repr

/-- Capture store (ch. 13). -/
structure Capture where
  /-- DDR channels fitted | 4 | 13 0x1800:03 | DESIGN CHOICE 0xF, all four (log 13) -/
  fitted : Nat := 0xF
  /-- DDR channels that the ring is formed on | 4 | 13 R322, R339 | DESIGN CHOICE 0xF, all four (log 13) -/
  channels : Nat := 0xF
  /-- ranks | 2 | 13 0x1800:04 | DESIGN CHOICE 2 (log 13) -/
  ranks : Nat := 2
  /-- 0 stopped, 1 running, 2 held, 3 unavailable | 8 | 13 0x1800:02 | 0 -/
  st : Nat := 0
  wptr : Nat := 0
  run : Nat := 0
  written : Nat := 0
  dropped : Nat := 0
  crcFails : Nat := 0
  /-- ring pages, 1,024 words each, by page; a page not written reads as zeros | up to 33,554,432 × 4 KiB | 13 R322 | DESIGN CHOICE zeros (log 3) -/
  ring : SMap (List Word) := []
  /-- pages written since the ring was formed | 64 | 13 R323 | 0 -/
  pageSeq : Nat := 0
  srcs : SMap CapSrc := []
  /-- completed pages not yet written with their source entries, in the order they completed | 8 MiB staging | 13 R322 | none -/
  ready : List (Nat × List Word) := []
  marks : SMap Mark := []
  replays : SMap Replay := []
  exports : SMap Export := []
  restarting : Bool := false
  /-- DDR channels that failed training or their PHY check | 4 | 13 R339 | none -/
  ddrFailed : List Nat := []
  /-- admitted limit and costs of the enabled sources at the last look of R328 | 1/32 unit | 13 R328 | 0, none -/
  fitLimit : Nat := 0
  fitCosts : List Nat := []
  deriving DecidableEq, Repr

/-! ## Chapter 14: faults -/

/-- Fault collector (ch. 14). -/
structure Faults where
  /-- sticky bits | 320 | 14 R348 | 0 -/
  sticky : BitVec 320 := 0
  /-- level lines carried from outside, by source | 320 × 1 | 14 R348 | inactive -/
  lines : SMap Bool := []
  /-- time until which an event line is active, by source | 320 × time | 14 R341 kind E | 0 -/
  evt : SMap Nat := []
  /-- episode open | 1 | 14 0x1600:02 | closed -/
  isOpen : Bool := false
  number : Nat := 0
  lead : Nat := 0xFFFF
  leadSev : Nat := 0
  openFrame : Nat := 0
  merged : Nat := 0
  highest : Nat := 0
  closeFrame : Nat := 0
  /-- FAULT_N episode pulse running, and when it began | 1, time | 14 R355 | no -/
  pulse : Bool := false
  pulseAt : Nat := 0
  /-- refused mask | 320 | 14 0x1602:02 | 0 -/
  refused : BitVec 320 := 0
  /-- snapshot of 0x1601 for the message in execution: sticky, raw, frame | 320, 320, 64 | 14 R350 | none -/
  snap : Option (BitVec 320 × BitVec 320 × Nat) := none
  /-- times of reaction-6 restarts by block code, newest first | times | 14 R346 | none -/
  restarts : SMap (List Nat) := []
  /-- sources whose restart is withheld, with the time at which that ends | 320 | 14 R346 | none -/
  withheld : SMap Nat := []
  /-- memory parity counters by region 1–13 | 13 × 32, saturating | 14 R361 0x1603 | 0 -/
  parity : SMap Nat := []
  /-- raw lines as they stood when the core clock was lost | 320 | 14 R357 | 0 -/
  held : BitVec 320 := 0
  /-- Sentinel-domain latches of REFCLK loss and core PLL loss | 2 | 14 R357 | clear -/
  latch276 : Bool := false
  latch277 : Bool := false
  /-- consecutive disagreements of the checker | 2 | 14 R358 | 0 -/
  disagree : Nat := 0
  /-- channels, or replay targets, named by events of a source, by source | list | 14 Table 14.5, 05 R139 | none -/
  named : SMap (List Nat) := []
  deriving DecidableEq, Repr

/-! ## Chapter 15: Tally -/

/-- A Tally record (Table 15.1). -/
structure Record where
  seq : Nat := 0
  pcc : Nat := 0
  op : Nat := 0
  wall : Nat := 0
  frame : Nat := 0
  code : Nat := 0
  source : Nat := 0
  suppressed : Nat := 0
  args : List Nat := []
  snap : List Nat := []
  persistent : Bool := false
  lastResort : Bool := false
  wallUnset : Bool := false
  summary : Bool := false
  incomplete : Bool := false
  withheld : Bool := false
  deriving DecidableEq, Repr

/-- An occurrence not yet formed into a record (R363). -/
structure Occ where
  code : Nat
  source : Nat
  args : List Nat
  frame : Nat
  /-- fixed snapshot of code 0x0100 -/
  snap : List Nat := []
  /-- the record is persistent although its code is not always (code 0x0102 of an S4 source) -/
  force : Bool := false
  deriving DecidableEq, Repr

/-- Token bucket and settings of one code (R367, R370). -/
structure CodeState where
  /-- tokens in the bucket, none while it is full | 8 | 15 0x1711:15 | none, the bucket is full -/
  tokens : Option Nat := none
  /-- pending suppressed | 16, saturating | 15 0x1711:14 | 0 -/
  pending : Nat := 0
  /-- the last refused occurrence and its time | record fields | 15 R370 | none -/
  last : Option Occ := none
  lastAt : Nat := 0
  /-- time of the last refill | time | 15 R370 | 0 -/
  refillAt : Nat := 0
  /-- burst and refill period set, 0 default | 8, 16 | 15 0x1711:11–12 | 0 -/
  burst : Nat := 0
  refill : Nat := 0
  /-- snapshot list set by a manager | 16 × 32 | 15 0x1711:01–10 | none, the default of Table 15.3 -/
  list : Option (List Nat) := none
  deriving DecidableEq, Repr

/-- Tally (ch. 15). -/
structure Tally where
  /-- next sequence | 48 | 15 R364, 0x1700:05 | 0 -/
  next : Nat := 0
  /-- RAM ring by slot 0–32,767 | 4 MiB | 15 R371 | empty -/
  ring : SMap Record := []
  /-- slot the next record takes | 15 | 15 R371 | 0 -/
  slot : Nat := 0
  /-- excluded pages, ascending | 1,024 × 1 | 15 R374 | none -/
  excluded : List Nat := []
  /-- page the scan reads next | 10 | 15 R371 | 0 -/
  scan : Nat := 0
  /-- occurrences awaiting formation, oldest first | queue | 15 R363 | none -/
  queue : List Occ := []
  codes : SMap CodeState := []
  /-- last-resort slots, oldest first | 16 × 128 bytes | 15 R375 | none -/
  lastResort : List Record := []
  /-- persistent records awaiting their write, oldest first | queue | 15 R373 | none -/
  toWrite : List Record := []
  /-- times of the log writes accepted in the last second, newest first | times | 15 R373 | none -/
  writes : List Nat := []
  /-- counters 0x1701:01–06 | 6 × 32, saturating | 15 R378 | 0 -/
  suppressed : Nat := 0
  summaries : Nat := 0
  written : Nat := 0
  withheld : Nat := 0
  failures : Nat := 0
  overtaken : Nat := 0
  /-- operating time restored at the reset, ms, and the time at which it began to count | 40 | 15 R364 | DESIGN CHOICE 0 (log 2) -/
  opBase : Nat := 0
  opAt : Nat := 0
  /-- power-cycle count | 24 | 15 R364 | DESIGN CHOICE 0 (log 2) -/
  pcc : Nat := 0
  /-- wall time set, ns since the epoch, and when it was set | 64 | 15 R365 | 0 -/
  wallNs : Int := 0
  wallAt : Nat := 0
  wallSet : Bool := false
  /-- Tally restarting | 1 | 18 Table 18.7 | no -/
  restarting : Bool := false
  /-- frame at which the SUPCLK loss was declared | 64 | 15 R453 | none -/
  gap : Option Nat := none
  /-- opening and closing records of the latest episode opened while SUPCLK was absent | 2 occurrences | 15 R453 | none -/
  gapEpisode : List Occ := []
  /-- EVENT_N pulse running | 1 | 19 R450 | no -/
  event : Bool := false
  eventAt : Nat := 0
  deriving DecidableEq, Repr

/-! ## Chapter 16: heat -/

/-- One sensor (R381). -/
structure Sensor where
  /-- latest result | INTEGER16, 0.01 °C | 16 0x1510:01–28 | −32,768 -/
  value : Int := -32768
  flagged : Bool := false
  rangeBad : Bool := false
  medianBad : Bool := false
  /-- readings in a row that passed both tests while flagged | count | 16 R381 | 0 -/
  okRun : Nat := 0
  deriving DecidableEq, Repr

/-- One zone (R382–R395). -/
structure Zone where
  /-- zone temperature | INTEGER16, 0.01 °C | 16 0x1501:01 | −32,768 -/
  temp : Int := -32768
  warn : Bool := false
  throttle : Bool := false
  shut : Bool := false
  /-- consecutive readings toward entry and toward exit of the three states | 6 counts | 16 R384 | 0 -/
  inRun : List Nat := [0, 0, 0]
  outRun : List Nat := [0, 0, 0]
  /-- reduction R_z | UNSIGNED16, 0.01 dB | 16 0x1501:09 | 0 -/
  red : Nat := 0
  /-- valid sensors in the latest reading | 8 | 16 0x1501:0A | DESIGN CHOICE 0 (log 2) -/
  valid : Nat := 0
  hottest : Nat := 0xFF
  noValid : Bool := false
  /-- freeze of a throttling zone: since when, and the hottest sensors flagged while it throttled and flagged still | time, sensors | 16 R389 | none -/
  frozen : Option Nat := none
  lost : List Nat := []
  /-- reduction and stage that a freeze holds, where a reading without a valid sensor set others | UNSIGNED16, 8 | 16 R389, R390 | none -/
  kept : Option (Nat × Nat) := none
  shutdowns : Nat := 0
  /-- time at which the zone left its shut-down state under R384, for automatic resume | time | 16 R393 | none -/
  leftAt : Option Nat := none
  /-- comparator tripped and not yet reset; trip latched since the zone last left shut-down | 2 | 16 R395 | false -/
  tripped : Bool := false
  latched : Bool := false
  /-- frame of a trip latched while SUPCLK was absent and not yet recorded | 64 | 16 R395, 15 R453 | none -/
  unrecorded : Option Nat := none
  /-- the shut-down action (power-down) is in force | 1 | 16 R391 | false -/
  down : Bool := false
  deriving DecidableEq, Repr

/-- Thermal manager (ch. 16). -/
structure Thermal where
  sensors : SMap Sensor := []
  zones : SMap Zone := []
  /-- frame-die stage 0–3 | 8 | 16 0x1500:06 | 0 -/
  stage : Nat := 0
  /-- operating times of the automatic exits of the last 24 h, newest first | list | 16 R393 | none -/
  exits : List Nat := []
  /-- a demand has been issued and its results are awaited | 1 | 16 R380 | false -/
  demanded : Bool := false
  lastDemand : Nat := 0
  /-- demand period at the last demand | UNSIGNED16, ms | 16 R383 | 20, the default of 0x1500:01 -/
  period : Nat := 20
  deriving DecidableEq, Repr

/-! ## Chapter 16: clocks; chapters 17–19: lifecycle, power, pins -/

/-- Clocks (R15, R16, R22, R398, R399). -/
structure Clocks where
  /-- frame count | 64 | 01 R22 0x1012:01 | 0 -/
  frame : Nat := 0
  /-- REFCLK present, SUPCLK present | 2 | 16 0x1400:02 | present (log 13) -/
  refclk : Bool := true
  supclk : Bool := true
  /-- PLL locks: core, supervisor, DDR5, management, link transmit | 5 | 16 0x1400:01 | locked (log 13) -/
  core : Bool := true
  sup : Bool := true
  ddr : Bool := true
  mgmt : Bool := true
  link : Bool := true
  /-- correction −c in use | INTEGER32, 0.001 ppm | 16 R398 0x1400:04 | 0 -/
  corr : Int := 0
  limited : Bool := false
  /-- REFCLK measured against the crystal before compensation | INTEGER32, 0.001 ppm | 16 R397, R400 0x1400:03 | 0 -/
  refRaw : Int := 0
  deriving DecidableEq, Repr

/-- What fuses, flash and the security block keep across a frame-die reset (R431, Table 18.3). -/
structure NonVol where
  /-- licence fuses | 4 generations | 11 R266 | unburned -/
  gens : SMap LicGen := []
  /-- lifecycle in force and burned fuse pending | 2 × 2 | 17 R401, R403 | DESIGN CHOICE FACTORY (log 12) -/
  lifecycle : Nat := 0
  burned : Nat := 0
  /-- security version | 6 | 17 R408 | DESIGN CHOICE 0 (log 2) -/
  secVersion : Nat := 0
  /-- root key hash and integrator licence key hash burned | 2 | 17 0x1201:04–05 | true, DESIGN CHOICE false (log 2) -/
  rootHash : Bool := true
  licHash : Bool := false
  /-- OLP manager keys, [] empty | 8 × 256 | 02 R49 | empty -/
  olpKeys : SMap (List Byte) := []
  /-- OBSERVE, SERVICE and FACTORY monitor keys | 3 × 256 | 17 R415 | DESIGN CHOICE zeros of 32 bytes (log 2) -/
  obsKey : List Byte := List.replicate 32 0
  svcKey : List Byte := List.replicate 32 0
  facKey : List Byte := List.replicate 32 0
  /-- highest session counter accepted by manager | 8 × 32 | 02 R51 | 0 -/
  sessions : SMap Nat := []
  /-- image slots A and B, [] invalid | 2 × 4 MiB | 17 R406, R407 | DESIGN CHOICE empty (log 2) -/
  imgA : List Word := []
  imgB : List Word := []
  /-- boot slot; trial slot with its flag | 1, 1 | 17 R406 | DESIGN CHOICE 0; none -/
  bootSlot : Nat := 0
  trial : Option Nat := none
  /-- persistent record log, oldest first | 65,536 × 128 bytes | 15 R372 | DESIGN CHOICE empty (log 2) -/
  log : List Record := []
  /-- counter area, newest entry first: power-cycle count, operating time | 4,096 × (24, 40) | 15 R372 | DESIGN CHOICE empty (log 2) -/
  counters : List (Nat × Nat) := []
  /-- boot loader | 256 KiB | 17 R405, R406 | DESIGN CHOICE empty (log 2) -/
  loader : List Word := []
  /-- VCO band results by rod: frequency in kHz and temperature, newest first | 6 × 64 | 10 R243 | none -/
  bands : SMap (List (Nat × Int)) := []
  /-- serial number, silicon stepping | 128, 16 | 02 0x1000:02–03 | DESIGN CHOICE 0 (log 2) -/
  serial : List Byte := List.replicate 16 0
  stepping : Nat := 0
  /-- coupler reference by channel | 96 × INTEGER16 | 11 R274, B+0x6:09 | DESIGN CHOICE 0 (log 2) -/
  coupler : SMap Int := []
  /-- factory-assigned MAC of each DN port | 16 × 48 | 12 D+0:03 | DESIGN CHOICE 0 (log 2) -/
  macs : SMap Nat := []
  deriving DecidableEq, Repr

/-- Power state, supervisor, monitor, images (ch. 17, ch. 18). -/
structure Life where
  /-- power state, previous state | 2 × 8 | 17 0x1200:02, 06 | BOOT, reads 1 -/
  power : Power := .boot
  prev : Power := .boot
  /-- refusal reason, SAFE cause, state entry frame | 8, 16, 64 | 17 0x1200:03–05 | 0, 0xFFFF, 0 -/
  refusal : Nat := 0
  safeCause : Nat := 0xFFFF
  entryFrame : Nat := 0
  /-- a SAFE cause held in BOOT or arising in SHUTDOWN | 16 | 17 R410, R411 | none -/
  heldSafe : Option Nat := none
  /-- state to return to from SHUTDOWN | 3 | 17 R393, R411 | none -/
  shutFrom : Option Power := none
  /-- boot sequence started | 1 | 18 R430 | false -/
  booting : Bool := false
  /-- no image qualifies: the ROM serves the monitor | 1 | 17 R408 | false -/
  noImage : Bool := false
  /-- supervisor in charge | 1 | 17 R422 | false -/
  sup : Bool := false
  /-- autonomy cause under way, since when; limit passed | 8, time, 1 | 17 R422, R424 | none, 0, false -/
  autoCause : Nat := 0
  autoSince : Nat := 0
  autonomy : Bool := false
  limitPassed : Bool := false
  /-- autonomy entries, longest autonomy, last cause | 32, 32, 8 | 17 0x1220:04–06 | 0 -/
  autoEntries : Nat := 0
  longest : Nat := 0
  lastCause : Nat := 0
  /-- supervisor start count | 32 | 02 0x1000:05 | DESIGN CHOICE 0 (log 2) -/
  starts : Nat := 0
  /-- running slot; image slot to start next | 2 × 1 | 17 0x1210:01 | DESIGN CHOICE 0 (log 2) -/
  running : Nat := 0
  startSlot : Nat := 0
  /-- load state, trial state, time the trial began | 8, 8, time | 17 0x1210:05, 09 | 0 -/
  load : Nat := 0
  trialSt : Nat := 0
  trialSince : Nat := 0
  /-- an accepted activation awaits its boundary | 1 | 17 R425 | none -/
  activateDue : Option Nat := none
  /-- the supervisor's restart is withheld: its block was restarted three times within 600 s | 1 | 14 R346, 17 R424 | false -/
  held : Bool := false
  /-- an accepted supervisor restart request awaits its boundary | 1 | 17 R422 0x1220:07 | none -/
  restartDue : Bool := false
  /-- supervisor image under load through 0x6500, by word, and the slot it is meant for | 4 MiB | 17 R407 | empty -/
  image : List (Nat × Word) := []
  loadSlot : Nat := 0
  /-- monitor level; nonce with its level and time; time of the last command | 2, 128, time | 17 R415–R417 | CLOSED -/
  level : Nat := 0
  nonce : Option (Nat × List Byte × Nat) := none
  lastCmd : Nat := 0
  /-- consecutive failed unlocks, lock-out end, unlock failures counted | count, time, 32 | 17 R416 | 0 -/
  fails : Nat := 0
  lockUntil : Nat := 0
  unlockFails : Nat := 0
  /-- boundary scan enabled | 1 | 17 R421 | false -/
  scan : Bool := false
  /-- restarts performed | 32, saturating | 18 0x1240:03 | 0 -/
  restarts : Nat := 0
  /-- cause of the frame-die reset that began the cycle | 2 | 15 R369 | 0 power-on -/
  resetCause : Nat := 0
  deriving DecidableEq, Repr

/-- Pin levels that are inputs or latched (ch. 19). Outputs that follow rules are functions of State. -/
structure Pins where
  /-- RESET_N level | 1 | 18 R429 | high (log 12) -/
  resetN : Bool := true
  /-- supplies within tolerance | 1 | 18 R428, R429 | true (log 12) -/
  supplies : Bool := true
  /-- MUTE_N level and the time it last rose | 1, time | 11 R281 0x1310:05 | DESIGN CHOICE high (log 12) -/
  muteN : Bool := true
  muteNRose : Nat := 0
  /-- FRAME_SYNC_OUT level and its rising time | 1, time | 19 R448 | low -/
  syncOut : Bool := false
  syncOutAt : Nat := 0
  deriving DecidableEq, Repr

/-- The SK9600. -/
structure State where
  /-- the model's clock, in units of 1/32 ns | time | model's own field (log 1) | 0 -/
  time : Nat := 0
  /-- values of the written objects, by index × 256 + subindex; an unlisted object holds its table's default | per object | 02 R36–R38 | table defaults -/
  objs : SMap Nat := []
  clk : Clocks := {}
  slots : SMap SlotPath := []
  gains : SMap SlotGain := []
  chans : SMap Chan := []
  rods : SMap Rod := []
  buses : SMap Bus := []
  /-- route references by route | 32 × 4,608 samples and the former's interpolation lines | 07 R159, R161 | zeros -/
  routeRefs : SMap RouteRef := []
  /-- synchronising resets of the coming boundary: channel, subindex of B+0xB, value | list | 03 R91, R96 | none -/
  resets : List (Nat × Nat × Nat) := []
  /-- exit failures that the rod dies have yet to report: channel and frame | list | 05 R134, 07 R160 | none -/
  exitReports : List (Nat × Nat) := []
  /-- combining saturations | 32, saturating | 06 0x5000:05 | 0 -/
  combSat : Nat := 0
  /-- active mutes | list without repeats | 01 R30 | none -/
  mutes : List Mute := []
  olp : Olp := {}
  commit : Commit := {}
  windows : SMap Window := []
  gov : Governor := {}
  /-- snapshots of 0x7010 and 0x7011 for the message in execution, by index | 2 snapshots | 08 R207 | none -/
  govSnap : List (Nat × GovSnap) := []
  prot : Protect := {}
  lic : Licence := {}
  sent : Sentinel := {}
  links : Links := {}
  cap : Capture := {}
  flt : Faults := {}
  tally : Tally := {}
  therm : Thermal := {}
  life : Life := {}
  pins : Pins := {}
  nv : NonVol := {}
  /-- what has left the device's ports, oldest first | list | 02 R41, 12, 15 | none -/
  out : List Emission := []
  /-- free values drawn so far: the model's own counter (log 4) | count | model's own field | DESIGN CHOICE 0 (log 4) -/
  free : Nat := 0
  /-- commands waiting, first in, first out | list | model's own field (log 8) | empty -/
  pending : List Instr := []
  deriving DecidableEq, Repr

/-- The machine right after reset: RESET_N has risen, power state BOOT (Table 17.12), every object at
its table's default, and every register for which the spec gives no value at the value of log 2. -/
def State.reset : State := {}

end Sys2Proof.Machine
end

