-- ==== Sys2Proof/Machine/Map.lean ====
section
/-! DEFINITION. Map.lean: the tables of State. A table is a list of (number, value) pairs in one
canonical form: numbers strictly rising, and no entry equal to what an unlisted number reads as.
`smGet` and `smSet` are the only ways the model reads and writes a table. -/

namespace Sys2Proof.Machine

/-- The value a table holds for `k`; an unlisted `k` reads as `d`. -/
def smGet {α : Type} (d : α) : SMap α → Nat → α
  | [], _ => d
  | e :: m, k => if e.1 = k then e.2 else smGet d m k

/-- The entry put before the first larger number. -/
def smInsert {α : Type} (k : Nat) (v : α) : SMap α → SMap α
  | [] => [(k, v)]
  | e :: m => if k < e.1 then (k, v) :: e :: m else e :: smInsert k v m

/-- The table with `v` at `k`; writing what an unlisted number reads as removes the entry. -/
def smSet {α : Type} [DecidableEq α] (d : α) (m : SMap α) (k : Nat) (v : α) : SMap α :=
  let rest := m.filter (fun e => e.1 != k)
  if v = d then rest else smInsert k v rest

/-- The table with the value at `k` changed by `f`. -/
def smMod {α : Type} [DecidableEq α] (d : α) (m : SMap α) (k : Nat) (f : α → α) : SMap α :=
  smSet d m k (f (smGet d m k))

/-- The numbers of a table rise strictly. -/
def smSorted {α : Type} : SMap α → Bool
  | [] => true
  | [_] => true
  | a :: b :: m => decide (a.1 < b.1) && smSorted (b :: m)

/-- The canonical form of a table whose unlisted number `k` reads as `d k`. -/
def smWf {α : Type} [DecidableEq α] (d : Nat → α) (m : SMap α) : Bool :=
  smSorted m && m.all (fun e => decide (e.2 ≠ d e.1))

/-- Every number of a finite range changed in turn. -/
def forEach {σ α : Type} (xs : List α) (s : σ) (f : σ → α → σ) : σ := xs.foldl f s

/-- A sum over a list. -/
def sumMap {α : Type} (xs : List α) (f : α → Nat) : Nat := xs.foldl (fun a x => a + f x) 0

/-- The same for signed terms. -/
def sumMapI {α : Type} (xs : List α) (f : α → Int) : Int := xs.foldl (fun a x => a + f x) 0

/-- Insertion into a list that rises under `le`, after its equals. -/
def insertBy {α : Type} (le : α → α → Bool) (x : α) : List α → List α
  | [] => [x]
  | y :: ys => if le y x then y :: insertBy le x ys else x :: y :: ys

/-- A list put in rising order under `le`, equals keeping their order. -/
def sortBy {α : Type} (le : α → α → Bool) (xs : List α) : List α :=
  xs.foldl (fun acc x => insertBy le x acc) []

/-- Insertion of a number into a rising list without repeats. -/
def insertNat (n : Nat) : List Nat → List Nat
  | [] => [n]
  | m :: ms => if n < m then n :: m :: ms else if n = m then m :: ms else m :: insertNat n ms

/-- A counter that saturates at 2^32 − 1. -/
def sat32 (n : Nat) : Nat := min n 0xFFFFFFFF

/-- One more on a saturating 32-bit counter. -/
def inc32 (n : Nat) : Nat := sat32 (n + 1)

end Sys2Proof.Machine
end

