-- ==== Sys2Proof/Machine/Bits.lean ====
section
/-! DEFINITION. Bits.lean: byte order, CRC-32, SHA-256 and HMAC, two's complement. -/

namespace Sys2Proof.Machine

/-- The `n` low bytes of a number, most significant first (R37). -/
def beBytes : Nat → Nat → List Byte
  | 0, _ => []
  | n + 1, v => BitVec.ofNat 8 (v >>> (8 * n)) :: beBytes n v

/-- The number that bytes spell, most significant first. -/
def ofBytes (bs : List Byte) : Nat := bs.foldl (fun a b => a * 256 + b.toNat) 0

/-- Bytes of 32-bit words in network byte order (R62). -/
def bytesOfWords (ws : List Word) : List Byte := ws.flatMap (fun w => beBytes 4 w.toNat)

/-- The 32-bit words that bytes spell, four at a time; a short rest is dropped. -/
def wordsOfBytes : List Byte → List Word
  | a :: b :: c :: d :: rest => BitVec.ofNat 32 (ofBytes [a, b, c, d]) :: wordsOfBytes rest
  | _ => []

/-- Bits [hi:lo] of a number. -/
def bits (v hi lo : Nat) : Nat := (v >>> lo) % 2 ^ (hi + 1 - lo)

/-- One bit of a number. -/
def bit (v i : Nat) : Bool := v.testBit i

/-- A Bool as a bit. -/
def b2n (b : Bool) : Nat := if b then 1 else 0

/-- The signed value of a `w`-bit two's-complement number. -/
def toSigned (w v : Nat) : Int := if v % 2 ^ w < 2 ^ (w - 1) then (v % 2 ^ w : Nat) else ((v % 2 ^ w : Nat) : Int) - 2 ^ w

/-- The `w`-bit two's-complement number of a signed value. -/
def ofSigned (w : Nat) (v : Int) : Nat := (v % (2 ^ w : Nat)).toNat

/-- A signed value kept to `w` bits by saturation. -/
def satSigned (w : Nat) (v : Int) : Int :=
  if v > 2 ^ (w - 1) - 1 then 2 ^ (w - 1) - 1 else if v < -(2 ^ (w - 1)) then -(2 ^ (w - 1)) else v

/-- One bit step of the reflected CRC-32 (R63). -/
def crcBit (c : BitVec 32) : BitVec 32 :=
  if c.getLsbD 0 then (c >>> 1) ^^^ 0xEDB88320#32 else c >>> 1

/-- One byte taken into the running CRC register. -/
def crcByte (c : BitVec 32) (b : Byte) : BitVec 32 :=
  crcBit (crcBit (crcBit (crcBit (crcBit (crcBit (crcBit (crcBit (c ^^^ b.zeroExtend 32))))))))

/-- The running register after words in order (R63). -/
def crcWords (c : BitVec 32) (ws : List Word) : BitVec 32 := (bytesOfWords ws).foldl crcByte c

/-- The CRC that a register stands for: final XOR 0xFFFFFFFF. -/
def crcOut (c : BitVec 32) : BitVec 32 := c ^^^ 0xFFFFFFFF#32

/-- CRC-32 of a run of bytes. -/
def crc32 (bs : List Byte) : BitVec 32 := crcOut (bs.foldl crcByte 0xFFFFFFFF#32)

/-- The greatest `y < 2 ^ (n + b)`-descent root: the largest `y` extending `acc` by `n` bits with
`y ^ r * q ≤ p`. -/
def rootBits (r p q : Nat) : Nat → Nat → Nat
  | 0, acc => acc
  | n + 1, acc =>
    let t := acc + 2 ^ n
    if t ^ r * q ≤ p then rootBits r p q n t else rootBits r p q n acc

/-- The largest `y < 2^n` with `y ^ r ≤ p / q`. -/
def rootFloor (r p q n : Nat) : Nat := rootBits r p q n 0

/-! ### SHA-256 (R48), from the definitions of FIPS 180-4

Its constants are roots of primes; a chaining value and the working words are lists of eight words, a first. -/

/-- The primes below 312: the 64 that the constants come from. -/
def shaPrimes : List Nat := (List.range 312).filter fun n => 2 ≤ n && (List.range 18).all fun d => d < 2 || n ≤ d || n % d ≠ 0

/-- The first 32 bits of the fraction of the `r`-th root of a prime. -/
def rootWord (r p : Nat) : Word := BitVec.ofNat 32 (rootFloor r (p * 2 ^ (32 * r)) 1 40)

/-- XOR of a word's rotations to the right. -/
def rotXor (rs : List Nat) (w : Word) : Word := rs.foldl (fun x r => x ^^^ w.rotateRight r) 0

/-- The message schedule of a block, newest word first, `n` words further. -/
def shaSchedule (n : Nat) (block : List Word) : List Word :=
  (List.range n).foldl (fun w _ =>
    let back (i : Nat) : Word := w.getD (i - 1) 0
    (back 16 + back 7 + (rotXor [7, 18] (back 15) ^^^ back 15 >>> 3) + (rotXor [17, 19] (back 2) ^^^ back 2 >>> 10)) :: w) block.reverse

/-- One round, `k` the sum of its constant and its schedule word. -/
def shaRound (x : List Word) (k : Word) : List Word :=
  match x with
  | [a, b, c, d, e, f, g, h] =>
    let t := k + h + rotXor [6, 11, 25] e + (g ^^^ (e &&& (f ^^^ g)))
    [t + rotXor [2, 13, 22] a + ((a &&& b) ||| (c &&& (a ||| b))), a, b, c, d + t, e, f, g]
  | _ => x

/-- A block of sixteen words taken into a chaining value. -/
def shaBlock (ks x block : List Word) : List Word :=
  List.zipWith (· + ·) x ((List.zipWith (· + ·) ks (shaSchedule 48 block).reverse).foldl shaRound x)

/-- A message with its padding: a one bit, zeros, and the length in bits. -/
def shaPadded (bs : List Byte) : List Byte :=
  bs ++ 0x80#8 :: List.replicate ((119 - bs.length % 64) % 64) 0 ++ beBytes 8 (8 * bs.length)

/-- SHA-256. -/
def sha256 (bs : List Byte) : List Byte :=
  let ws := wordsOfBytes (shaPadded bs)
  let ks := shaPrimes.map (rootWord 3)
  bytesOfWords ((List.range (ws.length / 16)).foldl (fun x i => shaBlock ks x ((ws.drop (16 * i)).take 16)) ((shaPrimes.take 8).map (rootWord 2)))

/-- HMAC-SHA-256 with a key of at most 64 bytes (R48). -/
def hmac (key msg : List Byte) : List Byte :=
  let k := key ++ List.replicate (64 - key.length) 0
  sha256 (k.map (· ^^^ 0x5c#8) ++ sha256 (k.map (· ^^^ 0x36#8) ++ msg))

end Sys2Proof.Machine
end

