-- ==== Sys2Proof/Machine/Decibel.lean ====
section
/-! DEFINITION. Decibel.lean: decibels and powers in exact integer arithmetic. A level is an integer in
0.01 dB; a result is rounded to the nearest 0.01 dB, ties upward (log 5). Linear power ratios are
held in units of 2⁻⁶⁴. -/

namespace Sys2Proof.Machine

/-- 10^(x/1000) in units of 2⁻⁶⁴: the power ratio of `x` in 0.01 dB. -/
def powRatio (x : Int) : Nat :=
  if 0 ≤ x then rootFloor 1000 (10 ^ x.toNat * 2 ^ 64000) 1 128
  else rootFloor 1000 (2 ^ 64000) (10 ^ (-x).toNat) 65

/-- Does `num/den ≥ 10^((2n − 1)/2000)`, the lower edge of the figures that round to `n` (0.01 dB)? -/
def atLeastDb (num den : Nat) (n : Int) : Bool :=
  let e := 2 * n - 1
  if 0 ≤ e then decide (den ^ 2000 * 10 ^ e.toNat ≤ num ^ 2000)
  else decide (den ^ 2000 ≤ num ^ 2000 * 10 ^ (-e).toNat)

/-- Binary search of the level of a ratio, `n` halvings above `lo`. -/
def dbSearch (num den : Nat) : Nat → Int → Int
  | 0, lo => lo
  | n + 1, lo =>
    let t := lo + 2 ^ n
    if atLeastDb num den t then dbSearch num den n t else dbSearch num den n lo

/-- 10·log10(num/den) in 0.01 dB, to nearest, floor −32,768 (log 5); a zero ratio reads −32,768. -/
def dbOf (num den : Nat) : Int :=
  if num = 0 ∨ den = 0 then -32768 else dbSearch num den 16 (-32768)

/-- A level kept inside INTEGER16. -/
def clip16 (x : Int) : Int := satSigned 16 x

/-- A level of a linear power held in units of 2⁻⁶⁴. -/
def dbOfPow (p : Nat) : Int := dbOf p (2 ^ 64)

/-- e^y − 1 to the fourth term, y and the result in units of 2⁻⁶⁴, for small y. -/
def expm1 (y : Nat) : Nat :=
  let u := 2 ^ 64
  let y2 := y * y / u
  let y3 := y2 * y / u
  let y4 := y3 * y / u
  y + y2 / 2 + y3 / 6 + y4 / 24

/-- 10^(E/20) for E in 0.01 dB / 10,240: the amplitude ratio in units of 2⁻⁶⁴ (log 5).
ln 10 is taken as 2302585092994045684 / 10^18. -/
def ampRatio (e : Int) : Nat :=
  let a := e / 10240
  let b := (e % 10240).toNat
  let coarse := if 0 ≤ a then rootFloor 2000 (10 ^ a.toNat * 2 ^ 128000) 1 128
    else rootFloor 2000 (2 ^ 128000) (10 ^ (-a).toNat) 65
  let y := b * 2302585092994045684 * 2 ^ 64 / (10 ^ 18 * 20480000)
  coarse + coarse * expm1 y / 2 ^ 64

/-- Division with rounding to nearest, halves away from zero. -/
def roundDiv (n : Int) (d : Nat) : Int :=
  if 0 ≤ n then (2 * n + d) / (2 * d) else -((2 * -n + d) / (2 * d))

end Sys2Proof.Machine
end

