-- ==== Sys2Proof/Machine/Dict.lean ====
section
/-! DEFINITION. Dict.lean: what an entry of the object dictionary is (Tables 2.1 and 2.2), and the
entries of chapters 0 to 6. A value is held as the unsigned number its bytes spell (R37). -/

namespace Sys2Proof.Machine

/-- Data types of Table 2.1. -/
inductive Typ where
  | u8 | u16 | u32 | u64 | i8 | i16 | i32 | i64 | r32 | bool | oct (n : Nat) | dom
  deriving DecidableEq, Repr

/-- Access codes of Table 2.2. -/
inductive Acc where
  | ro | rw | wo | rwh | rws | lk
  deriving DecidableEq, Repr

/-- Length of a value in bytes (Table 2.1); a DOMAIN has none of its own. -/
def Typ.len : Typ → Nat
  | .u8 | .i8 | .bool => 1
  | .u16 | .i16 => 2
  | .u32 | .i32 | .r32 => 4
  | .u64 | .i64 => 8
  | .oct n => n
  | .dom => 0

/-- The number a raw value stands for. -/
def Typ.toInt : Typ → Nat → Int
  | .i8, v => toSigned 8 v
  | .i16, v => toSigned 16 v
  | .i32, v => toSigned 32 v
  | .i64, v => toSigned 64 v
  | _, v => v

/-- The raw value of a number. -/
def Typ.ofInt : Typ → Int → Nat
  | .oct n, v => ofSigned (8 * n) v
  | t, v => ofSigned (8 * t.len) v

/-- One entry: its type, access code, default as a raw value, and the range its table states. -/
structure Obj where
  typ : Typ
  acc : Acc
  dflt : Nat := 0
  ok : Int → Bool := fun _ => true

/-- An entry count or other RO value. -/
def ro (t : Typ) (d : Nat := 0) : Obj := { typ := t, acc := .ro, dflt := d }

/-- An entry with a range. -/
def ranged (t : Typ) (a : Acc) (d : Int) (lo hi : Int) : Obj :=
  { typ := t, acc := a, dflt := t.ofInt d, ok := fun v => decide (lo ≤ v) && decide (v ≤ hi) }

/-- An entry without a range narrower than its type, or whose range its own rules test. -/
def plain (t : Typ) (a : Acc) (d : Int := 0) : Obj := { typ := t, acc := a, dflt := t.ofInt d }

/-- An entry whose range is a test. -/
def tested (t : Typ) (a : Acc) (d : Int) (ok : Int → Bool) : Obj := { typ := t, acc := a, dflt := t.ofInt d, ok := ok }

/-- A BOOLEAN entry (Table 2.1: any other value is refused with status 0x05). -/
def flag (a : Acc) (d : Bool) : Obj := ranged .bool a (b2n d) 0 1

/-- The entries of an index: `n` the entry count, `f` the other subindices. -/
def rec (n : Nat) (f : Nat → Option Obj) : Nat → Option Obj :=
  fun sub => if sub = 0 then some (ro .u8 n) else if sub ≤ n then f sub else none

/-- Is `sub` in a run of subindices? -/
def inRun (sub lo hi : Nat) : Bool := decide (lo ≤ sub) && decide (sub ≤ hi)

/-- Table 0.1. -/
def dict1002 : Nat → Option Obj := rec 8 fun
  | 1 => some (ro .u16 0x9600) | 2 => some (ro .u8 6) | 3 => some (ro .u8 16) | 4 => some (ro .u8 96)
  | 5 => some (ro .u8 8) | 6 => some (ro .u8 16) | 7 => some (ro .u8 16) | 8 => some (ro .u16 4096)
  | _ => none

/-- Table 2.11, identity. -/
def dict1000 : Nat → Option Obj := rec 5 fun
  | 1 => some (ro .u32 0x52414E4C) | 2 => some (ro (.oct 16)) | 3 => some (ro .u16)
  | 4 => some (ro .u32) | 5 => some (ro .u32) | _ => none

/-- Table 2.8. -/
def dict1010 : Nat → Option Obj := rec 9 fun
  | 1 => some (ranged .u8 .wo 0 1 2) | 2 => some (ro .u16) | 3 => some (ro .u8) | 4 => some (ro .u16)
  | 5 => some (ro .u32) | 6 => some (ro .u64) | 7 => some (ro .u32) | 8 => some (plain .u8 .rw 0xFF)
  | 9 => some (ranged .u16 .rw 10 1 600) | _ => none

/-- Table 1.6; the frame rate is the REAL32 nearest 3,413,333.3. -/
def dict1012 : Nat → Option Obj := rec 2 fun
  | 1 => some (ro .u64) | 2 => some (ro .r32 0x4A505555) | _ => none

/-- Table 2.11, OLP settings. -/
def dict1101 : Nat → Option Obj := rec 3 fun
  | 1 => some (ranged .u16 .rwh 19820 1 65535) | 2 => some (ranged .u8 .rwh 3 0 3) | 3 => some (ro .u8)
  | _ => none

/-- Table 2.11, OLP counters. -/
def dict1102 : Nat → Option Obj := rec 7 fun
  | 7 => some (ro .u8) | _ => some (ro .u32)

/-- Table 2.9: window `w` 0–4 for 0x6100–0x6500. -/
def dictWindow (w : Nat) : Nat → Option Obj := rec 7 fun
  | 1 => some (plain .u32 .rw) | 2 => some (plain .u64 .rw)
  | 3 => some { typ := .dom, acc := if w = 0 ∨ w = 4 then .rw else .ro }
  | 4 => some (plain .u32 .rw) | 5 => some (ro .u8) | 6 => some (ro .u64) | 7 => some (ro .u8 0xFF)
  | _ => none

/-- Is a number a power of two from 16 to 65,536 (B+0x7:11–18)? -/
def isFadeLength (v : Int) : Bool :=
  [16, 32, 64, 128, 256, 512, 1024, 2048, 4096, 8192, 16384, 32768, 65536].contains v.toNat && decide (0 ≤ v)

/-- A threshold: −15,000 to 301, or −32,768 (Table 4.7). -/
def isThreshold (v : Int) : Bool := v == -32768 || (decide (-15000 ≤ v) && decide (v ≤ 301))

/-- Signal-path entries B+0x0 to B+0xE of a channel (Tables 3.10, 4.5, 4.7, 5.6). -/
def dictSignal (off : Nat) : Option (Nat → Option Obj) :=
  match off with
  | 0x0 => some <| rec 6 fun
    | 1 => some (ranged .u16 .rws 100 10 10000) | 2 => some (flag .rws true) | 3 => some (flag .rws false)
    | 4 => some (flag .rws false) | 5 => some (ro .u32) | 6 => some (ro .u8) | _ => none
  | 0x1 => some <| rec 8 fun _ => some (ro .u32)
  | 0x2 | 0x3 => some <| rec 16 fun sub => if sub ≤ 8 then some (plain .i32 .rws) else some (plain .u16 .rws)
  | 0x4 => some <| rec 8 fun _ => some (ranged .u8 .rws 0 0 5)
  | 0x5 => some <| rec 8 fun _ => some (ranged .u32 .rws 0 0 201523)
  | 0x6 => some <| rec 8 fun _ => some (ranged .i16 .rws 0 (-2000) 9000)
  | 0x7 => some <| rec 24 fun sub =>
    if sub ≤ 8 then some (ranged .u8 .rws 0 0 1)
    else if sub ≤ 16 then some (ranged .u8 .wo 0 0 1)
    else some (tested .u32 .rws 1024 isFadeLength)
  | 0x8 => some <| rec 32 fun sub =>
    if sub ≤ 8 then some (ro .u16 0x0400) else if sub ≤ 16 then some (ro .u32)
    else if sub ≤ 24 then some (ro .u32 0x02000001) else some (ro .u32)
  | 0x9 => some <| rec 24 fun sub =>
    if sub ≤ 8 then some (ro .i16 0x8000) else if sub ≤ 16 then some (ranged .u8 .rws 14 6 22) else some (ro .u8)
  | 0xA => some <| rec 32 fun sub =>
    if sub ≤ 8 then some (tested .i16 .rws (-32768) isThreshold)
    else if sub ≤ 16 then some (ranged .u16 .rws 300 0 3000)
    else if sub ≤ 24 then some (tested .i16 .rws (-32768) isThreshold)
    else some (ranged .u16 .rws 300 0 3000)
  | 0xB => some <| rec 5 fun
    | 1 => some (plain .u8 .wo) | 2 => some (ranged .u8 .wo 0 1 1) | 3 => some (ranged .u8 .wo 0 1 1)
    | 4 => some (ro .u8) | 5 => some (ro .u64) | _ => none
  | 0xC => some <| rec 4 fun
    | 1 => some (ro .u16) | 2 => some (ro .u16) | 3 => some (ro .i16 256) | 4 => some (ro .u16) | _ => none
  | 0xD => some <| rec 4 fun | 4 => some (ro .u8) | _ => some (ro .u32)
  | 0xE => some <| rec 12 fun
    | 1 => some (ro .u64) | 0xA => some (ro .u64) | 0xB => some (ro .u8)
    | 0xC => some (tested .u16 .rwh 0 fun v =>
        decide (0x01 ≤ v / 256) && decide (v / 256 ≤ 0x0C) && decide (v % 256 ≤ 2))
    | _ => some (ro .u32)
  | _ => none

/-- Does a word of `w` bits have its bits [hi:lo] zero? -/
def zeroBits (v : Int) (hi lo : Nat) : Bool := bits v.toNat hi lo == 0

/-- Routing and carrier-plan entries (Table 6.3). -/
def dictRouting (idx : Nat) : Option (Nat → Option Obj) :=
  if idx = 0x5000 then some <| rec 6 fun
    | 5 => some (ro .u32) | 6 => some (ro .u8) | _ => some (ro .u16)
  else if inRun idx 0x5100 0x51FF then some <| rec 16 fun _ => some (plain .u32 .rws 0xFFFF)
  else if inRun idx 0x5200 0x525F then some <| rec 24 fun sub =>
    if sub ≤ 16 then some (tested .u16 .rws 0xFFFF fun v => decide (v < 4096) || v == 0xFFFF)
    else some (plain .u16 .rws 0x8000)
  else if inRun idx 0x5300 0x535F then some <| rec 16 fun sub =>
    if sub ≤ 8 then some (tested .u8 .rws 0xFF fun v => decide (v < 64) || v == 0xFF)
    else some (ranged .u8 .rws 0 0 3)
  else if inRun idx 0x5400 0x545F then some <| rec 2 fun _ => some (ranged .u8 .rws 0 0 2)
  else if inRun idx 0x5600 0x560F || inRun idx 0x5700 0x570F then some <| rec 96 fun _ =>
    some (tested .u16 .rws 0xFFFF fun v => decide (v < 4096) || v == 0xFFFF)
  else if inRun idx 0x5610 0x561F || inRun idx 0x5710 0x571F then some <| rec 96 fun _ =>
    some (tested .u32 .rws 0x8000FFFF fun v => decide (v % 65536 < 4096) || v % 65536 == 0xFFFF)
  else none

/-- The key of an object in `State.objs` and in the staging area. -/
def key (idx sub : Nat) : Nat := idx * 256 + sub

end Sys2Proof.Machine
end

