-- ==== Sys2Proof/Machine/SourceTable.lean ====
section
/-! DEFINITION. SourceTable.lean: Tables 14.1–14.4 (fault sources) and 15.3 (Tally codes). -/

namespace Sys2Proof.Machine

/-- One row of the source map: severity 1–4, permitted reactions, fixed or not, default reaction, and
whether the raw line has an event part (Table 14.9 [3]). -/
structure Src where
  sev : Nat
  permitted : List Nat
  fixed : Bool := false
  dflt : Nat
  event : Bool := false
  deriving DecidableEq, Repr

/-- The rod sources 192 + 6r + j (Table 14.1). -/
def rodSrc : Nat → Src
  | 0 => { sev := 2, permitted := [0, 1, 3, 4, 6], dflt := 1, event := true }
  | 1 => { sev := 3, permitted := [1, 4, 6], dflt := 6 }
  | 2 => { sev := 4, permitted := [2], fixed := true, dflt := 2, event := true }
  | 3 => { sev := 4, permitted := [2], fixed := true, dflt := 2 }
  | 4 => { sev := 3, permitted := [1, 6], dflt := 6 }
  | _ => { sev := 3, permitted := [4], fixed := true, dflt := 4 }

/-- Link and capture sources 228–267 (Table 14.2). -/
def linkSrc (n : Nat) : Src :=
  if n < 260 then { sev := 3, permitted := [1, 6], dflt := 1 }
  else match n with
    | 264 => { sev := 2, permitted := [1, 6], dflt := 6, event := true }
    | 265 => { sev := 1, permitted := [0, 1], dflt := 1, event := true }
    | 266 => { sev := 2, permitted := [0, 1, 2], dflt := 1, event := true }
    | 267 => { sev := 1, permitted := [0, 1], dflt := 1, event := true }
    | _ => { sev := 2, permitted := [0, 1, 6], dflt := 1, event := true }

/-- Supervisor, frame and clock sources 268–283 (Table 14.3). -/
def frameSrc : Nat → Src
  | 268 => { sev := 4, permitted := [6], fixed := true, dflt := 6, event := true }
  | 269 => { sev := 3, permitted := [6], fixed := true, dflt := 6, event := true }
  | 270 => { sev := 3, permitted := [6], fixed := true, dflt := 6, event := true }
  | 271 => { sev := 3, permitted := [5], fixed := true, dflt := 5 }
  | 272 => { sev := 1, permitted := [0, 1], dflt := 1, event := true }
  | 273 => { sev := 4, permitted := [5], fixed := true, dflt := 5 }
  | 274 => { sev := 4, permitted := [5], fixed := true, dflt := 5 }
  | 275 => { sev := 1, permitted := [0, 1], dflt := 1 }
  | 276 => { sev := 4, permitted := [5], fixed := true, dflt := 5 }
  | 277 => { sev := 4, permitted := [5], fixed := true, dflt := 5 }
  | 278 => { sev := 3, permitted := [1], fixed := true, dflt := 1 }
  | 279 => { sev := 3, permitted := [1, 5], dflt := 1 }
  | 280 => { sev := 2, permitted := [1, 6], dflt := 1 }
  | 281 => { sev := 2, permitted := [0, 1], dflt := 1 }
  | 282 => { sev := 3, permitted := [1, 6], dflt := 1 }
  | _ => { sev := 1, permitted := [0, 1], dflt := 1 }

/-- Thermal, security and recorder sources 284–299 (Table 14.4). -/
def securitySrc (n : Nat) : Src :=
  if n ≤ 290 then { sev := 3, permitted := [1], fixed := true, dflt := 1 }
  else match n with
    | 291 => { sev := 2, permitted := [0, 1], dflt := 1 }
    | 292 => { sev := 3, permitted := [1], fixed := true, dflt := 1, event := true }
    | 293 => { sev := 4, permitted := [1], fixed := true, dflt := 1, event := true }
    | 294 => { sev := 4, permitted := [1], fixed := true, dflt := 1, event := true }
    | 295 => { sev := 4, permitted := [5], fixed := true, dflt := 5 }
    | 299 => { sev := 2, permitted := [1, 6], dflt := 6, event := true }
    | _ => { sev := 2, permitted := [0, 1], dflt := 1, event := true }

/-- The row of a source; a reserved source (300–319, R342) permits code 0 only (R347). -/
def srcRow (n : Nat) : Src :=
  if n < 192 then
    if n % 2 = 0 then { sev := 3, permitted := [1, 3], dflt := 1, event := true }
    else { sev := 2, permitted := [0, 1, 3], dflt := 1, event := true }
  else if n < 228 then rodSrc ((n - 192) % 6)
  else if n < 268 then linkSrc n
  else if n < 284 then frameSrc n
  else if n < 300 then securitySrc n
  else { sev := 1, permitted := [0], dflt := 0 }

/-- Is a source reserved (R342)? -/
def reservedSrc (n : Nat) : Bool := decide (300 ≤ n)

/-- The codes of Table 15.3, ascending. -/
def tallyCodes : List Nat :=
  [0x0001, 0x0002, 0x0003, 0x0004, 0x0005, 0x0006, 0x0100, 0x0101, 0x0102, 0x0103, 0x0104, 0x0200, 0x0201,
   0x0300, 0x0301, 0x0302, 0x0303, 0x0304, 0x0400, 0x0401, 0x0402, 0x0403, 0x0404] ++
  [0x0500, 0x0501, 0x0502, 0x0503, 0x0504, 0x0505, 0x0600, 0x0601, 0x0602, 0x0603, 0x0700, 0x0701, 0x0702, 0x0703,
   0x0800, 0x0801, 0x0802, 0x0803, 0x0804, 0x0805, 0x0900, 0x0901, 0x0902, 0x0903, 0x0904] ++
  [0x0A00, 0x0A01, 0x0A02, 0x0A03, 0x0A04, 0x0A05, 0x0B00, 0x0B01, 0x0B02, 0x0B03, 0x0C00, 0x0C01, 0x0C02, 0x0C03,
   0x0C04, 0x0C05]

/-- Codes whose every record is persistent (Table 15.3); code 0x0102 is persistent for S4 sources. -/
def persistentCodes : List Nat :=
  [0x0001, 0x0003, 0x0006, 0x0100, 0x0101, 0x0502, 0x0504, 0x0600, 0x0800, 0x0802, 0x0804, 0x0B01, 0x0B02,
   0x0C01, 0x0C02, 0x0C04]

/-- Codes without a token bucket (R370). -/
def unlimitedCodes : List Nat := [0x0001, 0x0003, 0x0006, 0x0100, 0x0101, 0x0B01]

/-- A snapshot entry naming index and subindex, absolute (R367). -/
def snapEntry (idx sub : Nat) : Nat := idx * 65536 + sub * 256

/-- The default snapshot list of a code (Table 15.3). That of 0x0100, which is fixed, names the ten sticky words
(R367; log 27). -/
def defaultSnapshot (code : Nat) : List Nat :=
  if code = 0x0100 then (List.range 10).map fun n => snapEntry 0x1601 (n + 1)
  else if code = 0x0102 then [2, 3, 4, 5].map (snapEntry 0x1600)
  else if code = 0x0200 ∨ code = 0x0201 then [2, 3, 4, 5, 6, 7, 8].map (fun n => snapEntry 0x300E n + 1)
  else if inRun code 0x0400 0x0404 then [snapEntry 0x4000 0x0A + 1]
  else if inRun code 0x0500 0x0505 then [2, 3, 4, 5].map (snapEntry 0x7000)
  else if inRun code 0x0800 0x0805 then [2, 3].map (snapEntry 0x1310)
  else if inRun code 0x0A00 0x0A05 then [2, 6].map (snapEntry 0x1800)
  else []

end Sys2Proof.Machine
end

