-- ==== Sys2Proof/Machine/Dictionary.lean ====
section
/-! DEFINITION. Dictionary.lean: the entries of chapters 7 to 18, the index map (R71), and the default
value of every object. -/

namespace Sys2Proof.Machine

/-- Canceller entries B+0x0 to B+0x7 (Tables 7.5–7.7). -/
def dictCanceller (off : Nat) : Option (Nat → Option Obj) :=
  match off with
  | 0x0 => some <| rec 12 fun
    | 1 => some (flag .rws true) | 2 => some (ranged .u16 .rws 20 5 1000) | 3 => some (ranged .u8 .rws 15 12 16)
    | 4 => some (ranged .u8 .rws 3 1 8) | 5 => some (ranged .u8 .rws 10 0 100) | 6 => some (ranged .u16 .rws 300 100 1000)
    | 7 => some (ranged .u16 .rws 100 10 1000) | 8 => some (ranged .u16 .rws 3000 1000 4500) | 9 => some (ro .u8 15)
    | 0xA => some (ro .i16) | 0xB => some (ro .i16 0x8000) | 0xC => some (ro .i16 0x8000) | _ => none
  | 0x1 => some <| rec 16 fun sub => if sub ≤ 8 then some (plain .u16 .rws 0xFFFF) else some (ranged .u16 .rws 0 0 4095)
  | 0x2 => some <| rec 16 fun sub => if sub ≤ 8 then some (flag .rw false) else some (ranged .u8 .wo 0 1 1)
  | 0x3 => some <| rec 32 fun sub =>
    if sub ≤ 8 then some (ro .u16 0x0300) else if sub ≤ 16 then some (ro .i16)
    else if sub ≤ 24 then some (ro .u16) else some (ro .i16 0x8000)
  | 0x4 => some <| rec 16 fun sub => if sub ≤ 8 then some (ro .i32) else some (ro .i16 0x8000)
  | 0x5 => some <| rec 6 fun | 6 => some (ro .u8) | _ => some (ro .u32)
  | 0x6 => some <| rec 5 fun
    | 1 => some (plain .u16 .rw 0xFFFF) | 2 => some (ro .u8) | 3 => some (ro .u16) | 4 => some (ro .i16 0x8000)
    | 5 => some (ro .u8) | _ => none
  | 0x7 => some <| rec 35 fun
    | 1 => some (tested .u8 .rw 0xFF fun v => decide (v ≤ 7) || v == 0xFF) | 2 => some (ro .u64) | 3 => some (ro .u8 3)
    | _ => some (ro .u64)
  | _ => none

/-- A TDD interval word (Table 9.3 object 0x7088+g:06–0D): its fields' reserved bits are zero, kind 0–2. -/
def isInterval (v : Int) : Bool :=
  zeroBits v 61 56 && zeroBits v 31 24 && decide (bits v.toNat 63 62 < 3)

/-- PCIs of a RAT (Table 9.2). -/
def pciLimit (rat : Nat) : Nat := if rat = 0 then 503 else 1007

/-- A serving cell selection (0x70A0+ch:31–38): automatic, or a RAT and a PCI that Table 9.2 has. -/
def isSelection (v : Int) : Bool :=
  v == 0xFFFFFFFF || (decide (v < 4096) && decide (bits v.toNat 11 10 < 3) && decide (bits v.toNat 9 0 ≤ pciLimit (bits v.toNat 11 10)))

/-- Governor and protection entries (Tables 8.4–8.6, 9.5–9.8). -/
def dictGovernor (idx : Nat) : Option (Nat → Option Obj) :=
  if idx = 0x7000 then some <| rec 8 fun
    | 1 => some (ranged .u16 .rws 1500 900 3000) | 6 => some (ro .u32) | 7 => some (ro .u32) | 8 => some (ro .u8)
    | _ => some (ro .u16)
  else if idx = 0x7010 then some <| rec 14 fun
    | 1 => some (tested .u16 .rw 0xFFFF fun v => decide (v < 4096) || v == 0xFFFF)
    | 2 => some (ro .u8) | 3 => some (ro .u8) | 4 => some (ro .i16 0x8000) | 5 => some (ro .u16 1500)
    | 6 => some (ro .i16 0x8000) | 7 => some (ro .u8) | 8 => some (ro .i16) | 9 => some (ro .u8)
    | 0xA => some (ro .i16 0x8000) | 0xB => some (ro .i16 32767) | 0xC => some (ranged .u8 .wo 0 1 1)
    | 0xD => some (ro .u16) | 0xE => some (ro .u8) | _ => none
  else if idx = 0x7011 then some <| rec 10 fun
    | 1 => some (tested .u16 .rw 0xFFFF fun v => decide (v < 768) || v == 0xFFFF)
    | 8 => some (ro .i16 0x8000) | 9 => some (ro .u8) | 0xA => some (ro .u32) | _ => some (ro .i16 32767)
  else if inRun idx 0x7020 0x707F then some <| rec 32 fun sub =>
    if sub ≤ 8 then some (ro .i16 0x8000) else if sub ≤ 16 then some (ro .u8)
    else if sub ≤ 24 then some (tested .i16 .rws (-32768) fun v => v == -32768 || (decide (0 ≤ v) && decide (v ≤ 15000)))
    else some (ro .u8)
  else if idx = 0x7080 then some <| rec 9 fun
    | 1 => some (ranged .u16 .rws 300 0 1000) | 2 => some (ranged .u16 .rws 1000 100 10000)
    | 3 => some (ranged .u16 .rws 1000 1000 60000) | 7 => some (ro .u32) | 8 => some (ro .u32) | 9 => some (ro .u8)
    | _ => some (ro .u16)
  else if idx = 0x7081 then some <| rec 18 fun sub => if sub ≤ 6 then some (ro .u8) else if sub ≤ 12 then some (ro .u16) else some (ro .u8)
  else if idx = 0x7082 then some <| rec 8 fun
    | 1 => some (ro .u32) | 2 => some (ro .u16) | 3 => some (plain .u16 .wo) | 4 => some (plain .u16 .wo)
    | 5 => some (ranged .u8 .wo 0 1 1) | 6 => some (ro .u32) | 7 => some (ro .u32) | _ => some (ro .u8)
  else if inRun idx 0x7088 0x708F then some <| rec 16 fun sub =>
    if 6 ≤ sub ∧ sub ≤ 13 then some (tested .u64 .rws 0 isInterval)
    else match sub with
    | 1 => some (ranged .u8 .rws 0 0 3) | 2 => some (tested .u16 .rws 0xFFFF fun v => decide (v < 768) || v == 0xFFFF)
    | 3 => some (tested .u32 .rws 1228800 fun v => decide (122880 ≤ v) && decide (v ≤ 2457600) && 2457600 % v == 0)
    | 4 => some (ranged .i32 .rws 0 (-2457599) 2457599) | 5 => some (ranged .u32 .rws 0 0 16384)
    | 14 => some (ranged .u32 .rws 10000 0 600000) | 15 => some (ro .u8) | 16 => some (ro .i32) | _ => none
  else if inRun idx 0x70A0 0x70FF then some <| rec 57 fun sub =>
    if sub ≤ 8 then some (ro .u16) else if sub ≤ 16 then some (ro .u16 0xFFFF)
    else if sub ≤ 24 then some (ro .i16 0x8000) else if sub ≤ 32 then some (ro .u16)
    else if sub ≤ 40 then some (ranged .i16 .rws (-12000) (-14000) (-5000))
    else if sub ≤ 48 then some (tested .u16 .rws 0xFFFF fun v => decide (v < 768) || v == 0xFFFF)
    else if sub ≤ 56 then some (tested .u32 .rws 0xFFFFFFFF isSelection)
    else some (tested .u8 .rws 0xFF fun v => decide (v < 8) || v == 0xFF)
  else none

/-- An LO: 0, or 410,000–7,125,000 kHz. -/
def isLo (v : Int) : Bool := v == 0 || (decide (410000 ≤ v) && decide (v ≤ 7125000))

/-- A sequence entry of Table 10.4: reserved bits and the bits its command does not use are zero. -/
def isSequence (v : Int) : Bool :=
  zeroBits v 25 24 &&
  match bits v.toNat 27 26 with
  | 0 => zeroBits v 23 8 && zeroBits v 7 7
  | 1 => zeroBits v 23 13
  | 2 => zeroBits v 23 16
  | _ => true

/-- Radio entries B+0x0 to B+0xF (Tables 10.10 and 10.11). -/
def dictRadio (off : Nat) : Option (Nat → Option Obj) :=
  match off with
  | 0x0 => some <| rec 8 fun
    | 1 => some (ranged .u8 .rws 0 0 6) | 2 => some (ro .u8) | 3 => some (ranged .u16 .rws 500 10 10000)
    | 4 => some (flag .rws false) | 5 => some (ranged .u8 .rws 0 0 50) | 6 => some (ro .u8) | 7 => some (ro .u32)
    | 8 => some (ro .u8) | _ => none
  | 0x1 => some <| rec 5 fun
    | 1 => some (tested .u32 .rws 0 isLo) | 2 => some (tested .u32 .rws 0 isLo) | 3 => some (ro .u8 0xFF)
    | 4 => some (ro .u8 0xFF) | 5 => some (ro .u64) | _ => none
  | 0x2 => some <| rec 32 fun _ => some (tested .u32 .rws 0 isSequence)
  | 0x3 => some <| rec 64 fun _ => some (plain .u32 .rws)
  | 0x4 => some <| rec 7 fun
    | 1 => some (ranged .u8 .rws 0 0 15) | 2 => some (plain .u8 .rws) | 3 => some (ranged .u8 .rws 1 1 4)
    | 4 => some (ranged .u8 .rws 0 0 64) | 5 => some (plain .u8 .rw) | 6 => some (flag .rws true)
    | 7 => some (ranged .u16 .rws 50 0 1000) | _ => none
  | 0x5 => some <| rec 10 fun
    | 1 => some (ranged .u8 .rws 20 10 40) | 2 => some (ranged .u16 .rws 100 10 1000) | 3 => some (ro .i16 0x8000)
    | 4 => some (ro .i16 0x8000) | 5 => some (ro .i16 0x8000) | 6 => some (ro .u8) | 7 => some (ranged .u16 .rws 1000 100 60000)
    | 8 => some (ro .u32) | 9 => some (ro .u32) | 10 => some (ro .u8) | _ => none
  | 0x6 => some <| rec 9 fun
    | 3 => some (ro .u16) | 8 => some (ro .u64) | _ => some (ro .i16)
  | 0x7 => some <| rec 3 fun | 2 => some (ro .u16) | _ => some (ranged .u16 .rws 0 0 2000)
  | 0x8 => some <| rec 2 fun | 1 => some (ranged .u8 .wo 0 1 2) | _ => some (ro .u8)
  | 0xE => some <| rec 4 fun | 1 => some (ranged .u16 .rwh 26000 1000 26000) | 4 => some (ro .u8) | _ => some (ro .u32)
  | 0xF => some <| rec 10 fun | 1 => some (flag .rws true) | _ => some (ro .u32)
  | _ => none

/-- Licence and Sentinel entries (Tables 11.3–11.6). -/
def dictLicence (idx : Nat) : Option (Nat → Option Obj) :=
  let lk (t : Typ) (d : Nat) : Option Obj := some { typ := t, acc := .lk, dflt := d }
  if idx = 0x1300 then some <| rec 4 fun | 1 => lk .u8 0 | 2 => lk .u8 0 | _ => lk .u32 0
  else if idx = 0x1301 then some <| rec 4 fun
    | 1 => lk .u32 0 | 2 => some (ro .u8) | 3 => some (ro .u8) | _ => some (ro .u16)
  else if inRun idx 0x1340 0x137F then some <| rec 33 fun sub =>
    if sub ≤ 5 then lk .u32 0 else if 0x11 ≤ sub ∧ sub ≤ 0x20 then lk .u64 0 else if sub = 0x21 then lk .u8 0
    else match sub with
    | 6 => lk .i16 0x8000 | 7 => lk .i16 0x8000 | 9 => lk .i16 0 | 10 => lk .i16 0 | 14 => lk .i16 0x8000
    | 16 => lk .i16 0x8000 | _ => lk .u16 0
  else if idx = 0x1310 then some <| rec 6 fun
    | 1 => some (ranged .u8 .wo 0 0 95) | 3 => some (ro .u32) | 4 => some (ro .u64) | _ => some (ro .u8)
  else if idx = 0x1311 then some <| rec 96 fun _ => some (ro .u8)
  else if idx = 0x1312 then some <| rec 96 fun _ => some (ro .i16 (ofSigned 16 (-1000)))
  else none

/-- Donor-link entries D+0 to D+5 (Table 12.10). -/
def dictDonor (off : Nat) : Option (Nat → Option Obj) :=
  let stream : Obj := tested .u32 .rws 0 fun v => zeroBits v 30 19 && decide (bits v.toNat 18 16 ≤ 5)
  match off with
  | 0 => some <| rec 8 fun
    | 1 => some (ranged .u8 .rws 0 0 2) | 2 => some (flag .rws false) | 3 => some (plain (.oct 6) .rws)
    | 4 => some (plain (.oct 6) .rws)
    | 5 => some (tested .u16 .rws 0 fun v => !bit v.toNat 12 || (decide (1 ≤ bits v.toNat 11 0) && decide (bits v.toNat 11 0 ≤ 4094)))
    | 6 => some (ranged .u8 .rws 0 0 1) | 7 => some (ranged .u16 .rws 200 10 5000) | _ => some (ro .u8)
  | 1 => some <| rec 96 fun _ => some stream
  | 2 => some <| rec 96 fun _ => some stream
  | 3 => some <| rec 96 fun _ => some (ro .u8)
  | 4 => some <| rec 8 fun | 8 => some (ro .u8) | _ => some (ro .u32)
  | 5 => some <| rec 4 fun | 1 => some (ranged .u8 .wo 0 1 1) | 2 => some (ro .u8) | 3 => some (ro .i32) | _ => some (ro .u8)
  | _ => none

/-- Chain-link entries X+0 to X+3 (Table 12.11). -/
def dictChain (off : Nat) : Option (Nat → Option Obj) :=
  let laneNo : Obj := tested .u8 .rws 0xFF fun v => decide (v < 16) || v == 0xFF
  match off with
  | 0 => some <| rec 9 fun
    | 1 => some (ranged .u8 .rws 0 0 1) | 2 => some laneNo | 3 => some laneNo | 4 => some laneNo | 5 => some (flag .rws false)
    | 6 => some (ro .u8) | 7 => some (ro .u16 0xFFFF) | 8 => some (ro .u8) | _ => some (ro .u8 0xFF)
  | 1 => some <| rec 6 fun _ => some (tested .u8 .rws 0xFF fun v => decide (v ≤ 5) || v == 0xFF)
  | 2 => some <| rec 4 fun | 4 => some (ro .i32) | _ => some (ro .u32)
  | 3 => some <| rec 7 fun | 7 => some (ro .u8) | _ => some (ro .u32)
  | _ => none

/-- Link entries 0x1900–0x1AFF (R320, Table 12.12). -/
def dictLink (idx : Nat) : Option (Nat → Option Obj) :=
  if inRun idx 0x1900 0x197F then dictDonor ((idx - 0x1900) % 8)
  else if inRun idx 0x1980 0x19FF then some <| rec 32 fun _ => some (plain .u16 .rws)
  else if inRun idx 0x1A00 0x1A7F then dictChain ((idx - 0x1A00) % 8)
  else if idx = 0x1A80 then some <| rec 5 fun
    | 1 => some (ranged .u16 .rwh 0xFFFE 0 0xFFFE) | 2 => some (ranged .u8 .rws 32 1 255) | 3 => some (ro .u16) | _ => some (ro .u32)
  else none

/-- A source code of Table 13.3 in the low half of an entry. -/
def isSourceCode (v : Int) : Bool :=
  zeroBits v 11 10 && decide (bits v.toNat 15 12 ≤ 5) && decide (bits v.toNat 9 0 < if bits v.toNat 15 12 ≤ 3 then 96 else 768)

/-- A source table entry: reserved bits zero and a code of Table 13.3. -/
def isSourceEntry (v : Int) : Bool := zeroBits v 30 16 && isSourceCode v

/-- Capture entries (Tables 13.6–13.10). -/
def dictCapture (idx : Nat) : Option (Nat → Option Obj) :=
  if idx = 0x1800 then some <| rec 16 fun
    | 1 => some (ranged .u8 .wo 0 1 2) | 2 => some (ro .u8) | 3 => some (ro .u8) | 4 => some (ro .u8)
    | 5 => some (ro .u32) | 6 => some (ro .u32) | 7 => some (ro .u32) | 0xA => some (ro .u16 3840)
    | 0xB => some (ro .u64) | 0xC => some (ro .u32) | 0xD => some (ro .u32) | 0xF => some (ro .u32) | 0x10 => some (ro .u8)
    | _ => some (ro .u16)
  else if inRun idx 0x1810 0x181F then some <| rec 16 fun _ => some (tested .u32 .rw 0 isSourceEntry)
  else if inRun idx 0x1820 0x182F then some <| rec 9 fun
    | 1 => some (tested .u32 .rw 0 fun v => zeroBits v 28 24 && zeroBits v 19 16 && decide (bits v.toNat 31 30 < 3) && decide (bits v.toNat 23 20 ≤ 5))
    | 2 => some (ranged .u32 .rw 0 0 140000000) | 3 => some (ranged .u32 .rw 0 0 140000000)
    | 4 => some (ro .u8) | 7 => some (ro .u64) | 9 => some (ranged .u8 .wo 0 1 1) | _ => some (ro .u32)
  else if inRun idx 0x1830 0x1837 then some <| rec 7 fun
    | 1 => some (ranged .u8 .wo 0 1 2) | 2 => some (tested .u16 .rw 0xFFFF fun v => decide (v < 768) || v == 0xFFFF)
    | 3 => some (tested .u32 .rw 0xFFFFFFFF fun v => v == 0xFFFFFFFF || (zeroBits v 23 16 && decide (bits v.toNat 31 24 < 16) && isSourceCode v))
    | 4 => some (flag .rw false) | 5 => some (ro .u8) | 6 => some (ro .u32) | _ => some (ro .u8)
  else if inRun idx 0x1840 0x184F then some <| rec 4 fun
    | 1 => some (tested .u32 .rw 0xFFFFFFFF fun v => v == 0 || v == 0xFFFFFFFF || (decide (0x100 ≤ v) && decide (v < 0x110)))
    | 2 => some (ro .u8) | _ => some (ro .u32)
  else none

/-- Fault entries (Tables 14.7–14.10). -/
def dictFault (idx : Nat) : Option (Nat → Option Obj) :=
  if idx = 0x1600 then some <| rec 12 fun
    | 1 => some (ro .u16) | 3 => some (ro .u32) | 4 => some (ro .u16 0xFFFF) | 6 => some (ro .u64) | 7 => some (ro .u32)
    | 9 => some (ro .u64) | 0xA => some (ranged .u8 .rw 0 0 1) | 0xB => some (ro .u8 1) | _ => some (ro .u8)
  else if idx = 0x1601 then some <| rec 31 fun | 0x1F => some (ro .u64) | _ => some (ro .u32)
  else if idx = 0x1602 then some <| rec 2 fun | 1 => some (plain (.oct 40) .wo) | _ => some (ro (.oct 40))
  else if idx = 0x1603 then some <| rec 14 fun | 0xE => some (ro .u16) | _ => some (ro .u32)
  else if inRun idx 0x1610 0x1623 then some <| rec 16 fun sub =>
    let n := 16 * (idx - 0x1610) + sub - 1
    some (tested .u8 .rw (srcRow n).dflt fun v => (srcRow n).permitted.contains v.toNat)
  else if inRun idx 0x1630 0x1643 then some <| rec 16 fun _ => some (ro .u16)
  else none

/-- Tally entries (Tables 15.6 and 15.7). -/
def dictTally (idx : Nat) : Option (Nat → Option Obj) :=
  if idx = 0x1700 then some <| rec 12 fun
    | 1 => some (ro .u64) | 2 => some (ro .u32)
    | 3 => some (tested .u64 .rw 0 fun v => decide (bits v.toNat 31 0 ≤ 999999999))
    | 4 => some (ro .bool) | 5 => some (ro .u64) | 6 => some (ro .u64) | 7 => some (ro .u16 32768) | 8 => some (ro .u16)
    | 9 => some (ranged .u8 .rw 8 1 64) | 0xA => some (ranged .u16 .rw 100 1 60000) | 0xB => some (ro .u8)
    | _ => some (ranged .u8 .wo 0 1 1)
  else if idx = 0x1701 then some <| rec 7 fun | 7 => some (ro .u8) | _ => some (ro .u32)
  else if idx = 0x1710 then some fun sub =>
    if sub = 0 then some (tested .u16 .rw 1 fun v => tallyCodes.contains v.toNat) else none
  else if idx = 0x1711 then some <| rec 21 fun sub =>
    if sub ≤ 16 then some (plain .u32 .rw)
    else match sub with
    | 17 => some (ranged .u8 .rw 0 0 64) | 18 => some (ranged .u16 .rw 0 0 60000) | 19 => some (ro .bool) | 20 => some (ro .u16)
    | _ => some (ro .u8)
  else none

/-- Thermal and clock entries (Tables 16.4–16.8). -/
def dictThermal (idx : Nat) : Option (Nat → Option Obj) :=
  if idx = 0x1500 then some <| rec 9 fun
    | 1 => some (ranged .u16 .rw 20 1 1000) | 2 => some (ranged .u16 .rws 50 10 200) | 3 => some (flag .rws false)
    | 4 => some (ranged .u16 .rws 60 10 3600) | 5 => some (ro .bool) | 7 => some (ranged .u8 .wo 0 0 127) | _ => some (ro .u8)
  else if idx = 0x1510 then some <| rec 80 fun sub => if sub ≤ 40 then some (ro .i16 0x8000) else some (ro .u8)
  else if inRun idx 0x1501 0x1507 then some <| rec 13 fun
    | 1 => some (ro .i16 0x8000) | 2 => some (ro .u8) | 3 => some (ranged .i16 .rws 10000 6000 11000)
    | 4 => some (ranged .u16 .rws 200 50 1000) | 5 => some (ranged .i16 .rws 10500 7000 11000)
    | 6 => some (ranged .u16 .rws 300 50 1000) | 7 => some (ranged .i16 .rws 11800 10000 11800)
    | 8 => some (ranged .u16 .rws 1500 500 3000) | 9 => some (ro .u16) | 0xA => some (ro .u8) | 0xB => some (ro .u8 0xFF)
    | 0xC => some (ro .u32) | _ => some (ro .u8)
  else if idx = 0x1400 then some <| rec 5 fun
    | 1 => some (ro .u16) | 2 => some (ro .bool) | 5 => some (ro .bool) | _ => some (ro .i32)
  else if idx = 0x1401 then some <| rec 5 fun | 5 => some (plain .r32 .rwh 0x41C80000) | _ => some (plain .r32 .rwh)
  else none

/-- Lifecycle, monitor, power-state and restart entries (Tables 17.11–17.15, 18.8). -/
def dictLife (idx : Nat) : Option (Nat → Option Obj) :=
  if idx = 0x1200 then some <| rec 6 fun
    | 1 => some (ranged .u8 .rw 1 1 3) | 2 => some (ro .u8 1) | 3 => some (ro .u8) | 4 => some (ro .u16 0xFFFF)
    | 5 => some (ro .u64) | _ => some (ro .u8 1)
  else if idx = 0x1201 then some <| rec 5 fun
    | 2 => some (ro .u8 0xFF) | 4 => some (ro .bool 1) | 5 => some (ro .bool) | _ => some (ro .u8)
  else if idx = 0x1210 then some <| rec 9 fun
    | 3 => some (ro .u32) | 4 => some (ro .u32) | 6 => some (ranged .u8 .wo 0 0 1) | 7 => some (ranged .u8 .wo 0 1 1)
    | 8 => some (ranged .u16 .rw 600 60 3600) | _ => some (ro .u8)
  else if idx = 0x1220 then some <| rec 8 fun
    | 1 => some (ranged .u16 .rw 30 5 300) | 3 => some (flag .rwh true) | 4 => some (ro .u32) | 5 => some (ro .u32)
    | 7 => some (ranged .u8 .wo 0 1 1) | _ => some (ro .u8)
  else if idx = 0x1230 then some <| rec 7 fun
    | 2 => some (ranged .u8 .rw 15 1 60) | 3 => some (ranged .u32 .rwh 115200 115200 3000000) | 4 => some (ro .u32)
    | 5 => some (ro .u16) | _ => some (ro .u8)
  else if idx = 0x1240 then some <| rec 4 fun
    | 1 => some (plain .u16 .wo) | 2 => some (ro .u64) | 3 => some (ro .u32) | _ => some (ro .u8)
  else none

/-- The subindices of an index (R36, R71); none where the index is not defined. -/
def dictIndex (idx : Nat) : Option (Nat → Option Obj) :=
  if idx = 0x1000 then some dict1000
  else if idx = 0x1002 then some dict1002
  else if idx = 0x1010 then some dict1010
  else if idx = 0x1012 then some dict1012
  else if idx = 0x1101 then some dict1101
  else if idx = 0x1102 then some dict1102
  else if inRun idx 0x1200 0x12FF then dictLife idx
  else if inRun idx 0x1300 0x13FF then dictLicence idx
  else if inRun idx 0x1400 0x15FF then dictThermal idx
  else if inRun idx 0x1600 0x16FF then dictFault idx
  else if inRun idx 0x1700 0x17FF then dictTally idx
  else if inRun idx 0x1800 0x18FF then dictCapture idx
  else if inRun idx 0x1900 0x1AFF then dictLink idx
  else if inRun idx 0x2000 0x25FF then dictRadio (idx % 16)
  else if inRun idx 0x3000 0x35FF then dictSignal (idx % 16)
  else if inRun idx 0x4000 0x45FF then dictCanceller (idx % 16)
  else if inRun idx 0x5000 0x5FFF then dictRouting idx
  else if idx = 0x6100 ∨ idx = 0x6200 ∨ idx = 0x6300 ∨ idx = 0x6400 ∨ idx = 0x6500 then some (dictWindow ((idx - 0x6100) / 256))
  else if inRun idx 0x7000 0x70FF then dictGovernor idx
  else none

/-- The entry at index:subindex. -/
def dictObj (idx sub : Nat) : Option Obj := (dictIndex idx).bind (fun f => f sub)

/-- The default of an object as a raw value; 0 where there is none. -/
def dfltOf (k : Nat) : Nat := match dictObj (k / 256) (k % 256) with | some o => o.dflt | none => 0

/-- The value an object's active configuration holds, raw. -/
def cfgRaw (cfg : SMap Nat) (idx sub : Nat) : Nat := smGet (dfltOf (key idx sub)) cfg (key idx sub)

/-- The same as the number it stands for. -/
def cfgVal (cfg : SMap Nat) (idx sub : Nat) : Int :=
  match dictObj idx sub with
  | some o => o.typ.toInt (cfgRaw cfg idx sub)
  | none => 0

/-- The same as an unsigned number. -/
def cfgNat (cfg : SMap Nat) (idx sub : Nat) : Nat := cfgRaw cfg idx sub

/-- A BOOLEAN object. -/
def cfgBool (cfg : SMap Nat) (idx sub : Nat) : Bool := cfgRaw cfg idx sub != 0

/-- The configuration with one object's raw value written. -/
def cfgSet (cfg : SMap Nat) (k v : Nat) : SMap Nat := smSet (dfltOf k) cfg k v

/-- Every entry of `news` written over `cfg`. -/
def cfgMerge (cfg news : SMap Nat) : SMap Nat := news.foldl (fun c e => cfgSet c e.1 e.2) cfg

end Sys2Proof.Machine
end

