-- ==== Sys2Proof/Machine/Ops.lean ====
section
/-! DEFINITION. Ops.lean: the named operations on State that every chapter uses: access to one
channel, slot, rod or bus; the committed configuration; mutes and TXEN; RFFE queues; fault events and
Tally occurrences; free values. -/

namespace Sys2Proof.Machine

/-! ### Time -/

/-- One millisecond in units of 1/32 ns. -/
def msUnits : Nat := 32000000

/-- One microsecond. -/
def usUnits : Nat := 32000

/-- One Reckoner frame, 292.97 ns (R17). -/
def frameUnits : Nat := 9375

/-- Has `ms` milliseconds passed since `t`? -/
def elapsedMs (s : State) (t ms : Nat) : Bool := decide (t + ms * msUnits ≤ s.time)

/-- An idle step: time passes by one frame time and nothing else changes (log 1). -/
def idle (s : State) : State := { s with time := frameUnits + s.time }

/-! ### Access -/

def getChan (s : State) (ch : Nat) : Chan := smGet {} s.chans ch
def modChan (s : State) (ch : Nat) (f : Chan → Chan) : State := { s with chans := smMod {} s.chans ch f }
def getSlot (s : State) (g : Nat) : SlotPath := smGet {} s.slots g
def modSlot (s : State) (g : Nat) (f : SlotPath → SlotPath) : State := { s with slots := smMod {} s.slots g f }
def getGain (s : State) (g : Nat) : SlotGain := smGet {} s.gains g
def modGain (s : State) (g : Nat) (f : SlotGain → SlotGain) : State := { s with gains := smMod {} s.gains g f }
def getRod (s : State) (r : Nat) : Rod := smGet {} s.rods r
def modRod (s : State) (r : Nat) (f : Rod → Rod) : State := { s with rods := smMod {} s.rods r f }
def getBus (s : State) (b : Nat) : Bus := smGet {} s.buses b
def modBus (s : State) (b : Nat) (f : Bus → Bus) : State := { s with buses := smMod {} s.buses b f }
def getPath (s : State) (ch p : Nat) : CPath := smGet {} (getChan s ch).canc.paths p
def modCanc (s : State) (ch : Nat) (f : Canceller → Canceller) : State := modChan s ch fun c => { c with canc := f c.canc }
def modPath (s : State) (ch p : Nat) (f : CPath → CPath) : State :=
  modCanc s ch fun c => { c with paths := smMod {} c.paths p f }
def modNines (s : State) (ch : Nat) (f : Nines → Nines) : State := modChan s ch fun c => { c with nines := f c.nines }
def modRadio (s : State) (ch : Nat) (f : RadioCh → RadioCh) : State := modChan s ch fun c => { c with radio := f c.radio }
def modMis (s : State) (ch : Nat) (f : Mismatch → Mismatch) : State := modChan s ch fun c => { c with mis := f c.mis }
def modSent (s : State) (ch : Nat) (f : SentCh → SentCh) : State := modChan s ch fun c => { c with sent := f c.sent }
def getZone (s : State) (z : Nat) : Zone := smGet {} s.therm.zones z
def modZone (s : State) (z : Nat) (f : Zone → Zone) : State := { s with therm := { s.therm with zones := smMod {} s.therm.zones z f } }
def getDn (s : State) (l : Nat) : DnPort := smGet {} s.links.dn l
def modDn (s : State) (l : Nat) (f : DnPort → DnPort) : State := { s with links := { s.links with dn := smMod {} s.links.dn l f } }
def getXl (s : State) (l : Nat) : XlLane := smGet {} s.links.xl l
def modXl (s : State) (l : Nat) (f : XlLane → XlLane) : State := { s with links := { s.links with xl := smMod {} s.links.xl l f } }
def getLoop (s : State) (r : Nat) : Loop := smGet {} s.gov.loops r
def modLoop (s : State) (r : Nat) (f : Loop → Loop) : State := { s with gov := { s.gov with loops := smMod {} s.gov.loops r f } }
def getWindow (s : State) (w : Nat) : Window := smGet {} s.windows w
def modWindow (s : State) (w : Nat) (f : Window → Window) : State := { s with windows := smMod {} s.windows w f }

/-- The channels of a rod (R3). -/
def rodChannels (r : Nat) : List Nat := (List.range 16).map (fun i => 16 * r + i)

/-- The global carrier slots of a channel (R4). -/
def chanSlots (ch : Nat) : List Nat := (List.range 8).map (fun i => 8 * ch + i)

/-! ### The committed configuration -/

/-- Shared radio objects B+0xE (bus) and B+0xF (rod) have one home, their lowest channel's (R264). -/
def canonIdx (idx : Nat) : Nat :=
  if inRun idx 0x2000 0x25FF then
    if idx % 16 = 0xE then 0x2000 + 64 * ((idx - 0x2000) / 64) + 0xE
    else if idx % 16 = 0xF then 0x2000 + 256 * ((idx - 0x2000) / 256) + 0xF
    else idx
  else idx

def sigIdx (ch off : Nat) : Nat := 0x3000 + 16 * ch + off
def radIdx (ch off : Nat) : Nat := canonIdx (0x2000 + 16 * ch + off)
def canIdx (ch off : Nat) : Nat := 0x4000 + 16 * ch + off

/-- Rate exponent k of a slot (B+0x4). -/
def kOf (cfg : SMap Nat) (g : Nat) : Nat := cfgNat cfg (sigIdx (g / 8) 4) (g % 8 + 1)
/-- Receive side active (0x5300+ch:09–10 [1]). -/
def rxActive (cfg : SMap Nat) (g : Nat) : Bool := bit (cfgNat cfg (0x5300 + g / 8) (9 + g % 8)) 1
/-- Transmit side active ([0]). -/
def txActive (cfg : SMap Nat) (g : Nat) : Bool := bit (cfgNat cfg (0x5300 + g / 8) (9 + g % 8)) 0
/-- Bank select (B+0x7:01–08). -/
def bankSelect (cfg : SMap Nat) (g : Nat) : Nat := cfgNat cfg (sigIdx (g / 8) 7) (g % 8 + 1)
/-- Band record of a slot (0x5300+ch:01–08). -/
def recordOf (cfg : SMap Nat) (g : Nat) : Nat := cfgNat cfg (0x5300 + g / 8) (g % 8 + 1)
/-- Downlink role: 0 none, 1 donor, 2 service. -/
def dlRole (cfg : SMap Nat) (ch : Nat) : Nat := cfgNat cfg (0x5400 + ch) 1
def ulRole (cfg : SMap Nat) (ch : Nat) : Nat := cfgNat cfg (0x5400 + ch) 2
/-- Receive and transmit NCO frequency words (B+0x2, B+0x3). -/
def rxNco (cfg : SMap Nat) (g : Nat) : Int := cfgVal cfg (sigIdx (g / 8) 2) (g % 8 + 1)
def txNco (cfg : SMap Nat) (g : Nat) : Int := cfgVal cfg (sigIdx (g / 8) 3) (g % 8 + 1)
/-- Occupied bandwidth, kHz (B+0x5). -/
def bandwidth (cfg : SMap Nat) (g : Nat) : Nat := cfgNat cfg (sigIdx (g / 8) 5) (g % 8 + 1)
/-- Receive and transmit LO, kHz (radio B+0x1). -/
def rxLo (cfg : SMap Nat) (ch : Nat) : Nat := cfgNat cfg (radIdx ch 1) 1
def txLo (cfg : SMap Nat) (ch : Nat) : Nat := cfgNat cfg (radIdx ch 1) 2
/-- Requested radio state (radio B+0x0:01). -/
def reqState (cfg : SMap Nat) (ch : Nat) : Nat := cfgNat cfg (radIdx ch 0) 1
/-- TDD group of a channel, 0xFF FDD (0x70A0+ch:39). -/
def tddGroupOf (cfg : SMap Nat) (ch : Nat) : Nat := cfgNat cfg (0x70A0 + ch) 0x39

/-- Route header (Table 6.2). -/
def routeHeader (cfg : SMap Nat) (r : Nat) : Nat := cfgNat cfg (0x5100 + r / 16) (r % 16 + 1)
def routeEnd (cfg : SMap Nat) (r : Nat) : Nat := bits (routeHeader cfg r) 15 0
def routeUp (cfg : SMap Nat) (r : Nat) : Bool := bit (routeHeader cfg r) 16
def routeK (cfg : SMap Nat) (r : Nat) : Nat := bits (routeHeader cfg r) 20 18
def routeUsed (cfg : SMap Nat) (r : Nat) : Bool := decide (r < 4096) && routeEnd cfg r != 0xFFFF
/-- Route a transmit side or a receive side belongs to as a member; 0xFFFF none. -/
def txRoute (cfg : SMap Nat) (g : Nat) : Nat := cfgNat cfg (0x5200 + g / 8) (g % 8 + 1)
def rxRoute (cfg : SMap Nat) (g : Nat) : Nat := cfgNat cfg (0x5200 + g / 8) (g % 8 + 9)
def rxWeight (cfg : SMap Nat) (g : Nat) : Nat := cfgNat cfg (0x5200 + g / 8) (g % 8 + 17)

/-- Endpoint code fields (Table 6.1). -/
def endKind (e : Nat) : Nat := bits e 15 14
def endSlot (e : Nat) : Nat := bits e 9 0
def endLink (e : Nat) : Nat := bits e 10 7
def endStream (e : Nat) : Nat := bits e 6 0
/-- The endpoint code of a stream: kind 1 donor link, 2 chain link. -/
def streamCode (kind link stream : Nat) : Nat := kind * 16384 + link * 128 + stream

/-- The objects of a configuration whose index lies in a run. -/
def cfgRun (cfg : SMap Nat) (lo hi : Nat) : List (Nat × Nat) :=
  cfg.filter fun e => decide (lo * 256 ≤ e.1) && decide (e.1 < (hi + 1) * 256)

/-- The routes in use, ascending (R146). -/
def routesInUse (cfg : SMap Nat) : List Nat :=
  (cfgRun cfg 0x5100 0x51FF).filterMap fun e =>
    if e.1 % 256 ≠ 0 ∧ bits e.2 15 0 ≠ 0xFFFF then some (16 * (e.1 / 256 - 0x5100) + e.1 % 256 - 1) else none

/-- Slots with an active receive side, ascending; likewise transmit sides. -/
def rxSlots (cfg : SMap Nat) : List Nat :=
  (cfgRun cfg 0x5300 0x535F).filterMap fun e =>
    if e.1 % 256 ≥ 9 ∧ bit e.2 1 then some (8 * (e.1 / 256 - 0x5300) + e.1 % 256 - 9) else none
def txSlots (cfg : SMap Nat) : List Nat :=
  (cfgRun cfg 0x5300 0x535F).filterMap fun e =>
    if e.1 % 256 ≥ 9 ∧ bit e.2 0 then some (8 * (e.1 / 256 - 0x5300) + e.1 % 256 - 9) else none

/-- Slot members of route `r`: transmit sides of a downlink route, receive sides of an uplink one. -/
def txMembers (cfg : SMap Nat) : List (Nat × Nat) :=
  (cfgRun cfg 0x5200 0x525F).filterMap fun e =>
    if 1 ≤ e.1 % 256 ∧ e.1 % 256 ≤ 8 then some (8 * (e.1 / 256 - 0x5200) + e.1 % 256 - 1, e.2) else none
def rxMembers (cfg : SMap Nat) : List (Nat × Nat) :=
  (cfgRun cfg 0x5200 0x525F).filterMap fun e =>
    if 9 ≤ e.1 % 256 ∧ e.1 % 256 ≤ 16 then some (8 * (e.1 / 256 - 0x5200) + e.1 % 256 - 9, e.2) else none
def slotMembers (cfg : SMap Nat) (r : Nat) : List Nat :=
  ((if routeUp cfg r then rxMembers cfg else txMembers cfg).filter (fun e => e.2 == r)).map (·.1)

/-- A stream member: its endpoint code, the route it names, its weight, and its object key. -/
structure StreamMember where
  code : Nat
  route : Nat
  weight : Nat
  key : Nat
  deriving DecidableEq, Repr

/-- Egress stream members (0x5600, 0x5700), ascending by kind, link and stream. -/
def egressMembers (cfg : SMap Nat) : List StreamMember :=
  let of (kind base : Nat) := (cfgRun cfg base (base + 15)).map fun e =>
    { code := streamCode kind (e.1 / 256 - base) (e.1 % 256 - 1), route := e.2, weight := 0x8000, key := e.1 : StreamMember }
  of 1 0x5600 ++ of 2 0x5700
/-- Ingress stream members (0x5610, 0x5710). -/
def ingressMembers (cfg : SMap Nat) : List StreamMember :=
  let of (kind base : Nat) := (cfgRun cfg base (base + 15)).map fun e =>
    { code := streamCode kind (e.1 / 256 - base) (e.1 % 256 - 1), route := bits e.2 15 0, weight := bits e.2 31 16, key := e.1 : StreamMember }
  of 1 0x5610 ++ of 2 0x5710
/-- Stream members of route `r`. -/
def streamMembers (cfg : SMap Nat) (r : Nat) : List StreamMember :=
  (if routeUp cfg r then ingressMembers cfg else egressMembers cfg).filter (fun m => m.route == r)

/-- The route a transmit side ends or belongs to: its downlink route, or the uplink route it ends. -/
def routeOfTx (cfg : SMap Nat) (g : Nat) : Option Nat :=
  let r := txRoute cfg g
  if routeUsed cfg r && !routeUp cfg r then some r
  else (routesInUse cfg).find? fun r => routeUp cfg r && routeEnd cfg r == g

/-- The route a receive side ends or belongs to. -/
def routeOfRx (cfg : SMap Nat) (g : Nat) : Option Nat :=
  let r := rxRoute cfg g
  if routeUsed cfg r && routeUp cfg r then some r
  else (routesInUse cfg).find? fun r => !routeUp cfg r && routeEnd cfg r == g

/-! ### Emissions and free values -/

/-- Something leaves the device. -/
def emit (s : State) (e : Emission) : State := { s with out := s.out ++ [e] }

/-- A fresh choice the spec leaves open, and the counter moved on (log 4). -/
def drawBool (s : State) : Bool × State := (Config.freeBool s.free, { s with free := s.free + 1 })

/-- A fresh value the spec leaves open, and the counter moved on (log 4). -/
def drawNat (s : State) : Nat × State := (Config.freeValue s.free, { s with free := s.free + 1 })

/-- Operating time in ms (R364). -/
def opMs (s : State) : Nat := min (2 ^ 40 - 1) (s.tally.opBase + (s.time - s.tally.opAt) / msUnits)

/-- The core clock runs: the frame die is out of reset and its core PLL locked to REFCLK (R15). -/
def coreClock (s : State) : Bool := s.life.power != .off && s.clk.core && s.clk.refclk

/-- The datapath runs: in SHUTDOWN the Reckoners, Crossbar, Cell Finders and link engines are clock-gated (R392). -/
def coreRuns (s : State) : Bool := coreClock s && s.life.power != .shutdown

/-- Wall time in ns since the manager's epoch: it advances from the compensated SUPCLK (R365, R398); the
model's clock stands for SUPCLK before compensation (log 1). -/
def wallNs (s : State) : Int :=
  let d : Int := ((s.time - s.tally.wallAt) / 32 : Nat)
  if s.clk.supclk then s.tally.wallNs + d + d * s.clk.corr / 1000000000 else s.tally.wallNs

/-- The wall time brought up to now, before its rate changes. -/
def foldWall (s : State) : State := { s with tally := { s.tally with wallNs := wallNs s, wallAt := s.time } }

/-- Wall time as 64 bits: seconds, then nanoseconds (R365). -/
def wallWord (s : State) : Nat :=
  let ns := (wallNs s).toNat
  (ns / 1000000000) % 2 ^ 32 * 2 ^ 32 + ns % 1000000000

/-- Wall time in ns as type 5 messages carry it: counted from REFCLK since the PPS_IN edge that aligned it last (R299). -/
def stampNow (s : State) : Nat :=
  match s.links.ppsRef with
  | some (t, ns) => (ns + ((s.time - t) / 32 : Nat)).toNat
  | none => (wallNs s).toNat

/-- A PPS_IN edge aligns the nanoseconds of type 5 timestamps to the nearest whole second. -/
def alignStamp (s : State) : State :=
  let sec : Nat := (stampNow s + 500000000) / 1000000000
  { s with links := { s.links with ppsRef := some (s.time, sec * 1000000000) } }

/-! ### Fault events and Tally occurrences -/

/-- An event line: active for 1 ms after the occurrence (R341 kind E). -/
def faultEvent (s : State) (src : Nat) : State :=
  { s with flt := { s.flt with evt := smSet 0 s.flt.evt src (msUnits + s.time) } }

/-- A level line carried by the model as a stored level. -/
def setLine (s : State) (src : Nat) (on : Bool) : State :=
  { s with flt := { s.flt with lines := smSet false s.flt.lines src on } }

/-- An event of a source names a channel (R139) or a target slot (R337). -/
def nameSlot (s : State) (src n : Nat) : State :=
  { s with flt := { s.flt with named := smMod [] s.flt.named src fun l => insertNat n l } }

/-- A Nines poison event names one channel (R139). -/
def ninesEvent (s : State) (ch : Nat) : State :=
  let src := 192 + 6 * (ch / 16)
  nameSlot (faultEvent s src) src ch

/-- A source field of Table 15.2. -/
def srcField (kind num : Nat) : Nat := kind * 4096 + num

/-- An argument word of a signed figure. -/
def argI (x : Int) : Nat := ofSigned 32 x

/-- An occurrence that forms no record: counted as suppressed (R370). -/
def suppressOcc (s : State) (o : Occ) : State :=
  { s with tally := { s.tally with
      suppressed := inc32 s.tally.suppressed,
      codes := smMod {} s.tally.codes o.code fun c => { c with pending := min 65535 (c.pending + 1), last := some o, lastAt := s.time } } }

/-- An occurrence of a Tally code, awaiting formation (R363); none while SUPCLK is absent (R453), and while
Tally restarts at most 32 are held (Table 18.7). -/
def tallyOcc (s : State) (o : Occ) : State :=
  if !s.clk.supclk then s
  else if s.tally.restarting && decide (32 ≤ s.tally.queue.length) then suppressOcc s o
  else { s with tally := { s.tally with queue := s.tally.queue ++ [o] } }

/-- The usual occurrence: code, source field, arguments, at this frame. -/
def tallyEvent (s : State) (code source : Nat) (args : List Nat) : State :=
  tallyOcc s { code, source, args, frame := s.clk.frame }

/-- A parity failure of R23: counted, recorded (R361); the region's fault source is the caller's. -/
def parityFailure (s : State) (region offset action : Nat) : State :=
  let s := { s with flt := { s.flt with parity := smMod 0 s.flt.parity region inc32 } }
  tallyEvent s 0x0005 0 [region, offset, action]

/-- A word of a region of results, at a byte offset, that read with bad parity; the result is discarded (R361). -/
def parityWord (s : State) (region : Nat) (bad : Option Nat) : State :=
  match bad with | some offset => parityFailure s region offset 1 | none => s

/-! ### RFFE queues (R250–R253) -/

/-- The transactions of a channel's event (R251): entries with a USID, in order. -/
def sequenceTxns (cfg : SMap Nat) (ch event cls : Nat) : List Txn :=
  let ws := (List.range 4).filterMap fun i =>
    let w := cfgNat cfg (radIdx ch 2) (4 * event + i + 1)
    if bits w 31 28 = 0 then none else some w
  ws.zipIdx.map fun (w, i) =>
    { cls, ch, event, usid := bits w 31 28, cmd := bits w 27 26, addr := bits w 23 8, data := [bits w 7 0], last := i + 1 == ws.length }

/-- The first transaction of a class: the oldest, and of those queued at the same instant that of the lowest channel. -/
def oldestOf (q : List Txn) (cls : Nat) : Option Txn :=
  (q.filter fun t => t.cls == cls).foldl (fun b t =>
    match b with
    | none => some t
    | some x => if t.at_ < x.at_ ∨ (t.at_ = x.at_ ∧ t.ch < x.ch) then some t else b) none

/-- The transaction a bus issues next and the rest of its queue (R252): a closing event 7 sequence
first, then the lowest class, oldest first, lowest channel. -/
def pickTxn (q : List Txn) : Option (Txn × List Txn) :=
  let best := match q.find? (·.closing) with
    | some t => some t
    | none => (List.range 4).findSome? (oldestOf q)
  best.map fun t => (t, q.erase t)

/-- A bus at a transaction boundary starts its next transaction. -/
def busIssue (s : State) (b : Nat) : State :=
  let bus := getBus s b
  if bus.busy.isSome then s
  else match pickTxn bus.queue with
    | none => s
    | some (t, rest) =>
      emit (modBus s b fun x => { x with queue := rest, busy := some t }) (.rffe b t.usid t.cmd t.addr t.data)

/-- Transactions put on the bus of a channel. -/
def busQueue (s : State) (ch : Nat) (ts : List Txn) : State :=
  if ts.isEmpty then s else busIssue (modBus s (ch / 4) fun x => { x with queue := x.queue ++ ts.map fun t => { t with at_ := s.time } }) (ch / 4)

/-- The sequence of an event of Table 10.5 with its class. -/
def queueEvent (s : State) (ch event : Nat) : State :=
  let cls := match event with | 1 => 0 | 7 => 0 | 6 => 2 | _ => 1
  busQueue s ch (sequenceTxns s.objs ch event cls)

/-! ### Mutes and TXEN (R13, R30–R34) -/

/-- Does a mute's scope cover a carrier slot? -/
def Scope.coversSlot (sc : Scope) (g : Nat) : Bool :=
  match sc with
  | .slot g' => g' == g
  | .chan ch => ch == g / 8
  | .rod r => r == g / 128
  | .device => true

/-- Does a mute drop a channel's TXEN directly (R31)? -/
def Scope.coversChan (sc : Scope) (ch : Nat) : Bool :=
  match sc with
  | .slot _ => false
  | .chan ch' => ch' == ch
  | .rod r => r == ch / 16
  | .device => true

/-- A carrier slot is muted while any mute that covers it is active (R30). -/
def slotMuted (s : State) (g : Nat) : Bool := s.mutes.any fun m => m.scope.coversSlot g

/-- A mute at channel, rod or device scope covers the channel. -/
def chanMuted (s : State) (ch : Nat) : Bool := s.mutes.any fun m => m.scope.coversChan ch

/-- The mute condition of R13 and R31: no mute of channel, rod or device scope, and some carrier slot
both transmitting and unmuted. -/
def mutePermits (s : State) (ch : Nat) : Bool :=
  !chanMuted s ch && (chanSlots ch).any fun g => txActive s.objs g && !slotMuted s g

/-- The Sentinel gate of a channel is open. -/
def gateOpen (s : State) (ch : Nat) : Bool :=
  let x := (getChan s ch).sent
  !x.closed && !x.thermClosed && !s.sent.failed

/-- The reset term of R13. -/
def resetTerm (s : State) : Bool := s.life.power != .off

/-- The TXEN output of a channel: the AND of five terms (R13). -/
def txen (s : State) (ch : Nat) : Bool :=
  (getChan s ch).radio.txEnable && gateOpen s ch && s.pins.muteN && (getChan s ch).muteTerm && resetTerm s

/-- Channels whose TXEN is high. -/
def txenHigh (s : State) : List Nat := (s.chans.map (·.1)).filter (txen s)

/-- TXEN of a channel has fallen: a return-loss measurement under way there fails, and the span in which the next may
lie begins anew (R255). -/
def txenLow (s : State) (ch : Nat) : State :=
  modChan s ch fun c => { c with mis := { c.mis with winOk := false }, radio := { c.radio with highAt := none } }

/-- The class 0 event 1 sequences of the channels whose TXEN a mute, gate or MUTE_N has dropped since
`before` (Table 10.5). -/
def txenDrops (before s : State) : State :=
  forEach ((txenHigh before).filter fun ch => !txen s ch) s fun s ch => txenLow (queueEvent s ch 1) ch

/-- The channels whose TXEN has fallen since `before` (R255). -/
def txenFalls (before s : State) : State :=
  forEach ((txenHigh before).filter fun ch => !txen s ch) s txenLow

/-- The mute terms dropped at once where the mutes no longer permit TXEN (R32). -/
def dropMuteTerms (s : State) : State :=
  forEach ((s.chans.map (·.1)).filter fun ch => (getChan s ch).muteTerm && !mutePermits s ch) s
    fun s ch => modChan s ch fun c => { c with muteTerm := false, outClear := false }

/-- A mute asserted: mutes of different owners are independent, and TXEN drops at once (R30, R32). -/
def addMute (s : State) (o : Owner) (sc : Scope) : State :=
  let m : Mute := ⟨o, sc⟩
  if s.mutes.contains m then s
  else txenDrops s (dropMuteTerms { s with mutes := s.mutes ++ [m] })

/-- A mute released by its owner; no other mute is released (R30). -/
def dropMute (s : State) (o : Owner) : State := { s with mutes := s.mutes.filter fun m => m.owner != o }

/-- Is a mute of this owner active? -/
def hasMute (s : State) (o : Owner) : Bool := s.mutes.any fun m => m.owner == o

/-! ### Power states -/

/-- Code of a power state (Table 17.5). -/
def powerCode : Power → Nat
  | .off => 0 | .boot => 1 | .hold => 2 | .serve => 3 | .quiet => 4 | .safe => 5 | .shutdown => 6

/-- Code of a radio state (Table 10.1). -/
def radioCode : Radio → Nat
  | .sleep => 0 | .standby => 1 | .synth => 2 | .receive => 3 | .transmit => 4 | .duplex => 5

/-- Does the channel receive (R75, R118)? -/
def Radio.receives : Radio → Bool
  | .receive => true | .duplex => true | _ => false

/-- Does the channel transmit? -/
def Radio.transmits : Radio → Bool
  | .transmit => true | .duplex => true | _ => false

/-- Is a transition of the channel under way: has it started (R236, R238, B+0x0:02)? -/
def inTransition (s : State) (ch : Nat) : Bool :=
  let r := (getChan s ch).radio
  r.trans.isSome && (match r.go with | some t => decide (t ≤ s.time) | none => false)

end Sys2Proof.Machine
end

