-- ==== Sys2Proof/Machine/Arith.lean ====
section
/-! DEFINITION. Arith.lean: the arithmetic of the sample path (chs. 3 to 5): rounding and saturation,
residues and the Nines stage rule, the NCO and half-band coefficients, the stages on one sample, and the
carrier FIR. -/

namespace Sys2Proof.Machine

/-! ### Rounding, saturation and residues -/

/-- Saturation to the 16-bit range (R73). -/
def sat16 (q : Int) : Int := if q > 32767 then 32767 else if q < -32768 then -32768 else q

/-- The rounded quotient of R73: add 2^(m−1), shift right by m. With m = 0 the stage only adds. -/
def roundQ (m : Nat) (acc : Int) : Int := if m = 0 then acc else (acc + 2 ^ (m - 1)) / 2 ^ m

/-- The remainder that goes with it, 0 ≤ t < 2^m. -/
def roundT (m : Nat) (acc : Int) : Int := if m = 0 then 0 else (acc + 2 ^ (m - 1)) % 2 ^ m

/-- The residue of an integer modulo 255 (ch. 5). -/
def residue (v : Int) : Nat := (v % 255).toNat

/-- The stage rule (R127): predicted residue `p` of the accumulator against quotient `q` and remainder `t`. -/
def stageRule (m p : Nat) (q t : Int) : Bool :=
  if m = 0 then p == residue q
  else (p + residue (2 ^ (m - 1))) % 255 == (residue q * 2 ^ (m % 8) + residue t) % 255

/-- The residue a stage issues with its output (R128). -/
def issuedResidue (sat : Bool) (q : Int) : Nat := if sat then 127 else residue q

/-! ### Accumulators with the residue predicted beside them (R127) -/

/-- A full-precision accumulator and its residue as predicted from the residues of inputs and coefficients. -/
structure Accu where
  val : Int := 0
  res : Nat := 0
  deriving DecidableEq, Repr

/-- Sums map to sums modulo 255. -/
def accAdd (a b : Accu) : Accu := { val := a.val + b.val, res := (a.res + b.res) % 255 }

/-- A negation maps to 255 minus the residue. -/
def accNeg (a : Accu) : Accu := { val := -a.val, res := (255 - a.res % 255) % 255 }

/-- Products map to products: a coefficient carries the residue formed when it entered the MAC array. -/
def accScale (c : Int) (a : Accu) : Accu := { val := c * a.val, res := residue c * a.res % 255 }

/-- The accumulators of I and of Q. -/
abbrev Pair := Accu × Accu

/-- A sample as it enters an accumulator, with the residues it carries. -/
def pairOf (x : Smp) : Pair := ({ val := x.re, res := x.resI }, { val := x.im, res := x.resQ })

def pairAdd (a b : Pair) : Pair := (accAdd a.1 b.1, accAdd a.2 b.2)
def pairNeg (a : Pair) : Pair := (accNeg a.1, accNeg a.2)
/-- Complex conjugate. -/
def pairConj (a : Pair) : Pair := (a.1, accNeg a.2)
/-- A real coefficient times a sample. -/
def pairScale (c : Int) (a : Pair) : Pair := (accScale c a.1, accScale c a.2)
/-- A complex coefficient times a sample. -/
def pairMul (c : Int × Int) (a : Pair) : Pair :=
  (accAdd (accScale c.1 a.1) (accNeg (accScale c.2 a.2)), accAdd (accScale c.1 a.2) (accScale c.2 a.1))

/-- A sum of products. -/
def pairSum (ps : List Pair) : Pair := ps.foldl pairAdd ({}, {})

/-! ### Forming an output (R73, R127, R128) -/

/-- An error in forming one part of one output: what it adds to the accumulator, and whether it inverts the
saturation indicator. -/
structure Hit where
  err : Int := 0
  flip : Bool := false
  deriving DecidableEq, Repr

/-- One formed part: the value and residue issued, saturation, and whether its check passed. -/
structure Formed where
  out : Int
  res : Nat
  sat : Bool
  ok : Bool
  deriving DecidableEq, Repr

/-- A stage forms one part of an output from its accumulator (R73) and checks it (R127, R128). -/
def formPart (m : Nat) (a : Accu) (h : Hit) : Formed :=
  let v := a.val + h.err
  let q := roundQ m v
  let isOut := decide (q > 32767 ∨ q < -32768)
  let flag := isOut != h.flip
  { out := sat16 q, res := issuedResidue flag q, sat := isOut, ok := stageRule m a.res q (roundT m v) && flag == isOut }

/-- What the arithmetic of a run of outputs reports: saturations of I or Q (R74) and the checks that failed, as
(stage code, carrier slot or 8). -/
structure Log where
  sats : Nat := 0
  fails : List (Nat × Nat) := []
  deriving DecidableEq, Repr

def joinLog (a b : Log) : Log := { sats := a.sats + b.sats, fails := a.fails ++ b.fails }
def joinLogs (ls : List Log) : Log := ls.foldl joinLog {}

/-- The tags of a sample computed from others: poison, settling and invalid flags are the OR (R25, R93). -/
def joinTags (a b : Smp) : Smp :=
  { poison := a.poison || b.poison, settle := a.settle || b.settle, invalid := a.invalid || b.invalid }

/-- The tags of a run of samples. -/
def tagsOf (xs : List Smp) : Smp := xs.foldl joinTags {}

/-- A sample without damage from its two values: residues generated (Table 5.1). -/
def mkSmp (re im : Int) (tags : Smp := {}) : Smp := { tags with re, im, resI := residue re, resQ := residue im }

/-- A zero tagged with poison, other tags kept (R25, R131). -/
def poisoned (x : Smp) : Smp := { x with re := 0, im := 0, resI := 0, resQ := 0, poison := true }

/-- A zero tagged with poison (R131). -/
def poisonZero : Smp := { poison := true }

/-- Zeros tagged with poison. -/
def poisonZeros (n : Nat) : List Smp := List.replicate n poisonZero

/-- Where a computation stands: the errors that strike it, its carrier slot (8 channel-wide), its position in the
block, and whether it is the recomputation. -/
structure At where
  ds : List Damage := []
  second : Bool := false
  slot : Nat := 8
  pos : Nat := 0
  deriving DecidableEq, Repr

/-- The error that strikes one part of an output. -/
def hitAt (a : At) (stage sub : Nat) (imag : Bool) : Hit :=
  match a.ds.find? fun d => d.stage == stage && d.slot == a.slot && d.sub == sub && d.pos == a.pos && d.imag == imag with
  | none => {}
  | some d => if a.second then { err := d.second, flip := d.flip2 } else { err := d.first, flip := d.flip1 }

/-- An output sample of a stage: I and Q formed and checked separately (R73, R124); computed from a poisoned
sample it is a zero tagged with poison (R25). -/
def formSmp (a : At) (stage m : Nat) (p : Pair) (tags : Smp) (sub : Nat := 0) : Smp × Log :=
  if tags.poison then (poisoned tags, {})
  else
    let i := formPart m p.1 (hitAt a stage sub false)
    let q := formPart m p.2 (hitAt a stage sub true)
    ({ tags with re := i.out, im := q.out, resI := i.res, resQ := q.res },
     { sats := b2n i.sat + b2n q.sat, fails := if i.ok && q.ok then [] else [(stage, a.slot)] })

/-- A list of formed samples taken apart. -/
def split (xs : List (Smp × Log)) : List Smp × Log := (xs.map (·.1), joinLogs (xs.map (·.2)))

/-- The 48-bit word of a sample (R124) and the sample of a damaged word; the tags travel beside it. -/
def wordOf (x : Smp) : BitVec 48 :=
  BitVec.ofInt 16 x.re ++ BitVec.ofInt 16 x.im ++ BitVec.ofNat 8 x.resI ++ BitVec.ofNat 8 x.resQ
def ofWord (w : BitVec 48) (tags : Smp) : Smp :=
  { tags with
    re := (w.extractLsb' 32 16).toInt, im := (w.extractLsb' 16 16).toInt,
    resI := (w.extractLsb' 8 8).toNat, resQ := (w.extractLsb' 0 8).toNat }

/-- Does a sample pass an entry or exit check: its carried residues are those of I and Q (R123, Table 5.1)? -/
def residuesOk (x : Smp) : Bool := x.resI == residue x.re && x.resQ == residue x.im

/-- A block of words with the damage that strikes it on the way. -/
def strike (hits : List WordHit) (num path : Nat) (xs : List Smp) : List Smp :=
  let hs := hits.filter fun h => h.num == num && h.path == path
  if hs.isEmpty then xs
  else xs.zipIdx.map fun (x, i) => (hs.filter (·.pos == i)).foldl (fun x h => ofWord (wordOf x ^^^ h.mask) x) x

/-- The `n` samples that end at the `i`-th new one of a track, newest first; a track is n − 1 older samples and
then the new ones, oldest first. -/
def tapped (track : List Smp) (n i : Nat) : List Smp := ((track.drop i).take n).reverse

/-- A delay line's entries, newest first, filled up with zeros to `n`. -/
def padLine (n : Nat) (line : List Smp) : List Smp := line.take n ++ List.replicate (n - line.length) ({} : Smp)

/-- The track of a delay line of `n` entries and new samples. -/
def trackOf (n : Nat) (line xs : List Smp) : List Smp := (padLine n line).reverse ++ xs

/-- The delay line after the new samples. -/
def lineAfter (n : Nat) (line xs : List Smp) : List Smp := (xs.reverse ++ padLine n line).take n

/-! ### NCO (R77) -/

/-- The 32-bit frequency word of an NCO frequency. -/
def ncoWord (w : Int) : BitVec 32 := BitVec.ofInt 32 w

/-- Phase of an accumulator after `i` samples. -/
def phaseAfter (p w : BitVec 32) (i : Nat) : BitVec 32 := p + w * BitVec.ofNat 32 i

/-- One term of the sine series after the `k`-th, in 2^-60: −x²/((2k)(2k+1)). -/
def sineTerm (x2 : Int) (k : Nat) (t : Int) : Int := -(t * x2 / 2 ^ 60) / ((2 * k) * (2 * k + 1) : Nat)

/-- sin x for 0 ≤ x ≤ π/2, both in 2^-60, by twelve terms of its series. -/
def sineSeries (x : Int) : Int :=
  let x2 := x * x / 2 ^ 60
  ((List.range 12).foldl (fun (a : Int × Int) k => let t := sineTerm x2 (k + 1) a.2; (a.1 + t, t)) (x, x)).1

/-- sin(2π·i/2^18) in 2^-60, from its quarter wave. -/
def trueSine (i : Nat) : Int :=
  let j := i % 2 ^ 18
  let q := j % 2 ^ 16
  let x (n : Nat) : Int := (n : Int) * 3622009729038561421 / 2 ^ 17
  match j / 2 ^ 16 with
  | 0 => sineSeries (x q)
  | 1 => sineSeries (x (2 ^ 16 - q))
  | 2 => -sineSeries (x q)
  | _ => -sineSeries (x (2 ^ 16 - q))

/-- The nearest 18-bit value of 2^17·sin(2π·i/2^18). -/
def nearSine (i : Nat) : Int := satSigned 18 (roundQ 43 (trueSine i))

/-- What R77 asks of an 18-bit table of 2^18 entries against the function it tables: every entry an 18-bit value,
and all its error together, a bound on its spurious content, at or below −110 dBFS. -/
def tableMeets (t f : Nat → Int) : Bool :=
  ((List.range (2 ^ 18)).all fun i => satSigned 18 (t i) == t i) &&
  decide ((sumMapI (List.range (2 ^ 18)) fun i => (t i * 2 ^ 43 - f i) ^ 2) * (2 * 10 ^ 11) ≤ 2 ^ 18 * 2 ^ 120)

/-- The sine and cosine tables: the part's own where they meet R77, else the nearest values (log 6). -/
def sineEntry (i : Nat) : Int := if tableMeets Config.sineTable trueSine then Config.sineTable i else nearSine i
def cosineEntry (i : Nat) : Int :=
  if tableMeets Config.cosineTable (fun i => trueSine (i + 2 ^ 16)) then Config.cosineTable i else nearSine (i + 2 ^ 16)

/-- Sine and cosine of a phase, 18-bit, from its upper 18 bits. -/
def sinOf (p : BitVec 32) : Int := sineEntry (p.toNat / 16384)
def cosOf (p : BitVec 32) : Int := cosineEntry (p.toNat / 16384)

/-- A sample times e^{+jφ}, rounded with m = 17. -/
def mixUp (a : At) (stage sub : Nat) (x : Smp) (p : BitVec 32) : Smp × Log :=
  formSmp a stage 17 (pairMul (cosOf p, sinOf p) (pairOf x)) (joinTags x {}) sub

/-- A sample times e^{−jφ}, rounded with m = 17. -/
def mixDown (a : At) (x : Smp) (p : BitVec 32) : Smp × Log :=
  formSmp a 4 17 (pairMul (cosOf p, -sinOf p) (pairOf x)) (joinTags x {})

/-! ### Half-band filters (R78, Tables 3.1 to 3.3) -/

/-- Taps of the half-bands: 0–4 the chain's HB-A to HB-E, 5 receive stage 3, 6 and 7 transmit stage 6. -/
def hbTaps : Nat → Nat
  | 0 => 47 | 1 => 31 | 2 => 23 | 3 => 15 | 4 => 11 | 5 => 47 | 6 => 23 | _ => 11

/-- The part's own taps at the odd offsets 3, 5, … from the centre, 18-bit (log 6). -/
def hbFree (i : Nat) : List Int := (List.range ((hbTaps i - 3) / 4)).map fun j => satSigned 18 (Config.halfBandTap i j)

/-- Taps at the odd offsets 1, 3, 5, … that give unity gain at 0 Hz: with the centre at 1/2 the taps of one side
sum to 1/4. The part's own where the first then is an 18-bit value, else the first alone (log 6). -/
def hbSide (i : Nat) : List Int :=
  let first := 2 ^ 15 - sumMapI (hbFree i) id
  if satSigned 18 first = first then first :: hbFree i else [2 ^ 15]

/-- Tap `j` of a half-band filter, Q1.17: symmetric, 1/2 at the centre, zero at the other even offsets. -/
def hbTap (i j : Nat) : Int :=
  let c := (hbTaps i - 1) / 2
  let d := if j ≤ c then c - j else j - c
  if hbTaps i ≤ j then 0 else if d = 0 then 2 ^ 16 else if d % 2 = 0 then 0 else (hbSide i).getD (d / 2) 0

/-- Σ h[j]·x[j] over samples newest first. -/
def dotTaps (h : Nat → Int) (xs : List Smp) : Pair := pairSum (xs.zipIdx.map fun (x, j) => pairScale (h j) (pairOf x))

/-- One output of decimating half-band `i` from its full line, newest first. -/
def hbDown (a : At) (stage i : Nat) (line : List Smp) : Smp × Log :=
  formSmp a stage 17 (dotTaps (hbTap i) line) (tagsOf line) i

/-- One output of interpolating half-band `i`, for its even or odd times, from its inputs newest first: it takes
every second tap, twice, for unity gain. -/
def hbUp (a : At) (stage i par : Nat) (line : List Smp) : Smp × Log :=
  let xs := line.take ((hbTaps i + 1) / 2 - par)
  formSmp a stage 17 (dotTaps (fun j => 2 * hbTap i (2 * j + par)) xs) (tagsOf xs) i

/-- One CSR-side sample through decimating stages `k − fuel` to `k − 1`, at sample time `n` of the stage's
input: a stage gives an output at every second input, those at even times (log 6). -/
def decimate (a : At) (k : Nat) : Nat → Nat → List (List Smp) → Smp → List (List Smp) × Option Smp × Log
  | 0, _, lines, x => (lines, some x, {})
  | fuel + 1, n, lines, x =>
    let i := k - (fuel + 1)
    let line := x :: padLine (hbTaps i - 1) (lines.headD [])
    if n % 2 = 0 then
      let y := hbDown a 5 i line
      let rest := decimate a k fuel (n / 2) lines.tail y.1
      (line.take (hbTaps i - 1) :: rest.1, rest.2.1, joinLog y.2 rest.2.2)
    else (line.take (hbTaps i - 1) :: lines.tail, none, {})

/-- One CSR output of the interpolating stages: the level gives a sample at its time `n`, from the next input of
the queue at level `k`. Lines are held HB-A first. -/
def interpolate (a : At) (stage k : Nat) : Nat → Nat → List (List Smp) → List Smp → List (List Smp) × List Smp × Smp × Log
  | 0, _, lines, q => (lines, q.tail, q.headD {}, {})
  | fuel + 1, n, lines, q =>
    let i := k - (fuel + 1)
    if n % 2 = 0 then
      let r := interpolate a stage k fuel (n / 2) lines.tail q
      let line := (r.2.2.1 :: lines.headD []).take ((hbTaps i + 1) / 2)
      let y := hbUp a stage i 0 line
      (line :: r.1, r.2.1, y.1, joinLog r.2.2.2 y.2)
    else
      let line := lines.headD []
      let y := hbUp a stage i 1 line
      (line :: lines.tail, q, y.1, y.2)

/-! ### The rod die's converter interface (receive stage 3, transmit stage 6) -/

/-- An ADC code as it enters receive stage 3: the 14 bits stand in the upper bits of 16 (log 37). -/
def codeSmp (c : Int × Int) (invalid : Bool) : Smp := mkSmp (4 * satSigned 14 c.1) (4 * satSigned 14 c.2) { invalid }

/-- ADC overloads of a code: I or Q at either end of the 14-bit range (R74). -/
def codeOver (c : Int × Int) : Nat :=
  let out (v : Int) : Bool := decide (8191 ≤ v) || decide (v ≤ -8192)
  b2n (out c.1) + b2n (out c.2)

/-- Receive stage 3 over a frame's codes, oldest first: one output for two codes, with the residues the die
generates (Table 5.1); the line keeps the 46 newest codes, newest first. -/
def rodReceive (line xs : List Smp) : List Smp × List Smp × Log :=
  let track := trackOf 46 line xs
  let ys := (List.range (xs.length / 2)).map fun i => hbDown {} 3 5 (tapped track 47 (2 * i + 1))
  let o := split ys
  (o.1.map fun y => mkSmp y.re y.im y, lineAfter 46 line xs, o.2)

/-- One interpolation by two on the rod die, by half-band `i`; the line keeps its newest inputs, newest first. -/
def rodInterpolate (i : Nat) (line xs : List Smp) : List Smp × List Smp :=
  let n := (hbTaps i + 1) / 2
  let track := trackOf (n - 1) line xs
  let ys := (List.range xs.length).flatMap fun t =>
    let l := tapped track n t
    [(hbUp {} 0 i 0 l).1, (hbUp {} 0 i 1 l).1]
  (ys, lineAfter (n - 1) line xs)

/-- The 14-bit word the DAC takes from a sample of transmit stage 6 (log 37). -/
def dacWord (x : Smp) : Int × Int := (x.re / 4, x.im / 4)

/-! ### Carrier FIR (R98–R102) -/

/-- Header fields (Table 4.1). -/
def hdrFormat (h : Nat) : Nat := bits h 31 30
def hdrK (h : Nat) : Nat := bits h 28 26
def hdrM (h : Nat) : Nat := bits h 25 21
def hdrN (h : Nat) : Nat := bits h 7 0

/-- Is a header valid under Table 4.1? -/
def hdrValid (h : Nat) : Bool :=
  decide (hdrFormat h ≤ 1) && !bit h 29 && decide (hdrK h ≤ 5) && decide (14 ≤ hdrM h) && decide (hdrM h ≤ 20) &&
  bits h 20 8 == 0 && decide (1 ≤ hdrN h) && decide (hdrN h ≤ 128)

/-- Coefficient words a header calls for (R102). -/
def hdrCoefs (h : Nat) : Nat := if hdrFormat h = 1 then 2 * hdrN h else (hdrN h + 1) / 2

/-- The word of a bank at a position; a word never written reads zero. -/
def bankWord (b : Bank) (i : Nat) : Nat := (smGet 0 b.words i).toNat

/-- The 18-bit coefficient of a word (Table 4.2). -/
def coefOf (w : Nat) : Int := toSigned 18 (w / 16384)

/-- The coefficients h[0] … h[N−1] of a bank, as complex values. -/
def bankCoefs (b : Bank) : List (Int × Int) :=
  let h := b.header.toNat
  (List.range (hdrN h)).map fun j =>
    if hdrFormat h = 1 then (coefOf (bankWord b (1 + 2 * j)), coefOf (bankWord b (2 + 2 * j)))
    else (coefOf (bankWord b (1 + min j (hdrN h - 1 - j))), 0)

/-- Σ h[j]·x[j], complex coefficients, samples newest first. -/
def dotComplex (hs : List (Int × Int)) (xs : List Smp) : Pair := pairSum ((hs.zip xs).map fun (h, x) => pairMul h (pairOf x))

/-- One FIR output from a bank's line, newest sample first (R98–R100); `sub` 1 for the target of a cross-fade. -/
def firOut (a : At) (bk : Bank) (sub : Nat) (line : List Smp) : Smp × Log :=
  let hs := bankCoefs bk
  formSmp a 6 (hdrM bk.header.toNat) (dotComplex hs line) (tagsOf (line.take hs.length)) sub

/-- The cross-fade weighting of R111 for sample i of L. -/
def fadeOut (a : At) (l i : Nat) (old new : Smp) : Smp × Log :=
  let w : Int := (i + 1) * 2 ^ 17 / l
  formSmp a 7 17 (pairAdd (pairScale (2 ^ 17 - w) (pairOf old)) (pairScale w (pairOf new))) (joinTags old new)

/-! ### The grid of carrier samples -/

/-- Carrier samples of the transfer frame `t` at rate k: the samples of the block that the transmit sides
compute in the next frame. -/
def gridCount (k t : Nat) : Nat := (72 * (t + 2) + 2 ^ k - 1) / 2 ^ k - (72 * (t + 1) + 2 ^ k - 1) / 2 ^ k

/-! ### Settling counts (Table 3.9) -/

/-- T(k): transient span of the chain at CSR. -/
def settleT : Nat → Nat
  | 0 => 0 | 1 => 46 | 2 => 106 | 3 => 194 | 4 => 306 | _ => 466

/-- c(k) of a slot reset, and of a channel or rod reset. -/
def settleC (k : Nat) (chanScope : Bool) : Nat :=
  let t := settleT k + (if chanScope then 38 else 0)
  (t + 2 ^ k - 1) / 2 ^ k

/-- Chain cost D(k) (Table 3.4). -/
def chainCost : Nat → Nat
  | 0 => 0 | 1 => 4 | 2 => 6 | 3 => 7 | 4 => 8 | _ => 9

/-- Largest occupied bandwidth for k, kHz (Table 3.4). -/
def maxBandwidth : Nat → Nat
  | 0 => 201523 | 1 => 100761 | 2 => 50380 | 3 => 25190 | 4 => 12595 | _ => 6297

end Sys2Proof.Machine
end

