-- ==== Sys2Proof/Machine/SamplePath.lean ====
section
/-! DEFINITION. SamplePath.lean: one channel's block (chs. 3 to 5 and R155–R158): receive stages 4–10 and
transmit stages 1–5 over 72 samples at CSR, and the write-back of a poisoned block. -/

namespace Sys2Proof.Machine

/-- Are a channel's receive samples valid now (R238, R246, R261, Table 1.8)? -/
def rxValid (s : State) (ch : Nat) : Bool :=
  let r := (getChan s ch).radio
  r.st.receives && !inTransition s ch && !(r.txEnable && !r.st.transmits) && decide (r.invalidUntil ≤ s.time) && s.clk.refclk

/-- Does the channel compute a block: it receives or transmits (R141)? -/
def computes (s : State) (ch : Nat) : Bool :=
  let r := (getChan s ch).radio.st
  r.receives || r.transmits

/-! ### Receive stages 4 and 5 -/

/-- μ = 2π·f_c / 245.76 MHz as a coefficient in units of 2⁻⁴⁸ (R75, log 6). -/
def notchMu (fc : Nat) : Int := roundDiv (fc * 628318530717959 * 2 ^ 48) (245760000 * 100000000000000)

/-- One part of the DC notch on one sample (R75): its output, the new estimate with 16 fractional bits, and whether
both checks passed (R127). The estimate's residue is the one it was formed with. -/
def notchPart (a : At) (imag : Bool) (mu : Int) (track : Bool) (d : Int) (x : Accu) : Formed × Int × Bool :=
  let e := accAdd (accScale (2 ^ 16) x) (accNeg { val := d, res := residue d })
  let y := formPart 16 e (hitAt a 1 0 imag)
  if track then
    let acc := accAdd (accScale (2 ^ 48) { val := d, res := residue d }) (accScale mu e)
    let v := acc.val + (hitAt a 1 1 imag).err
    (y, roundQ 48 v, y.ok && stageRule 48 acc.res (roundQ 48 v) (roundT 48 v))
  else (y, d, y.ok)

/-- The notch over one sample; the estimate is updated only where the sample is valid. -/
def notchStep (a : At) (mu : Int) (track : Bool) (d : Int × Int) (x : Smp) : (Int × Int) × (Smp × Log) :=
  if x.poison then (d, (poisoned (joinTags x {}), {}))
  else
    let t := track && !x.invalid
    let i := notchPart a false mu t d.1 (pairOf x).1
    let q := notchPart a true mu t d.2 (pairOf x).2
    ((i.2.1, q.2.1),
     ({ joinTags x {} with re := i.1.out, im := q.1.out, resI := i.1.res, resQ := q.1.res },
      { sats := b2n i.1.sat + b2n q.1.sat, fails := if i.2.2 && q.2.2 then [] else [(1, 8)] }))

/-- Stage 4 over a block: the new estimate and the outputs. -/
def notchBlock (a : At) (fc : Nat) (track : Bool) (d : Int × Int) (xs : List Smp) : (Int × Int) × (List Smp × Log) :=
  let r := xs.zipIdx.foldl (fun (st : (Int × Int) × List (Smp × Log)) (x, i) =>
    let o := notchStep { a with pos := i } (notchMu fc) track st.1 x
    (o.1, o.2 :: st.2)) (d, [])
  (r.1, split r.2.reverse)

/-- Stage 5 over a block (R76): y[n] = x[n−4] + Σ w_j·conj x[n−j], m = 15; the line holds 7 samples. -/
def iqBlock (a : At) (taps : List (Int × Int)) (on : Bool) (line xs : List Smp) : List Smp × Log :=
  let track := trackOf 7 line xs
  split ((List.range xs.length).map fun i =>
    let full := tapped track 8 i
    let mid := full.getD 4 {}
    let sum := if on then pairSum ((taps.zip full).map fun (w, x) => pairMul w (pairConj (pairOf x))) else ({}, {})
    formSmp { a with pos := i } 2 15 (pairAdd (pairScale (2 ^ 15) (pairOf mid)) sum) (if on then tagsOf full else joinTags mid {}))

/-! ### Canceller subtraction (R155–R161) -/

/-- Skew of a channel's output in samples at CSR: 4 per channel slot, 60 with alignment (R87, R88, R157). -/
def skewSamples (cfg : SMap Nat) (ch : Nat) : Nat :=
  if cfgBool cfg (sigIdx ch 0) 3 then 60 else 4 * (ch % 16)

/-- From the release of a sample to the TX_OUT ball: link and converter interface, interpolators, DAC and transmit
analogue, 389.19 ns, 96 samples at CSR to the nearest (Table 3.6, log 14). -/
def txLatency : Nat := 96

/-- From the RX_IN ball to the collection of a sample: 399.17 ns, 98 samples at CSR to the nearest (Table 3.6, log 14). -/
def rxLatency : Nat := 98

/-- The device's own latency in both directions that a canceller path absorbs: the rows of Table 3.6 but the block
structure, 804.64 ns, 198 samples at CSR to the nearest (R157, log 14). -/
def deviceLatency : Nat := 198

/-- Path reference code, bulk delay (B+0x1 of ch. 7). -/
def pathRef (cfg : SMap Nat) (ch p : Nat) : Nat := cfgNat cfg (canIdx ch 1) (p + 1)
def pathDelay (cfg : SMap Nat) (ch p : Nat) : Nat := cfgNat cfg (canIdx ch 1) (p + 9)
/-- Canceller enable. -/
def cancOn (cfg : SMap Nat) (ch : Nat) : Bool := cfgBool cfg (canIdx ch 0) 1

/-- RF centre of a side, in 2^-15 Hz, which is exact: LO + f of a slot side of it (check 11 of Table 6.4). -/
def sideCentre (cfg : SMap Nat) (g : Nat) (tx : Bool) : Int :=
  let lo := if tx then txLo cfg (g / 8) else rxLo cfg (g / 8)
  let w := if tx then txNco cfg g else rxNco cfg g
  (lo : Int) * 32768000 + w * 1875

/-- A slot side of a route, with its direction: the end if it is a slot, else the first member. -/
def routeSide (cfg : SMap Nat) (r : Nat) : Option (Nat × Bool) :=
  if endKind (routeEnd cfg r) = 0 then some (endSlot (routeEnd cfg r), routeUp cfg r)
  else (slotMembers cfg r).head?.map fun g => (g, !routeUp cfg r)

/-- Rotator offset Δ of a reference at a channel, in units of 245.76 MHz / 2^32 (R158). -/
def refOffset (cfg : SMap Nat) (ch ref : Nat) : Int :=
  let centre : Option Int :=
    if ref < 96 then some ((txLo cfg ref : Int) * 32768000)
    else if ref = 0xFFFF then none
    else (routeSide cfg (ref - 0x1000)).map fun x => sideCentre cfg x.1 x.2
  match centre with
  | none => 0
  | some c => roundDiv (c - (rxLo cfg ch : Int) * 32768000) 1875

/-- Rotator offset of a path. -/
def rotatorOffset (cfg : SMap Nat) (ch p : Nat) : Int := refOffset cfg ch (pathRef cfg ch p)

/-- Is a path reachable: |Δ| below 122.88 MHz (R158)? -/
def pathReachable (cfg : SMap Nat) (ch p : Nat) : Bool := decide ((rotatorOffset cfg ch p).natAbs < 2 ^ 31)

/-- Does a path take part in the subtraction? -/
def pathInUse (cfg : SMap Nat) (ch p : Nat) : Bool :=
  cancOn cfg ch && pathRef cfg ch p != 0xFFFF && pathReachable cfg ch p

/-- The newest samples of a reference, newest first (R159), and how many samples ago the first of them was released. -/
def refHistory (s : State) (ref : Nat) : List Smp × Nat :=
  if ref < 96 then ((getChan s ref).ref, 0) else ((smGet {} s.routeRefs (ref - 0x1000)).hist, 72 + txLatency)

/-- `n` samples of a reference, oldest first, that end with the one that tap 0 with bulk delay `d` meets at the last
sample of the block: the receive block was collected one frame before the newest released block. -/
def refSegment (s : State) (cfg : SMap Nat) (ref d n : Nat) : List Smp :=
  let skew := if ref < 96 then skewSamples cfg ref else 0
  let h := refHistory s ref
  ((padLine n (h.1.drop (72 + deviceLatency + d + skew - h.2)))).reverse

/-- One path's working data in a block. -/
structure PathWork where
  p : Nat
  /-- the 31 rotated samples of the tap line and the 72 of the block, oldest first -/
  track : List Smp
  /-- the rotated reference of the block's 72 times, without the bulk delay: v_p(t) of R164 -/
  now : List Smp
  phase : BitVec 32
  scale : Int
  taps : List (Int × Int)
  /-- a reference word failed its entry check -/
  bad : Bool
  log : Log
  deriving DecidableEq, Repr

/-- A reference at the 72 times of the block, without any delay, after a rotator of frequency word `w` (R164). -/
def referenceNow (s : State) (ref : Nat) (w phase : BitVec 32) : List Smp :=
  (refSegment s s.objs ref 0 72).zipIdx.map fun (x, i) => (mixUp {} 3 0 x (phaseAfter phase w i)).1

/-- A path's working data: its reference words as they arrive from the bus, checked (Table 5.1), rotated by Δ,
phase-continuous (R158). A word of the history read with bad parity is poisoned (Table 1.7), and so is what an active
model word read with bad parity gives (Table 7.4): the first sample of the block stands for both. -/
def pathWork (inp : FrameInput) (s : State) (a : At) (ch p : Nat) : PathWork :=
  let st := getPath s ch p
  let w := ncoWord (rotatorOffset s.objs ch p)
  let seg := strike inp.refHits ch p (refSegment s s.objs (pathRef s.objs ch p) (pathDelay s.objs ch p) 72)
  let hit := inp.parity.any fun h => h.region == 2 && h.ch == ch && (h.part == p || h.part == 8 + p)
  let seg' := if hit then poisonZero :: seg.tail else seg
  let v := split (seg'.zipIdx.map fun (x, i) => mixUp { a with pos := i } 3 (1 + p) x (phaseAfter st.rotPhase w i))
  { p, track := trackOf 31 st.line v.1, now := referenceNow s (pathRef s.objs ch p) w st.rotPhase, phase := phaseAfter st.rotPhase w 72, scale := 2 ^ (3 - st.e), taps := st.taps
    bad := !seg.all residuesOk, log := v.2 }

/-- 2^(3 − e)·Σ_j c_j·v[n−j] of a path at sample `i` of the block. -/
def pathEstimate (w : PathWork) (i : Nat) : Pair := pairScale w.scale (dotComplex w.taps (tapped w.track 32 i))

/-- Stage 6 over a block (R156), m = 20; a disabled canceller passes its input. -/
def cancelBlock (a : At) (ws : List PathWork) (xs : List Smp) : List Smp × Log :=
  split (xs.zipIdx.map fun (x, i) =>
    let sum := pairSum (ws.map fun w => pathEstimate w i)
    let tags := (ws.map fun w => tagsOf (tapped w.track 32 i)).foldl joinTags (joinTags x {})
    formSmp { a with pos := i } 3 20 (pairAdd (pairScale (2 ^ 20) (pairOf x)) (pairNeg sum)) tags)

/-! ### The canceller's observation (R164, R169, R172) -/

/-- Entry of B+0x0 of a channel's canceller (Table 7.5). -/
def cancSet (s : State) (ch sub : Nat) : Nat := cfgNat s.objs (canIdx ch 0) sub

/-- Does any path of the channel train (R175)? -/
def anyTrains (s : State) (ch : Nat) : Bool := (List.range 8).any fun p => (getPath s ch p).st == 2

/-- The update period in force, in 0.1 ms: T_u, or 0.5 ms while a path trains (R164, R175). -/
def updatePeriod (s : State) (ch : Nat) : Nat := if anyTrains s ch then 5 else cancSet s ch 2

/-- n_eff: the lesser of the set exponent and the largest n with 2^n samples in half a period (R164). -/
def nEff (s : State) (ch : Nat) : Nat := min (cancSet s ch 3) (Nat.log2 (updatePeriod s ch * 12288))

/-- Time of the `i`-th sample of the block computed now, at the RX_IN ball. -/
def sampleTime (s : State) (i : Nat) : Nat := s.time - (72 - i + rxLatency) * frameUnits / 72

/-- Is a time inside the guard that follows the last change? -/
def inGuard (edge : Option Nat) (guard t : Nat) : Bool :=
  match edge with | some e => decide (t ≤ e + guard) | none => false

/-- The freeze guard t_g of a channel, in model time. -/
def freezeGuard (cfg : SMap Nat) (ch : Nat) : Nat := cfgNat cfg (canIdx ch 0) 5 * usUnits

/-- Transmit sides that contribute to a path on a reference (R169): all eight of a channel reference. -/
def contributorSides (cfg : SMap Nat) (ref : Nat) : List Nat :=
  if ref < 96 then chanSlots ref else if ref = 0xFFFF then []
  else
    let r := ref - 0x1000
    if routeUp cfg r then (if endKind (routeEnd cfg r) = 0 then [endSlot (routeEnd cfg r)] else []) else slotMembers cfg r

/-- Time of the last change of a contributor of a reference (Table 7.1). -/
def contributorEdge (s : State) (ref : Nat) : Option Nat :=
  (contributorSides s.objs ref).foldl (fun m g =>
    let c := getChan s (g / 8)
    let late (a b : Option Nat) : Option Nat := match a, b with | some x, some y => some (max x y) | some x, none => some x | none, y => y
    late m (late c.txEdge ((c.slotEdge.find? (·.1 == g % 8)).map (·.2)))) none

/-- A path's sums after one more sample: `v` the reference of its time, `full` the 32 delayed ones (R164). -/
def addPath (y v : Smp) (full : List Smp) (est : Pair) (dirty : Bool) (x : PathSums) : PathSums :=
  { x with
    clean := x.clean && !dirty, pr := x.pr + (v.re * v.re + v.im * v.im).toNat
    pest := x.pest + (est.1.val * est.1.val + est.2.val * est.2.val).toNat
    g := (List.range 32).map fun j =>
      let u := full.getD j {}
      let o := x.g.getD j (0, 0)
      (o.1 + y.re * u.re + y.im * u.im, o.2 + y.im * u.re - y.re * u.im) }

/-- One path as a window sees it: its working data, and whether a change of its contributors excludes a time. -/
structure PathView where
  work : PathWork
  edge : Option Nat
  deriving DecidableEq, Repr

/-- A window after one more sample that is clean for the channel. A survey that began within the window has no whole
span in it. -/
def addSample (guard t i : Nat) (y : Smp) (vs : List PathView) (sv : Option PathView) (w : ObsWindow) : ObsWindow :=
  let now (v : PathView) : Smp := v.work.now.getD i {}
  let dirty (v : PathView) : Bool := inGuard v.edge guard t || (now v :: tapped v.work.track 32 i).any fun x => x.settle || x.poison
  let step (v : PathView) (x : PathSums) : PathSums := addPath y (now v) (tapped v.work.track 32 i) (pathEstimate v.work i) (dirty v) x
  let tot := pairSum (vs.map fun v => pathEstimate v.work i)
  { w with
    count := w.count + 1, first := if w.count = 0 then t else w.first, last := t
    pe := w.pe + (y.re * y.re + y.im * y.im).toNat, ptot := w.ptot + (tot.1.val * tot.1.val + tot.2.val * tot.2.val).toNat
    paths := vs.map fun v => step v ((w.paths.find? (·.path == v.work.p)).getD { path := v.work.p })
    survey := sv.map fun v => step v (w.survey.getD { path := 8, clean := w.count == 0 }) }

/-- A window that held a sample is discarded (B+0x5:05). -/
def dropWindow (c : Canceller) : Canceller :=
  match c.win with
  | some _ => { c with win := none, discarded := inc32 c.discarded }
  | none => c

/-- The canceller's window after one more sample: it opens with the first sample of the period, an excluded sample
ends it, the 2^n-th fills it, and the first full one of the period is kept. -/
def observeSample (s : State) (ch n guard : Nat) (vs : List PathView) (sv : Option PathView) (i : Nat) (y : Smp) (c : Canceller) : Canceller :=
  if c.cand.isSome || c.worked then c
  else
    let t := sampleTime s i
    let x := getChan s ch
    if y.settle || y.invalid || y.poison || inGuard x.rxEdge guard t || (decide (x.oscFrom ≤ t) && inGuard x.oscAt guard t) then dropWindow c
    else
      let w := addSample guard t i y vs sv (c.win.getD { n })
      if w.count < 2 ^ w.n then { c with win := some w } else { c with win := none, cand := some w }

/-- The path a survey reads: its reference at the span it has reached (R163). -/
def surveyWork (s : State) (ch : Nat) : Option PathView :=
  let c := (getChan s ch).canc
  if c.survState ≠ 1 then none
  else
    let w := ncoWord (refOffset s.objs ch c.survRef)
    let seg := refSegment s s.objs c.survRef (32 * c.survProgress) 103
    let v := seg.zipIdx.map fun (x, i) => (mixUp {} 3 0 x (phaseAfter (w * BitVec.ofNat 32 (s.time / frameUnits * 72)) w i)).1
    some { work := { p := 8, track := v, now := referenceNow s c.survRef w (phaseAfter 0 w (s.time / frameUnits * 72)), phase := 0, scale := 0, taps := [], bad := false, log := {} }, edge := contributorEdge s c.survRef }

/-- A new update period begins (R164): its windows are still to come, and no path is passed over in it yet. -/
def newPeriod (t : Nat) (c : Canceller) : Canceller :=
  { c with
    win := none, cand := none, worked := false, periodAt := t
    paths := (c.paths.map (·.1)).foldl (fun m p => smMod {} m p fun x => { x with skipOnce := false }) c.paths }

/-- Has the present update period of a channel ended? -/
def periodOver (s : State) (ch : Nat) : Bool :=
  decide ((getChan s ch).canc.periodAt + updatePeriod s ch * (100 * usUnits) ≤ s.time)

/-- The observation of one block. A period whose window has been worked gives way to the next by itself. -/
def observeBlock (s : State) (ch : Nat) (ws : List PathWork) (ys : List Smp) (c : Canceller) : Canceller :=
  let guard := freezeGuard s.objs ch
  let vs := ws.map fun w => { work := w, edge := contributorEdge s (pathRef s.objs ch w.p) : PathView }
  let sv := surveyWork s ch
  let n := nEff s ch
  if !cancOn s.objs ch then { c with win := none, cand := none }
  else
    let c := if c.worked && periodOver s ch then newPeriod s.time c else c
    ys.zipIdx.foldl (fun c (y, i) => observeSample s ch n guard vs sv i y c) c

/-! ### One carrier slot -/

/-- The bank of a slot: 0 A, 1 B, and its delay line. -/
def bankOf (x : SlotPath) (b : Nat) : Bank := if b = 0 then x.bankA else x.bankB
def lineOf (x : SlotPath) (b : Nat) : List Smp := if b = 0 then x.lineA else x.lineB

/-- FIR and cross-fade of one carrier-rate sample (stages 9 and R111): both banks' delay lines take it. -/
def firStep (a : At) (x : SlotPath) (v : Smp) : Smp × SlotPath × Log :=
  let run (b sub : Nat) : Smp × Log := firOut a (bankOf x b) sub (v :: lineOf x b)
  let x' := { x with lineA := (v :: x.lineA).take 127, lineB := (v :: x.lineB).take 127 }
  match x.xf with
  | none => let o := run x.holds 0; (o.1, x', o.2)
  | some f =>
    if f.done < f.len then
      let o := run x.holds 0
      let n := run f.target 1
      let y := fadeOut a f.len f.done o.1 n.1
      (y.1, { x' with xf := some { f with done := f.done + 1 } }, joinLog (joinLog o.2 n.2) y.2)
    else let n := run f.target 0; (n.1, x', n.2)

/-- The settling flag of a receive output: the counted outputs after a reset (R93). -/
def settleRx (x : SlotPath) (y : Smp) : Smp × SlotPath :=
  if x.rxSettle = 0 then (y, x) else ({ y with settle := true }, { x with rxSettle := x.rxSettle - 1 })

/-- May the detector or the spectrum take an output: no flag, no poison (R118, R199)? -/
def usable (y : Smp) : Bool := !y.poison && !y.settle && !y.invalid

/-- The power detector takes a usable output while the channel receives (R117, R118). -/
def detectStep (a : Nat) (receives : Bool) (x : SlotPath) (y : Smp) : SlotPath :=
  if !usable y || !receives then x
  else
    let sum := x.detSum + (y.re * y.re + y.im * y.im).toNat
    if x.detCnt + 1 = 2 ^ a then { x with detSum := 0, detCnt := 0, detDone := x.detDone ++ [(sum, a)] }
    else { x with detSum := sum, detCnt := x.detCnt + 1 }

/-- The receive side of a slot over a block at CSR: mix, chain, FIR, flags, detector (stages 7–10).
`n0` is the sample time of the block's first sample on the grid of the frame count. -/
def rxSlotBlock (cfg : SMap Nat) (a : At) (g : Nat) (receives : Bool) (n0 : Nat) (x : SlotPath) (xs : List Smp) : SlotPath × Log :=
  let k := kOf cfg g
  let w := ncoWord (rxNco cfg g)
  let r := xs.zipIdx.foldl (fun (st : SlotPath × List Smp × Log) (v, i) =>
    let a := { a with slot := g % 8, pos := i }
    let x := st.1
    let m := mixDown a v x.rxPhase
    let d := decimate a k k (n0 + i) x.rxChain m.1
    let x := { x with rxPhase := x.rxPhase + w, rxChain := d.1 }
    let log := joinLog st.2.2 (joinLog m.2 d.2.2)
    match d.2.1 with
    | none => (x, st.2.1, log)
    | some y =>
      let f := firStep a x y
      let z := settleRx f.2.1 f.1
      (z.2, z.1 :: st.2.1, joinLog log f.2.2)) (x, [], {})
  let outs := r.2.1.reverse
  let outs := if outs.any (·.poison) then outs.map poisoned else outs
  let x := outs.foldl (detectStep (cfgNat cfg (sigIdx (g / 8) 9) (g % 8 + 9)) receives) r.1
  ({ x with rxHold := outs }, r.2.2)

/-- The transmit side of a slot over a block: gain (m = 16), chain, mix (stages 1–3); its 72 samples at CSR. -/
def txSlotBlock (cfg : SMap Nat) (a : At) (g mult : Nat) (poison : Bool) (n0 : Nat) (x : SlotPath) : SlotPath × List Smp × Log :=
  let k := kOf cfg g
  let w := ncoWord (txNco cfg g)
  let a := { a with slot := g % 8 }
  let ins := if poison then x.txIn.map poisoned else x.txIn
  let q := split (ins.zipIdx.map fun (v, i) => formSmp { a with pos := i } 8 16 (pairScale mult (pairOf v)) (joinTags v {}))
  let r := (List.range 72).foldl (fun (st : SlotPath × List Smp × List Smp × Log) i =>
    let a := { a with pos := i }
    let x := st.1
    let o := interpolate a 9 k k (n0 + i) x.txChain st.2.2.1
    let y := if x.txSettle = 0 then o.2.2.1 else { o.2.2.1 with settle := true }
    let z := mixUp a 0xA 0 y x.txPhase
    ({ x with txChain := o.1, txPhase := x.txPhase + w, txSettle := x.txSettle - 1 }, z.1 :: st.2.1, o.2.1, joinLog st.2.2.2 (joinLog o.2.2.2 z.2)))
    (x, [], q.1, q.2)
  ({ r.1 with txIn := [] }, r.2.1.reverse, r.2.2.2)

/-- Sum of transmit contributions, saturated, then the LO-leakage correction (stages 4 and 5, R80). -/
def sumLeak (a : At) (leak : Int × Int) (parts : List (List Smp)) : List Smp × Log :=
  split ((List.range 72).map fun i =>
    let vs := parts.map fun p => p.getD i {}
    let a := { a with slot := 8, pos := i }
    let y := formSmp a 0xB 0 (pairSum (vs.map pairOf)) (tagsOf vs)
    let z := formSmp a 0xC 0 (pairAdd (pairOf y.1) (pairOf (mkSmp leak.1 leak.2))) (joinTags y.1 {})
    (z.1, joinLog y.2 z.2))

/-! ### A channel's block -/

/-- What one computation of a channel's block gives. -/
structure Work where
  chan : Chan
  slots : List (Nat × SlotPath)
  /-- transmit contributions by global slot -/
  parts : List (Nat × List Smp)
  /-- some output carries poison -/
  rxPoison : Bool
  txPoison : Bool
  /-- a reference word failed its entry check -/
  refBad : Bool
  /-- saturations and failed checks -/
  log : Log
  deriving DecidableEq, Repr

/-- A receive block of 72 samples; a channel that began to compute after the block was collected has none valid. -/
def fullBlock (xs : List Smp) : List Smp := xs ++ List.replicate (72 - xs.length) ({ invalid := true } : Smp)

/-- Settling flags of the CSR outputs after a channel reset (R93): while more than `low` of the count are left. -/
def flagFresh (left low : Nat) (xs : List Smp) : List Smp :=
  xs.zipIdx.map fun (x, i) => if i + low < left then { x with settle := true } else x

/-- The paths of a channel whose tap line the block moves. -/
def livePaths (cfg : SMap Nat) (ch : Nat) : List Nat := (List.range 8).filter (pathInUse cfg ch)

/-- A channel's canceller paths after a block, by number: new tap line and rotator phase. -/
def movePaths (ws : List PathWork) (line : PathWork → List Smp) (c : Canceller) : Canceller :=
  { c with paths := ws.foldl (fun ps w => smMod {} ps w.p fun x => { x with line := line w, rotPhase := w.phase }) c.paths }

/-- The tap line of a path after a block. -/
def lineOfWork (w : PathWork) : List Smp := (w.track.reverse).take 31

/-- Receive samples of the block after stage 6, with the entry check of the references. Of a poisoned block they are
zeros tagged with poison: the tap lines are filled with tagged entries, the DC notch estimate is left alone, and
the IQ correction's line holds zeros (R131, R136, log 38). -/
def receiveCsr (inp : FrameInput) (s : State) (a : At) (ch : Nat) (poison : Bool) : Chan × List Smp × Bool × Log :=
  let c := getChan s ch
  let cfg := s.objs
  let ws := (livePaths cfg ch).map (pathWork inp s a ch)
  if poison then
    ({ c with
       canc := dropWindow (movePaths ws (fun _ => poisonZeros 31) c.canc)
       iqLine := [], csrSettle := c.csrSettle - 72, tap5 := poisonZeros 72, tap6 := poisonZeros 72 }, poisonZeros 72, false, {})
  else
    let n := notchBlock a (cfgNat cfg (sigIdx ch 0) 1) c.radio.st.receives (c.notchRe, c.notchIm) (fullBlock c.rxIn)
    let q := iqBlock a c.cal.iqTaps (cfgBool cfg (sigIdx ch 0) 2) c.iqLine n.2.1
    let five := flagFresh c.csrSettle 31 q.1
    let y := cancelBlock a ws five
    let six := flagFresh c.csrSettle 0 y.1
    let out := if six.any (·.poison) then six.map poisoned else six
    ({ c with
       canc := observeBlock s ch ws out (movePaths ws lineOfWork c.canc)
       tap5 := five, tap6 := out, notchRe := n.1.1, notchIm := n.1.2, iqLine := lineAfter 7 c.iqLine n.2.1
       csrSettle := c.csrSettle - 72 },
     out, ws.any (·.bad), joinLogs ([n.2.2, q.2] ++ ws.map (·.log) ++ [y.2]))

/-- One computation of a channel's block (R129–R131): `prx` and `ptx` for the write-back of a poisoned receive or
transmit half, `second` for the recomputation. Stages 4 and 5 saturate in what is released (`releaseChannel`). -/
def computeWork (inp : FrameInput) (s : State) (ch : Nat) (prx ptx second : Bool) : Work :=
  let cfg := s.objs
  let n0 := 72 * (s.clk.frame + 3)
  let t0 := 72 * s.clk.frame
  let a : At := { ds := inp.damage.filter (·.ch == ch), second }
  let r := receiveCsr inp s a ch prx
  let rx := ((chanSlots ch).filter (rxActive cfg)).map fun g =>
    (g, rxSlotBlock cfg a g r.1.radio.st.receives n0 (getSlot s g) r.2.1)
  let base (g : Nat) : SlotPath := match rx.find? (·.1 == g) with | some x => x.2.1 | none => getSlot s g
  let tx := ((chanSlots ch).filter (txActive cfg)).map fun g =>
    (g, txSlotBlock cfg a g (getGain s g).mult ptx t0 (base g))
  let slots := (chanSlots ch).filterMap fun g =>
    match tx.find? (·.1 == g) with
    | some x => some (g, x.2.1)
    | none => (rx.find? (·.1 == g)).map fun x => (g, x.2.1)
  let parts := tx.map fun x => (x.1, x.2.2.1)
  let sum := sumLeak a r.1.cal.loLeak ((parts.filter fun x => !slotMuted s x.1).map (·.2))
  let rlog := joinLogs (r.2.2.2 :: rx.map fun x => x.2.2)
  let sides := joinLogs (tx.map fun x => x.2.2.2)
  let tlog := joinLog sides sum.2
  let err := (a.ds.filter fun d => d.stage == 0xB || d.stage == 0xC).map fun d =>
    if second then { d with first := d.second, flip1 := d.flip2 } else d
  let chan := { r.1 with rxSat := sat32 (r.1.rxSat + rlog.sats), txSat := sat32 (r.1.txSat + sides.sats), txErr := err }
  { chan, slots, parts, rxPoison := rx.any (fun x => x.2.1.rxHold.any (·.poison)) || r.2.1.any (·.poison),
    txPoison := ptx || parts.any fun x => x.2.any (·.poison), refBad := r.2.2.1, log := joinLog rlog tlog }

/-- The state with a block's work written back. -/
def writeBack (s : State) (ch : Nat) (w : Work) : State :=
  let carried := fun (g : Nat) (x : SlotPath) =>
    x.rxHold.any (fun v => v.settle || v.invalid) || (w.parts.find? (·.1 == g)).any (fun p => p.2.any fun v => v.settle || v.invalid)
  let s := modChan s ch fun c => { w.chan with nines := c.nines, txParts := w.parts, txHeld := true, txPoison := w.txPoison }
  w.slots.foldl (fun s x => modSlot s x.1 fun _ => { x.2 with carriedSettle := carried x.1 x.2 }) s

/-- The same for a poisoned block: the DC notch estimate stays as it was (R131). -/
def writeBackPoisoned (s : State) (ch : Nat) (w : Work) : State :=
  let c := getChan s ch
  writeBack s ch { w with chan := { w.chan with notchRe := c.notchRe, notchIm := c.notchIm } }

end Sys2Proof.Machine
end

