-- ==== Sys2Proof/Machine/Nines.lean ====
section
/-! DEFINITION. Nines.lean: verdicts, recomputation and poisoning of a frame's blocks (R129–R141). -/

namespace Sys2Proof.Machine

/-- The word of B+0xE:09: injected flag, carrier slot (8 = channel-wide reads 0xFF), stage code. -/
def failWord (injected : Bool) (slot stage : Nat) : Nat :=
  (b2n injected) * 2 ^ 23 + (if slot < 8 then slot else 0xFF) * 256 + stage

/-- A failing block recorded in B+0xE:09–0A. -/
def recordFailure (s : State) (ch word : Nat) : State :=
  modNines s ch fun n => { n with lastFail := word, lastFrame := s.clk.frame }

/-- A block counted under R137: the rod's Nines poison source, the persistence count and the record. -/
def countPoisoned (s : State) (ch word : Nat) : State :=
  let s := ninesEvent s ch
  let s := modRod s (ch / 16) fun r =>
    { r with ninesLog := match r.ninesLog with
        | (f, n) :: rest => if f = s.clk.frame then (f, n + 1) :: rest else (s.clk.frame, 1) :: (f, n) :: rest
        | [] => [(s.clk.frame, 1)] }
  tallyEvent s 0x0201 (srcField 2 ch) [word]

/-- Does a stage run in the channel's block now: the slot has the side that uses it (Tables 3.1, 3.2)? -/
def stageRuns (s : State) (ch slot stage : Nat) : Bool :=
  let g := 8 * ch + slot
  let k := kOf s.objs g
  match stage with
  | 1 | 2 | 3 | 0xB | 0xC => true
  | 4 | 6 => rxActive s.objs g
  | 5 => rxActive s.objs g && decide (0 < k)
  | 7 => rxActive s.objs g && (getSlot s g).xf.isSome
  | 8 | 0xA => txActive s.objs g
  | 9 => txActive s.objs g && decide (0 < k)
  | _ => false

/-- Where an injected failure of a stage lies (R141): channel-wide stages have no slot; of a per-slot stage the
model takes the lowest slot in which the stage runs in this block, and none, recorded as 0xFF, where it runs in
no slot: the failure is injected all the same. DESIGN CHOICE, unsafe: the spec names neither (log 40). -/
def injectSlot (s : State) (ch stage : Nat) : Nat :=
  if [1, 2, 3, 0xB, 0xC].contains stage then 8 else ((List.range 8).find? fun i => stageRuns s ch i stage).getD 8

/-- The first of some failed checks, as (stage, slot): by stage code, which follows the path, then by slot
(DESIGN CHOICE, log 40: the spec orders no slots). -/
def firstFailure (fails : List (Nat × Nat)) : Option (Nat × Nat) :=
  (sortBy (fun a b => decide (a.1 * 16 + a.2 ≤ b.1 * 16 + b.2)) fails).head?

/-- The failed checks of a computation with the injected one (R141): it fails the named stage's check alone. -/
def withInjected (inject : Option (Nat × Nat)) (w : Work) : List (Nat × Nat) := inject.toList ++ w.log.fails

/-- Working state of one rod's frame: the machine and the recompute slots taken (R129). -/
abbrev RodRun := State × Nat

/-- A block counted as poisoned with its record, by the counter that names why. -/
def countLost (s : State) (ch word : Nat) (f : Nines → Nines) : State := countPoisoned (modNines s ch f) ch word

/-- The failure recorded where a stage check of the block failed. -/
def recordFails (s : State) (ch : Nat) (inject : Option (Nat × Nat)) (fails : List (Nat × Nat)) : Nat × State :=
  match firstFailure fails with
  | none => (0, s)
  | some f =>
    let word := failWord (inject == some f) f.2 f.1
    (word, recordFailure s ch word)

/-- A block with poison among its inputs (R132): no recomputation. Each half that carries the poison is poisoned, the
receive half in each carrier slot it reaches (R25, Table 5.1, log 40); where a stage check fails besides, an injected
failure as a real one (R141), it is recorded and both halves are poisoned. -/
def inheritedBlock (inp : FrameInput) (s : State) (ch : Nat) (inject : Option (Nat × Nat)) (entry inherited : Bool) (w : Work) : State :=
  let s := if inherited then modNines s ch fun n => { n with inherited := inc32 n.inherited } else s
  let w := if entry then computeWork inp s ch true false false else w
  let fails := withInjected inject w
  if fails.isEmpty then writeBackPoisoned s ch w
  else
    writeBackPoisoned (recordFails s ch inject fails).2 ch (computeWork inp s ch true true false)

/-- A block whose check failed (R129, R130): recomputed in a free recompute slot from the same inputs, or poisoned. -/
def failedBlock (inp : FrameInput) (st : RodRun) (ch : Nat) (inject : Option (Nat × Nat)) (double : Bool) (fails : List (Nat × Nat)) : RodRun :=
  let r := recordFails st.1 ch inject fails
  let s := r.2
  let lost (s : State) : State := writeBackPoisoned s ch (computeWork inp s ch true true false)
  if (inp.parity.any fun h => h.region == 4 && h.ch == ch) || decide (2 ≤ st.2) then
    (lost (countLost s ch r.1 fun n => { n with noSlot := inc32 n.noSlot }), st.2)
  else
    let w := computeWork inp s ch false false true
    if (double && inject.isSome) || !w.log.fails.isEmpty then
      (lost (countLost s ch r.1 fun n => { n with poisonedAfter := inc32 n.poisonedAfter }), st.2 + 1)
    else
      let s := tallyEvent (modNines s ch fun n => { n with recomputed := inc32 n.recomputed }) 0x0200 (srcField 2 ch) [r.1]
      (writeBack s ch w, st.2 + 1)

/-- The block of one channel: computed, recomputed or poisoned (R129–R132, R141). The NCO phases and every other
state of a channel that computes no block stand still (DESIGN CHOICE, log 40). -/
def ninesBlock (inp : FrameInput) (st : RodRun) (ch : Nat) : RodRun :=
  let s := st.1
  if !computes s ch then st else
  let inj := (getChan s ch).nines.inject
  let inject := if inj % 4 = 0 then none else some (inj / 256, injectSlot s ch (inj / 256))
  let w := computeWork inp s ch false false false
  let rxEntry := (getChan s ch).rxIn.any (·.poison)
  let entry := rxEntry || w.refBad
  let inherited := (w.rxPoison && !entry) || w.txPoison
  let s := modNines s ch fun n => { n with checked := n.checked + 1, inject := if inject.isSome then 0 else n.inject }
  let s := if w.refBad && !rxEntry then
      let word := failWord false 8 0x10
      countLost (recordFailure s ch word) ch word fun n => { n with entryFail := inc32 n.entryFail }
    else s
  if entry || inherited then (inheritedBlock inp s ch inject entry inherited w, st.2)
  else
    let fails := withInjected inject w
    if fails.isEmpty then (writeBack s ch w, st.2) else failedBlock inp (s, st.2) ch inject (inj % 4 == 2) fails

/-- The blocks of every rod that runs, in channel-slot order (R129). -/
def ninesFrame (inp : FrameInput) (s : State) : State :=
  forEach (List.range 6) s fun s r =>
    if (getRod s r).powered && !(getRod s r).restarting then
      ((rodChannels r).foldl (ninesBlock inp) (s, 0)).1
    else s

/-- The persistence source of a rod: 64 counted blocks in the last 4,096 frames (R138). -/
def ninesPersistent (s : State) (r : Nat) : Bool :=
  decide (64 ≤ sumMap ((getRod s r).ninesLog.filter fun e => decide (s.clk.frame < e.1 + 4096)) (·.2))

/-- Entries that no longer count are dropped, and the source's level follows (R138). -/
def ninesPersistence (s : State) : State :=
  forEach (List.range 6) s fun s r =>
    let s := if (getRod s r).ninesLog.isEmpty then s else
      modRod s r fun x => { x with ninesLog := x.ninesLog.filter fun e => decide (s.clk.frame < e.1 + 4096) }
    if (smGet false s.flt.lines (193 + 6 * r)) != ninesPersistent s r then setLine s (193 + 6 * r) (ninesPersistent s r) else s

/-- ROD_DIE_EXIT_FAILURE (R134, R160): the rod die reports that the block output at `frame` failed its exit check
and was replaced by zeros before the interpolators; it is counted, the rod's Nines poison source sets, and the
block's samples in the channel reference become clean zeros. -/
def execRodDieExitFailure (ch frame : Nat) (s : State) : Host.Outcome State Fault Refusal :=
  if !(s.exitReports.contains (ch, frame)) then .next s else
  let word := failWord false 8 0x0E
  let s := { s with exitReports := s.exitReports.erase (ch, frame) }
  let s := modNines s ch fun n => { n with exitFail := inc32 n.exitFail, lastFail := word, lastFrame := frame }
  let pos := 72 * (s.clk.frame - frame)
  let s := modChan s ch fun c =>
    { c with ref := c.ref.zipIdx.map fun (x, i) => if pos ≤ i ∧ i < pos + 72 then {} else x }
  .next (countPoisoned s ch word)

end Sys2Proof.Machine
end

