-- ==== Sys2Proof/Machine/Gain.lean ====
section
/-! DEFINITION. Gain.lean: licence record fields (Table 11.1), gains at the antenna reference points
(R181, R182), the cap stack and the effective gain (R201–R204, R388). Levels are in 0.01 dB; effective
gains and the governor cap in 0.01 dB / 10,240 ("fine"). -/

namespace Sys2Proof.Machine

/-! ### Licence record fields -/

/-- A band record of the licence shadow, as 44 words. -/
def licRecord (s : State) (r : Nat) : List Word := smGet [] s.lic.shadow r

def recWord (rec : List Word) (i : Nat) : Nat := (rec.getD i 0).toNat

/-- The record CRC of Table 11.1. -/
def recCrcOk (rec : List Word) : Bool :=
  crcOut (crcWords 0xFFFFFFFF#32 (rec.take 11 ++ (rec.take 44).drop 12)) == rec.getD 11 0

/-- A record takes part while present, not revoked, and its CRC holds (R265). -/
def recPresent (rec : List Word) : Bool :=
  rec.length == 44 && bit (recWord rec 0) 31 && !bit (recWord rec 0) 30 && recCrcOk rec

/-- A record that its objects report: its present bit is set and its CRC holds, revoked or not (R284). -/
def recShown (rec : List Word) : Bool := rec.length == 44 && bit (recWord rec 0) 31 && recCrcOk rec

def recEnforced (rec : List Word) : Bool := bit (recWord rec 0) 29
def recLastKnown (rec : List Word) : Bool := bit (recWord rec 0) 28
def recReplay (rec : List Word) : Bool := bit (recWord rec 0) 27
def recEntries (rec : List Word) : Nat := bits (recWord rec 0) 23 16
def recDuty (rec : List Word) : Nat := bits (recWord rec 0) 15 8
def recDlLow (rec : List Word) : Nat := recWord rec 1
def recDlHigh (rec : List Word) : Nat := recWord rec 2
def recUlLow (rec : List Word) : Nat := recWord rec 3
def recUlHigh (rec : List Word) : Nat := recWord rec 4
def recMaxCarrier (rec : List Word) : Int := toSigned 16 (bits (recWord rec 5) 31 16)
def recMaxTotal (rec : List Word) : Int := toSigned 16 (bits (recWord rec 5) 15 0)
def recMaxGain (rec : List Word) : Int := bits (recWord rec 6) 31 16
def recTxExt (rec : List Word) : Int := toSigned 16 (bits (recWord rec 6) 15 0)
def recRxExt (rec : List Word) : Int := toSigned 16 (bits (recWord rec 7) 31 16)
def recMinMargin (rec : List Word) : Int := bits (recWord rec 7) 15 0
def recCredit (rec : List Word) : Int := bits (recWord rec 8) 31 16
def recNoiseLimit (rec : List Word) : Int := bits (recWord rec 8) 15 0
def recRefPower (rec : List Word) : Int := toSigned 16 (bits (recWord rec 9) 31 16)
def recCellNoise (rec : List Word) : Int := bits (recWord rec 9) 15 0
def recEmission (rec : List Word) : Int := toSigned 16 (bits (recWord rec 10) 31 16)

/-- The record bound to a slot, if present in the fuses. -/
def boundRecord (s : State) (cfg : SMap Nat) (g : Nat) : Option (List Word) :=
  let r := licRecord s (recordOf cfg g)
  if recordOf cfg g < 64 ∧ recPresent r then some r else none

/-- A channel's declared external gains: of the records bound to its active sides; 0 where none is bound
(R144, R262). -/
def rxExternal (s : State) (cfg : SMap Nat) (ch : Nat) : Int :=
  (((chanSlots ch).filter (rxActive cfg)).findSome? fun g => (boundRecord s cfg g).map recRxExt).getD 0
def txExternal (s : State) (cfg : SMap Nat) (ch : Nat) : Int :=
  (((chanSlots ch).filter (txActive cfg)).findSome? fun g => (boundRecord s cfg g).map recTxExt).getD 0

/-! ### Roles and spans -/

/-- Does a transmit side serve the downlink (claimed by downlink service)? Does it serve the uplink? -/
def txDownlink (cfg : SMap Nat) (g : Nat) : Bool := txActive cfg g && dlRole cfg (g / 8) == 2
def txUplink (cfg : SMap Nat) (g : Nat) : Bool := txActive cfg g && ulRole cfg (g / 8) == 1
/-- Receive sides claimed by downlink donor and by uplink service. -/
def rxDownlink (cfg : SMap Nat) (g : Nat) : Bool := rxActive cfg g && dlRole cfg (g / 8) == 1
def rxUplink (cfg : SMap Nat) (g : Nat) : Bool := rxActive cfg g && ulRole cfg (g / 8) == 2

/-- RF span of a side in 2^-15 Hz: LO + f ± B/2 (R144). -/
def sideSpan (cfg : SMap Nat) (g : Nat) (tx : Bool) : Int × Int :=
  let c := sideCentre cfg g tx
  let h : Int := bandwidth cfg g * 16384000
  (c - h, c + h)

def spansOverlap (a b : Int × Int) : Bool := decide (a.1 < b.2) && decide (b.1 < a.2)

/-! ### Gains (R181, R182) -/

/-- Amplitude ratio in units of 2⁻⁶⁴ of a gain in 0.01 dB. -/
def ampDb (x : Int) : Nat := ampRatio (x * 10240)

/-- 20·log10 of a ratio in 0.01 dB. -/
def db20 (num den : Nat) : Int := dbOf (num * num) (den * den)

/-- Gain at 0 Hz of the carrier FIR a slot carries: |Σ h| / 2^m (R100). -/
def firGain (x : SlotPath) : Int :=
  let b := bankOf x x.holds
  let r := (bankCoefs b).foldl (fun (a : Int × Int) h => (a.1 + h.1, a.2 + h.2)) (0, 0)
  dbOf (r.1 * r.1 + r.2 * r.2).toNat (2 ^ (2 * hdrM b.header.toNat))

/-- Receive chain with its declared external gain: dBFS at receive stage 3 per dBm at the antenna reference point. -/
def rxChainGain (s : State) (ch : Nat) : Int := (getChan s ch).cal.rxGain + rxExternal s s.objs ch

/-- The same to the carrier-slot output. -/
def rxSideGain (s : State) (g : Nat) : Int := rxChainGain s (g / 8) + firGain (getSlot s g)

/-- Transmit chain with its declared external gain. -/
def txSideGain (s : State) (ch : Nat) : Int := (getChan s ch).cal.txGain + txExternal s s.objs ch

/-- Weight of an uplink input in dB: 20·log10(w/2^15). -/
def weightDb (w : Nat) : Int := db20 w 32768

/-- Gain of each input of an uplink route ahead of the stream: slot inputs, then stream inputs (0 dBFS
in place of 0 dBm, R181). -/
def inputGain (s : State) (g : Nat) : Int := rxSideGain s g + weightDb (rxWeight s.objs g)

/-- Gain from the reference input's antenna reference point to the stream that enters a transmit side
(R181): the source's for a downlink member, the highest input's for an uplink destination. -/
def streamGain (s : State) (g : Nat) : Int :=
  match routeOfTx s.objs g with
  | none => 0
  | some r =>
    if routeUp s.objs r then
      let ins := (slotMembers s.objs r).map (inputGain s) ++ (streamMembers s.objs r).map fun m => weightDb m.weight
      match ins with
      | [] => 0
      | x :: xs => xs.foldl max x
    else if endKind (routeEnd s.objs r) = 0 then rxSideGain s (endSlot (routeEnd s.objs r))
    else 0

/-- G_chain of a transmit side (R182). -/
def chainGain (s : State) (g : Nat) : Int := streamGain s g + txSideGain s (g / 8)

/-- P_in of a side at the reference input's antenna reference point, 0.01 dBm (R202). -/
def inputLevel (s : State) (g : Nat) : Option Int := (getGain s g).pin.map fun p => p - streamGain s g

/-- Effective gain in 0.01 dB, to nearest. -/
def effDb (e : Int) : Int := roundDiv e 10240

/-! ### Caps (Table 8.2) -/

/-- Largest fine value: no cap. -/
def noCap : Int := 32767 * 10240

/-- The loop whose governor cap a transmit side carries: its route, where the route forms a loop. -/
def loopOfTx (s : State) (g : Nat) : Option Nat :=
  match routeOfTx s.objs g with
  | some r => if s.gov.inUse.contains r then some r else none
  | none => none

/-- Governor cap of a side, fine (cap 3). -/
def govCap (s : State) (g : Nat) : Int :=
  match loopOfTx s g with
  | some r => ((getLoop s r).gov).getD noCap
  | none => noCap

/-- Thermal reduction of a rod's sides, 0.01 dB (R388). -/
def sideReduction (s : State) (r : Nat) : Nat := min 1200 ((getZone s (r + 1)).red + (getZone s 0).red)

/-- The six caps of a transmit side, fine, in code order (R201, R388). -/
def capsOf (s : State) (g : Nat) : List Int :=
  let x := getGain s g
  let c1 := cfgVal s.objs (sigIdx (g / 8) 6) (g % 8 + 1) * 10240
  let c2 := x.licCap * 10240
  let c3 := govCap s g
  let c4 := x.nrCap * 10240
  let c6 := x.tunerCap * 10240
  let least := min c1 (min c2 (min c3 (min c4 c6)))
  let red := sideReduction s (g / 128)
  let c5 := if red = 0 then noCap else least - red * 10240
  [c1, c2, c3, c4, c5, c6]

/-- The least of the caps (R203). -/
def leastCap (caps : List Int) : Int := caps.foldl min noCap

/-- The binding cap: the highest code that shares the least value (R204). -/
def bindingCap (caps : List Int) : Nat :=
  (caps.zipIdx.foldl (fun (b : Nat) e => if e.1 == leastCap caps then e.2 + 1 else b) 0)

/-- Rise of E per block boundary: 0.01 dB per ms (R203). -/
def recoveryStep : Int := 3

/-- Fall of G_gov per block boundary under row 4: 1.00 dB per ms (R193). -/
def fallStep : Int := 300

/-- The new effective gain (R203): falls at once, rises by the recovery slew; a side that becomes active or
comes out of a mute takes it from its caps. -/
def nextGain (prev : Option Int) (fresh : Bool) (c : Int) : Int :=
  match prev with
  | none => c
  | some e => if fresh then c else if c ≤ e then c else min c (e + recoveryStep)

/-- Gain multiplier of a gain in fine units relative to the chain (R79, R182): Q2.16, rounded to nearest,
limited at 3.99998; true where limited. -/
def multiplierOf (d : Int) : Nat × Bool :=
  let m := (ampRatio d + 2 ^ 47) / 2 ^ 48
  if m > 0x3FFFF then (0x3FFFF, true) else (m, false)

/-- The greatest gain, fine, that the multiplier's range reaches: 20·log10 of 0x3FFFF and a half over 65,536. -/
def topFine : Int := 12330171

/-- The boundary update of one transmit side (R182, R203, R204): where the multiplier is limited, E is the gain the
side reaches, and it is not the slew that holds it below C. -/
def boundaryGain (s : State) (g : Nat) : State :=
  if !txActive s.objs g then
    if (getGain s g).eff.isSome then
      modGain s g fun x => { x with eff := none, mult := 0, unreachable := false, slewLimited := false, bind := 0, wasMuted := true }
    else s
  else
    let x := getGain s g
    let caps := capsOf s g
    let c := leastCap caps
    let muted := slotMuted s g
    let e := nextGain x.eff (x.wasMuted && !muted) c
    let chain := chainGain s g * 10240
    let m := multiplierOf (e - chain)
    modGain s g fun x =>
      { x with
        eff := some (if m.2 then chain + topFine else e), mult := m.1, unreachable := m.2
        slewLimited := !m.2 && decide (e < c), bind := bindingCap caps, wasMuted := muted }

/-- One loop's slew at a block boundary (R194). -/
def boundarySlew (l : Loop) : Loop :=
  match l.gov with
  | none => l
  | some v =>
    if l.slew < 0 then { l with gov := some (v - fallStep) }
    else if l.slew > 0 then { l with gov := some (max v (min l.slewTo (v + recoveryStep))) }
    else l

/-- Every loop's slew and every transmit side's gain at a block boundary (R182, R194, R203). -/
def boundaryGains (s : State) : State :=
  let s := forEach (s.gov.inUse.filter fun r => (getLoop s r).slew != 0) s fun s r => modLoop s r boundarySlew
  let sides := txSlots s.objs ++ (s.gains.map (·.1)).filter fun g => !txActive s.objs g
  forEach sides s boundaryGain

end Sys2Proof.Machine
end

