-- ==== Sys2Proof/Machine/Loops.lean ====
section
/-! DEFINITION. Loops.lean: the loops of the gain governor (ch. 8): formation at a commit, the margin and
the credit of a loop, the loop mute and its release. Levels are in 0.01 dB unless a name says fine. -/

namespace Sys2Proof.Machine

/-! ### Membership (R183) -/

/-- Local receive sides of a route: a downlink route's source, an uplink route's slot inputs. -/
def loopRx (cfg : SMap Nat) (r : Nat) : List Nat :=
  if routeUp cfg r then slotMembers cfg r
  else if endKind (routeEnd cfg r) = 0 then [endSlot (routeEnd cfg r)] else []

/-- Local transmit sides: a downlink route's slot members, an uplink route's destination. -/
def loopTx (cfg : SMap Nat) (r : Nat) : List Nat :=
  if !routeUp cfg r then slotMembers cfg r
  else if endKind (routeEnd cfg r) = 0 then [endSlot (routeEnd cfg r)] else []

/-- The routes that form a loop. -/
def loopRoutes (cfg : SMap Nat) : List Nat :=
  (routesInUse cfg).filter fun r => !(loopRx cfg r).isEmpty && !(loopTx cfg r).isEmpty

/-- Is the loop under a loop mute or locked out? -/
def Loop.isMuted (l : Loop) : Bool := l.mutedAt.isSome || l.locked

/-- Oscillation flag of a receive side. -/
def oscFlag (s : State) (g : Nat) : Bool := (getGain s g).osc.flag

/-- Is the output of a route to its streams zeroed (R195, R200)? -/
def streamsZeroed (s : State) (r : Nat) : Bool :=
  (getLoop s r).isMuted || (!s.gov.inUse.contains r && (loopRx s.objs r).any (oscFlag s))

/-! ### Margin (R186–R191) -/

/-- What the governor credits one receive side with: coupling loss in use and its source, credited depth
and its limit (Table 8.6). -/
structure Credit where
  lc : Int
  src : Nat
  dcr : Int
  limit : Nat
  deriving DecidableEq, Repr

/-- Declared isolation of a receive side (R184). -/
def declaredIso (cfg : SMap Nat) (g : Nat) : Int := cfgVal cfg (0x7020 + g / 8) (g % 8 + 0x11)

/-- The paths of a receive side's canceller that count for a loop (R188, R190). -/
def creditPaths (s : State) (r g : Nat) : List Nat :=
  let chans := (loopTx s.objs r).map (· / 8)
  (List.range 8).filter fun p =>
    let ref := pathRef s.objs (g / 8) p
    let st := (getPath s (g / 8) p).st
    (ref == 0x1000 + r || (decide (ref < 96) && chans.contains ref)) && (st == 2 || st == 3 || st == 4)

/-- Transmit chain gain of a path's reference: its channel's, or that of the route's lowest-numbered
transmit side (log 15). -/
def refTxGain (s : State) (r ref : Nat) : Int :=
  if ref < 96 then txSideGain s ref
  else match loopTx s.objs r with | g :: _ => txSideGain s (g / 8) | [] => 0

/-- Measured coupling loss of a receive side over the paths that count (R188); none without a reference. -/
def measuredLoss (s : State) (r g : Nat) : Option Int :=
  let terms := (creditPaths s r g).filterMap fun p =>
    let x := getPath s (g / 8) p
    if x.pr = 0 then none
    else some ((x.pest + x.pcr) * 2 ^ 64 / x.pr * 2 ^ 64 / powRatio (refTxGain s r (pathRef s.objs (g / 8) p)))
  let sum := sumMap terms id
  if sum = 0 then none else some (rxChainGain s (g / 8) - dbOfPow sum)

/-- Loop depth of a receive side (R189); none where no path counts. -/
def loopDepth (s : State) (r g : Nat) : Option Int :=
  let ps := (creditPaths s r g).map (getPath s (g / 8))
  if ps.isEmpty then none
  else
    let est := sumMap ps (·.pest)
    let left := sumMap ps fun x => max x.pcr (x.pest * 2 ^ 64 / powRatio x.depth)
    some (if est = 0 then 0 else dbOf est (max left 1))

/-- Coupling loss and credit of a receive side in loop `r` (R188, R189). -/
def creditOf (s : State) (r g : Nat) : Credit :=
  let decl := declaredIso s.objs g
  let l : Int × Nat := match measuredLoss s r g with
    | some m => if m < decl then (m, 1) else (decl, 0)
    | none => (decl, 0)
  let lic := ((boundRecord s s.objs g).map recCredit).getD 0
  match loopDepth s r g with
  | none => { lc := l.1, src := l.2, dcr := 0, limit := 3 }
  | some d =>
    if d ≤ lic ∧ d ≤ 4000 then { lc := l.1, src := l.2, dcr := d, limit := 0 }
    else if lic ≤ 4000 then { lc := l.1, src := l.2, dcr := lic, limit := 1 }
    else { lc := l.1, src := l.2, dcr := 4000, limit := 2 }

/-- Effective target M_t (R191). -/
def loopTarget (s : State) (r : Nat) : Int :=
  let own := match loopRx s.objs r with
    | g :: _ => ((boundRecord s s.objs g).map recMinMargin).getD 0
    | [] => 0
  max (cfgVal s.objs 0x7000 1) own

/-- The highest effective gain among local transmit sides of one direction that overlap a receive side's
span, muted or not (R186, R187), fine; `but` is left out. -/
def topGain (s : State) (up : Bool) (g : Nat) (but : Option Nat := none) : Option Int :=
  let span := sideSpan s.objs g false
  let es := (txSlots s.objs).filterMap fun t =>
    if (if up then txUplink s.objs t else txDownlink s.objs t) && spansOverlap (sideSpan s.objs t true) span && but != some t
    then (getGain s t).eff else none
  match es with
  | [] => none
  | x :: xs => some (xs.foldl max x)

/-- What one evaluation of a loop gives: margin (none with no radiating side), target, coupling and
credit shown, loop gain (fine), row 5 ceiling and restart gain. -/
structure Eval where
  m : Option Int
  mt : Int
  cr : Credit
  gl : Option Int
  ceil : Int
  restart : Int
  deriving DecidableEq, Repr

/-- Sum of amplitudes 10^(x/20), in units of 2⁻⁶⁴, as a level. -/
def coherentSum (xs : List Int) : Int := db20 (sumMap xs ampDb) (2 ^ 64)

/-- One input of an uplink loop (R187): the highest gain of the other overlapping uplink sides, the difference of
its receive chain and weight from the reference input's, and what it is credited with. -/
structure UpInput where
  other : Option Int
  diff : Int
  credit : Credit
  deriving DecidableEq, Repr

/-- G_j of an input when T's effective gain is `e`, 0.01 dB (R187). -/
def inputLoopGain (x : UpInput) (e : Int) : Int := (match x.other with | some o => max e o | none => e) + x.diff

/-- The margin of an uplink loop at an effective gain of T, with or without credit (R187, R195). -/
def upMargin (xs : List UpInput) (credited : Bool) (e : Int) : Int :=
  -coherentSum (xs.map fun x => inputLoopGain x e - x.credit.lc - (if credited then x.credit.dcr else 0))

/-- The highest gain of T, 0.01 dB, at which an uplink loop's margin is still `m`: `n` halvings above `lo` (R193, R195). -/
def upCeiling (xs : List UpInput) (credited : Bool) (m : Int) : Nat → Int → Int
  | 0, lo => lo
  | n + 1, lo =>
    let e := lo + 2 ^ n
    if m ≤ upMargin xs credited e then upCeiling xs credited m n e else upCeiling xs credited m n lo

/-- One loop evaluated on the values in force (R186, R187, R195). -/
def evalLoop (s : State) (r : Nat) : Eval :=
  let mt := loopTarget s r
  if routeUp s.objs r then
    let t := ((loopTx s.objs r).headD 0)
    let et := (getGain s t).eff
    let ins := (loopRx s.objs r).map fun j =>
      ({ other := (topGain s true j (some t)).map effDb, diff := inputGain s j - streamGain s t, credit := creditOf s r j } : UpInput)
    let term (x : UpInput) : Int := (match et with | some e => inputLoopGain x (effDb e) | none => x.diff) - x.credit.lc - x.credit.dcr
    let worst := match ins with
      | [] => { lc := -32768, src := 0, dcr := 0, limit := 3 : Credit }
      | x :: xs => (xs.foldl (fun b y => if term y > term b then y else b) x).credit
    { m := et.map fun e => upMargin ins true (effDb e), mt, cr := worst, gl := et,
      ceil := upCeiling ins true (mt + 200) 16 (-32768), restart := upCeiling ins false (mt + 200) 16 (-32768) }
  else
    let g := (loopRx s.objs r).headD 0
    let c := creditOf s r g
    let gl := topGain s false g
    { m := gl.map fun e => c.lc + c.dcr - effDb e, mt, cr := c, gl,
      ceil := c.lc + c.dcr - mt - 200, restart := c.lc - mt - 200 }

/-! ### Records, mutes and release (R195, R196, R206) -/

/-- A Tally record of a loop: margin, credit, governor cap, row. -/
def loopRecord (s : State) (r code : Nat) (e : Eval) (row : Nat) : State :=
  tallyEvent s code (srcField 5 r)
    [argI (e.m.getD (-32768)), argI e.cr.dcr, argI (effDb (((getLoop s r).gov).getD noCap)), row]

/-- Rod of a loop's lowest-numbered local receive side. -/
def loopRod (s : State) (r : Nat) : Nat := ((loopRx s.objs r).headD 0) / 128

/-- The loop mute of every local transmit side of loop `r`. -/
def muteSides (s : State) (r : Nat) : State := forEach (loopTx s.objs r) s fun s g => addMute s (.loop r) (.slot g)

/-- Rows 1 and 2 of Table 8.1, and the lock-out of R196. -/
def loopMute (s : State) (r row : Nat) (e : Eval) : State :=
  let now := s.gov.tick
  let s := modLoop s r fun l =>
    { l with gov := some (e.restart * 10240), st := 5, mutedAt := some now, comfort := none, slew := 0,
             mutes := now :: l.mutes.filter fun t => decide (now < t + 60000) }
  let s := muteSides s r
  let s := if row = 1 then { s with gov := { s.gov with oscMutes := inc32 s.gov.oscMutes } }
    else { s with gov := { s.gov with marginMutes := inc32 s.gov.marginMutes } }
  let s := faultEvent (loopRecord s r 0x0502 e row) (194 + 6 * loopRod s r)
  if 3 ≤ (getLoop s r).mutes.length then
    let s := modLoop s r fun l => { l with locked := true, st := 6 }
    faultEvent (loopRecord s r 0x0504 e row) (194 + 6 * loopRod s r)
  else s

/-- A loop mute or lock-out ends: the loop radiates at its restart gain and its comfort time starts. -/
def loopUnmute (s : State) (r : Nat) (e : Eval) : State :=
  let now := s.gov.tick
  let s := modLoop s r fun l =>
    { l with gov := some (e.restart * 10240), st := 1, mutedAt := none, locked := false, comfort := some now, slew := 0 }
  loopRecord (dropMute s (.loop r)) r 0x0503 e 0

/-- Is every local transmit side of the loop covered by a mute other than a loop mute (R197)? -/
def heldByOthers (s : State) (r : Nat) : Bool :=
  (loopTx s.objs r).all fun g => s.mutes.any fun m =>
    m.scope.coversSlot g && !(match m.owner with | .loop _ => true | _ => false)

/-! ### Loops at a commit boundary (R183, R198, Table 8.3) -/

/-- A loop that is no more, with its mute and its lock-out released under a record (R183). -/
def endLoop (s : State) (r : Nat) : State :=
  let l := getLoop s r
  let s := if l.isMuted then
      tallyEvent (dropMute s (.loop r)) 0x0503 (srcField 5 r) [argI l.margin, argI l.dcr, argI (effDb (l.gov.getD noCap)), 0]
    else s
  modLoop s r fun _ => {}

/-- Routes that have no loop and still carry a loop mute: a commit took their loop's local sides and releases no mute
(R30, R196). -/
def orphanLoops (s : State) : List Nat :=
  (s.gov.loops.filter fun e => e.2.isMuted && !s.gov.inUse.contains e.1).map (·.1)

/-- A loop that a commit forms: at its restart gain, its comfort time begun (R198). A loop mute or lock-out of its route
stands, and covers its sides (R30, R196). -/
def startLoop (s : State) (r : Nat) : State :=
  let e := evalLoop s r
  if (getLoop s r).isMuted then muteSides (modLoop s r fun l => { l with gov := some (e.restart * 10240), comfort := none, slew := 0 }) r
  else modLoop s r fun _ => { gov := some (e.restart * 10240), comfort := some s.gov.tick }

/-- A loop that a commit keeps: a side that joins starts at its caps (R198) and shares its loop mute; one that leaves
keeps that mute until the loop mute ends, since a commit releases no mute (R30). -/
def keepLoop (old : SMap Nat) (s : State) (r : Nat) : State :=
  let s := forEach ((loopTx s.objs r).filter fun g => !(loopTx old r).contains g) s fun s g => modGain s g fun x => { x with eff := none }
  if (getLoop s r).isMuted then muteSides s r else s

/-- The loops formed again from the committed routing: `old` is the configuration before. The loop of a route that is
removed ends; one whose route stays in use without local sides is no loop, and keeps what mutes it. -/
def formLoops (old : SMap Nat) (s : State) : State :=
  let new := loopRoutes s.objs
  let was := s.gov.inUse
  let s := forEach ((was ++ orphanLoops s).filter fun r => !routeUsed s.objs r) s endLoop
  let s := forEach (was.filter fun r => !new.contains r && !(getLoop s r).isMuted) s fun s r => modLoop s r fun _ => {}
  let kept := new.filter fun r => was.contains r && routeUp old r == routeUp s.objs r
  let s := forEach kept { s with gov := { s.gov with inUse := new } } (keepLoop old)
  forEach (new.filter fun r => !kept.contains r) s startLoop

end Sys2Proof.Machine
end

