-- ==== Sys2Proof/Machine/Protection.lean ====
section
/-! DEFINITION. Protection.lean: network protection (ch. 9): the Cell Ledger, serving cells, donor loss,
carrier identity, the noise-rise cap, the Cell Finder's fallback and TDD timing groups. -/

namespace Sys2Proof.Machine

/-! ### Searched sides and allow-lists -/

/-- Active receive sides of donor-role channels, ascending: the searched sides, and those that have a
serving cell (R208, R217). -/
def donorSides (cfg : SMap Nat) : List Nat := (rxSlots cfg).filter fun g => dlRole cfg (g / 8) == 1 || ulRole cfg (g / 8) == 1

/-- The searched sides of a rod. -/
def rodSides (cfg : SMap Nat) (r : Nat) : List Nat := (donorSides cfg).filter fun g => g / 128 == r

/-- The uplink donor transmit sides (R219). -/
def uplinkDonors (cfg : SMap Nat) : List Nat := (txSlots cfg).filter fun g => ulRole cfg (g / 8) == 1

/-- The receive side whose serving cell an uplink donor transmit side uses (R218). -/
def servingSide (cfg : SMap Nat) (g : Nat) : Nat :=
  let v := cfgNat cfg (0x70A0 + g / 8) (g % 8 + 0x29)
  if v = 0xFFFF then g else v

/-- Does a cell match the allow-list of a record (R221)? -/
def allowed (rec : List Word) (e : LedgerEntry) : Bool :=
  (List.range (min 16 (recEntries rec))).any fun i =>
    let w := recWord rec (12 + 2 * i)
    let f := recWord rec (13 + 2 * i)
    bits w 31 30 == e.rat && (bit w 29 || bits w 9 0 == e.pci) && decide (f ≤ e.freq + 5) && decide (e.freq ≤ f + 5)

/-- Does the fallback of a side's record hold the last known state (Table 9.5)? -/
def lastKnown (s : State) (g : Nat) : Bool := ((boundRecord s s.objs g).map recLastKnown).getD false

/-! ### The Ledger (R212–R215) -/

def getEntry (s : State) (i : Nat) : LedgerEntry := smGet {} s.prot.ledger i
def modEntry (s : State) (i : Nat) (f : LedgerEntry → LedgerEntry) : State :=
  { s with prot := { s.prot with ledger := smMod {} s.prot.ledger i f } }

/-- The entries that are the serving cell of some side. -/
def servingEntries (s : State) : List Nat := s.gains.filterMap fun e => e.2.serving

/-- Pinned entries, ascending. -/
def pinnedEntries (s : State) : List Nat := (s.prot.ledger.filter fun e => e.2.valid && e.2.pinned).map (·.1)

/-- The lowest free index at or above `i`, given the valid indices still to come. -/
def freeFrom (i : Nat) : List Nat → Nat
  | [] => i
  | j :: js => if j = i then freeFrom (i + 1) js else i

/-- The entry a new cell takes: the lowest free, else the oldest last seen that is neither pinned nor
serving (R214); true where one is replaced. -/
def newEntry (s : State) : Option (Nat × Bool) :=
  let used := s.prot.ledger.filter (·.2.valid)
  let i := freeFrom 0 (used.map (·.1))
  if i < 65536 then some (i, false)
  else
    let serving := servingEntries s
    let cand := used.filter fun e => !e.2.pinned && !serving.contains e.1
    (cand.foldl (fun (b : Option (Nat × LedgerEntry)) e =>
      match b with | none => some e | some x => if e.2.last < x.2.last then some e else b) none).map fun e => (e.1, true)

/-- The RSRP filter R + (M − R)/4 in linear power (R213). -/
def filterRsrp (r m : Int) : Int :=
  if m ≥ r then r + dbOfPow (2 ^ 64 + (powRatio (m - r) - 2 ^ 64) / 4)
  else m + dbOfPow (powRatio (r - m) * 3 / 4 + 2 ^ 62)

/-- One-direction chain delay G(k), 0.01 ns (Table 3.4). -/
def chainDelay : Nat → Int
  | 0 => 0 | 1 => 9359 | 2 => 21566 | 3 => 39469 | 4 => 62256 | _ => 94808

/-- A measured level at a side's output as RSRP at its antenna reference point (R211): less the calibrated receive
chain's gain, the declared external gain and the carrier FIR's. -/
def measuredRsrp (s : State) (g : Nat) (level : Int) : Int := clip16 (level - rxSideGain s g)

/-- Receive latency from the RX_IN ball to a side's output (R89, Table 12.6), rounded to samples at CSR. -/
def receiveLatency (s : State) (g : Nat) : Nat :=
  let k := kOf s.objs g
  let n : Int := hdrN (bankOf (getSlot s g) (getSlot s g).holds).header.toNat
  (roundDiv (129436 * 2304 + chainDelay k * 2304 + (n - 1) * 2 ^ k * 937500 / 2) 937500).toNat

/-- The 10 ms grid in samples at CSR (R211). -/
def gridSamples : Nat := 2457600

/-- Timing offset of a frame boundary at the RX_IN ball: where it stands at the side's output, less the device's own
receive latency. -/
def timingOffset (s : State) (g arrival : Nat) : Nat := (arrival + gridSamples - receiveLatency s g % gridSamples) % gridSamples

/-- The span in which R219 looks for a measurement: 200 ms, or three occasions more than 66 ms apart. -/
def hearSpan (e : LedgerEntry) : Nat := if 66 * msUnits < e.occGap then 3 * e.occGap else 200 * msUnits

/-- An unfiltered measurement kept for each rule that asks for it (R213, R219). -/
def noteMeasurement (s : State) (e : LedgerEntry) (m : Int) : LedgerEntry :=
  { e with raw := m, rawAt := s.time, recent := (s.time, m) :: e.recent.filter fun x => decide (s.time < x.1 + hearSpan e) }

/-- The timers of an index that a new cell takes end: they were another cell's (R217). -/
def dropTimers (s : State) (i : Nat) : State :=
  forEach ((s.gains.filter fun e => e.2.candidate.any (·.1 == i)).map (·.1)) s fun s g =>
    modGain s g fun x => { x with candidate := x.candidate.filter (·.1 != i) }

/-- A detection or measurement of a cell on side `g` updates the Ledger (R213, R214): the entry, where it has one. Fields
that its RAT does not have stay 0 (Table 9.2). -/
def ledgerUpdate (s : State) (g : Nat) (c : CellMeas) : State × Option Nat :=
  let ch := g / 8
  let m := measuredRsrp s g c.level
  let timing := timingOffset s g c.arrival
  let tdd := c.rat == 0 && c.tdd
  let ssb := if c.rat = 0 then 0 else c.ssb % 256
  let hit := s.prot.ledger.find? fun e => e.2.valid && e.2.ch == ch && e.2.rat == c.rat && e.2.pci == c.pci && e.2.freq == c.freq
  match hit with
  | some (i, _) =>
    (modEntry s i fun e => noteMeasurement s
      { e with last := opMs s, detections := min 65535 (e.detections + 1), rsrp := filterRsrp e.rsrp m, sinr := clip16 c.sinr,
               timing, ssb, tdd } m, some i)
  | none =>
    match newEntry s with
    | none => (s, none)
    | some (i, old) =>
      let s := if old then { s with prot := { s.prot with replaced := inc32 s.prot.replaced } } else s
      (modEntry (dropTimers s i) i fun _ => noteMeasurement s
        { valid := true, rat := c.rat, tdd, ch, pci := c.pci, freq := c.freq, rsrp := m, sinr := clip16 c.sinr,
          timing, first := opMs s, last := opMs s, detections := 1, ssb } m, some i)

/-- 0x7082:03 Pin, :04 Unpin, :05 Clear (R215). -/
def pinEntry (s : State) (i : Nat) : Nat × State :=
  if !(getEntry s i).valid then (0x05, s)
  else if !(getEntry s i).pinned && decide (4096 ≤ (pinnedEntries s).length) then (0x05, s)
  else (0, modEntry s i fun e => { e with pinned := true })
def unpinEntry (s : State) (i : Nat) : State := if (getEntry s i).valid then modEntry s i fun e => { e with pinned := false } else s
def clearLedger (s : State) : State :=
  let keep := servingEntries s
  { s with prot := { s.prot with ledger := s.prot.ledger.filter fun e => e.2.pinned || keep.contains e.1 } }

/-- Tracked cells of a rod (R210): serving cells, then pinned entries, lowest index first, at most 128. -/
def trackedCells (s : State) (r : Nat) : List Nat :=
  let serving := (rodSides s.objs r).filterMap fun g => (getGain s g).serving
  let first := sortBy (fun a b => decide (a ≤ b)) serving.eraseDups
  let pins := (pinnedEntries s).filter fun i => (getEntry s i).ch / 16 == r && !first.contains i
  (first ++ pins).take 128

/-! ### Serving cells (R217) -/

/-- Entries that may serve a receive side: on its channel and in its RF span, ascending. -/
def cellsOf (s : State) (g : Nat) : List (Nat × LedgerEntry) :=
  let span := sideSpan s.objs g false
  s.prot.ledger.filter fun e =>
    e.2.valid && e.2.ch == g / 8 && decide (span.1 ≤ (e.2.freq : Int) * 32768000) && decide ((e.2.freq : Int) * 32768000 ≤ span.2)

/-- The strongest of some entries by filtered RSRP, lowest index first. -/
def strongest (es : List (Nat × LedgerEntry)) : Option (Nat × LedgerEntry) :=
  es.foldl (fun (b : Option (Nat × LedgerEntry)) e =>
    match b with | none => some e | some x => if e.2.rsrp > x.2.rsrp then some e else b) none

/-- The candidates that outrank a serving cell by the hysteresis, each with the time since which it does. -/
def outranking (s : State) (g : Nat) (cells : List (Nat × LedgerEntry)) (cur : LedgerEntry) : List (Nat × Nat) :=
  (cells.filter fun e => decide (cur.rsrp + cfgVal s.objs 0x7080 1 < e.2.rsrp)).map fun e =>
    (e.1, match (getGain s g).candidate.find? (·.1 == e.1) with | some c => c.2 | none => s.time)

/-- The serving cell a side should have now, and the candidates that outrank it (R217; log 18). -/
def chooseServing (s : State) (g : Nat) : Option Nat × List (Nat × Nat) :=
  let x := getGain s g
  let sel := cfgNat s.objs (0x70A0 + g / 8) (g % 8 + 0x31)
  let cells := cellsOf s g
  if sel ≠ 0xFFFFFFFF then
    ((cells.find? fun e => e.2.rat == bits sel 11 10 && e.2.pci == bits sel 9 0).map (·.1), [])
  else if (getRod s (g / 128)).fallback then (x.serving, x.candidate)
  else
    let rec0 := boundRecord s s.objs g
    let cells := if (rec0.map recEnforced).getD false then cells.filter fun e => allowed (rec0.getD []) e.2 else cells
    match x.serving.bind fun i => cells.find? fun e => e.1 == i with
    | none => ((strongest cells).map (·.1), [])
    | some cur =>
      if elapsedMs s cur.2.rawAt 200 then
        match strongest (cells.filter fun e => decide (cur.2.rawAt < e.2.rawAt)) with
        | some e => (some e.1, [])
        | none => (some cur.1, [])
      else
        let rivals := outranking s g cells cur.2
        let ripe := rivals.filter fun c => elapsedMs s c.2 (cfgNat s.objs 0x7080 2)
        match strongest (cells.filter fun e => ripe.any fun c => c.1 == e.1) with
        | some e => (some e.1, [])
        | none => (some cur.1, rivals)

/-- Threshold of donor loss of a transmit side, 0.01 dBm. -/
def lossThreshold (cfg : SMap Nat) (g : Nat) : Int := cfgVal cfg (0x70A0 + g / 8) (g % 8 + 0x21)

/-- A measurement of the serving cell as one uplink donor transmit side sees it (R220). -/
def heardBy (s : State) (g : Nat) (m : Int) (at_ : Nat) : State :=
  modGain s g fun x => { x with goodSince := if m ≥ lossThreshold s.objs g + 300 then some (x.goodSince.getD at_) else none }

/-- The serving cell of a receive side chosen again; a change is recorded, and each rule continues on the
new cell, the release time of R220 from its latest measurement on (log 18). -/
def reselect (s : State) (g : Nat) : State :=
  let c := chooseServing s g
  let old := (getGain s g).serving
  let s := if (getGain s g).candidate != c.2 then modGain s g fun x => { x with candidate := c.2 } else s
  if c.1 = old then s
  else
    let s := modGain s g fun x => { x with serving := c.1 }
    let s := tallyEvent s 0x0602 (srcField 3 g) [0, c.1.getD 0xFFFF]
    forEach ((uplinkDonors s.objs).filter fun t => servingSide s.objs t == g) s fun s t =>
      let s := modGain s t fun x => { x with goodSince := none }
      match c.1 with
      | none => s
      | some i => heardBy s t (getEntry s i).raw (getEntry s i).rawAt

/-! ### Protection mutes (R219–R225, R232, R233) -/

/-- A protection mute entered: code 0x0600 with rule and Ledger entry. -/
def protMute (s : State) (o : Owner) (g rule : Nat) : State :=
  if hasMute s o then s
  else
    let s := addMute s o (.slot g)
    let s := if rule = 0 then { s with prot := { s.prot with lossMutes := inc32 s.prot.lossMutes } }
      else if rule = 1 then { s with prot := { s.prot with idMutes := inc32 s.prot.idMutes } } else s
    tallyEvent s 0x0600 (srcField 3 g) [rule, ((getGain s (servingSide s.objs g)).serving).getD 0xFFFF, 1]

/-- A protection mute released: code 0x0601. -/
def protRelease (s : State) (o : Owner) (g rule : Nat) : State :=
  if hasMute s o then
    tallyEvent (dropMute s o) 0x0601 (srcField 3 g) [rule, ((getGain s (servingSide s.objs g)).serving).getD 0xFFFF, 0]
  else s

/-- An uplink donor transmit side enters donor loss. -/
def enterLoss (s : State) (g : Nat) : State :=
  protMute (modGain s g fun x => { x with donorLoss := true, goodSince := none }) (.donorLoss g) g 0

/-- Does a time lie in the span of R219 that ends now: the last 200 ms, or the last three occasions where they lie more
than 66 ms apart? -/
def inHearSpan (s : State) (e : LedgerEntry) (t : Nat) : Bool :=
  if 66 * msUnits < e.occGap then decide (e.occs.getD 2 0 ≤ t) && decide (s.time < t + 3 * e.occGap)
  else decide (s.time < t + 200 * msUnits)

/-- Was an entry measured at or above a level in the span of R219? -/
def heardAbove (s : State) (e : LedgerEntry) (level : Int) : Bool :=
  e.recent.any fun x => decide (level ≤ x.2) && inHearSpan s e x.1

/-- Has the side's serving cell gone without a sufficient measurement for its span (R219)? -/
def lossDue (s : State) (g : Nat) : Bool :=
  match (getGain s (servingSide s.objs g)).serving with
  | none => true
  | some i => !heardAbove s (getEntry s i) (lossThreshold s.objs g)

/-- Is the rod of a transmit side's donor side under its fallback (R35, R231)? -/
def donorFallback (s : State) (g : Nat) : Bool := (getRod s (servingSide s.objs g / 128)).fallback

/-- DONOR_LOSS_ENTRY (R219): the side is muted, unless the fallback "last-known" holds it (Table 9.5). -/
def execDonorLossEntry (g : Nat) (s : State) : Host.Outcome State Fault Refusal :=
  if !coreRuns s || !(uplinkDonors s.objs).contains g || (getGain s g).donorLoss then .next s
  else if donorFallback s g && lastKnown s (servingSide s.objs g) then .next s
  else if lossDue s g then .next (enterLoss s g) else .next s

/-- DONOR_LOSS_RELEASE (R220); a side the rule no longer covers is released too. -/
def execDonorLossRelease (g : Nat) (s : State) : Host.Outcome State Fault Refusal :=
  if !coreRuns s || !(getGain s g).donorLoss then .next s
  else
    let release (s : State) : State := protRelease (modGain s g fun x => { x with donorLoss := false }) (.donorLoss g) g 0
    if !(uplinkDonors s.objs).contains g then .next (release s)
    else match (getGain s (servingSide s.objs g)).serving, (getGain s g).goodSince with
    | some _, some t =>
      if elapsedMs s t (cfgNat s.objs 0x7080 3) && !lossDue s g && !donorFallback s g then .next (release s) else .next s
    | _, _ => .next s

/-- The donor side that vouches for a transmit side's carrier (R222): none where the rule does not apply. -/
def identitySide (s : State) (g : Nat) : Option Nat :=
  match routeOfTx s.objs g with
  | none => none
  | some r =>
    let d : Option Nat :=
      if routeUp s.objs r then (if (uplinkDonors s.objs).contains g then some (servingSide s.objs g) else none)
      else if endKind (routeEnd s.objs r) = 0 then some (endSlot (routeEnd s.objs r)) else none
    d.filter fun d => ((boundRecord s s.objs d).map recEnforced).getD false

/-- The transmit sides the identity rule tests. -/
def identitySides (s : State) : List Nat := (txSlots s.objs).filter fun g => (identitySide s g).isSome

/-- Is a side with donor side `d` identified now (R222)? -/
def identified (s : State) (d : Nat) : Bool :=
  match (getGain s d).serving with
  | none => false
  | some i =>
    let e := getEntry s i
    e.valid && allowed ((boundRecord s s.objs d).getD []) e && decide (s.time ≤ e.rawAt + 800 * msUnits)

/-- The outcome of the test on one side. -/
def setIdentity (s : State) (g : Nat) (ok : Bool) : State :=
  let s := if (getGain s g).unidentified == ok then modGain s g fun x => { x with unidentified := !ok } else s
  if ok then protRelease s (.identity g) g 1 else protMute s (.identity g) g 1

/-- IDENTITY_TEST (R222, Table 9.5): at frame counts that are multiples of 341,333. -/
def execIdentityTest (s : State) : Host.Outcome State Fault Refusal :=
  if !coreRuns s || s.clk.frame % 341333 != 0 then .next s
  else
    let s := forEach ((s.gains.filter fun e => e.2.unidentified && (identitySide s e.1).isNone).map (·.1)) s fun s g => setIdentity s g true
    .next <| forEach (identitySides s) s fun s g =>
      match identitySide s g with
      | none => s
      | some d =>
        if (getRod s (d / 128)).fallback then (if lastKnown s d then s else setIdentity s g false)
        else setIdentity s g (identified s d)

/-! ### Uplink noise rise (R224, R225, R262) -/

/-- Input noise figure of a channel at its antenna reference point, 0.01 dB (R262, B+0x7:02). -/
def inputNoiseFigure (s : State) (ch : Nat) : Int :=
  let u := 2 ^ 64
  let ball := powRatio (getChan s ch).cal.noiseFigure
  let ext := powRatio (cfgNat s.objs (radIdx ch 7) 1)
  dbOfPow (ext + (ball - u) * u / powRatio (rxExternal s s.objs ch))

/-- Transmit output noise at the antenna reference point, 0.01 dBm/Hz (R262). -/
def outputNoise (s : State) (ch : Nat) : Int :=
  let u := 2 ^ 64
  let a := powRatio ((getChan s ch).cal.outNoise + 17400)
  let b := powRatio (cfgNat s.objs (radIdx ch 7) 3) - u
  dbOfPow (a + b) - 17400 + txExternal s s.objs ch

/-- Lowest one-tick mean power of an ingress stream over the last 10 s (R224). -/
def streamFloorOf (s : State) (code : Nat) : Option Int :=
  match (smGet [] s.gov.streamFloor code).filter fun e => decide (s.gov.tick < e.1 + 10000) with
  | [] => none
  | x :: xs => some (xs.foldl (fun a e => min a e.2) x.2)

/-- The figures of R224 for a transmit side: A, K, N_tx, PL and N_cell, in 0.01 dB; none without a serving
cell or record. -/
def noiseTerms (s : State) (g : Nat) : Option (Int × Int × Int × Int × Int) :=
  match (getGain s (servingSide s.objs g)).serving, boundRecord s s.objs g, routeOfTx s.objs g with
  | some i, some rec, some r =>
    let e := getEntry s i
    let b := dbOf (bandwidth s.objs g * 1000) 1
    let pl0 := recRefPower rec - max e.rsrp e.raw
    let ful := (sideCentre s.objs g true).toNat
    let pl := pl0 + min 0 (db20 ful (e.freq * 32768000))
    let ncell := -17400 + recCellNoise rec + b
    let a := pl + ncell + dbOfPow (powRatio (recNoiseLimit rec) - 2 ^ 64)
    let ref := streamGain s g
    let base := -17400 + b
    let slots := (slotMembers s.objs r).map fun j => powRatio (inputNoiseFigure s (j / 8) + inputGain s j - ref)
    let streams := (streamMembers s.objs r).filterMap fun m =>
      (streamFloorOf s m.code).map fun f => powRatio (f - base + weightDb m.weight - ref)
    let k := base + dbOfPow (sumMap (slots ++ streams) id)
    some (a, k, outputNoise s (g / 8) + b, pl, ncell)
  | _, _, _ => none

/-- Has a transmit side's serving cell a measurement (R225): one in the span of R219 (log 18)? -/
def servingHeard (s : State) (g : Nat) : Bool :=
  match (getGain s (servingSide s.objs g)).serving with | some i => heardAbove s (getEntry s i) (-32768) | none => false

/-- The estimated rise at the current E_T (R224). -/
def shownRise (s : State) (g : Nat) (k ntx pl ncell : Int) : State :=
  match (getGain s g).eff with
  | none => s
  | some e =>
    let nout := dbOfPow (powRatio (effDb e + k - ntx) + 2 ^ 64) + ntx
    let rise := dbOfPow (2 ^ 64 + powRatio (nout - pl - ncell))
    modGain s g fun x => { x with noiseRise := min 65535 rise.toNat }

/-- The noise-rise rule on one uplink donor transmit side at a governor tick (R225): its cap and its mute are held
without a measurement, and under the fallback of its donor side's rod (Table 9.5). -/
def noiseRiseTick (s : State) (g : Nat) : State :=
  match noiseTerms s g with
  | none => s
  | some (a, k, ntx, pl, ncell) =>
    let s := shownRise s g k ntx pl ncell
    if donorFallback s g || !servingHeard s g then s
    else if ntx ≥ a then protMute (modGain s g fun x => { x with nrMute := true }) (.noiseRise g) g 2
    else
      let cap := dbOfPow (powRatio (a - ntx) - 2 ^ 64) + ntx - k
      protRelease (modGain s g fun x => { x with nrMute := false, nrCap := min 32766 (clip16 cap) }) (.noiseRise g) g 2

/-- The rule on every side it covers; a side it no longer covers loses its cap and its mute. -/
def noiseRise (s : State) : State :=
  let us := uplinkDonors s.objs
  let s := forEach ((s.gains.filter fun e => (e.2.nrCap != 32767 || e.2.nrMute) && !us.contains e.1).map (·.1)) s fun s g =>
    protRelease (modGain s g fun x => { x with nrCap := 32767, nrMute := false, noiseRise := 0 }) (.noiseRise g) g 2
  forEach us s noiseRiseTick

/-! ### TDD timing groups (R226–R230) -/

def getGroup (s : State) (i : Nat) : TddGroup := smGet {} s.prot.groups i
def modGroup (s : State) (i : Nat) (f : TddGroup → TddGroup) : State :=
  { s with prot := { s.prot with groups := smMod {} s.prot.groups i f } }

/-- The 10 ms grid in core clocks of 0.678 ns, six to a sample at CSR: the resolution of the edges (R449), and so of a
group's epochs. -/
def gridClocks : Nat := 6 * gridSamples

/-- Signed difference a − b on the grid, in −half … half − 1, in core clocks. -/
def gridDiff (a b : Nat) : Int :=
  let d : Int := ((a : Int) - b) % gridClocks
  if d ≥ gridClocks / 2 then d - gridClocks else d

/-- The channels that follow a group. -/
def groupChannels (cfg : SMap Nat) (i : Nat) : List Nat := (List.range 96).filter fun ch => tddGroupOf cfg ch == i

/-- Source of a group (0x7088 + g:01). -/
def groupSource (cfg : SMap Nat) (i : Nat) : Nat := cfgNat cfg (0x7088 + i) 1
def groupRef (cfg : SMap Nat) (i : Nat) : Nat := cfgNat cfg (0x7088 + i) 2

/-- The Ledger entry in a group's records: the reference slot's serving cell for a detected source (R233). -/
def groupEntry (s : State) (i : Nat) : Nat :=
  if groupSource s.objs i = 1 then ((getGain s (groupRef s.objs i)).serving).getD 0xFFFF else 0xFFFF

/-- A group's timing state set, with a record of the change. The channel-scope mutes of states 1 and 4 (Table 9.4) cover
the channels that follow it; they end when the group is locked or held. State 0 releases none (R232). -/
def setGroup (s : State) (i st : Nat) : State :=
  let old := (getGroup s i).st
  let s := modGroup s i fun g => { g with st }
  let had := hasMute s (.tdd i)
  let s := if st = 1 ∨ st = 4 then forEach (groupChannels s.objs i) s fun s ch => addMute s (.tdd i) (.chan ch)
    else if st = 0 then s else dropMute s (.tdd i)
  let s := if hasMute s (.tdd i) && !had then tallyEvent s 0x0600 (srcField 9 i) [3, groupEntry s i, st]
    else if had && !hasMute s (.tdd i) then tallyEvent s 0x0601 (srcField 9 i) [3, groupEntry s i, st] else s
  if old = st then s else tallyEvent s 0x0603 (srcField 9 i) [3, groupEntry s i, st]

/-- Mutes of a group on channels that follow it no longer end at the next governor tick (R232; log 18). -/
def tidyGroup (s : State) (i : Nat) : State :=
  let stays (m : Mute) : Bool := m.owner != .tdd i || (groupChannels s.objs i).any fun ch => m.scope == .chan ch
  if s.mutes.all stays then s
  else tallyEvent { s with mutes := s.mutes.filter stays } 0x0601 (srcField 9 i) [3, groupEntry s i, (getGroup s i).st]

/-- Do two epochs agree within `n` samples? -/
def agrees (a b n : Nat) : Bool := decide ((gridDiff a b).natAbs ≤ 6 * n)

/-- An epoch of a locked group (R230): the next step's target, unless it is the third in a row beyond 492 samples. -/
def lockedEpoch (s : State) (i pos : Nat) (g : TddGroup) : State :=
  let d := gridDiff pos (g.applied.getD pos)
  let steps := if d.natAbs > 6 * 492 then g.steps + 1 else 0
  let s := modGroup s i fun x => { x with diff := d, steps, target := some pos }
  if 3 ≤ steps then setGroup (modGroup s i fun x => { x with agree := 1, steps := 0 }) i 1 else s

/-- A measured epoch of a group, as a position in the 10 ms grid in core clocks (R229, R230). FRAME_SYNC_IN edges further apart than
10 ms + 2 µs are not consecutive. -/
def tddEpoch (s : State) (i pos : Nat) : State :=
  let g := getGroup s i
  let apart := groupSource s.objs i == 2 && decide (g.epochAt + 10 * msUnits + 2 * usUnits < s.time)
  let s := modGroup s i fun x => { x with lastEpoch := some pos, epochAt := s.time }
  match g.st with
  | 0 => s
  | 1 =>
    let n := match g.lastEpoch with | some p => if agrees pos p 122 && !apart then g.agree + 1 else 1 | none => 1
    let s := modGroup s i fun x => { x with agree := n }
    if 5 ≤ n then setGroup (modGroup s i fun x => { x with applied := some pos, target := some pos, agree := 0, steps := 0, diff := 0 }) i 2
    else s
  | 2 => lockedEpoch s i pos g
  | 3 =>
    let a := g.applied.getD pos
    let s := modGroup s i fun x => { x with diff := gridDiff pos a, target := some pos }
    if agrees pos a 122 then setGroup s i 2 else setGroup (modGroup s i fun x => { x with agree := 1 }) i 1
  | _ => setGroup (modGroup s i fun x => { x with agree := 1 }) i 1

/-- Position of a frame boundary in the 10 ms grid. -/
def gridPos (frame : Nat) : Nat := 72 * frame % gridSamples

/-- Does the period that starts at a group's applied epoch and offset start in the present frame? -/
def periodStarts (s : State) (i : Nat) (a : Nat) : Bool :=
  decide ((((a : Int) + 6 * cfgVal s.objs (0x7088 + i) 4) - 6 * gridPos s.clk.frame) % gridClocks < 432)

/-- A locked group's applied epoch moves by at most 4 samples towards the last measurement, at a period start, once in
10 ms (R230). -/
def slewGroup (s : State) (i : Nat) : State :=
  let g := getGroup s i
  match g.applied, g.target with
  | some a, some p =>
    if g.st == 2 && a != p && periodStarts s i a && decide (g.slewAt + 9 * msUnits ≤ s.time) then
      let d := gridDiff p a
      let mv : Int := if d > 24 then 24 else if d < -24 then -24 else d
      modGroup s i fun x => { x with applied := some (((a : Int) + mv) % gridClocks).toNat, slewAt := s.time }
    else s
  | _, _ => s

/-- Every 10 ms after a PPS_IN edge, up to the next, is an epoch of the groups that use it (R226); an edge more than
1 s + 1 ms old gives none. -/
def ppsEpoch (s : State) (i : Nat) : State :=
  match (getGroup s i).pps with
  | none => s
  | some (t, pos, n) =>
    let due := (s.time - t) / (10 * msUnits)
    if groupSource s.objs i == 3 && decide (n < due) && decide (due ≤ 100) then
      tddEpoch (modGroup s i fun x => { x with pps := some (t, pos, due) }) i pos
    else s

/-- The timing groups in one frame. -/
def groupsFrame (s : State) : State := forEach (s.prot.groups.map (·.1)) s fun s i => slewGroup (ppsEpoch s i) i

/-- FRAME_SYNC_IN_EDGE (R226, R449): a rising edge is an epoch of the groups that use it. -/
def execFrameSyncInEdge (highNs pos : Nat) (s : State) : Host.Outcome State Fault Refusal :=
  if !coreRuns s || decide (highNs < 100) then .next s
  else .next <| forEach ((List.range 8).filter fun i => groupSource s.objs i == 2) s fun s i => tddEpoch s i (pos % gridClocks)

/-- PPS_IN_EDGE (R226, R449). -/
def execPpsInEdge (highNs pos : Nat) (s : State) : Host.Outcome State Fault Refusal :=
  if !coreRuns s || decide (highNs < 100) then .next s
  else
    let grps := (List.range 8).filter fun i => groupSource s.objs i == 3
    .next <| forEach grps (if grps.isEmpty then s else alignStamp s) fun s i =>
    tddEpoch (modGroup s i fun x => { x with pps := some (s.time, pos % gridClocks, 0) }) i (pos % gridClocks)

/-- Is a group's epoch missing (Table 9.4, state 3)? -/
def epochMissing (s : State) (i : Nat) : Bool :=
  let g := getGroup s i
  match groupSource s.objs i with
  | 1 =>
    match (getGain s (groupRef s.objs i)).serving with
    | none => elapsedMs s g.epochAt 200
    | some e => elapsedMs s (max g.epochAt (getEntry s e).rawAt) 200
  | 2 => decide (g.epochAt + 10 * msUnits + 2 * usUnits < s.time)
  | 3 => decide ((match g.pps with | some e => e.1 | none => g.epochAt) + 1001 * msUnits < s.time)
  | _ => false

/-- TDD_EPOCH_MISSING (R229): a locked group enters holdover. -/
def execTddEpochMissing (grp : Nat) (s : State) : Host.Outcome State Fault Refusal :=
  if coreRuns s && (getGroup s grp).st == 2 && epochMissing s grp then
    .next (setGroup (modGroup s grp fun g => { g with heldAt := s.time }) grp 3)
  else .next s

/-- HOLDOVER_LIMIT_EXPIRY (R229): a group in holdover past its limit is lost. -/
def execHoldoverLimitExpiry (grp : Nat) (s : State) : Host.Outcome State Fault Refusal :=
  if coreRuns s && (getGroup s grp).st == 3 && elapsedMs s (getGroup s grp).heldAt (cfgNat s.objs (0x7088 + grp) 0xE) then
    .next (setGroup s grp 4)
  else .next s

/-! ### Search and tracking (R208–R210) -/

/-- Is the Cell Finder of a rod at work? -/
def finderOn (s : State) (r : Nat) : Bool :=
  let x := getRod s r
  coreRuns s && x.powered && !x.restarting && x.finder != 2 && x.finder != 3

/-- Is a frequency in kHz a point of the NR synchronisation raster (GSCN)? Its points are 3GPP's: PRESUMED, the spec
names the raster only (log 18). -/
def onRaster (f : Nat) : Bool :=
  if f < 3000000 then [50, 150, 250].any fun m => decide (1200 + m ≤ f) && (f - m) % 1200 == 0
  else (f - 3000000) % 1440 == 0

/-- Can a search of a side find a cell where it says it is (R209; log 18)? -/
def detectable (s : State) (g : Nat) (c : CellMeas) : Bool :=
  let span := sideSpan s.objs g false
  let f : Int := (c.freq : Int) * 32768000
  let inside (half : Int) : Bool := decide (span.1 ≤ f - half * 32768) && decide (f + half * 32768 ≤ span.2)
  decide (c.pci ≤ pciLimit c.rat) && match c.rat with
  | 0 => decide ((f - sideCentre s.objs g false).natAbs ≤ 5000 * 32768)
  | 1 => inside 1800000 && onRaster c.freq
  | 2 => inside 3600000 && onRaster c.freq
  | _ => false

/-- The side searched after `last`: the next in ascending order, in turn (R210). -/
def nextSide (sides : List Nat) (last : Option Nat) : Option Nat :=
  match last with
  | none => sides.head?
  | some l => match sides.find? fun g => decide (l < g) with | some g => some g | none => sides.head?

/-- The side in turn of a rod. -/
def sideInTurn (cfg : SMap Nat) (s : State) (r : Nat) : Option Nat := nextSide (rodSides cfg r) (getRod s r).lastSearched

/-- The dwell of a rod's Cell Finder begins anew: its 40 ms have been interrupted (R210). -/
def restartDwell (s : State) (r : Nat) : State := modRod s r fun x => { x with dwellAt := s.time, dwellUsable := false }

/-- Serving cells of a channel's sides chosen again. -/
def reselectChan (s : State) (ch : Nat) : State := forEach ((donorSides s.objs).filter fun g => g / 8 == ch) s reselect

/-- The fallback of a rod ends when its Cell Finder, back at work, has searched every side once; with none to search
the cycle takes no time (R210, R231). -/
def endFallback (s : State) (r : Nat) : State :=
  let x := getRod s r
  if x.fallback && decide (x.finder ≤ 1) && (rodSides s.objs r).all fun g => x.visited.contains g then
    modRod s r fun x => { x with fallback := false, visited := [] }
  else s

/-- Does the side's last block hold a sample that the Cell Finder may use (R208)? -/
def hasUsable (s : State) (g : Nat) : Bool := (getSlot s g).rxHold.any fun x => !x.poison && !x.settle && !x.invalid

/-- The Cell Finder of a rod uses a frame's samples of the side in turn that are unflagged and not poisoned (R208). -/
def finderWatch (s : State) (r : Nat) : State :=
  if (getRod s r).dwellUsable || !finderOn s r then s
  else match sideInTurn s.objs s r with
  | some g => if hasUsable s g then modRod s r fun x => { x with dwellUsable := true } else s
  | none => s

/-- A detection of a cell on side `g` as the sides whose serving cell it is see it (R219, R220). -/
def heardAll (s : State) (i : Nat) : State :=
  forEach ((uplinkDonors s.objs).filter fun t => (getGain s (servingSide s.objs t)).serving == some i) s fun s t =>
    heardBy s t (getEntry s i).raw s.time

/-- One detected cell. -/
def detection (g : Nat) (s : State) (c : CellMeas) : State :=
  let u := ledgerUpdate s g c
  match u.2 with | some i => heardAll u.1 i | none => u.1

/-- SEARCH_DWELL_COMPLETE (R208–R210, R213, R214): 40 ms of one side's usable samples searched. A result with a word of
bad parity is discarded and the search repeated (Table 1.7). -/
def execSearchDwellComplete (r g : Nat) (dwell : Dwell) (s : State) : Host.Outcome State Fault Refusal :=
  let x := getRod s r
  if !finderOn s r || sideInTurn s.objs s r != some g || !elapsedMs s x.dwellAt 40 then .next s
  else if dwell.bad.isSome then .next (restartDwell (parityWord s 9 dwell.bad) r)
  else
    let s := modRod s r fun x =>
      { x with lastSearched := some g, finder := 1, dwellAt := s.time, dwellUsable := false
               visited := if x.fallback then insertNat g x.visited else x.visited }
    let s := if x.dwellUsable then forEach (dwell.cells.filter (detectable s g)) s (detection g) else s
    .next (reselectChan (endFallback s r) (g / 8))

/-- The side that hears a tracked cell: a searched side of its channel with the cell in its span (R208). -/
def hearingSide (s : State) (e : LedgerEntry) : Option Nat :=
  (donorSides s.objs).find? fun g =>
    let span := sideSpan s.objs g false
    g / 8 == e.ch && decide (span.1 ≤ (e.freq : Int) * 32768000) && decide ((e.freq : Int) * 32768000 ≤ span.2)

/-- An occasion at which a tracked cell is not measured. -/
def missedOccasion (s : State) (entry : Nat) : State :=
  let users := (uplinkDonors s.objs).filter fun t => (getGain s (servingSide s.objs t)).serving == some entry
  reselectChan (forEach users s fun s t => modGain s t fun x => { x with goodSince := none }) (getEntry s entry).ch

/-- TRACKING_MEASUREMENT (R210, R213, R219, R226): one synchronisation occasion of a tracked cell, at most one in 20 ms; a
Ledger word with bad parity discards the entry (Table 1.7). -/
def execTrackingMeasurement (entry : Nat) (meas : Option CellMeas) (parity : Bool) (s : State) : Host.Outcome State Fault Refusal :=
  let e := getEntry s entry
  let r := e.ch / 16
  if !finderOn s r || !e.valid || !(trackedCells s r).contains entry || (e.occAt != 0 && !elapsedMs s e.occAt 20) then .next s
  else if parity then
    let s := parityFailure s 7 (32 * entry) (if e.pinned then 3 else 1)
    let s := { s with prot := { s.prot with parityDiscards := inc32 s.prot.parityDiscards } }
    .next (reselectChan (modEntry s entry fun _ => {}) e.ch)
  else
    let s := modEntry s entry fun x =>
      { x with occGap := if x.occAt = 0 then 0 else s.time - x.occAt, occAt := s.time, occs := (s.time :: x.occs).take 3 }
    match meas, hearingSide s e with
    | some m, some g =>
      if !rxValid s e.ch || !hasUsable s g then .next (missedOccasion s entry)
      else
        let s := detection g s { m with rat := e.rat, pci := e.pci, freq := e.freq, tdd := e.tdd }
        let s := reselectChan s e.ch
        .next <| forEach ((List.range 8).filter fun i =>
          groupSource s.objs i == 1 && (getGain s (groupRef s.objs i)).serving == some entry) s fun s i => tddEpoch s i (6 * (getEntry s entry).timing)
    | _, _ => .next (missedOccasion s entry)

/-- A Cell Finder becomes unavailable (R231): under the fallback "mute" the uplink donor transmit sides whose donor side
lies in the rod are muted at once (R35, Table 9.5). -/
def finderLost (s : State) (r st : Nat) : State :=
  let s := modRod s r fun x => { x with finder := st, fallback := true, visited := [], dwellUsable := false }
  forEach ((uplinkDonors s.objs).filter fun g => servingSide s.objs g / 128 == r && !lastKnown s (servingSide s.objs g)) s enterLoss

/-- CELL_FINDER_FAILURE (R231): its self-check fails. -/
def execCellFinderFailure (r : Nat) (s : State) : Host.Outcome State Fault Refusal :=
  if s.life.power = .off ∨ 6 ≤ r ∨ (getRod s r).finder = 3 then .next s else .next (finderLost s r 3)

/-! ### A commit boundary (R217, R220, R222, R229) -/

/-- A receive side that has no serving cell any more (R217). -/
def forgetServing (s : State) (g : Nat) : State :=
  let s := if (getGain s g).serving.isSome then tallyEvent s 0x0602 (srcField 3 g) [0, 0xFFFF] else s
  modGain s g fun x => { x with serving := none, candidate := [] }

/-- A timing group after a commit (R229): a source, or the reference slot of a detected source, that is newly committed
starts acquiring. No mute is released (R232). -/
def groupCommit (old : SMap Nat) (s : State) (i : Nat) : State :=
  let g := getGroup s i
  let src := groupSource s.objs i
  if src = 0 then setGroup (modGroup s i fun _ => { st := g.st }) i 0
  else if groupSource old i ≠ src ∨ (src = 1 ∧ groupRef old i ≠ groupRef s.objs i) then
    setGroup (modGroup s i fun _ => { st := g.st, epochAt := s.time }) i 1
  else if g.st = 1 ∨ g.st = 4 then setGroup s i g.st
  else s

/-- Search and fallback of a rod after a commit; the dwell begins anew where another side is in turn. -/
def finderCommit (old : SMap Nat) (s : State) (r : Nat) : State :=
  let s := if sideInTurn old s r = sideInTurn s.objs s r then s else restartDwell s r
  let s := modRod s r fun x => { x with finder := if x.finder ≤ 1 then b2n (!(rodSides s.objs r).isEmpty) else x.finder }
  endFallback s r

/-- Protection after a commit that changed the configuration from `old`. -/
def protectCommit (old : SMap Nat) (s : State) : State :=
  let sides := donorSides s.objs
  let s := forEach ((s.gains.filter fun e => (e.2.serving.isSome || !e.2.candidate.isEmpty) && !sides.contains e.1).map (·.1)) s forgetServing
  let s := forEach sides (forEach (List.range 6) s (finderCommit old)) reselect
  let s := forEach ((uplinkDonors s.objs).filter fun g => !txActive old g) s enterLoss
  let s := forEach ((identitySides s).filter fun g => !txActive old g) s fun s g => setIdentity s g false
  forEach (List.range 8) s (groupCommit old)

end Sys2Proof.Machine
end

