-- ==== Sys2Proof/Machine/Windows.lean ====
section
/-! DEFINITION. Windows.lean: route latencies (R89, R312) and the TDD windows of a channel at its balls (R227,
R249). Positions and spans are in fine ticks of 1/230,400 ns: one sample at CSR is 937,500 ticks. -/

namespace Sys2Proof.Machine

/-- One sample at CSR, and a span given in 0.01 ns, in fine ticks. -/
def csrTicks : Int := 937500
def ns100 (x : Int) : Int := x * 2304

/-- Group delay F(N, k) of the FIR of a receive side: (N − 1)/2 carrier samples (R89), N that of the bank the
configuration selects, to which a running cross-fade leads. -/
def firDelay (s : State) (cfg : SMap Nat) (k g : Nat) : Int :=
  ((hdrN (bankOf (getSlot s g) (bankSelect cfg g)).header.toNat : Int) - 1) * 2 ^ k * csrTicks / 2

/-- S: output skew of a transmit channel (R87, R89). -/
def skewDelay (cfg : SMap Nat) (ch : Nat) : Int := (skewSamples cfg ch : Nat) * csrTicks

/-- E: latency-equalisation delay of a route, in carrier samples (R312). -/
def routeEq (cfg : SMap Nat) (r : Nat) : Nat := cfgNat cfg (0x1980 + r / 32) (r % 32 + 1)
def eqDelay (cfg : SMap Nat) (r : Nat) : Int := (routeEq cfg r : Nat) * 2 ^ routeK cfg r * csrTicks

/-- Latency of a route from receive side `g` to transmit side `t` (R89); from a stream where `g` is none. -/
def routeLatency (s : State) (cfg : SMap Nat) (r : Nat) (g : Option Nat) (t : Nat) : Int :=
  let k := routeK cfg r
  match g with
  | some g => ns100 226948 + 2 * ns100 (chainDelay k) + firDelay s cfg k g + skewDelay cfg (t / 8) + eqDelay cfg r
  | none => ns100 97513 + ns100 (chainDelay k) + skewDelay cfg (t / 8) + eqDelay cfg r

/-- Latency of the downlink route that feeds a transmit side. -/
def downLatency (s : State) (cfg : SMap Nat) (t : Nat) : Int :=
  let r := txRoute cfg t
  if endKind (routeEnd cfg r) = 0 then routeLatency s cfg r (some (endSlot (routeEnd cfg r))) t else routeLatency s cfg r none t

/-- Latency of the uplink route that a receive side feeds, to its destination; to a stream, the part from
RX_IN to the transfer frame (Table 12.6). -/
def upLatency (s : State) (cfg : SMap Nat) (g : Nat) : Int :=
  let r := rxRoute cfg g
  if endKind (routeEnd cfg r) = 0 then routeLatency s cfg r (some g) (endSlot (routeEnd cfg r))
  else ns100 129436 + ns100 (chainDelay (routeK cfg r)) + firDelay s cfg (routeK cfg r) g + eqDelay cfg r

/-- One window of a channel, from the start of the period: transmit or receive, the global slot it is that of (none for
a donor's own), first and last instant, and the interval subindex it comes from. -/
structure TddWindow where
  tx : Bool
  side : Option Nat
  first : Int
  last : Int
  sub : Nat
  deriving DecidableEq, Repr

/-- The used intervals of a group: subindex, direction (1 downlink, 2 uplink), start and length in samples. -/
def groupIntervals (cfg : SMap Nat) (i : Nat) : List (Nat × Nat × Nat × Nat) :=
  (List.range 8).filterMap fun j =>
    let v := cfgNat cfg (0x7088 + i) (6 + j)
    if bits v 63 62 = 0 then none else some (6 + j, bits v 63 62, bits v 55 32, bits v 23 0)

/-- Period of a group in samples. -/
def groupPeriod (cfg : SMap Nat) (i : Nat) : Nat := max 1 (cfgNat cfg (0x7088 + i) 3)

/-- The windows of a channel at its balls (R227). -/
def tddWindows (s : State) (cfg : SMap Nat) (ch : Nat) : List TddWindow :=
  let i := tddGroupOf cfg ch
  let adv : Int := (cfgNat cfg (0x7088 + i) 5 : Nat) * csrTicks
  (groupIntervals cfg i).flatMap fun iv =>
    let a : Int := (iv.2.2.1 : Nat) * csrTicks
    let b : Int := a + (iv.2.2.2 : Nat) * csrTicks
    let w (tx : Bool) (side : Option Nat) (d : Int) : TddWindow := { tx, side, first := a + d, last := b + d, sub := iv.1 }
    if iv.2.1 = 1 then
      (if dlRole cfg ch = 1 then [w false none 0] else []) ++
      ((chanSlots ch).filter (txDownlink cfg)).map fun t => w true (some t) (downLatency s cfg t)
    else
      (if ulRole cfg ch = 1 then [w true none (-adv)] else []) ++
      ((chanSlots ch).filter (rxUplink cfg)).map fun g => w false (some g) (-adv - upLatency s cfg g)

/-- From `a` forward to `b` within a period. -/
def gapTo (p a b : Int) : Int := (b - a) % p

/-- The interval of the first window that follows too soon on one of the other direction (R249): a
receive window by at least 0.8 µs, a transmit window by at least 1.0 µs and the TXEN lead. -/
def windowBreach (s : State) (cfg : SMap Nat) (ch : Nat) : Option Nat :=
  let ws := tddWindows s cfg ch
  let p : Int := (groupPeriod cfg (tddGroupOf cfg ch) : Nat) * csrTicks
  let lead : Int := (cfgNat cfg (radIdx ch 0) 5 : Nat) * ns100 10000
  ws.findSome? fun a => (ws.filter fun b => a.tx != b.tx).findSome? fun b =>
    let need := if b.tx then ns100 100000 + lead else ns100 80000
    if gapTo p a.first b.first < a.last - a.first + need then some b.sub else none

/-- Lead of a channel's TXEN and the switch to TRANSMIT ahead of a transmit window (R238, R248): t_lead + 1.0 µs. -/
def windowLead (cfg : SMap Nat) (ch : Nat) : Int := ns100 100000 + (cfgNat cfg (radIdx ch 0) 5 : Nat) * ns100 10000

/-- One frame in fine ticks. -/
def frameTicks : Int := 72 * csrTicks

/-- Period of a channel's group in fine ticks, and an instant in its pattern: the period runs from the applied epoch plus
the offset. -/
def patternPeriod (s : State) (ch : Nat) : Int := (groupPeriod s.objs (tddGroupOf s.objs ch) : Nat) * csrTicks
def patternPos (s : State) (ch : Nat) (sample : Int) : Int :=
  let i := tddGroupOf s.objs ch
  (6 * sample - ((getGroup s i).applied.getD 0 : Nat) - 6 * cfgVal s.objs (0x7088 + i) 4) * (csrTicks / 6)

/-- Is the channel's group timed: locked or in holdover (Table 9.4)? -/
def groupTimed (s : State) (ch : Nat) : Bool :=
  let g := getGroup s (tddGroupOf s.objs ch)
  decide (tddGroupOf s.objs ch < 8) && (g.st == 2 || g.st == 3)

/-- The transmit windows of a channel that the present frame meets, from the rise of TXEN on: the time, in fine ticks,
from that rise to the frame's start (negative where it falls inside the frame), and the window's length with its lead. -/
def windowsMet (s : State) (ch : Nat) : List (Int × Int) :=
  let p := patternPeriod s ch
  let lead := windowLead s.objs ch
  let pos := patternPos s ch (72 * s.clk.frame)
  ((tddWindows s s.objs ch).filter (·.tx)).filterMap fun w =>
    let since := gapTo p (w.first - lead - frameTicks) pos - frameTicks
    let len := w.last - w.first + lead
    if since < len then some (since, len) else none

/-- Time from now until the RECEIVE → TRANSMIT transition of the window met is to start, 1.0 µs ahead of it, in 1/32 ns:
none where no transmit window is met (R248). -/
def windowStart (s : State) (ch : Nat) : Option Nat :=
  match windowsMet s ch with
  | [] => none
  | w :: ws =>
    let since := ws.foldl (fun m x => max m x.1) w.1
    some (((windowLead s.objs ch - ns100 100000 - since) / 7200).toNat)

/-- Does a transmit window of the channel last beyond the present frame? One whose lead begins in the frame in which
another ends carries it on (log 43). -/
def windowRuns (s : State) (ch : Nat) : Bool := (windowsMet s ch).any fun w => decide (w.1 + frameTicks ≤ w.2)

/-- Time from now until the TRANSMIT → RECEIVE transition of the windows that end in the present frame is to start, in
1/32 ns (R248): 0 where none does. -/
def windowStop (s : State) (ch : Nat) : Nat := (windowsMet s ch).foldl (fun m w => max m ((w.2 - w.1) / 7200).toNat) 0

/-- Lies sample `i` of the block released in this frame inside a transmit window of side `g` when it passes the TX_OUT
ball (R227, R248)? `delay` is its way to the ball in samples. -/
def sideOpen (s : State) (ch delay i g : Nat) (ws : List TddWindow) : Bool :=
  let p := patternPeriod s ch
  let pos := patternPos s ch (72 * s.clk.frame + delay + i)
  ws.any fun w => w.tx && (w.side == none || w.side == some g) && decide (gapTo p w.first pos < w.last - w.first)

end Sys2Proof.Machine
end

