-- ==== Sys2Proof/Machine/Radio.lean ====
section
/-! DEFINITION. Radio.lean: radio states and their transitions, synthesisers, transmit commands, TDD windows,
RFFE buses, mismatch, tuner and rod calibration (ch. 10). -/

namespace Sys2Proof.Machine

/-! ### Targets (R237) -/

/-- Rank of a radio state (R235). -/
def Radio.rank : Radio → Nat
  | .sleep => 0 | .standby => 1 | .synth => 2 | .receive => 3 | .transmit => 3 | .duplex => 4

/-- The lower of a state and SYNTH. -/
def Radio.atMostSynth (r : Radio) : Radio := if r.rank > 2 then .synth else r

/-- The state a channel is to reach: its requested state, as the power state and its rod allow. In a rod restart it rises
from SLEEP once the calibration has ended (Table 18.6). -/
def radioTarget (s : State) (ch : Nat) : Radio :=
  let rod := getRod s (ch / 16)
  let req : Radio := match reqState s.objs ch with
    | 0 => .sleep | 1 => .standby | 2 => .synth | 3 => .receive | 4 => .transmit | 5 => .duplex
    | _ => if (getChan s ch).radio.inWindow && groupTimed s ch then .transmit
           else if (chanSlots ch).any (rxActive s.objs) then .receive else .synth
  if !rod.powered || (rod.restarting && rod.cal == 1) then .sleep
  else
    let req := if rod.cal = 1 then req.atMostSynth else req
    match s.life.power with
    | .off => .sleep | .boot => .sleep | .shutdown => .sleep
    | .hold => req.atMostSynth
    | _ => req

/-! ### Synthesisers (R239–R246) -/

def getSynth (s : State) (r n : Nat) : Synth := smGet {} (getRod s r).synths n
def modSynth (s : State) (r n : Nat) (f : Synth → Synth) : State :=
  modRod s r fun x => { x with synths := smMod {} x.synths n f }

/-- Divider code of an LO (Table 10.3): 0 ÷2, 1 ÷4, 2 ÷8, 3 ÷16. -/
def dividerCode (lo : Nat) : Nat := if lo ≥ 2800000 then 0 else if lo ≥ 1400000 then 1 else if lo ≥ 700000 then 2 else 3

/-- Is a synthesiser locked (a due one still is)? -/
def synthLocked (s : State) (r n : Nat) : Bool := (getSynth s r n).st == 3 || (getSynth s r n).st == 5

/-- Rod-die temperature, 0.01 °C. -/
def rodTemp (s : State) (r : Nat) : Int := (getZone s (r + 1)).temp

/-- Has the rod die's zone a temperature (R396)? -/
def tempKnown (s : State) (r : Nat) : Bool := rodTemp s r != -32768

/-- A temperature that a result was taken at; one taken with no valid sensor takes the first reading's (R396, log 25). -/
def takenAt (s : State) (r : Nat) (t : Int) : Int := if t = -32768 then rodTemp s r else t

/-- The rod-die temperature at which a rod's valid band result for a frequency was taken (R243). -/
def bandTemp (s : State) (r lo : Nat) : Option Int := ((smGet [] s.nv.bands r).find? (·.1 == lo)).map (·.2)

/-- Band results that the rod die has moved 15 °C from are valid no more, whatever the temperature does then (R243). -/
def staleBands (s : State) (r : Nat) : State :=
  let now := (smGet [] s.nv.bands r).map fun b => (b.1, takenAt s r b.2)
  let keep (b : Nat × Int) : Bool := decide ((rodTemp s r - b.2).natAbs < 1500)
  if now = smGet [] s.nv.bands r ∧ now.all keep then s else { s with nv := { s.nv with bands := smSet [] s.nv.bands r (now.filter keep) } }

/-- A band result taken now; the last 64 frequencies are kept. -/
def noteBand (s : State) (r lo : Nat) : State :=
  { s with nv := { s.nv with bands := smMod [] s.nv.bands r fun l => ((lo, rodTemp s r) :: l.filter fun b => b.1 != lo).take 64 } }

/-- A synthesiser begins to tune: settling where its band is known, else with a band calibration. -/
def tuneSynth (s : State) (r n lo : Nat) : State :=
  modSynth s r n fun _ => match bandTemp s r lo with
    | some t => { st := 2, lo, calTemp := some t }
    | none => { st := 1, lo }

/-- Frequencies a rod's channels need, in the order of R240. -/
def neededLos (cfg : SMap Nat) (r : Nat) : List Nat :=
  (((rodChannels r).filter fun ch => decide (2 ≤ reqState cfg ch)).flatMap fun ch => [rxLo cfg ch, txLo cfg ch]).eraseDups.filter (· != 0)

/-- Relief hold of a rod. -/
def reliefHold (cfg : SMap Nat) (r : Nat) : Bool := cfgBool cfg (radIdx (16 * r) 0xF) 1

/-- The relief of a rod. -/
def reliefOf (s : State) (r : Nat) : Option Nat := (List.range 8).find? fun n => (getSynth s r n).st == 4

/-- The synthesiser that holds a frequency; the relief in a handover holds none yet. -/
def synthOf (s : State) (r lo : Nat) : Option Nat :=
  let tuning : Option Nat := (getRod s r).handover.map (·.2)
  (List.range 8).find? fun n => (getSynth s r n).lo == lo && (getSynth s r n).st != 0 && (getSynth s r n).st != 4 && tuning != some n

/-- A handover is given up: the relief is the relief again. -/
def dropHandover (s : State) (r : Nat) : State :=
  match (getRod s r).handover with
  | none => s
  | some (_, b) => modRod (modSynth s r b fun _ => { st := 4 }) r fun x => { x with handover := none }

/-- Synthesisers whose frequency is no longer used become free, and the relief where it is held no more; a handover
whose synthesiser is freed is given up (R240). -/
def freeSynths (s : State) (r : Nat) : State :=
  let need := neededLos s.objs r
  let hold := reliefHold s.objs r
  let s := match (getRod s r).handover with
    | some (a, _) => if hold && need.contains (getSynth s r a).lo then s else dropHandover s r
    | none => s
  forEach (List.range 8) s fun s n =>
    let x := getSynth s r n
    let tuning := (getRod s r).handover.any fun h => h.2 == n
    if x.st = 0 ∨ tuning ∨ (x.st = 4 ∧ hold) ∨ (x.st ≠ 4 ∧ need.contains x.lo) then s else modSynth s r n fun _ => {}

/-- Each new frequency takes the lowest-numbered free synthesiser; then the relief is designated where there is none. -/
def fillSynths (s : State) (r : Nat) : State :=
  let s := forEach ((neededLos s.objs r).filter fun lo => (synthOf s r lo).isNone) s fun s lo =>
    match (List.range 8).find? fun n => (getSynth s r n).st == 0 with
    | some n => tuneSynth s r n lo
    | none => s
  if reliefHold s.objs r && (reliefOf s r).isNone && (getRod s r).handover.isNone then
    match ((List.range 8).reverse).find? fun n => (getSynth s r n).st == 0 with
    | some n => modSynth s r n fun _ => { st := 4 }
    | none => s
  else s

/-- Are both of a channel's synthesisers locked? Is its transmit synthesiser? -/
def txSynthLocked (s : State) (ch : Nat) : Bool :=
  match (getChan s ch).radio.txSynth with | some n => synthLocked s (ch / 16) n | none => false
def bothLocked (s : State) (ch : Nat) : Bool :=
  txSynthLocked s ch && (match (getChan s ch).radio.rxSynth with | some n => synthLocked s (ch / 16) n | none => false)

/-- A channel's share of the assignment: its synthesisers, and the transmit enable term low where the transmit one is not
locked (R238). -/
def assignChan (s : State) (ch : Nat) : State :=
  let on := decide (2 ≤ reqState s.objs ch)
  let a := if on then synthOf s (ch / 16) (rxLo s.objs ch) else none
  let b := if on then synthOf s (ch / 16) (txLo s.objs ch) else none
  let before := s
  let s := if (getChan s ch).radio.rxSynth = a ∧ (getChan s ch).radio.txSynth = b then s
    else modRadio s ch fun x => { x with rxSynth := a, txSynth := b }
  if (getChan s ch).radio.txEnable && !txSynthLocked s ch then txenFalls before (modRadio s ch fun x => { x with txEnable := false }) else s

/-- Assignment of a rod's synthesisers at a commit boundary (R240). -/
def assignSynths (s : State) (r : Nat) : State := forEach (rodChannels r) (fillSynths (freeSynths s r) r) assignChan

/-- The channels that use a synthesiser. -/
def synthUsers (s : State) (r n : Nat) : List Nat :=
  (rodChannels r).filter fun ch => (getChan s ch).radio.rxSynth == some n || (getChan s ch).radio.txSynth == some n

/-! ### Transitions (R236, R238, R247, R253) -/

/-- Class 1 events of a transition (Table 10.5). -/
def startEvents (a b : Radio) : List Nat :=
  (if b.transmits && !a.transmits then [0] else []) ++ (if b.receives && !a.receives then [2] else []) ++
  (if a.receives && !b.receives then [3] else []) ++ (if b.rank < 2 && a.rank > b.rank then [4] else []) ++
  (if a = .standby && b.rank > 1 then [5] else [])

/-- Has the channel a class 1 transaction waiting or in progress? -/
def class1Pending (s : State) (ch : Nat) : Bool :=
  let b := getBus s (ch / 4)
  b.queue.any (fun t => t.cls == 1 && t.ch == ch) || (match b.busy with | some t => t.cls == 1 && t.ch == ch | none => false)

/-- TXEN lead of a channel (B+0x0:05). -/
def txLead (s : State) (ch : Nat) : Nat := cfgNat s.objs (radIdx ch 0) 5 * (100 * 32)

/-- The lead of the channel's next transition begins: at once the transition starts, or a TXEN lead ahead of it where it
leads into a transmitter; the transmit enable term rises with the lead (R238). That of a TDD window has its own start
(R248). -/
def beginLead (s : State) (ch : Nat) : State :=
  let plan := if reqState s.objs ch = 6 then (getChan s ch).radio.plan else 0
  modRadio s ch fun x =>
    let into := x.trans.any (·.transmits) && !x.st.transmits
    { x with go := some (max plan (s.time + if into then txLead s ch else 0)), txEnable := x.txEnable || (into && txSynthLocked s ch) }

/-- A transition known in advance whose start has come with its class 1 sequences still to complete waits for them, and
the delay is counted (R253). -/
def noteLate (s : State) (ch : Nat) : State :=
  if (getChan s ch).radio.known && inTransition s ch && class1Pending s ch then
    modBus (modRadio s ch fun x => { x with go := none }) (ch / 4) fun b => { b with late := inc32 b.late }
  else s

/-- The same at a block boundary, for every channel. -/
def noteLates (s : State) : State := forEach ((s.chans.filter fun e => e.2.radio.known && e.2.radio.go.isSome).map (·.1)) s noteLate

/-- A transition into `t` is due: its lead begins, and its class 1 sequences are issued where they have not been (R253,
log 43). -/
def startTransition (s : State) (ch : Nat) (t : Radio) : State :=
  let evs := startEvents (getChan s ch).radio.st t
  let s := forEach (evs.filter fun e => !(getChan s ch).radio.issued.contains e) s fun s e => queueEvent s ch e
  let s := modRadio s ch fun x =>
    { x with trans := some t, go := none, held := none, issued := x.issued.filter fun e => !evs.contains e
             lastCmd := if t.transmits && !x.st.transmits then 1 else x.lastCmd }
  noteLate (beginLead s ch) ch

/-- A move to SYNTH or below starts at once (R236, R242): the enable term is low from now on where `drop` says so. -/
def startDrop (s : State) (ch : Nat) (t : Radio) (drop : Bool) : State :=
  let s := startTransition (modRadio s ch fun x => { x with known := false, plan := 0 }) ch t
  modRadio s ch fun x => { x with txEnable := x.txEnable && !drop }

/-- A transition that is to go elsewhere, toward `goal`, is called off, and with it the start that its TDD window set where
the goal lies lower (R236). One that has begun to raise a transmitter ends as a transition out of it does (R251, log 43). -/
def callOff (s : State) (ch : Nat) (goal : Radio) : State :=
  let before := s
  txenFalls before (modRadio s ch fun x =>
    { x with trans := none, go := none, plan := if x.trans.any fun t => decide (goal.rank < t.rank) then 0 else x.plan, txEnable := x.txEnable && x.st.transmits, callOff := x.callOff || (x.trans.any (·.transmits) && !x.st.transmits) })

/-- The next state on the way from `a` to `b` (R236). -/
def nextState (a b : Radio) : Radio :=
  if b.rank ≤ a.rank then b
  else match a with
    | .sleep => .standby | .standby => .synth | _ => b

/-- Is a transition under way to go elsewhere: its target lies above the goal (R236, R237), or it has not started and
is no step on the way to it? -/
def misled (s : State) (ch : Nat) (t goal : Radio) : Bool :=
  decide (goal.rank < t.rank) || (!inTransition s ch && t != goal && nextState (getChan s ch).radio.st goal != t)

/-- The step a channel at rest takes toward its goal. A transmit command whose synthesiser is not locked is held (R247),
and one rejected is issued again only when it locks. -/
def stepRadio (s : State) (ch : Nat) (goal : Radio) : State :=
  let r := (getChan s ch).radio
  if goal = r.st ∧ r.callOff = false then (if r.held.isSome || r.known then modRadio s ch fun x => { x with held := none, known := false } else s)
  else
    let n := nextState r.st goal
    if n.transmits && !r.st.transmits && !txSynthLocked s ch then
      if r.held.isSome || r.rejected then s
      else modRadio s ch fun x => { x with held := some s.time, lastCmd := 2 }
    else if n.rank > 2 && r.st.rank ≤ n.rank && !bothLocked s ch then s
    else startTransition s ch n

/-- A channel moves toward its target, one transition at a time. -/
def driveRadio (s : State) (ch : Nat) : State :=
  let goal := radioTarget s ch
  match (getChan s ch).radio.trans with
  | some t => if misled s ch t goal then stepRadio (callOff s ch goal) ch goal else s
  | none => stepRadio s ch goal

/-- Every channel of a list moves toward its target. -/
def driveAll (s : State) (chs : List Nat) : State := forEach chs s driveRadio

/-- The same for changes that the device does not know in advance (R253). -/
def driveFree (s : State) (chs : List Nat) : State :=
  forEach chs s fun s ch => driveRadio (if (getChan s ch).radio.known then modRadio s ch fun x => { x with known := false } else s) ch

/-- Every channel of the device. -/
def allChannels : List Nat := List.range 96

/-- DC offset re-trim of a channel whose rod die has moved 10 °C since the last (R261, R75): 30 µs of flagged samples,
and the notch estimate cleared. With no valid temperature it does not trigger (R396). -/
def retrimChan (s : State) (ch : Nat) : State :=
  let temp := rodTemp s (ch / 16)
  match (getChan s ch).radio.trimTemp with
  | some t =>
    if !tempKnown s (ch / 16) then s
    else if t = -32768 then modRadio s ch fun x => { x with trimTemp := some temp }
    else if 1000 ≤ (temp - t).natAbs then
      modChan s ch fun c => { c with
        notchRe := 0, notchIm := 0, radio := { c.radio with trimTemp := some temp, invalidUntil := 30 * usUnits + s.time } }
    else s
  | none => s

/-- Does a channel stand above SYNTH (R241), judged from its requested state? TDD counts as above whatever it rests in. -/
def aboveSynth (s : State) (ch : Nat) : Bool :=
  decide (3 ≤ reqState s.objs ch) && (s.life.power == .serve || s.life.power == .quiet || s.life.power == .safe)

/-- Is the channel above SYNTH, or on its way there? -/
def raised (s : State) (ch : Nat) : Bool :=
  decide (2 < (getChan s ch).radio.st.rank) || (getChan s ch).radio.trans.any fun t => decide (2 < t.rank)

/-- May a channel's synthesiser be retuned now (R241)? -/
def mayRetune (s : State) (ch : Nat) : Bool := cfgBool s.objs (radIdx ch 0) 4 || (!aboveSynth s ch && !raised s ch)

/-- The channel drops to SYNTH, and its enable term at once (R242, R246). -/
def dropToSynth (s : State) (ch : Nat) : State :=
  let before := s
  let r := (getChan s ch).radio
  let s := if r.st.rank ≤ 2 then (if r.trans.any fun t => decide (2 < t.rank) then startDrop (callOff s ch r.st) ch r.st true
      else modRadio s ch fun x => { x with held := none })
    else startDrop (callOff s ch .synth) ch .synth true
  txenFalls before s

/-- An interruption (R242): the channel drops to SYNTH, and where it stands above SYNTH by its request (R241) the
boundary is kept. -/
def interrupt (s : State) (ch : Nat) : State :=
  let s := dropToSynth s ch
  if aboveSynth s ch then modRadio s ch fun x => { x with lastInterrupt := s.clk.frame + 1 } else s

/-- Does a retune interrupt the channel: it is above SYNTH, or at it with a request above (R241)? -/
def interrupted (s : State) (ch : Nat) : Bool :=
  raised s ch || (decide (2 ≤ (getChan s ch).radio.st.rank) && aboveSynth s ch)

/-- Synthesisers that are due are recalibrated: with a relief, the lowest-numbered begins its handover (R244); without,
each begins once R241 permits its retune (R245). -/
def recalDue (s : State) (r : Nat) : State :=
  let rod := getRod s r
  if !rod.powered || rod.handover.isSome then s
  else match reliefOf s r with
  | some b =>
    match (List.range 8).find? fun n => (getSynth s r n).st == 5 with
    | some a => modRod (modSynth s r b fun _ => { st := 1, lo := (getSynth s r a).lo }) r fun x => { x with handover := some (a, b) }
    | none => s
  | none => forEach (List.range 8) s fun s n =>
    let users := synthUsers s r n
    if (getSynth s r n).st = 5 && users.all (mayRetune s) then
      let s := forEach (users.filter (interrupted s)) s interrupt
      modSynth s r n fun y => { y with st := 1, due := false }
    else s

/-- RADIO_TRANSITION_END (R236, R238): the state is reached; a transition out of a transmitter drops the
enable term and issues event 1, and the channel goes on toward its target. -/
def execRadioTransitionEnd (ch : Nat) (s : State) : Host.Outcome State Fault Refusal :=
  let s := noteLate s ch
  let r := (getChan s ch).radio
  match r.trans with
  | none => .next s
  | some t =>
    if !inTransition s ch || (decide (2 ≤ t.rank) && decide (r.st.rank < t.rank ∨ (2 < t.rank ∧ r.st.rank = t.rank)) && !bothLocked s ch) then .next s
    else
      let before := s
      let s := modRadio s ch fun x =>
        { x with st := t, trans := none, go := none, plan := if t.transmits then 0 else x.plan, callOff := false, txEnable := t.transmits && x.txEnable }
      let s := txenFalls before s
      let s := if (r.st.transmits || r.callOff) && !t.transmits then queueEvent s ch 1 else s
      let s := if t.transmits && reqState s.objs ch == 6 then retrimChan s ch else s
      .next (driveRadio (recalDue s (ch / 16)) ch)

/-- The class 1 events of transitions known in advance that the channel has still to start (R253): those of the next TDD
window or of its end, of a commit that awaits its boundary, and of the steps that are left of one already applied. -/
def comingEvents (s : State) (ch : Nat) : List Nat :=
  let r := (getChan s ch).radio
  let a := r.trans.getD r.st
  let step (goal : Radio) : List Nat := if goal = a then [] else startEvents a (nextState a goal)
  let later : State := { s with objs := cfgMerge s.objs s.commit.snapshot }
  let swap : State := modRadio s ch fun x => { x with inWindow := !x.inWindow }
  (if r.known then step (radioTarget s ch) else []) ++ (if s.commit.held then step (radioTarget later ch) else []) ++
    (if reqState s.objs ch = 6 ∧ groupTimed s ch = true then step (radioTarget swap ch) else [])

/-- CLASS_1_SEQUENCE_ISSUE (R253): a class 1 sequence issued ahead of a transition known in advance. -/
def execClass1SequenceIssue (ch event : Nat) (s : State) : Host.Outcome State Fault Refusal :=
  if (comingEvents s ch).contains event && !(getChan s ch).radio.issued.contains event then
    .next (queueEvent (modRadio s ch fun x => { x with issued := insertNat event x.issued }) ch event)
  else .next s

/-- TX_COMMAND_REJECT (R247): a held command whose synthesiser has not locked within the TX wait limit. -/
def execTxCommandReject (ch : Nat) (s : State) : Host.Outcome State Fault Refusal :=
  match (getChan s ch).radio.held with
  | none => .next s
  | some t =>
    if txSynthLocked s ch || s.time < t + cfgNat s.objs (radIdx ch 0) 3 * usUnits then .next s
    else
      let s := modRadio s ch fun x => { x with held := none, rejected := true, lastCmd := 3, rejections := inc32 x.rejections }
      .next (faultEvent (tallyEvent s 0x0702 (srcField 2 ch) [radioCode (getChan s ch).radio.st]) (2 * ch))

/-- SYNTH_LOCK (R243, R247): a synthesiser that tunes, calibrates or relocks has locked; a band calibration gives its
result. Held commands start, and those rejected for want of this transmit synthesiser are issued again. -/
def execSynthLock (r n : Nat) (s : State) : Host.Outcome State Fault Refusal :=
  let x := getSynth s r n
  if !(getRod s r).powered || !(x.st == 1 || x.st == 2 || x.st == 6) then .next s
  else
    let s := if x.st = 2 then s else noteBand s r x.lo
    let s := modSynth s r n fun y => { y with st := 3, due := false, calTemp := if x.st = 2 then y.calTemp else some (rodTemp s r) }
    let users := synthUsers s r n
    let s := forEach (users.filter fun ch => (getChan s ch).radio.rejected && (getChan s ch).radio.txSynth == some n) s fun s ch =>
      modRadio s ch fun y => { y with rejected := false }
    .next (driveAll s users)

/-- SYNTH_LOCK_LOSS (R246). -/
def execSynthLockLoss (r n : Nat) (s : State) : Host.Outcome State Fault Refusal :=
  if !synthLocked s r n then .next s
  else
    let s := modSynth s r n fun x => { x with st := 6 }
    .next (forEach (synthUsers s r n) s fun s ch => faultEvent (dropToSynth s ch) (2 * ch))

/-- RELIEF_HANDOVER (R244): the relief has locked, and at a block boundary takes over from the synthesiser that is due,
which becomes the relief; the next that is due follows. Channels that the due one had lost lock for return to their
targets (R246). -/
def execReliefHandover (r : Nat) (s : State) : Host.Outcome State Fault Refusal :=
  match (getRod s r).handover with
  | none => .next s
  | some (a, b) =>
    if !coreRuns s || !(getRod s r).powered || (getSynth s r b).st != 3 then .next s
    else
      let users := synthUsers s r a
      let s := modSynth s r a fun _ => { st := 4 }
      let s := modRod s r fun x => { x with recals := inc32 x.recals, handover := none }
      let s := forEach users s fun s ch =>
        let s := modRadio s ch fun x =>
          { x with rxSynth := if x.rxSynth = some a then some b else x.rxSynth, txSynth := if x.txSynth = some a then some b else x.txSynth }
        tallyEvent s 0x0703 (srcField 2 ch) [0, 0, 0, b]
      .next (recalDue (driveAll s users) r)

/-- The rod die's temperature has been read: band results go stale, and synthesisers whose last band calibration lies
15 °C away become due (R243–R245). -/
def dueSynths (s : State) (r : Nat) : State :=
  let s := forEach (List.range 8) (staleBands s r) fun s n =>
    let x := getSynth s r n
    match x.calTemp with
    | some t =>
      if t = -32768 then modSynth s r n fun y => { y with calTemp := some (rodTemp s r) }
      else if x.st = 3 ∧ 1500 ≤ (rodTemp s r - t).natAbs ∧ (getRod s r).handover.all (fun h => h.2 != n) then
        modSynth s r n fun y => { y with st := 5, due := true } else s
    | none => s
  recalDue s r

/-- Every synthesiser of a rod that holds a frequency has a fresh band calibration (Table 10.8, step 3). -/
def freshSynths (s : State) (r : Nat) : State :=
  let s := forEach (neededLos s.objs r) s fun s lo => noteBand s r lo
  forEach (List.range 8) (dropHandover s r) fun s n =>
    let x := getSynth s r n
    if x.lo = 0 then s else modSynth s r n fun y => { y with calTemp := some (rodTemp s r), due := false, st := if y.st = 5 then 3 else y.st }

/-- Radio control at a commit boundary (R237, R240–R242, R245): one pass over the channels in ascending order. A channel
whose target the commit raises has a new transmit command (R247). A rod that calibrates in its restart takes the commit up
when it returns (R435). -/
def radioCommit (old : SMap Nat) (s : State) : State :=
  let before : State := { s with objs := old }
  let rods := (List.range 6).filter fun r => (getRod s r).powered && !((getRod s r).restarting && (getRod s r).cal == 1)
  let s := forEach rods s assignSynths
  let s := forEach allChannels s fun s ch =>
    let goal := radioTarget s ch
    let up := decide ((radioTarget before ch).rank < goal.rank) || (goal.transmits && !(radioTarget before ch).transmits)
    let s := if goal != radioTarget before ch then modRadio s ch fun x => { x with known := true, rejected := x.rejected && !up } else s
    let moved := rxLo old ch != rxLo s.objs ch || txLo old ch != txLo s.objs ch
    if moved && aboveSynth s ch && (raised s ch || (interrupted s ch && aboveSynth before ch)) then interrupt s ch else driveRadio s ch
  forEach rods s recalDue

/-- A channel goes to SLEEP with its rod (R237): the sequences of the states it leaves are issued (Table 10.5). -/
def sleepChannel (s : State) (ch : Nat) : State :=
  let r := (getChan s ch).radio
  let s := if r.st = .sleep then s else forEach (startEvents r.st .sleep ++ if r.st.transmits || r.txEnable then [1] else []) s fun s e => queueEvent s ch e
  modRadio s ch fun x => { x with
    st := .sleep, trans := none, go := none, plan := 0, known := false, callOff := false, txEnable := false, held := none, rejected := false
    rxSynth := none, txSynth := none, issued := [], inWindow := false }

/-- A rod's radio off: every channel in SLEEP, no synthesiser in use, the relief kept (R237, Table 18.6). -/
def radioOff (s : State) (r : Nat) : State :=
  let before := s
  let s := forEach (rodChannels r) s sleepChannel
  txenFalls before (modRod (dropHandover s r) r fun x => { x with synths := x.synths.filter fun e => e.2.st == 4 })

/-! ### TDD windows (R248) -/

/-- TDD_TX_WINDOW_START: TXEN rises 1.0 µs and t_lead ahead of a transmit window, and the RECEIVE → TRANSMIT transition
starts 1.0 µs ahead of it. Instants inside one frame fall to its row (log 43). -/
def execTddTxWindowStart (ch : Nat) (s : State) : Host.Outcome State Fault Refusal :=
  if !(coreRuns s && reqState s.objs ch == 6 && groupTimed s ch && !(getChan s ch).radio.inWindow) then .next s
  else match windowStart s ch with
  | none => .next s
  | some d => .next (driveRadio (modRadio s ch fun x => { x with inWindow := true, known := true, plan := d + s.time, rejected := false }) ch)

/-- TDD_TX_WINDOW_END: TRANSMIT → RECEIVE starts at the window's end. A window whose command is still held is skipped,
and counted as a rejection. -/
def execTddTxWindowEnd (ch : Nat) (s : State) : Host.Outcome State Fault Refusal :=
  let r := (getChan s ch).radio
  if !r.inWindow || (reqState s.objs ch == 6 && groupTimed s ch && windowRuns s ch) then .next s
  else
    let s := if r.held.isSome then
        let s := modRadio s ch fun x => { x with held := none, lastCmd := 4, rejections := inc32 x.rejections }
        tallyEvent s 0x0702 (srcField 2 ch) [radioCode r.st]
      else s
    let stop := if reqState s.objs ch = 6 ∧ groupTimed s ch = true then s.time + windowStop s ch else 0
    .next (driveRadio (modRadio s ch fun x => { x with inWindow := false, known := true, plan := stop }) ch)

/-! ### Tuner and mismatch (R254–R259) -/

def getMis (s : State) (ch : Nat) : Mismatch := (getChan s ch).mis

/-- States in a channel's tuner table, 0 where it has no tuner. -/
def tunerStates (cfg : SMap Nat) (ch : Nat) : Nat := if cfgNat cfg (radIdx ch 4) 1 = 0 then 0 else cfgNat cfg (radIdx ch 4) 4

/-- A tuner state written as a class 3 Extended Register Write (R259). -/
def writeTuner (s : State) (ch st : Nat) : State :=
  let usid := cfgNat s.objs (radIdx ch 4) 1
  if usid = 0 then s
  else
    let w := cfgNat s.objs (radIdx ch 3) (st + 1)
    let n := cfgNat s.objs (radIdx ch 4) 3
    let data := (List.range n).map fun i => bits w (31 - 8 * i) (24 - 8 * i)
    busQueue s ch [{ cls := 3, ch, event := 8, usid, cmd := 2, addr := cfgNat s.objs (radIdx ch 4) 2, data, last := true }]

/-- A tuner search begins: the state in use is the best so far, where the last return loss was measured in it. -/
def startSearch (s : State) (ch : Nat) : State :=
  let m := getMis s ch
  if tunerStates s.objs ch = 0 ∨ m.search then s
  else modMis s ch fun m =>
    let known := m.rlOf == some m.tuner
    { m with search := true, testing := false, tested := 0, searchAt := s.time, usedKnown := known, best := if known then some (m.tuner, m.rl) else none }

/-- The tuner state a search tests next (R259): in turn, after the state in use. -/
def searchState (s : State) (ch : Nat) : Nat :=
  let m := getMis s ch
  (m.tuner + 1 + m.tested) % max 1 (tunerStates s.objs ch)

/-- The next state is written, to be measured once the write has completed and its settle time has passed (R259). -/
def searchStep (s : State) (ch : Nat) : State :=
  writeTuner (modMis s ch fun m => { m with testing := true, stepAt := none, searchAt := s.time }) ch (searchState s ch)

/-- Has the state under test been written, and its settle time passed? -/
def settled (s : State) (ch : Nat) : Bool :=
  match (getMis s ch).stepAt with | some t => decide (t + cfgNat s.objs (radIdx ch 4) 7 * usUnits ≤ s.time) | none => false

/-- A tested state's return loss is taken; the best state is written when every state has been tested, that in use last
where it had not been measured. -/
def searchResult (s : State) (ch : Nat) (rl : Int) : State :=
  let m := getMis s ch
  if !m.search || !m.testing then s
  else
    let t := searchState s ch
    let best := match m.best with | some b => if rl > b.2 then (t, rl) else b | none => (t, rl)
    if tunerStates s.objs ch ≤ m.tested + 1 + b2n m.usedKnown then
      let s := modMis (writeTuner s ch best.1) ch fun m => { m with search := false, testing := false, tuner := best.1, best := some best }
      tallyEvent s 0x0701 (srcField 2 ch) [m.st, argI best.2, best.1]
    else modMis s ch fun m => { m with testing := false, tested := m.tested + 1, best := some best }

/-- Active transmit sides of a channel. -/
def chanTx (s : State) (ch : Nat) : List Nat := (chanSlots ch).filter (txActive s.objs)

/-- A mismatch state entered, kept in Tally with its return loss. -/
def setMismatch (s : State) (ch st : Nat) : State :=
  tallyEvent (modMis s ch fun m => { m with st }) 0x0700 (srcField 2 ch) [st, argI (getMis s ch).rl, (getMis s ch).tuner]

/-- Capped: the tuner cap of each transmit side is its E less 3.00 dB; a search starts where enabled (R257). -/
def enterCapped (s : State) (ch : Nat) : State :=
  let s := setMismatch s ch 1
  let s := forEach (chanTx s ch) s fun s g => modGain s g fun x =>
    { x with tunerCap := match x.eff with | some e => clip16 (effDb e - 300) | none => x.tunerCap, tunerKept := none }
  if cfgBool s.objs (radIdx ch 4) 6 then startSearch s ch else s

/-- Muted: a channel-scope mute, the caps kept; the front-end source sets (R263). -/
def enterMuted (s : State) (ch : Nat) : State :=
  let s := setMismatch s ch 2
  let s := modMis s ch fun m => { m with mutes := inc32 m.mutes, lastProbe := s.time }
  addMute s (.mismatch ch) (.chan ch)

/-- Normal: the tuner caps are released. -/
def enterNormal (s : State) (ch : Nat) : State :=
  forEach (chanSlots ch) (setMismatch s ch 0) fun s g =>
    if (getGain s g).tunerCap = 32767 then s else modGain s g fun x => { x with tunerCap := 32767, tunerKept := none }

/-- The tuner-state cap that a probe set aside returns. -/
def restoreCap (s : State) (g : Nat) : State :=
  match (getGain s g).tunerKept with
  | some c => modGain s g fun x => { x with tunerCap := c, tunerKept := none }
  | none => s

/-- The next block boundary is to bring a state change, or the end of a probe (3). -/
def turnDue (s : State) (ch st : Nat) : State := modMis s ch fun m => { m with due := some st }

/-- A probe ends without a pass: the mute is reapplied, and the cap is the kept one again (R258). -/
def endProbe (s : State) (ch : Nat) : State :=
  if !(getMis s ch).probing then s
  else
    let s := modMis s ch fun m => { m with probing := false }
    addMute (forEach (chanSlots ch) s restoreCap) (.mismatch ch) (.chan ch)

/-- What a channel's measurement has brought takes effect at a block boundary (R257, R258). -/
def mismatchTurn (s : State) (ch : Nat) : State :=
  let due := (getMis s ch).due
  let s := modMis s ch fun m => { m with due := none }
  match due with
  | some 0 => enterNormal s ch
  | some 1 => enterCapped (dropMute (modMis s ch fun m => { m with probing := false }) (.mismatch ch)) ch
  | some 2 => enterMuted s ch
  | some _ => endProbe s ch
  | none => s

/-- The same for every channel that has such a change. -/
def mismatchTurns (s : State) : State := forEach ((s.chans.filter (·.2.mis.due.isSome)).map (·.1)) s mismatchTurn

/-- A completed return-loss measurement (R255–R257); the state it calls for is entered at the next block boundary. -/
def mismatchResult (s : State) (ch : Nat) : State :=
  let m := getMis s ch
  let rl := clip16 (m.winPf - m.winPr)
  let s := modMis s ch fun m => { m with
    pf := clip16 m.winPf, pr := clip16 m.winPr, rl, rlOf := some (if m.search && m.testing then searchState s ch else m.tuner), recent := (s.time, rl) :: m.recent.filter fun x => decide (s.time < x.1 + 2000 * msUnits) }
  let s := searchResult s ch rl
  match m.st with
  | 0 => if rl < 350 then turnDue s ch 2 else if rl < 600 then turnDue s ch 1 else s
  | 1 =>
    if rl < 350 then turnDue s ch 2
    else
      let last := (getMis s ch).recent
      if 3 ≤ last.length && last.all fun x => decide (700 ≤ x.2) then turnDue s ch 0 else s
  | _ => if m.probing then turnDue s ch (if rl ≥ 450 then 1 else 3) else s

/-- A measurement opportunity skipped (R254, R255); a probe has had its one. -/
def skipMeasurement (s : State) (ch : Nat) : State :=
  modMis s ch fun m => { m with skipped := inc32 m.skipped, due := if m.probing then some 3 else m.due }

/-- Does the window meet 50 µs (R254)? -/
def windowFits (s : State) (ch : Nat) : Bool :=
  let n7 := (sequenceTxns s.objs ch 7 0).length
  let f := cfgNat s.objs (radIdx ch 0xE) 1
  1 ≤ n7 && decide (cfgNat s.objs (radIdx ch 5) 1 * f + (n7 + 1) * 80 * 1000 ≤ 50 * f)

/-- Forward and reflected feedback power referred to the TX_OUT ball (R255), from 0.01 dBFS. -/
def forwardAtBall (s : State) (ch : Nat) (power : Int) : Int := power - (getChan s ch).cal.fbForward
def reflectedAtBall (s : State) (ch : Nat) (power : Int) : Int := power - (getChan s ch).cal.fbReflected

/-- Has TXEN been high in TRANSMIT or DUPLEX over the window length just passed, in which P_f is measured (R255)? -/
def highThrough (s : State) (ch : Nat) : Bool :=
  match (getChan s ch).radio.highAt with | some t => decide (t + cfgNat s.objs (radIdx ch 5) 1 * usUnits ≤ s.time) | none => false

/-- The conditions under which a window opens (R254, R255). -/
def windowAllowed (s : State) (ch : Nat) (p : Int) : Bool :=
  let m := getMis s ch
  let busFree := ((List.range 4).map fun i => 4 * (ch / 4) + i).all fun c => c == ch || (getMis s c).win == 0 || (getMis s c).win == 4
  windowFits s ch && busFree && (m.win == 0 || m.win == 4) && (match m.winAt with | some t => elapsedMs s t 10 | none => true) &&
  (getChan s ch).radio.st.transmits && !inTransition s ch && txen s ch && highThrough s ch && decide (-3000 ≤ p)

/-- The switch goes to reflected: event 6 is issued; with no used entry the window opens at once. -/
def openWindow (s : State) (ch : Nat) (p : Int) : State :=
  let ts := sequenceTxns s.objs ch 6 2
  if ts.isEmpty then modMis s ch fun m => { m with win := 2, winAt := some s.time, winPf := p, winOk := true }
  else busQueue (modMis s ch fun m => { m with win := 1, winPf := p, winOk := true }) ch ts

/-- The first forward measurement after a window must lie within 3.00 dB of P_f (R256). -/
def switchTest (s : State) (ch : Nat) (p : Int) : State :=
  let m := getMis s ch
  if (p - m.winPf).natAbs ≤ 300 then s
  else faultEvent (addMute s (.fbSwitch ch) (.chan ch)) (2 * ch)

/-- Is a measurement called for (R257): once per period, every 10 ms in a search for the state just written,
in Muted only during a probe? A search measures each state it has written once, and again 10 ms after an opportunity
skipped. -/
def measurementDue (s : State) (ch : Nat) : Bool :=
  let m := getMis s ch
  if m.st = 2 then m.probing && m.due.isNone && (!m.testing || settled s ch)
  else if m.search then m.testing && settled s ch && (m.stepAt.any fun t => decide (m.lastMeas < t) || elapsedMs s m.lastMeas 10) &&
    (m.winAt.all fun t => elapsedMs s t 10)
  else elapsedMs s m.lastMeas (cfgNat s.objs (radIdx ch 5) 2)

/-- MISMATCH_MEASUREMENT (R254, R255): `power` is the forward feedback power over the last window length, in 0.01 dBFS,
where it could be measured. -/
def execMismatchMeasurement (ch : Nat) (power : Option Int) (s : State) : Host.Outcome State Fault Refusal :=
  if !coreRuns s || !measurementDue s ch || (getMis s ch).win == 1 || (getMis s ch).win == 2 || (getMis s ch).win == 3 then .next s
  else
    let power := power.map (forwardAtBall s ch)
    let s := match power with
      | some p => if (getMis s ch).win = 4 then switchTest (modMis s ch fun m => { m with win := 0 }) ch p else s
      | none => s
    let s := modMis s ch fun m => { m with lastMeas := s.time }
    match power with
    | some p => if windowAllowed s ch p then .next (openWindow s ch p) else .next (skipMeasurement s ch)
    | none => .next (skipMeasurement s ch)

/-- A reflected window closes: the measurement's result, and the switch test. -/
def closeWindow (s : State) (ch : Nat) (power : Option Int) : State :=
  let s := match power with
    | some p => switchTest (modMis s ch fun m => { m with win := 0 }) ch p
    | none => modMis s ch fun m => { m with win := 4 }
  if (getMis s ch).winOk then mismatchResult s ch else skipMeasurement s ch

/-- REFLECTED_WINDOW_LENGTH_END (R254): `power` is the reflected feedback power over the window, in 0.01 dBFS; the event 7
sequence is issued ahead of every queued transaction. With no entry left in it, a commit having emptied it, the window
closes at once (log 43). -/
def execReflectedWindowLengthEnd (ch : Nat) (power : Int) (s : State) : Host.Outcome State Fault Refusal :=
  let m := getMis s ch
  match m.winAt with
  | some t =>
    if m.win ≠ 2 ∨ s.time < t + cfgNat s.objs (radIdx ch 5) 1 * usUnits then .next s
    else
      let ok := m.winOk && txen s ch && (getChan s ch).radio.st.transmits && !inTransition s ch
      let s := modMis s ch fun m => { m with win := 3, winPr := reflectedAtBall s ch power, winOk := ok }
      let ts := (sequenceTxns s.objs ch 7 0).map fun x => { x with closing := true }
      .next (if ts.isEmpty then closeWindow s ch none else busQueue s ch ts)
  | none => .next s

/-- A completed transaction: a tuner state is written; class 1 sequences that delayed a transition let it start (R253). -/
def txnDone (s : State) (t : Txn) : State :=
  let s := if t.event == 8 && t.last then modMis s t.ch fun m => { m with stepAt := some s.time } else s
  let r := (getChan s t.ch).radio
  if t.cls == 1 && r.trans.isSome && r.go.isNone && !class1Pending s t.ch then modRadio s t.ch fun x => { x with go := some s.time } else s

/-- RFFE_TRANSACTION_COMPLETE (R252, R254): `power` is the first forward feedback power, in 0.01 dBFS, after a window
that this transaction closes. -/
def execRffeTransactionComplete (bus : Nat) (power : Option Int) (s : State) : Host.Outcome State Fault Refusal :=
  match (getBus s bus).busy with
  | none => .next s
  | some t =>
    let s := txnDone (modBus s bus fun b => { b with busy := none, count := inc32 b.count }) t
    let m := getMis s t.ch
    let s :=
      if t.last && t.event == 6 && m.win == 1 then modMis s t.ch fun m => { m with win := 2, winAt := some s.time }
      else if t.last && t.event == 7 && t.closing && m.win == 3 then closeWindow s t.ch (power.map (forwardAtBall s t.ch))
      else s
    .next (busIssue s bus)

/-- MISMATCH_PROBE (R258): the tuner cap is lowered by a further 6.00 dB and the mismatch mute released for
one measurement; with a search enabled the probe tests the next tuner state. -/
def execMismatchProbe (ch : Nat) (s : State) : Host.Outcome State Fault Refusal :=
  let m := getMis s ch
  if !coreRuns s || m.st != 2 || m.probing || !elapsedMs s m.lastProbe (cfgNat s.objs (radIdx ch 5) 7) then .next s
  else
    let s := modMis s ch fun m => { m with probing := true, lastProbe := s.time }
    let s := forEach (chanTx s ch) s fun s g => modGain s g fun x =>
      let base : Int := if x.tunerCap = 32767 then (x.eff.map effDb).getD x.tunerCap else x.tunerCap
      { x with tunerKept := some x.tunerCap, tunerCap := clip16 (base - 600) }
    let s := if cfgBool s.objs (radIdx ch 4) 6 && decide (0 < tunerStates s.objs ch) then searchStep (startSearch s ch) ch else s
    .next (dropMute s (.mismatch ch))

/-- A probe that has lasted 120 µs ends with this boundary (R258). -/
def probeLimit (s : State) : State :=
  forEach ((s.chans.filter fun e => e.2.mis.probing && decide (e.2.mis.lastProbe + 120 * usUnits ≤ s.time)).map (·.1)) s fun s ch =>
    if (getMis s ch).due.isSome then s else if (getMis s ch).win = 0 ∨ (getMis s ch).win = 4 then skipMeasurement s ch else turnDue s ch 3

/-- TUNER_SEARCH_STEP (R259): every 10 ms the next tuner state is written; it is then measured. -/
def execTunerSearchStep (ch : Nat) (s : State) : Host.Outcome State Fault Refusal :=
  let m := getMis s ch
  if !coreRuns s || !m.search || m.testing || m.st == 2 || !elapsedMs s m.searchAt 10 then .next s
  else if tunerStates s.objs ch ≤ b2n m.usedKnown then .next (modMis s ch fun m => { m with search := false })
  else .next (searchStep s ch)

/-- B+0x4:05 written: the state is applied; during a search the write is refused with 0x0C. -/
def tunerStateWrite (s : State) (ch v : Nat) : Nat × State :=
  if (getMis s ch).search then (0x0C, s)
  else if 64 ≤ v then (0x05, s)
  else (0, modMis (writeTuner s ch v) ch fun m => { m with tuner := v })

/-! ### Calibration (R260, R261) -/

/-- A rod calibration starts: the rod is muted and its channels go no higher than SYNTH. -/
def startRodCal (s : State) (r : Nat) : State :=
  let s := modRod s r fun x => { x with cal := 1 }
  driveFree (addMute s (.rodCal r) (.rod r)) (rodChannels r)

/-- B+0x8:01 Calibration request. -/
def calRequest (s : State) (ch v : Nat) : Nat × State :=
  if v = 1 then
    if s.life.power ≠ .hold ∧ s.life.power ≠ .quiet then (0x06, s)
    else if (getRod s (ch / 16)).cal = 1 ∨ (getRod s (ch / 16)).restarting then (0x0C, s)
    else if !(getRod s (ch / 16)).powered then (0, s)
    else (0, startRodCal s (ch / 16))
  else (0, startSearch s ch)

/-- The reference trim of a rod's ADCs and DACs at a reading: at most one LSB, up, down or not at all (R396, Table 10.9);
which, the spec leaves to the converters (log 25). -/
def trimRefs (s : State) (r : Nat) : State :=
  let d := drawNat s
  modRod d.2 r fun x => { x with refTrim := x.refTrim + ((d.1 % 3 : Nat) : Int) - 1 }

/-- DC offset re-trims of a rod (R261); those of TDD channels are placed in a transmit window. -/
def retrimRod (s : State) (r : Nat) : State :=
  forEach (rodChannels r) s fun s ch =>
    if reqState s.objs ch == 6 && !(getChan s ch).radio.st.transmits then s else retrimChan s ch

end Sys2Proof.Machine
end

