-- ==== Sys2Proof/Machine/Canceller.lean ====
section
/-! DEFINITION. Canceller.lean: adaptation, depth, path states and surveys of the mesh feedback canceller
(ch. 7). The subtraction itself stands in SamplePath.lean. -/

namespace Sys2Proof.Machine

/-! ### Settings -/

/-- Is the path's manual freeze set (R171)? -/
def frozen (s : State) (ch p : Nat) : Bool := cfgBool s.objs (canIdx ch 2) (p + 1)

/-- Divisor of the update periods in a throttling frame die (Table 16.2). -/
def throttleDivisor (s : State) : Nat := match s.therm.stage with | 1 => 2 | 2 => 4 | 3 => 8 | _ => 1

/-! ### Path states (R174, R177) -/

/-- State a path rests in under a configuration: disabled, unreachable or in use. -/
def restState (cfg : SMap Nat) (ch p : Nat) : Nat :=
  if !cancOn cfg ch || pathRef cfg ch p == 0xFFFF then 0 else if pathReachable cfg ch p then 1 else 6

/-- Withdrawal of a path's depth: untrained, taps kept, or the state its configuration rests in. The line of an
unreachable path empties (DESIGN CHOICE, log 22). -/
def untrain (cfg : SMap Nat) (ch p : Nat) (x : CPath) : CPath :=
  { x with line := if restState cfg ch p = 6 then [] else x.line, st := restState cfg ch p, depth := 0, okRun := 0, newModel := none, oldModel := none, oldLost := false }

/-- The same with the taps zeroed and e_p = 3. -/
def zeroModel (cfg : SMap Nat) (ch p : Nat) (x : CPath) : CPath :=
  { untrain cfg ch p x with taps := [], e := 3, measured := false, clipped := false, reverted := false }

/-- Fault and record of R178: code 0x0400 + n with path, depth, survey state and peak delay. -/
def pathRecord (s : State) (ch n p : Nat) (depth : Int) : State :=
  let c := (getChan s ch).canc
  tallyEvent s (0x0400 + n) (srcField 2 ch) [p, argI depth, c.survState, c.survDelay]

/-- An event of the channel's path source with its record (R178). -/
def pathFault (s : State) (ch n p : Nat) (depth : Int) : State := pathRecord (faultEvent s (2 * ch + 1)) ch n p depth

/-- Contributor channels of a path (R169). -/
def contributors (cfg : SMap Nat) (ch p : Nat) : List Nat := (contributorSides cfg (pathRef cfg ch p)).map (· / 8)

/-- Transmit-side members of the route a path's reference names. -/
def referenceMembers (cfg : SMap Nat) (ch p : Nat) : List Nat :=
  let ref := pathRef cfg ch p
  if ref < 96 ∨ ref = 0xFFFF then [] else (let r := ref - 0x1000; if routeUp cfg r then [routeEnd cfg r] else slotMembers cfg r)

/-- Channels with a canceller path configured. -/
def pathChannels (cfg : SMap Nat) : List Nat :=
  (cfgRun cfg 0x4000 0x45FF).foldl (fun l e => if e.1 / 256 % 16 = 1 ∧ 1 ≤ e.1 % 256 ∧ e.1 % 256 ≤ 8 then insertNat ((e.1 / 256 - 0x4000) / 16) l else l) []

/-- What a commit does to one path (Table 7.4, R158). -/
def commitPath (old new : SMap Nat) (ch p : Nat) (x : CPath) : CPath :=
  if pathRef old ch p ≠ pathRef new ch p ∨ pathDelay old ch p ≠ pathDelay new ch p then zeroModel new ch p x
  else if restState new ch p ≠ 1 ∨ restState old ch p ≠ 1 then
    if restState new ch p = restState old ch p then x else untrain new ch p x
  else if rotatorOffset old ch p ≠ rotatorOffset new ch p ∨ referenceMembers old ch p ≠ referenceMembers new ch p then untrain new ch p x
  else x

/-- The paths of every channel after a commit. -/
def cancellerCommit (old : SMap Nat) (s : State) : State :=
  let chans := (pathChannels old).foldl (fun l c => insertNat c l) (pathChannels s.objs)
  forEach chans s fun s ch => forEach (List.range 8) s fun s p =>
    let x := getPath s ch p
    let y := commitPath old s.objs ch p x
    if x = y then s else modPath s ch p fun _ => y

/-- Rod restart (own or a contributor's rod) and power-down of the receiving channel's rod (Table 7.4). -/
def cancellerRod (s : State) (r : Nat) (contribToo : Bool) : State :=
  forEach (pathChannels s.objs) s fun s ch => forEach (List.range 8) s fun s p =>
    let hit := ch / 16 == r || (contribToo && (contributors s.objs ch p).any fun c => c / 16 == r)
    if hit && restState s.objs ch p == 1 then modPath s ch p (untrain s.objs ch p) else s

/-- Parity failure in a word of a path's active or replaced model (Table 7.4). -/
def modelParity (s : State) (ch p : Nat) (active : Bool) : State :=
  let d := (getPath s ch p).depth
  let s := pathFault s ch 2 p d
  if active then modPath s ch p (zeroModel s.objs ch p)
  else modPath s ch p fun x => { x with oldLost := x.oldLost || x.oldModel.isSome, oldModel := none }

/-! ### Measurement (R172, R173) -/

/-- Does `num/den ≥ 10^(n/1000)`? -/
def atLeastDbFloor (num den : Nat) (n : Int) : Bool :=
  if 0 ≤ n then decide (den ^ 1000 * 10 ^ n.toNat ≤ num ^ 1000)
  else decide (den ^ 1000 ≤ num ^ 1000 * 10 ^ (-n).toNat)

/-- Binary search of a level rounded down, `n` halvings above `lo`. -/
def dbFloorSearch (num den : Nat) : Nat → Int → Int
  | 0, lo => lo
  | n + 1, lo =>
    let t := lo + 2 ^ n
    if atLeastDbFloor num den t then dbFloorSearch num den n t else dbFloorSearch num den n lo

/-- 10·log10(num/den) in 0.01 dB rounded down, at most 32,767; a zero denominator has no bound. -/
def dbFloor (num den : Nat) : Int := if den = 0 then 32767 else if num = 0 then -32768 else dbFloorSearch num den 16 (-32768)

/-- Σ_j |G_j|² over a window's sums. -/
def corrPower (g : List (Int × Int)) : Nat := sumMap (g.take 32) fun x => x.1.natAbs ^ 2 + x.2.natAbs ^ 2

/-- P_cr in 2⁻³² LSB² from the window's sums, by the formula of R172 with means for g_j and pr (log 22). -/
def corrResidual (n : Nat) (x : PathSums) : Nat := if x.pr = 0 then 0 else corrPower x.g * 2 ^ 32 / (2 ^ (2 * n) * x.pr)

/-- D_meas with its flags: resolution bound, 45 dB limit (R172). -/
def measuredDepth (n pe : Nat) (x : PathSums) : Int × Bool × Bool :=
  if x.pest = 0 then (0, false, false)
  else
    let a := dbFloor (x.pest * 2 ^ n * x.pr) (corrPower x.g * 2 ^ 40)
    let b := dbFloor (2 ^ n * x.pest) (32 * pe * 2 ^ 40)
    let m := min (min a b) 4500
    (m, decide (b < a) && decide (m = b), decide (4500 < min a b))

/-- Is the mean reference power of the window below the floor of −70.00 dBFS (R166)? -/
def belowFloor (n : Nat) (x : PathSums) : Bool := decide (x.pr * 10 ^ 7 < 2 ^ n * 2 ^ 30)

/-- A path measured on a window: powers, depth falling at once and rising at most 3.00 dB, state (R173–R175). -/
def measurePath (s : State) (ch n pe : Nat) (w : PathSums) (x : CPath) : CPath :=
  let d := measuredDepth n pe w
  let base : Int := if x.st = 5 ∨ x.st = 1 then 0 else x.depth
  let depth := if d.1 ≤ base then d.1 else min d.1 (base + 300)
  let entering := decide (x.st = 1)
  let okRun := if x.st ≤ 2 then (if depth ≥ (cancSet s ch 8 : Int) then (if entering then 0 else x.okRun) + 1 else 0) else 0
  let st := if x.st ≤ 2 then (if 4 ≤ okRun then 3 else 2) else 3
  { x with
    pest := w.pest / 2 ^ (n + 8), pcr := corrResidual n w, pr := w.pr * 2 ^ 32 / 2 ^ n, measured := true,
    depth, lastMeas := s.time, resBound := d.2.1, lim45 := d.2.2, belowFloor := false, st, okRun,
    trainSince := if entering then s.time else x.trainSince }

/-! ### Update (R164, R167, R168) -/

/-- The step exponent b of a path that was in state `st` when the window was measured. -/
def stepExponent (s : State) (ch st : Nat) : Nat :=
  let b := if st ≤ 2 then 1 else cancSet s ch 4
  if 0 < (getChan s ch).canc.raised then min 8 (b + 1) else b

/-- An 18-bit tap part clipped. -/
def clip18 (v : Int) : Int := satSigned 18 v

/-- One tap part moved by β·g/pr·2^(17+e), rounded to nearest. -/
def stepPart (c g : Int) (pr e b : Nat) : Int := c + roundDiv (g * 2 ^ (17 + e)) (pr * 2 ^ b)

/-- The new model of a path from its window: taps, exponent and tap parts clipped at e = 0 (R164, R167). -/
def updateModel (b : Nat) (w : PathSums) (x : CPath) : (List (Int × Int) × Nat) × Nat :=
  let raw := (List.range 32).map fun j =>
    let c := x.taps.getD j (0, 0)
    let g := w.g.getD j (0, 0)
    (stepPart c.1 g.1 w.pr x.e b, stepPart c.2 g.2 w.pr x.e b)
  let clips := if x.e = 0 then sumMap raw fun c => b2n (clip18 c.1 != c.1) + b2n (clip18 c.2 != c.2) else 0
  let taps := raw.map fun c => (clip18 c.1, clip18 c.2)
  let top := taps.foldl (fun m c => max m (max c.1.natAbs c.2.natAbs)) 0
  let m := if 65536 < top ∧ 0 < x.e then (taps.map fun c => (roundQ 1 c.1, roundQ 1 c.2), x.e - 1)
    else if top < 16384 ∧ x.e < 3 then (taps.map fun c => (2 * c.1, 2 * c.2), x.e + 1)
    else (taps, x.e)
  (m, clips)

/-- The channel's figures of a window: the powers of the total estimate and of the residual (Table 7.5). -/
def channelFigures (s : State) (ch n : Nat) (w : ObsWindow) : State :=
  modCanc s ch fun c => { c with
    estPower := clip16 (dbOf w.ptot (2 ^ n * 2 ^ 70)), resPower := clip16 (dbOf w.pe (2 ^ n * 2 ^ 30)), totPower := w.ptot / 2 ^ (n + 8) }

/-- The channel depth B+0x0:0A (R173): from the last total estimate and the present published depths of the paths in
use that have been measured. -/
def channelDepth (s : State) (ch : Nat) : Int :=
  let ps := ((livePaths s.objs ch).map (getPath s ch)).filter (·.measured)
  let left := sumMap ps fun x => max x.pcr (x.pest * 2 ^ 64 / powRatio x.depth)
  let c := (getChan s ch).canc
  if ps.isEmpty || c.totPower = 0 then 0 else clip16 (dbOf c.totPower (max 1 left))

/-- A reversion (R168): the replaced models return, are flagged and counted, and b is raised for 8 updates.
A path whose replaced model was lost becomes untrained. -/
def revert (s : State) (ch : Nat) : State :=
  let hit := (List.range 8).filter fun p => let x := getPath s ch p; x.oldModel.isSome || x.oldLost
  let s := forEach hit s fun s p => modPath s ch p fun x =>
    match x.oldModel with
    | some m => { x with taps := m.1, e := m.2, oldModel := none, newModel := none, reverted := true }
    | none => untrain s.objs ch p x
  let s := modCanc s ch fun c => { c with
    reversions := inc32 c.reversions, raised := 8, lastCr := none,
    history := match c.history with | _ :: t => true :: t | [] => [true] }
  let c := (getChan s ch).canc
  if 4 ≤ (c.history.filter id).length then
    let p := hit.headD 0
    pathFault s ch 0 p (getPath s ch p).depth
  else s

/-- A path not measured in its period: tracking turns to held (Table 7.2). -/
def unmeasured (s : State) (ch : Nat) (ps : List Nat) : State :=
  forEach ps s fun s p => if (getPath s ch p).st = 3 then modPath s ch p fun x => { x with st := 4 } else s

/-- The strongest of a span's 32 correlations against the best so far, with its apparent delay (R163). -/
def bestLag (span : Nat) (x : PathSums) (best : (Nat × Nat) × Nat) : (Nat × Nat) × Nat :=
  (x.g.take 32).zipIdx.foldl (fun b (g, j) =>
    let p := (g.1.natAbs ^ 2 + g.2.natAbs ^ 2, x.pr ^ 2)
    if b.1.1 * p.2 < p.1 * b.1.2 || (b.1.2 == 0 && decide (0 < p.1)) then (p, 32 * span + j) else b) best

/-- The survey's span of this period (R163): correlated on the window where that is clean for the reference, or its
reference found below the floor. -/
def surveySpan (s : State) (ch n : Nat) (w : ObsWindow) : State :=
  match w.survey with
  | none => s
  | some x =>
    if (getChan s ch).canc.survState ≠ 1 || !x.clean then s
    else modCanc s ch fun c =>
      if belowFloor n x then { c with survBelow := c.survBelow + 1 }
      else
        let b := bestLag c.survProgress x (c.survBest, c.survAt)
        { c with survBelow := 0, survProgress := min 128 (c.survProgress + 1), survBest := b.1, survAt := b.2 }

/-- The paths a window measures: in use, clean, at or above the floor. -/
def measurable (s : State) (ch n : Nat) (w : ObsWindow) : List PathSums :=
  w.paths.filter fun x => x.clean && pathInUse s.objs ch x.path && !(getPath s ch x.path).skipOnce && !belowFloor n x

/-- How long after its window's end new taps come into force at the latest: 0.25 ms (R165). -/
def applyLimit : Nat := 250 * usUnits

/-- One clean window of the engine (R164–R168, R172–R175). -/
def runWindow (s : State) (ch : Nat) (w : ObsWindow) : State :=
  let n := w.n
  let low := w.paths.filter fun x => x.clean && pathInUse s.objs ch x.path && belowFloor n x
  let ms := measurable s ch n w
  let s := forEach low s fun s x => modPath s ch x.path fun y => { y with belowFloor := true }
  let before := ms.map fun x => (x, (getPath s ch x.path).st)
  let s := forEach ms s fun s x => modPath s ch x.path (measurePath s ch n w.pe x)
  let s := unmeasured s ch ((List.range 8).filter fun p => !ms.any (·.path == p))
  let s := if ms.isEmpty then s else channelFigures s ch n w
  let cr := sumMap ms (corrResidual n)
  let diverged := match (getChan s ch).canc.lastCr with
    | some old => decide (old * powRatio (cancSet s ch 6) < cr * 2 ^ 64)
    | none => false
  let s := surveySpan s ch n w
  if diverged then revert s ch
  else
    let todo := before.filter fun x => !frozen s ch x.1.path
    if todo.isEmpty then modCanc s ch fun c => { c with lastCr := none }
    else
      let s := forEach todo s fun s x =>
        let m := updateModel (stepExponent s ch x.2) x.1 (getPath s ch x.1.path)
        let s := modPath s ch x.1.path fun y => { y with newModel := some m.1, clipped := decide (0 < m.2), reverted := false }
        modCanc s ch fun c => { c with clips := sat32 (c.clips + m.2) }
      modCanc s ch fun c => { c with lastCr := some cr, raised := c.raised - 1, applyBy := w.last + applyLimit }

/-! ### Freezes (R169, Table 7.1) -/

/-- Does a standing oscillation flag stop the channel's windows (Table 7.1, R200): that of one of its own receive
sides, or of any receive side of a loop that passes through the channel? -/
def oscillating (s : State) (ch : Nat) : Bool :=
  (chanSlots ch).any (oscFlag s) ||
  s.gov.inUse.any fun r =>
    ((loopRx s.objs r).any (oscFlag s)) && ((loopRx s.objs r ++ loopTx s.objs r).any fun g => g / 8 == ch)

/-- What Table 7.1 takes the changes of, as it stands now. -/
def watchOf (s : State) (ch : Nat) : Watch :=
  let c := getChan s ch
  let lo (n : Option Nat) : Nat := match n with | some i => (smGet {} (getRod s (ch / 16)).synths i).lo | none => 0
  { osc := oscillating s ch, txen := txen s ch, radio := radioCode c.radio.st, inTrans := inTransition s ch,
    rxSynth := c.radio.rxSynth, txSynth := c.radio.txSynth, rxLo := lo c.radio.rxSynth, txLo := lo c.radio.txSynth,
    slots := (chanSlots ch).map fun g => ((getGain s g).mult, txNco s.objs g, (getSlot s g).resetAt, (getGain s g).steps) }

/-- Is a multiplier's move from `a` to `b` a step of 3 dB or more? -/
def bigStep (a b : Nat) : Bool :=
  a != b && (decide (a * a * powRatio 300 ≤ b * b * 2 ^ 64) || decide (b * b * powRatio 300 ≤ a * a * 2 ^ 64))

/-- Changes of Table 7.1 at this boundary: of the channel as receiver, of it as transmitter, and of its slots. -/
def watchRx (a b : Watch) : Bool := a.radio != b.radio || a.inTrans != b.inTrans || a.rxSynth != b.rxSynth || a.rxLo != b.rxLo
def watchTx (a b : Watch) : Bool := a.txen != b.txen || a.txSynth != b.txSynth || a.txLo != b.txLo
def watchSlots (a b : Watch) : List Nat :=
  ((a.slots.zip b.slots).zipIdx.filter fun (e, _) => bigStep e.1.1 e.2.1 || e.1.2.1 != e.2.2.1 || e.1.2.2 != e.2.2.2).map (·.2)

/-- A change met at this boundary: its times kept, for the guard that follows it. -/
def watchChannel (s : State) (ch : Nat) : State :=
  let a := (getChan s ch).watch
  let b := watchOf s ch
  if a = b ∧ b.osc = false then s
  else modChan s ch fun c => { c with
    watch := b
    rxEdge := if watchRx a b then some s.time else c.rxEdge
    txEdge := if watchTx a b then some s.time else c.txEdge
    slotEdge := (watchSlots a b).foldl (fun l i => smSet 0 l i s.time) c.slotEdge
    oscFrom := if b.osc && !a.osc && !inGuard c.oscAt (freezeGuard s.objs ch) s.time then s.time else c.oscFrom
    oscAt := if b.osc then some s.time else c.oscAt }

/-- Does a window reach into the guard that precedes a change at this boundary? -/
def reaches (s : State) (guard : Nat) (w : Option ObsWindow) : Bool :=
  match w with | some w => decide (s.time ≤ w.last + guard) | none => false

/-- A window that holds samples excluded for some paths after the fact. -/
def spoilPaths (bad : Nat → Bool) (surveyBad : Bool) (w : ObsWindow) : ObsWindow :=
  { w with
    paths := w.paths.map fun x => if bad x.path then { x with clean := false } else x
    survey := w.survey.map fun x => if surveyBad then { x with clean := false } else x }

/-- The guard that precedes a change (Table 7.1): the engine has buffered its window, so a change at this boundary
excludes samples it has taken already. -/
def guardBefore (s : State) (ch : Nat) : State :=
  let x := getChan s ch
  let guard := freezeGuard s.objs ch
  let now (e : Option Nat) : Bool := e == some s.time
  let bad (p : Nat) : Bool := now (contributorEdge s (pathRef s.objs ch p))
  let sv := now (contributorEdge s x.canc.survRef)
  let hitW := reaches s guard x.canc.win
  let hitC := reaches s guard x.canc.cand
  if !(hitW || hitC) then s
  else if now x.rxEdge then
    modCanc s ch fun c =>
      let c := if hitW then dropWindow c else c
      if hitC then { c with cand := none, discarded := inc32 c.discarded } else c
  else if (List.range 8).any bad || sv then
    modCanc s ch fun c => { c with
      win := if hitW then c.win.map (spoilPaths bad sv) else c.win, cand := if hitC then c.cand.map (spoilPaths bad sv) else c.cand }
  else s

/-- Channels in which a path or a survey takes windows. -/
def windowChannels (s : State) : List Nat :=
  s.chans.foldl (fun l e => if e.2.canc.survState == 1 then insertNat e.1 l else l) (pathChannels s.objs)

/-- Every channel that a canceller reads or contributes to, then the guards, at a block boundary. -/
def watchFrame (s : State) : State :=
  let rx := windowChannels s
  let sources (ch : Nat) : List Nat :=
    (List.range 8).flatMap (contributors s.objs ch) ++ (contributorSides s.objs (getChan s ch).canc.survRef).map (· / 8)
  let all := rx.foldl (fun l ch => (sources ch).foldl (fun l c => insertNat c l) (insertNat ch l)) []
  let s := forEach all s watchChannel
  forEach rx s guardBefore

/-- The tap lines of paths that no block has moved in this frame, with a reference that can be reached: they take the
reference's samples all the same, and a window that waits for the channel's samples ends. -/
def idlePaths (s : State) : State :=
  forEach (pathChannels s.objs) s fun s ch =>
    let ran := computes s ch && (getRod s (ch / 16)).powered && !(getRod s (ch / 16)).restarting
    if ran && cancOn s.objs ch then s
    else
      let ps := (List.range 8).filter fun p => pathRef s.objs ch p != 0xFFFF && pathReachable s.objs ch p
      let ws := ps.map (pathWork {} s {} ch)
      modCanc s ch fun c => dropWindow (movePaths ws lineOfWork c)

/-! ### Rows -/

/-- Does the adaptation engine work on a channel (R164)? -/
def engineRuns (s : State) (ch : Nat) : Bool :=
  let rod := getRod s (ch / 16)
  coreRuns s && decide (ch < 96) && rod.powered && !rod.restarting && cancOn s.objs ch

/-- The first clean window of the present period worked as soon as it is full; `bad` is a word of it with bad parity. -/
def workPeriod (s : State) (ch : Nat) (bad : Option Nat) (w : ObsWindow) : State :=
  let s := modCanc (parityWord s 12 bad) ch fun c => { c with win := none, cand := none, worked := true, skip := 0 }
  match bad with
  | none => runWindow s ch w
  | some _ => unmeasured (modCanc s ch fun c => { c with noUpdate := inc32 c.noUpdate }) ch (List.range 8)

/-- A period that ends without a window worked in it (R170, R387): counted, unless throttling skips it. -/
def endPeriod (s : State) (ch : Nat) (skips : Bool) : State :=
  let c := (getChan s ch).canc
  let s := modCanc s ch fun c => { newPeriod s.time c with skip := if skips then c.skip + 1 else 0, noUpdate := if skips || c.worked then c.noUpdate else inc32 c.noUpdate }
  if c.worked then s else unmeasured s ch (List.range 8)

/-- CANCELLER_UPDATE_PERIOD (R164, R166–R175, R387): the engine turns to a channel. The first clean window of the present
period is worked once it is full; a period that has passed without one ends. `bad` is the byte offset of a word of the
window's measurement buffers that reads with bad parity: the measurement is discarded, as if no window were clean
(Table 1.7, region 12; log 41). -/
def execCancellerUpdatePeriod (ch : Nat) (bad : Option Nat) (s : State) : Host.Outcome State Fault Refusal :=
  let c := (getChan s ch).canc
  let skips := decide (c.skip + 1 < throttleDivisor s)
  if !engineRuns s ch then .next s
  else match if skips then none else c.cand with
    | some w => .next (workPeriod s ch bad w)
    | none => .next (if periodOver s ch then endPeriod s ch skips else s)

/-- The new models of a channel come into force together; the replaced models are kept. A window that was filling began
under the old model and begins anew (log 22). -/
def applyModels (s : State) (ch : Nat) : State :=
  let s := forEach (List.range 8) s fun s p => modPath s ch p fun x =>
    match x.newModel with
    | some m => { x with oldModel := some (x.taps, x.e), oldLost := false, taps := m.1, e := m.2, newModel := none }
    | none => { x with oldModel := none, oldLost := false }
  modCanc s ch fun c => { c with updates := inc32 c.updates, history := (false :: c.history).take 64, win := none }

/-- Does some path of a channel wait for its new model? -/
def modelWaits (s : State) (ch : Nat) : Bool := (List.range 8).any fun p => (getPath s ch p).newModel.isSome

/-- CANCELLER_MODEL_APPLY (R165): at a block boundary. -/
def execCancellerModelApply (ch : Nat) (s : State) : Host.Outcome State Fault Refusal :=
  .next (if coreRuns s && modelWaits s ch then applyModels s ch else s)

/-- At a boundary that is the last within 0.25 ms of a window's end the window is worked and its taps are in force (R165). -/
def engineLimit (s : State) (ch : Nat) : State :=
  let late (t : Nat) : Bool := decide (t < s.time + frameUnits)
  let c := (getChan s ch).canc
  let s := match c.cand with
    | some w => if engineRuns s ch && decide (throttleDivisor s ≤ c.skip + 1) && late (w.last + applyLimit) then workPeriod s ch none w else s
    | none => s
  if modelWaits s ch && late (getChan s ch).canc.applyBy then applyModels s ch else s

/-- The same for every channel with a window or a model that waits. -/
def engineLimits (s : State) : State := forEach (windowChannels s) s engineLimit

/-- TRAINING_TIMEOUT (R175, R178): a path 200 ms in training tracks; a shortfall is recorded. -/
def execTrainingTimeout (ch p : Nat) (s : State) : Host.Outcome State Fault Refusal :=
  let x := getPath s ch p
  if x.st = 2 ∧ elapsedMs s x.trainSince 200 = true then
    let s := modPath s ch p fun x => { x with st := 3, okRun := 0 }
    .next (if x.depth < (cancSet s ch 8 : Int) then pathFault s ch 1 p x.depth else s)
  else .next s

/-- PATH_STALE (R174, R178): a held path older than the hold limit has depth 0. -/
def execPathStale (ch p : Nat) (s : State) : Host.Outcome State Fault Refusal :=
  let x := getPath s ch p
  if x.st = 4 ∧ x.lastMeas + cancSet s ch 7 * msUnits < s.time then
    .next (pathRecord (modPath s ch p fun x => { x with st := 5, depth := 0 }) ch 3 p 0)
  else .next s

/-- SURVEY_COMPLETE (R163): after span 127 the strongest uncancelled coupling is reported: its apparent delay and its
gain relative to the reference. `badDelay` and `badGain` are the byte offsets of result words in the measurement
buffers that read with bad parity: the two figures then keep their previous value (Table 1.7, region 12; log 41). -/
def execSurveyComplete (ch : Nat) (badDelay badGain : Option Nat) (s : State) : Host.Outcome State Fault Refusal :=
  let c := (getChan s ch).canc
  if c.survState = 1 ∧ c.survProgress = 128 then
    let s := parityWord (parityWord s 12 badDelay) 12 badGain
    let s := modCanc s ch fun c =>
      if badDelay.isSome || badGain.isSome then { c with survState := 2 }
      else { c with survState := 2, survDelay := c.survAt, survGain := clip16 (dbOf c.survBest.1 c.survBest.2) }
    .next (pathRecord s ch 4 0xFF (channelDepth s ch))
  else .next s

/-- SURVEY_ABANDON (R163): the reference stayed below the floor for 128 periods in a row. -/
def execSurveyAbandon (ch : Nat) (s : State) : Host.Outcome State Fault Refusal :=
  let c := (getChan s ch).canc
  if c.survState = 1 ∧ 128 ≤ c.survBelow then
    let s := modCanc s ch fun c => { c with survState := 3 }
    .next (pathRecord s ch 4 0xFF (channelDepth s ch))
  else .next s

/-! ### Writes -/

/-- A survey's part of a window that was filling under another reference has no whole span. -/
def spoilSurvey (c : Canceller) : Canceller :=
  { c with win := c.win.map (spoilPaths (fun _ => false) true), cand := c.cand.map (spoilPaths (fun _ => false) true) }

/-- A write of B+0x6:01 (R163): a reference code starts a survey, 0xFFFF stops it. -/
def surveyWrite (s : State) (ch v : Nat) : Nat × State :=
  if v = 0xFFFF then
    (0, modCanc s ch fun c => { c with survRef := v, survState := if c.survState = 1 then 0 else c.survState })
  else if v < 96 ∨ (0x1000 ≤ v ∧ v < 0x2000) then
    (0, modCanc s ch fun c => { spoilSurvey c with survRef := v, survState := 1, survProgress := 0, survBelow := 0, survBest := (0, 0), survAt := 0 })
  else (0x05, s)

/-- A write of B+0x2:01–08 (R171): the stored value is the freeze; a model not yet applied is dropped. -/
def freezeWrite (s : State) (ch p v : Nat) : State :=
  if v = 1 then modPath s ch p fun x => { x with newModel := none } else s

/-- A write of B+0x2:09–10 (R177, Table 7.4): 0x01 zeroes the taps. -/
def modelResetWrite (s : State) (ch p v : Nat) : Nat × State :=
  if v = 1 then (0, modPath s ch p (zeroModel s.objs ch p)) else (0x05, s)

/-- A write of B+0x7:01 (R180): 0–7 latches the path's model, 0xFF none. -/
def snapshotWrite (s : State) (ch v : Nat) : Nat × State :=
  if v < 8 then
    let x := getPath s ch v
    (0, modCanc s ch fun c => { c with snapPath := v, snapFrame := s.clk.frame + 1, snapExp := x.e, snapTaps := x.taps })
  else if v = 0xFF then (0, modCanc s ch fun c => { c with snapPath := v, snapFrame := 0, snapExp := 3, snapTaps := [] })
  else (0x05, s)

end Sys2Proof.Machine
end

