-- ==== Sys2Proof/Machine/Links.lean ====
section
/-! DEFINITION. Links.lean: donor links, chain links, streams and their queues (ch. 12). The relay of OLP
messages stands in Relay.lean. -/

namespace Sys2Proof.Machine

/-! ### Configuration (Tables 12.10 and 12.11) -/

def dnObj (l off : Nat) : Nat := 0x1900 + 8 * l + off
def xlObj (l off : Nat) : Nat := 0x1A00 + 8 * l + off
/-- Mode of a DN port: 0 off, 1 eCPRI, 2 export; of an XL lane: 0 off, 1 Xanosh. -/
def dnMode (cfg : SMap Nat) (l : Nat) : Nat := cfgNat cfg (dnObj l 0) 1
def xlMode (cfg : SMap Nat) (l : Nat) : Nat := cfgNat cfg (xlObj l 0) 1
/-- Own MAC: committed, or the factory's (log 9). -/
def ownMac (s : State) (l : Nat) : Nat :=
  match s.objs.find? fun e => e.1 == key (dnObj l 0) 3 with | some e => e.2 | none => smGet 0 s.nv.macs l
/-- A DN stream's word: `dir` 1 ingress, 2 egress. -/
def dnStreamWord (cfg : SMap Nat) (l dir n : Nat) : Nat := cfgNat cfg (dnObj l dir) (n + 1)
/-- Rate of an XL slot: `dir` 1 ingress, 2 egress; 0xFF unused. -/
def xlSlotRate (cfg : SMap Nat) (l dir j : Nat) : Nat := cfgNat cfg (xlObj l 1) (if dir = 1 then j + 4 else j + 1)

/-- Rate exponent of a configured stream; none where it is not (R287, R302). -/
def streamRate (cfg : SMap Nat) (code dir : Nat) : Option Nat :=
  let n := endStream code
  let l := endLink code
  if 96 ≤ n then none
  else if endKind code = 1 then
    let w := dnStreamWord cfg l dir n
    if dnMode cfg l = 1 ∧ bit w 31 then some (bits w 18 16) else none
  else
    let k := xlSlotRate cfg l dir (n % 3)
    if xlMode cfg l = 1 ∧ k ≤ 5 ∧ n / 3 < 2 ^ k then some k else none

/-- The streams of a port that are configured in a direction. -/
def portStreams (cfg : SMap Nat) (kind l dir : Nat) : List Nat :=
  (List.range 96).filter fun n => (streamRate cfg (streamCode kind l n) dir).isSome

/-! ### Port and lane state -/

/-- Is a DN port up (2 or 3 in D+0:08)? -/
def dnUp (s : State) (l : Nat) : Bool := let p := getDn s l; dnMode s.objs l != 0 && p.link && !p.restarting

/-- D+0:08. -/
def dnState (s : State) (l : Nat) : Nat :=
  if dnMode s.objs l = 0 then 0 else if !dnUp s l then 1 else if dnMode s.objs l = 2 then 3 else 2

/-- Is a lane up? -/
def xlUp (s : State) (l : Nat) : Bool := let x := getXl s l; xlMode s.objs l != 0 && x.up && !x.restarting

/-- X+0:06. -/
def xlState (s : State) (l : Nat) : Nat :=
  let x := getXl s l
  if xlMode s.objs l = 0 then 0 else if !x.locked || x.restarting then 1 else if x.up then 3 else 2

/-- The ring partner of a lane; is the lane the primary of its pair? -/
def ringPartner (s : State) (l : Nat) : Option Nat :=
  let p := cfgNat s.objs (xlObj l 0) 4
  if p < 16 then some p else none
def ringPrimary (s : State) (l : Nat) : Bool := cfgBool s.objs (xlObj l 0) 5

/-- A lane's own and, for a ring primary, its partner's copies: is some copy coming (R307)? -/
def xlFed (s : State) (l : Nat) : Bool :=
  xlUp s l || (ringPrimary s l && !(getXl s l).ignored && match ringPartner s l with | some p => xlUp s p | none => false)

/-! ### Streams -/

def getIn (s : State) (code : Nat) : InStream :=
  if endKind code = 1 then smGet {} (getDn s (endLink code)).ins (endStream code) else smGet {} (getXl s (endLink code)).streams (endStream code)
def modIn (s : State) (code : Nat) (f : InStream → InStream) : State :=
  if endKind code = 1 then modDn s (endLink code) fun p => { p with ins := smMod {} p.ins (endStream code) f }
  else modXl s (endLink code) fun p => { p with streams := smMod {} p.streams (endStream code) f }
def getOut (s : State) (code : Nat) : OutStream :=
  if endKind code = 1 then smGet {} (getDn s (endLink code)).outs (endStream code) else smGet {} (getXl s (endLink code)).outs (endStream code)
def modOut (s : State) (code : Nat) (f : OutStream → OutStream) : State :=
  if endKind code = 1 then modDn s (endLink code) fun p => { p with outs := smMod {} p.outs (endStream code) f }
  else modXl s (endLink code) fun p => { p with outs := smMod {} p.outs (endStream code) f }

/-- Source field of a link in Tally. -/
def linkSource (code : Nat) : Nat := srcField (if endKind code = 1 then 6 else 7) (endLink code)

/-- Downlink routes that a stream is the source of. -/
def routesFrom (cfg : SMap Nat) (code : Nat) : List Nat := (routesInUse cfg).filter fun r => !routeUp cfg r && routeEnd cfg r == code

/-- Transmit sides that a stream feeds. -/
def sidesFed (cfg : SMap Nat) (code : Nat) : List Nat := (routesFrom cfg code).flatMap (slotMembers cfg)

/-- The stream that feeds a transmit side, if any. -/
def feedingStream (cfg : SMap Nat) (g : Nat) : Option Nat :=
  let r := txRoute cfg g
  if routeUsed cfg r && !routeUp cfg r && (endKind (routeEnd cfg r) == 1 || endKind (routeEnd cfg r) == 2) then some (routeEnd cfg r) else none

/-- Has a stream run for 10 ms without a break? -/
def streamSettled (s : State) (code : Nat) : Bool := let x := getIn s code; x.st == 2 && elapsedMs s x.runSince 10

/-- A stream takes a state, with its record; the sides it feeds are muted while it does not run (R290). -/
def setStream (s : State) (code st : Nat) : State :=
  let x := getIn s code
  if x.st = st then s
  else
    let s := modIn s code fun x => { x with
      st, runSince := if st = 2 then s.time else x.runSince, badSince := if x.st = 1 ∨ x.st = 3 then x.badSince else s.time,
      queue := if st = 2 then x.queue else [], xbar := if st = 2 then x.xbar else [], pathLost := x.pathLost && st != 0,
      resynced := x.resynced && st != 3 && st != 0 }
    let s := tallyEvent s 0x0901 (linkSource code) [st, endStream code]
    if st = 2 then s else forEach (sidesFed s.objs code) s fun s g => addMute s (.stream g) (.slot g)

/-- Has a stream been declared lost as a donor path, with no 10 ms run since (R455)? -/
def streamLost (s : State) (code : Nat) : Bool := (getIn s code).pathLost && !streamSettled s code

/-- Stream mutes at a block boundary (R290): a side keeps its mute while the stream that feeds it has not run for 10 ms;
one that no stream feeds any more is released here, since a commit releases none (R30). -/
def releaseStreamMutes (s : State) : State :=
  { s with mutes := s.mutes.filter fun m => match m.owner with
    | .stream g => match feedingStream s.objs g with | some c => !streamSettled s c | none => false
    | _ => true }

/-- A stream out of disabled: acquiring where its link can bring it, else lost. -/
def enableStream (s : State) (code : Nat) : State :=
  let up := if endKind code = 1 then dnUp s (endLink code) else xlFed s (endLink code)
  let s := modIn s code fun _ => { badSince := s.time, lastAt := s.time }
  setStream s code (if up then 1 else 3)

/-- Carrier samples of the frames from `a` to `b − 1`. -/
def gridSpan (k a b : Nat) : Nat :=
  if b ≤ a then 0 else (72 * (b + 1) + 2 ^ k - 1) / 2 ^ k - (72 * (a + 1) + 2 ^ k - 1) / 2 ^ k

/-- The samples of one message or superframe put in the queue at their scheduled place: those whose frame
has passed are left out. `frames` is the span of a block. -/
def pushBlock (s : State) (code k frames : Nat) (xs : List Smp) : State :=
  modIn s code fun x => { x with
    queue := x.queue ++ xs.drop (gridSpan k x.sched s.clk.frame), sched := x.sched + frames }

/-- Poisoned samples counted on a port. -/
def countLinkPoison (s : State) (code n : Nat) : State :=
  if endKind code = 1 then modDn s (endLink code) fun p => { p with poisoned := sat32 (p.poisoned + n) }
  else modXl s (endLink code) fun p => { p with poisoned := sat32 (p.poisoned + n) }

/-- A block that did not arrive, or failed: poisoned zeros in its place. -/
def pushPoison (s : State) (code k frames n : Nat) : State := pushBlock s code k frames (poisonZeros n)

/-- What the Crossbar finds of a stream in this transfer frame (R289): zeros while the stream does not run or before its
release boundary, but poison from a resynchronisation to the new release boundary (R297, log 45); then the samples
scheduled, poison where they are missing. -/
def streamFrame (x : InStream) (frame n : Nat) : List Smp :=
  if x.st = 2 ∧ x.release ≤ frame then
    let got := x.queue.take n
    got ++ poisonZeros (n - got.length)
  else if x.resynced then poisonZeros n
  else List.replicate n {}

/-- The Crossbar takes a stream's samples of this transfer frame; poisoned ones are counted as they are taken. -/
def takeStream (s : State) (code k : Nat) : State :=
  let x := getIn s code
  let n := gridCount k s.clk.frame
  let xs := streamFrame x s.clk.frame n
  let runs := decide (x.st = 2 ∧ x.release ≤ s.clk.frame)
  let s := modIn s code fun x => { x with
    xbar := xs, queue := if runs then x.queue.drop n else x.queue, resynced := x.resynced && !runs }
  let p := (xs.filter (·.poison)).length
  if p = 0 then s else countLinkPoison s code p

/-! ### Queues and restarts (R286, R317) -/

/-- Queue codes in the order of Table 12.8: 0 and 1 die-to-die, 2 DN ingress, 3 DN egress, 4 XL ingress, 5 XL egress, 6 XL through of an
output, 7 relay, 8 management. -/
def requestFlush (s : State) (queue num : Nat) : State :=
  { s with links := { s.links with flushing := insertNat (queue * 256 + num) s.links.flushing } }

/-- Is a flush of a queue requested and not yet in effect? -/
def flushPending (s : State) (queue num : Nat) : Bool := s.links.flushing.contains (queue * 256 + num)

/-- A port's egress items discarded; the one being filled is completed, and discarded then (R317). -/
def emptyOuts (s : State) (kind num : Nat) : State :=
  forEach (portStreams s.objs kind num 2) s fun s n =>
    modOut s (streamCode kind num n) fun x => { x with items := [], drop := x.drop || !x.queue.isEmpty }

/-- A flush takes effect (R317): the items stored in the queue and the one being written are discarded; a relay message of
which part was sent counts as discarded. The ingress, through and die-to-die queues hold no item between commands: what
arrives goes to its consumer at once (log 45). -/
def flushQueue (s : State) (queue num : Nat) : State :=
  let s := { s with links := { s.links with flushing := s.links.flushing.filter (· != queue * 256 + num) } }
  match queue with
  | 3 => emptyOuts s 1 num
  | 5 => emptyOuts s 2 num
  | 7 => modXl s num fun x => { x with relayQ := [], relayAt := 0, dropped := if x.relayAt = 0 then x.dropped else inc32 x.dropped }
  | 8 => { s with olp := { s.olp with rxq := [] } }
  | _ => s

/-- An item completed by the producer of an ingress or through queue: with a flush requested, that item is discarded and
the flush takes effect; else the consumer takes it. -/
def itemArrives (s : State) (queue num : Nat) (lost go : State → State) : State :=
  if flushPending s queue num then lost (flushQueue s queue num) else go s

/-- Words of a link queue read with bad parity (R23, R314, R361): counted and recorded, and the port's source is active
for 1 ms (R319). -/
def linkParity (s : State) (kind l action : Nat) (offsets : List Nat) : State :=
  if offsets.isEmpty then s
  else
    let s := forEach offsets s fun s o => parityFailure s 6 o action
    if kind = 1 then modDn s l fun p => { p with parityUntil := msUnits + s.time }
    else modXl s l fun x => { x with parityUntil := msUnits + s.time }

/-- Every ingress stream of a port is lost. -/
def losePort (s : State) (kind l : Nat) : State :=
  forEach (portStreams s.objs kind l 1) s fun s n => setStream s (streamCode kind l n) 3

/-- The lost ingress streams of a port that is up acquire. -/
def acquirePort (s : State) (kind l : Nat) : State :=
  forEach (portStreams s.objs kind l 1) s fun s n =>
    let code := streamCode kind l n
    if (getIn s code).st = 3 then modIn (setStream s code 1) code fun x => { x with lastAt := s.time } else s

/-- The through outputs whose source is a lane, and the lane itself where it is one. -/
def throughQueues (s : State) (l : Nat) : List Nat :=
  (List.range 16).filter fun m => let src := cfgNat s.objs (xlObj m 0) 3; src == l || (m == l && decide (src < 16))

/-- A change of port or lane state in Tally. -/
def linkStateRecord (s : State) (kind l : Nat) : State :=
  tallyEvent s 0x0900 (srcField (if kind = 1 then 6 else 7) l) [if kind = 1 then dnState s l else xlState s l]

/-- A record where a port or lane no longer has the state it had. -/
def noteLinkState (was : Nat) (s : State) (kind l : Nat) : State :=
  if (if kind = 1 then dnState s l else xlState s l) = was then s else linkStateRecord s kind l

/-- A DN port is not up: its streams are lost and its queues are to be flushed. -/
def dnDown (s : State) (l : Nat) : State := requestFlush (requestFlush (losePort s 1 l) 2 l) 3 l

/-- A DN port restarts (R286): its queues are flushed and its streams lost. -/
def restartDn (s : State) (l : Nat) : State :=
  noteLinkState (dnState s l) (modDn (dnDown s l) l fun p => { p with restarting := true }) 1 l

/-- A chain lane leaves the up state or restarts (R303, R317): its streams are lost unless a ring partner carries them,
and its ingress, through and relay queues are to be flushed. -/
def xlDown (s : State) (l : Nat) (keepLock : Bool) : State :=
  let s := modXl s l fun x => { x with up := false, good := 0, bad := 0, locked := x.locked && keepLock, release := 0 }
  let refresh (s : State) (l : Nat) : State := if xlFed s l then s else modXl (losePort s 2 l) l fun x => { x with done := 0, ring := [] }
  let s := refresh s l
  let s := match ringPartner s l with | some p => refresh s p | none => s
  forEach (throughQueues s l) (requestFlush (requestFlush s 4 l) 7 l) fun s m => requestFlush s 6 m

/-- A chain lane is no longer up: it returns to aligning (R303). -/
def laneDown (s : State) (l : Nat) : State := noteLinkState (xlState s l) (xlDown s l true) 2 l

/-- An XL lane restarts. -/
def restartXl (s : State) (l : Nat) : State :=
  noteLinkState (xlState s l) (requestFlush (xlDown (modXl s l fun x => { x with restarting := true }) l false) 5 l) 2 l

/-- The flushes of a port's own queues take effect. -/
def flushPort (s : State) (queues : List Nat) (l : Nat) : State :=
  forEach queues s fun s q => if flushPending s q l then flushQueue s q l else s

/-- The egress streams of a restarted DN port number from 0 again (Table 18.7). -/
def restartSeqs (s : State) (l : Nat) : State :=
  forEach (portStreams s.objs 1 l 2) s fun s n => modOut s (streamCode 1 l n) fun o => { o with seq := 0 }

/-- The relay addresses learned behind a restarted lane are lost (Table 18.7). -/
def forgetLane (s : State) (l : Nat) : State :=
  { s with links := { s.links with learned := s.links.learned.filter fun e => e.2.1 != l } }

/-- The restart of every port and lane with the link transmit PLLs is over when the last of them returns (R435). -/
def endPllRestart (s : State) : State :=
  if s.links.pllRestart && (List.range 16).all fun l => !(getDn s l).restarting && !(getXl s l).restarting then
    { s with links := { s.links with pllRestart := false } }
  else s

/-- PORT_RESTART_COMPLETE (R286, Table 18.7): 0–15 a DN port, 16–31 an XL lane; its queues are flushed by now. -/
def portRestarted (s : State) (port : Nat) : State :=
  if port < 16 then
    if !(getDn s port).restarting then s
    else
      let was := dnState s port
      let s := modDn (restartSeqs (flushPort s [2, 3] port) port) port fun p => { p with restarting := false }
      let s := endPllRestart (noteLinkState was s 1 port)
      if dnUp s port then acquirePort s 1 port else s
  else
    let l := port - 16
    if !(getXl s l).restarting then s
    else endPllRestart (noteLinkState (xlState s l) (modXl (forgetLane (flushPort s [4, 5, 6, 7] l) l) l fun x => { x with restarting := false }) 2 l)

def execPortRestartComplete (port : Nat) (s : State) : Host.Outcome State Fault Refusal :=
  if 32 ≤ port ∨ s.life.power = .off then .next s else .next (portRestarted s port)

/-- DN_PORT_DOWN (R290, R319). -/
def execDnPortDown (l : Nat) (s : State) : Host.Outcome State Fault Refusal :=
  if 16 ≤ l ∨ !(getDn s l).link then .next s
  else
    .next (noteLinkState (dnState s l) (dnDown (modDn s l fun p => { p with link := false }) l) 1 l)

/-- DN_PORT_UP (R319): its streams may acquire again. -/
def execDnPortUp (l : Nat) (s : State) : Host.Outcome State Fault Refusal :=
  if 16 ≤ l ∨ (getDn s l).link then .next s
  else
    let s := noteLinkState (dnState s l) (modDn s l fun p => { p with link := true }) 1 l
    .next (if dnUp s l then acquirePort s 1 l else s)

/-- QUEUE_FLUSH (R317): a flush requested takes effect at the producer's item boundary. -/
def execQueueFlush (queue num : Nat) (s : State) : Host.Outcome State Fault Refusal :=
  .next (if flushPending s queue num then flushQueue s queue num else s)

/-! ### DN frames (R292–R299) -/

/-- VLAN word D+0:05 and IQ width of a port. -/
def dnVlan (cfg : SMap Nat) (l : Nat) : Nat := cfgNat cfg (dnObj l 0) 5
def dnNarrow (cfg : SMap Nat) (l : Nat) : Bool := cfgNat cfg (dnObj l 0) 6 == 1

/-- The enabled ingress stream of a PC_ID. -/
def pcidStream (cfg : SMap Nat) (l pcid : Nat) : Option Nat :=
  (portStreams cfg 1 l 1).find? fun n => bits (dnStreamWord cfg l 1 n) 15 0 == pcid

/-- The acceptance tests of R295. -/
def dnAccepts (s : State) (l : Nat) (f : DnFrame) : Bool :=
  let v := dnVlan s.objs l
  dnMode s.objs l == 1 && f.fcsOk && decide (f.length ≤ 1522) && f.dst == ownMac s l &&
  f.tag == (if bit v 12 then some (bits v 11 0) else none) &&
  f.etherType == 0xAEFE && f.hdr0 == 0x10 &&
  ((f.msgType == 0 && f.size == (if dnNarrow s.objs l then 868 else 1156) && (pcidStream s.objs l f.pcid).isSome && f.sub == 0x80) ||
   (f.msgType == 5 && f.size == 20))

/-- A frame discarded and counted. -/
def discardFrame (s : State) (l : Nat) (f : DnFrame) : State :=
  modDn s l fun p => { p with discarded := inc32 p.discarded, fcs := if f.fcsOk then p.fcs else inc32 p.fcs }

/-- An accepted frame read from the ingress queue (R315): an IQ message goes on with its poisoned words; any other item
with one is discarded and counted. -/
def readFrame (s : State) (l : Nat) (f : DnFrame) (go : State → State) : State :=
  let s := linkParity s 1 l (if f.msgType = 0 then 0 else 1) (f.bad.map (·.2))
  if f.msgType ≠ 0 ∧ !f.bad.isEmpty then modDn s l fun p => { p with discarded := inc32 p.discarded } else go s

/-- A frame arrives: nothing while the link engines do not run (R392) or the port is not up; discarded where a test fails; else accepted, and through the
ingress queue to its consumer. -/
def takeFrame (s : State) (l : Nat) (f : DnFrame) (typ : Nat) (go : State → State) : State :=
  if 16 ≤ l ∨ !coreRuns s ∨ !dnUp s l then s
  else if !dnAccepts s l f then discardFrame s l f
  else if f.msgType ≠ typ then s
  else itemArrives (modDn s l fun p => { p with accepted := inc32 p.accepted }) 2 l id fun s => readFrame s l f go

/-- DN_FRAME_DISCARD (R295, R300): a frame that fails a test. -/
def execDnFrameDiscard (port : Nat) (frame : DnFrame) (s : State) : Host.Outcome State Fault Refusal :=
  .next (if 16 ≤ port ∨ !dnUp s port || dnAccepts s port frame then s else takeFrame s port frame 0xFF id)

/-- One 12-bit part. -/
def part12 (v : Nat) : Int := toSigned 12 v * 16

/-- Samples of an IQ payload (R293). -/
def samples16 : List Byte → List Smp
  | a :: b :: c :: d :: rest => mkSmp (toSigned 16 (ofBytes [a, b])) (toSigned 16 (ofBytes [c, d])) :: samples16 rest
  | _ => []
def samples12 : List Byte → List Smp
  | a :: b :: c :: rest => let v := ofBytes [a, b, c]; mkSmp (part12 (v / 4096)) (part12 (v % 4096)) :: samples12 rest
  | _ => []

/-- The bytes of a sample at egress: poison sent as zero, 12-bit parts rounded with m = 4. -/
def sampleBytes (narrow : Bool) (x : Smp) : List Byte :=
  let re := if x.poison then 0 else x.re
  let im := if x.poison then 0 else x.im
  let r12 (v : Int) : Nat := ofSigned 12 (satSigned 12 (roundQ 4 v))
  if narrow then beBytes 3 (r12 re * 4096 + r12 im) else beBytes 2 (ofSigned 16 re) ++ beBytes 2 (ofSigned 16 im)

/-- Samples of an IQ payload of `b` bytes a sample: one with a byte in a poisoned word is poisoned (R315). -/
def poisonWords (b : Nat) (bad : List Nat) (xs : List Smp) : List Smp :=
  xs.zipIdx.map fun (x, i) => if bad.any fun w => decide (b * i / 8 ≤ w ∧ w ≤ (b * i + b - 1) / 8) then poisoned x else x

/-- The 288 samples of an accepted IQ message. -/
def messageSamples (cfg : SMap Nat) (l : Nat) (f : DnFrame) : List Smp :=
  let narrow := dnNarrow cfg l
  let xs := (if narrow then samples12 f.iq else samples16 f.iq) ++ List.replicate 288 ({} : Smp)
  poisonWords (if narrow then 3 else 4) (f.bad.map (·.1)) (xs.take 288)

/-! ### Frames as the device sends them (R292, R299) -/

/-- An Ethernet frame of a port: peer and own MAC, the tag of D+0:05 with PCP, DEI 0 and VID, EtherType, payload,
padding to 60 bytes and FCS (Table 12.2). The padding, the CRC of the FCS and its byte order are those of IEEE 802.3
(PRESUMED, log 45). -/
def ethFrame (s : State) (l etherType : Nat) (payload : List Byte) : List Byte :=
  let v := dnVlan s.objs l
  let tag := if bit v 12 then beBytes 2 0x8100 ++ beBytes 2 (bits v 15 13 * 2 ^ 13 + bits v 11 0) else []
  let head := beBytes 6 (cfgNat s.objs (dnObj l 0) 4) ++ beBytes 6 (ownMac s l) ++ tag ++ beBytes 2 etherType ++ payload
  let body := head ++ List.replicate (60 - head.length) (0 : Byte)
  body ++ (beBytes 4 (crc32 body).toNat).reverse

/-- An eCPRI message: common header of revision 1 with C = 0, then the payload. -/
def ecpriFrame (s : State) (l typ : Nat) (payload : List Byte) : List Byte :=
  ethFrame s l 0xAEFE (beBytes 1 0x10 ++ beBytes 1 typ ++ beBytes 2 payload.length ++ payload)

/-- A type 0 message (Table 12.2): the payload size counts PC_ID, SEQ_ID and IQ. -/
def iqFrame (s : State) (l n seq : Nat) (xs : List Smp) : List Byte :=
  ecpriFrame s l 0 (beBytes 2 (bits (dnStreamWord s.objs l 2 n) 15 0) ++ beBytes 1 seq ++ beBytes 1 0x80 ++
    xs.flatMap (sampleBytes (dnNarrow s.objs l)))

/-- A type 5 message: measurement ID, action, timestamp in s and ns, compensation 0 (the field widths are those of eCPRI
2.0, PRESUMED, log 45). -/
def delayFrame (s : State) (l measId action stamp : Nat) : List Byte :=
  ecpriFrame s l 5 (beBytes 1 measId ++ beBytes 1 action ++ beBytes 6 (stamp / 1000000000) ++ beBytes 4 (stamp % 1000000000) ++
    beBytes 8 0)

/-- t_rx and D_p in units of 1/32 ns (R297). -/
def rxDelay (cfg : SMap Nat) (l : Nat) : Nat := if cfgBool cfg (dnObj l 0) 2 then 9280 else 5760
def playoutDepth (cfg : SMap Nat) (l : Nat) : Nat := cfgNat cfg (dnObj l 0) 7 * 3200

/-- A resynchronisation of a stream (R297): back to acquiring, its samples poisoned until the new release boundary. The
flush it requests (R317) takes effect at once: the message that overflows is complete, and no item is stored. -/
def resyncStream (s : State) (code : Nat) : State :=
  let s := modDn s (endLink code) fun p => { p with resync := inc32 p.resync }
  let s := tallyEvent s 0x0902 (linkSource code) [0, endStream code]
  modIn (setStream s code 1) code fun x => { x with resynced := true, badSince := s.time }

/-- The first message of an acquiring stream fixes its release boundary. -/
def acquireStream (s : State) (code k seq : Nat) (xs : List Smp) : State :=
  let l := endLink code
  let wait := rxDelay s.objs l + playoutDepth s.objs l
  let rel := s.clk.frame + (wait + frameUnits - 1) / frameUnits
  let s := setStream s code 2
  modIn s code fun x => { x with
    expected := (seq + 1) % 256, release := rel, sched := rel + 4 * 2 ^ k, queue := xs, lastAt := s.time }

/-- A type 0 message taken in order at its scheduled boundary (R296, R297 steps 3 to 5). -/
def scheduleMessage (s : State) (code k seq : Nat) (xs : List Smp) : State :=
  let l := endLink code
  let s := modIn s code fun x => { x with expected := (seq + 1) % 256, lastAt := s.time }
  let x := getIn s code
  let f := s.clk.frame
  if x.sched * frameUnits < f * frameUnits + rxDelay s.objs l then
    modDn (pushPoison s code k (4 * 2 ^ k) 288) l fun p => { p with late := inc32 p.late }
  else if 2 * playoutDepth s.objs l + 4 * 2 ^ k * frameUnits < (x.sched - f) * frameUnits then resyncStream s code
  else pushBlock s code k (4 * 2 ^ k) xs

/-- ECPRI_IQ_MESSAGE (R288, R293, R295–R297). -/
def execEcpriIqMessage (port : Nat) (frame : DnFrame) (s : State) : Host.Outcome State Fault Refusal :=
  .next <| takeFrame s port frame 0 fun s =>
    match pcidStream s.objs port frame.pcid with
    | none => s
    | some n =>
      let code := streamCode 1 port n
      let k := (streamRate s.objs code 1).getD 0
      let xs := messageSamples s.objs port frame
      let x := getIn s code
      if x.st ≠ 2 then acquireStream s code k frame.seq xs
      else
        let d := (frame.seq + 256 - x.expected) % 256
        if 128 ≤ d then modIn (modDn s port fun p => { p with late := inc32 p.late }) code fun x => { x with lastAt := s.time }
        else
          let s := modDn s port fun p => { p with missing := sat32 (p.missing + d) }
          let s := forEach (List.range d) s fun s _ => pushPoison s code k (4 * 2 ^ k) 288
          scheduleMessage s code k frame.seq xs

/-- ECPRI_DELAY_REQUEST (R299): answered with a Response. -/
def execEcpriDelayRequest (port : Nat) (frame : DnFrame) (s : State) : Host.Outcome State Fault Refusal :=
  .next <| takeFrame s port frame 5 fun s =>
    if frame.action ≠ 0 then s else emit s (.dnFrame port (delayFrame s port frame.measId 2 (stampNow s)))

/-- ECPRI_REMOTE_DELAY_REQUEST (R299): answered with a Request. -/
def execEcpriRemoteDelayRequest (port : Nat) (frame : DnFrame) (s : State) : Host.Outcome State Fault Refusal :=
  .next <| takeFrame s port frame 5 fun s =>
    if frame.action ≠ 3 then s
    else emit (modDn s port fun p => { p with measId := frame.measId % 256 }) (.dnFrame port (delayFrame s port frame.measId 0 (stampNow s)))

/-- ECPRI_DELAY_RESPONSE (R299): t2 − t1 + compensation. -/
def execEcpriDelayResponse (port : Nat) (frame : DnFrame) (s : State) : Host.Outcome State Fault Refusal :=
  .next <| takeFrame s port frame 5 fun s =>
    let p := getDn s port
    if frame.action ≠ 2 ∨ p.delaySt ≠ 1 ∨ p.reqId ≠ frame.measId then s
    else
      let d := satSigned 32 ((frame.stamp : Int) - p.reqStamp + frame.comp)
      tallyEvent (modDn s port fun p => { p with delay := d, delaySt := 2 }) 0x0904 (srcField 6 port) [2, 0, argI d]

/-- A write of 0x01 to D+5:01: a Request is sent; on a port that cannot send one nothing happens (log 45). -/
def delayWrite (s : State) (l v : Nat) : Nat × State :=
  if v ≠ 1 then (0x05, s)
  else if !(coreRuns s && dnUp s l && dnMode s.objs l == 1) then (0, s)
  else
    let n := ((getDn s l).measId + 1) % 256
    let s := modDn s l fun p => { p with measId := n, reqId := n, delaySt := 1, reqStamp := stampNow s, reqAt := s.time }
    (0, emit s (.dnFrame l (delayFrame s l n 0 (stampNow s))))

/-- DELAY_RESPONSE_TIMEOUT (R299). -/
def execDelayResponseTimeout (port : Nat) (s : State) : Host.Outcome State Fault Refusal :=
  let p := getDn s port
  if 16 ≤ port ∨ p.delaySt ≠ 1 ∨ elapsedMs s p.reqAt 100 = false then .next s
  else .next (tallyEvent (modDn s port fun p => { p with delaySt := 3 }) 0x0904 (srcField 6 port) [3])

/-- STREAM_LOSS_TIMEOUT (R297): no accepted message for 1 ms. -/
def execStreamLossTimeout (port str : Nat) (s : State) : Host.Outcome State Fault Refusal :=
  let code := streamCode 1 port str
  let x := getIn s code
  if 16 ≤ port ∨ 96 ≤ str ∨ (streamRate s.objs code 1).isNone ∨ !(x.st == 1 || x.st == 2) ∨ elapsedMs s x.lastAt 1 = false then .next s
  else .next (setStream s code 3)

/-- STREAM_MUTE_RELEASE (R290, R455): a stream that has run for 10 ms without a break. -/
def execStreamMuteRelease (code : Nat) (s : State) : Host.Outcome State Fault Refusal :=
  if !coreRuns s || !streamSettled s code then .next s
  else
    let s := modIn s code fun x => { x with pathLost := false }
    .next (forEach (sidesFed s.objs code) s fun s g => dropMute s (.stream g))

/-- STREAM_DONOR_PATH_LOST (R455): acquiring or lost for 100 ms without a break. -/
def execStreamDonorPathLost (code : Nat) (s : State) : Host.Outcome State Fault Refusal :=
  let x := getIn s code
  if !(x.st == 1 || x.st == 3) ∨ elapsedMs s x.badSince 100 = false ∨ (routesFrom s.objs code).isEmpty then .next s
  else .next (modIn s code fun x => { x with pathLost := true })

/-- ECPRI_EGRESS_MESSAGE (R292, R293, R298): the oldest message of an enabled egress stream leaves. -/
def execEcpriEgressMessage (port str : Nat) (s : State) : Host.Outcome State Fault Refusal :=
  let code := streamCode 1 port str
  if 16 ≤ port ∨ 96 ≤ str ∨ !coreRuns s ∨ !dnUp s port ∨ (streamRate s.objs code 2).isNone then .next s
  else match (getOut s code).items with
    | [] => .next s
    | (seq, xs) :: rest =>
      .next (modOut (emit s (.dnFrame port (iqFrame s port str seq xs))) code fun o => { o with items := rest })

/-! ### Egress queues (R296, R298, R301, R316) -/

/-- Is there room for an item in a queue that holds `used` words? An empty queue takes any item (R316, log 34). -/
def queueRoom (queue used item : Nat) : Bool := used == 0 || decide (used + item ≤ Config.queueWords queue)

/-- 64-bit words of an IQ message of a port: MACs, tag, EtherType, header, IDs, IQ and FCS. -/
def messageWords (cfg : SMap Nat) (l : Nat) : Nat :=
  ((if bit (dnVlan cfg l) 12 then 37 else 33) + (if dnNarrow cfg l then 864 else 1152)) / 8

/-- Is there room in the egress queue of a stream's port for the item just completed? A superframe takes 456 words for
all the streams of its lane. -/
def egressRoom (s : State) (code : Nat) : Bool :=
  let l := endLink code
  if endKind code = 1 then
    let w := messageWords s.objs l
    queueRoom 3 (w * sumMap (getDn s l).outs fun e => e.2.items.length) w
  else
    let n := (getXl s l).outs.foldl (fun m e => max m e.2.items.length) 0
    decide ((getOut s code).items.length < n) || queueRoom 5 (456 * n) 456

/-- A complete item: it waits, or it is discarded and counted where there is no room. It has its number either way. One
that a flush of its queue awaits is discarded, and the flush takes effect; so is one begun before a flush (R317). -/
def storeOne (s : State) (code : Nat) (xs : List Smp) : State :=
  let kind := endKind code
  let l := endLink code
  let queue := if kind = 1 then 3 else 5
  let late := (getOut s code).drop || flushPending s queue l || (kind == 2 && (getXl s l).restarting)
  let s := if flushPending s queue l then flushQueue s queue l else s
  let room := egressRoom s code
  let s := modOut s code fun o => { o with
    items := if room && !late then o.items ++ [(if kind = 1 then o.seq else 0, xs)] else o.items, seq := (o.seq + 1) % 256, drop := false }
  if room || late then s
  else if kind = 1 then modDn s l fun p => { p with discarded := inc32 p.discarded }
  else modXl s l fun x => { x with discards := x.discards + 1 }

/-- The egress stream of a ring primary whose copy a stream of its partner is (R307): the same number at the same rate, on
a partner that is no through output. -/
def copiedFrom (cfg : SMap Nat) (code : Nat) : Option Nat :=
  let l := endLink code
  let p := cfgNat cfg (xlObj l 0) 4
  let c := streamCode 2 p (endStream code)
  if endKind code = 2 ∧ p < 16 ∧ cfgNat cfg (xlObj p 0) 4 = l ∧ cfgBool cfg (xlObj p 0) 5 = true ∧ 16 ≤ cfgNat cfg (xlObj l 0) 3 ∧
      (streamRate cfg code 2).isSome = true ∧ streamRate cfg code 2 = streamRate cfg c 2 then some c else none

/-- An item of an egress stream, sent both ways round a ring: routes name only the primary lane's streams (R307, log 45). -/
def storeItem (s : State) (code : Nat) (xs : List Smp) : State :=
  let t := storeOne s code xs
  let copy := streamCode 2 (cfgNat s.objs (xlObj (endLink code) 0) 4) (endStream code)
  if endKind code = 2 ∧ copiedFrom s.objs copy = some code then storeOne t copy xs else t

/-- Samples of an egress stream in this transfer frame: a message is 288 consecutive samples, begun at its phase while the
port is up (R293, R298); a superframe's share is that of the four frames 4m to 4m + 3 (Table 12.4), zeros for frames
before the stream was there. -/
def pushOut (s : State) (code k : Nat) (xs : List Smp) : State :=
  let f := s.clk.frame
  let o := getOut s code
  let donor := endKind code == 1
  if donor && !dnUp s (endLink code) then (if o.queue.isEmpty then s else modOut s code fun o => { o with queue := [], drop := false })
  else if donor && o.queue.isEmpty && (decide (f < o.startAt) || (f - o.startAt) % (4 * 2 ^ k) != 0) then s
  else
    let pad := if donor then 0 else gridSpan k (f - f % 4) f - o.queue.length
    let q := o.queue ++ List.replicate pad ({} : Smp) ++ xs
    let n := if donor then 288 else 288 / 2 ^ k
    let t := modOut s code fun o => { o with queue := q.drop (if q.length < n then 0 else n) }
    if q.length < n then t else storeItem t code (q.take n)

/-! ### Relay queues (R309, R316) -/

/-- Relay blocks of a message, seven bytes each: 12 bytes of header, the payload and 4 of CRC-32. -/
def relayBlocks (msg : RelayMsg) : Nat := (msg.payload.length + 22) / 7

/-- What `n` relay blocks carry of a queue whose front has `done` blocks behind it: the messages that end, the queue
that is left, and the blocks of its front then sent. -/
def relayDrain : List RelayMsg → Nat → Nat → List RelayMsg × List RelayMsg × Nat
  | [], _, _ => ([], [], 0)
  | msg :: q, done, n =>
    if relayBlocks msg ≤ done + n then
      let r := relayDrain q 0 (done + n - relayBlocks msg)
      (msg :: r.1, r.2)
    else ([], msg :: q, done + n)

/-- The bytes of a relay message that its CRC covers. -/
def relayBytes (msg : RelayMsg) : List Byte :=
  beBytes 2 msg.dst ++ beBytes 2 msg.src ++ beBytes 1 msg.hop ++ beBytes 1 msg.typ ++ beBytes 2 msg.ident ++
  beBytes 2 msg.payload.length ++ [0, 0] ++ msg.payload

/-- The CRC a relay message must carry. -/
def relayCrc (msg : RelayMsg) : BitVec 32 := crc32 (relayBytes msg)

/-- A relay message as relay blocks (R309): the control byte, then up to seven bytes, the first the most significant. -/
def relayWords (msg : RelayMsg) : List (BitVec 64) :=
  let bytes := relayBytes msg ++ beBytes 4 msg.crc.toNat
  (List.range (relayBlocks msg)).map fun i =>
    let part := (bytes.drop (7 * i)).take 7
    let control := 128 + b2n (i == 0) * 64 + b2n (i + 1 == relayBlocks msg) * 32 + (part.length - 1)
    BitVec.ofNat 64 (control * 2 ^ 56 + ofBytes part * 2 ^ (8 * (7 - part.length)))

/-- The 23 relay blocks that a lane's next superframe carries (Table 12.4); those that carry no data are zero. -/
def relaySlots (x : XlLane) : List (BitVec 64) :=
  let words := ((x.relayQ.flatMap relayWords).drop x.relayAt).take 23
  words ++ List.replicate (23 - words.length) 0

/-- The 23 relay blocks of a superframe leave: each message whose last block is among them is sent. -/
def relayShare (s : State) (l : Nat) : State :=
  let r := relayDrain (getXl s l).relayQ (getXl s l).relayAt 23
  modXl s l fun x => { x with relayQ := r.2.1, relayAt := r.2.2, sent := sat32 (x.sent + r.1.length) }

/-! ### Xanosh superframes (R301–R307) -/

/-- One bit of CRC-16 with polynomial 0x1021. -/
def crc16Bit (c : Nat) : Nat := if bit c 15 then (2 * c % 65536) ^^^ 0x1021 else 2 * c % 65536

/-- One byte of CRC-16. -/
def crc16Byte (c : Nat) (b : Byte) : Nat :=
  let c := c ^^^ (b.toNat * 256)
  crc16Bit (crc16Bit (crc16Bit (crc16Bit (crc16Bit (crc16Bit (crc16Bit (crc16Bit c)))))))

/-- CRC of a superframe: the IQ blocks in order, then trailer bits [55:24]. -/
def superframeCrc (iq : List (BitVec 64)) (trailer : Nat) : Nat :=
  (iq.flatMap (fun b => beBytes 8 b.toNat) ++ beBytes 4 (trailer / 2 ^ 24)).foldl crc16Byte 0xFFFF

/-- Is a received superframe good? -/
def superframeGood (sf : Superframe) : Bool :=
  sf.formed && superframeCrc sf.iq sf.trailer.toNat == bits sf.trailer.toNat 15 0

/-- Idle blocks after the trailer of superframe `m` of a lane: blocks of 2.56 ns fill four frames of 292.97 ns (R301). -/
def idleBlocks (m : Nat) : Nat := (m + 1) * 1171875 / 2560 - m * 1171875 / 2560 - 456

/-- A superframe laid out as Table 12.4 has it, from its IQ blocks, its 23 relay blocks and its trailer. -/
def superframeBlocks (iq relay : List (BitVec 64)) (trailer : BitVec 56) (idle : Nat) : List (BitVec 66) :=
  let data (b : BitVec 64) : BitVec 66 := BitVec.ofNat 66 (2 ^ 64 + b.toNat)
  let quarter (q : Nat) : List (BitVec 64) := (iq.drop (108 * q)).take 108 ++ (relay.drop (6 * q)).take 6
  ((List.range 4).flatMap quarter).map data ++ [BitVec.ofNat 66 (0x2D2 * 2 ^ 56 + trailer.toNat)] ++
    List.replicate idle (BitVec.ofNat 66 (0x21E * 2 ^ 56))

/-- A lane sends a superframe: with it go the relay blocks that wait. -/
def sendSuperframe (s : State) (l : Nat) (iq : List (BitVec 64)) (trailer : BitVec 56) (m : Nat) : State :=
  relayShare (emit s (.superframe l (superframeBlocks iq (relaySlots (getXl s l)) trailer (idleBlocks m)))) l

/-- Sample of a 32-bit position. -/
def positionSample (v : Nat) : Smp := mkSmp (toSigned 16 (bits v 31 16)) (toSigned 16 (bits v 15 0))

/-- The 72 samples of quarter q, slot j, with the trailer's flags; those of a poisoned word are poisoned (R315). -/
def quarterSamples (sf : Superframe) (q j : Nat) : List Smp :=
  let t := sf.trailer.toNat
  let n := 3 * q + j
  (List.range 72).map fun i =>
    let w := 108 * q + 3 * (i / 2) + j
    let b := (sf.iq.getD w 0).toNat
    let x := positionSample (if i % 2 = 0 then bits b 63 32 else bits b 31 0)
    { (if bit t (47 - 2 * n) || sf.bad.any (·.1 == w) then poisonZero else x) with settle := bit t (46 - 2 * n) }

/-- Slot quarters of a superframe that can be used: none of one that failed, or whose trailer word is poisoned
(R304, R307, R315). -/
def usableQuarters (sf : Superframe) (good : Bool) : SMap (List Smp) :=
  if !good || sf.bad.any (·.1 == 432) then []
  else (List.range 12).filterMap fun n =>
    if bit sf.trailer.toNat (47 - 2 * n) then none else some (n, quarterSamples sf (n / 3) (n % 3))

/-- The flags that a superframe's trailer gives its quarters: none where it failed or its word is poisoned. -/
def trailerFlags (sf : Superframe) (good : Bool) : Nat := if !good || sf.bad.any (·.1 == 432) then 0 else sf.trailer.toNat

/-- Samples of stream j + 3u in a superframe put together from quarters; a quarter that is absent is poisoned, with the
settling flag that `flags` gives it (R304). -/
def streamOfQuarters (qs : SMap (List Smp)) (flags k str : Nat) : List Smp :=
  let all := (List.range 4).flatMap fun q =>
    let n := 3 * q + str % 3
    match qs.find? fun e => e.1 == n with
    | some e => e.2
    | none => List.replicate 72 { poisonZero with settle := bit flags (46 - 2 * n) }
  (all.zipIdx.filter fun e => e.2 % 2 ^ k == str / 3).map (·.1)

/-- The members of a lane's bond (R305). -/
def bondLanes (cfg : SMap Nat) (l : Nat) : List Nat :=
  let b := cfgNat cfg (xlObj l 0) 2
  if b = 0xFF then [l] else (List.range 16).filter fun m => cfgNat cfg (xlObj m 0) 2 == b

/-- A superframe's quarters delivered to the lane's streams, first at `rel`. -/
def deliverQuarters (s : State) (l rel flags : Nat) (qs : SMap (List Smp)) : State :=
  forEach (portStreams s.objs 2 l 1) s fun s n =>
    let code := streamCode 2 l n
    let k := (streamRate s.objs code 1).getD 0
    let s := if (getIn s code).st = 2 then s
      else modIn (setStream s code 2) code fun x => { x with release := rel, sched := rel, queue := [] }
    let s := modIn s code fun x => { x with lastAt := s.time }
    pushBlock s code k 4 (streamOfQuarters qs flags k n)

/-- Superframes that never came: poison in their place. -/
def missSuperframes (s : State) (l n : Nat) : State :=
  forEach (portStreams s.objs 2 l 1) s fun s str =>
    let code := streamCode 2 l str
    let k := (streamRate s.objs code 1).getD 0
    if (getIn s code).st = 2 then forEach (List.range n) s fun s _ => pushPoison s code k 4 (288 / 2 ^ k) else s

/-- What is still to be played of the superframe `back` before the last placed is formed anew, from both copies (R307). -/
def patchQuarters (s : State) (l back flags : Nat) (qs : SMap (List Smp)) : State :=
  forEach (portStreams s.objs 2 l 1) s fun s n =>
    let code := streamCode 2 l n
    let k := (streamRate s.objs code 1).getD 0
    let block := streamOfQuarters qs flags k n
    modIn s code fun x =>
      let hi := x.queue.length - back * block.length
      let lo := hi - block.length
      { x with queue := x.queue.take lo ++ block.drop (block.length - (hi - lo)) ++ x.queue.drop hi }

/-- A protection switch of some slot quarters, with the record after 1 s without one (R319). -/
def noteSwitch (s : State) (l n : Nat) : State :=
  if n = 0 then s
  else
    let first := match (getXl s l).lastSwitch with | none => true | some t => elapsedMs s t 1000
    let s := modXl s l fun x => { x with switches := sat32 (x.switches + n), lastSwitch := some s.time }
    if first then tallyEvent s 0x0903 (srcField 7 l) [xlState s l] else s

/-- Frames by which a superframe that arrives now is released: the arrival and 160.00 ns, to the next boundary. -/
def releaseFrame (s : State) : Nat := s.clk.frame + 1

/-- The number of a lane's superframe, equal to that of the copy on its ring partner (R307): the sequence fields agree modulo
16; how many superframes the one way round lies behind the other is not given, and drawn, up to 64 (log 45). -/
def superframeNumber (s : State) (l draw : Nat) : Nat :=
  let seq := (getXl s l).rxSeq
  match (ringPartner s l).filter (xlUp s) with
  | some p => (getXl s p).rxIdx + 64 - (((getXl s p).rxSeq + 16 - seq) % 16 + 16 * (draw % 8))
  | none => 2048 + seq

/-- The four trailers that bring a lane up are in (R303): its phase wait is measured, and the streams it carries, its own
and those of a ring primary whose partner it is, acquire (R290). -/
def laneUp (s : State) (l : Nat) (drift : Int) : State :=
  let n := drawNat s
  let d := drawNat n.2
  let idx := superframeNumber s l n.1
  let s := modXl d.2 l fun x => { x with up := true, bad := 0, phase := d.1 % 29297, drift, driftBase := drift, release := 0, rxIdx := idx }
  let s := acquirePort (linkStateRecord s 2 l) 2 l
  match ringPartner s l with | some p => if xlFed s p then acquirePort s 2 p else s | none => s

/-- The running ingress streams of a lane. -/
def runningStreams (s : State) (l : Nat) : List Nat := (portStreams s.objs 2 l 1).filter fun n => (getIn s (streamCode 2 l n)).st == 2

/-- A lane resynchronised by drift (R304): one frame later or earlier, and φ measured again. The flush it requests (R317)
takes effect at once: the superframe that shows the drift is complete, and no item is stored. -/
def laneDrift (s : State) (l : Nat) (drift : Int) : State :=
  let x := getXl s l
  let wait : Int := (x.phase : Int) - (drift - x.driftBase)
  let note (s : State) (w : Int) : State :=
    tallyEvent (modXl s l fun x => { x with phase := w.toNat, driftBase := drift, drift, resync := inc32 x.resync }) 0x0902 (srcField 7 l) []
  if wait < 0 then
    let s := note s (wait + 29297)
    forEach (runningStreams s l) s fun s n =>
      let code := streamCode 2 l n
      let k := (streamRate s.objs code 1).getD 0
      modIn s code fun x => { x with queue := x.queue ++ poisonZeros (gridCount k x.sched), sched := x.sched + 1 }
  else if 29297 < wait then
    let s := note s (wait - 29297)
    forEach (runningStreams s l) s fun s n =>
      let code := streamCode 2 l n
      let k := (streamRate s.objs code 1).getD 0
      modIn s code fun x => { x with queue := x.queue.take (x.queue.length - gridCount k (x.sched - 1)), sched := x.sched - 1 }
  else modXl s l fun x => { x with drift }

/-- Release boundary of superframe `n` on a lane, from that of its last. -/
def boundaryOf (x : XlLane) (n : Nat) : Int := (x.release : Int) + 4 * ((n : Int) - x.rxIdx)

/-- Have both lanes of a ring pair release boundaries, more than 64 µs apart (R307)? -/
def ringApart (s : State) (a b : Nat) : Bool :=
  let x := getXl s a
  let y := getXl s b
  xlUp s a && xlUp s b && x.release != 0 && y.release != 0 && decide (64 * usUnits < (boundaryOf x 0 - boundaryOf y 0).natAbs * frameUnits)

/-- The lane whose streams a lane's superframes feed: itself, or the primary of its ring pair. -/
def fedLane (s : State) (l : Nat) : Nat := match ringPartner s l with | some p => if ringPrimary s l then l else p | none => l

/-- The release boundary of superframe `n` of a fed lane: the later of the two copies' (R307). -/
def laterBoundary (s : State) (l n : Nat) : Nat :=
  let of (m : Nat) : Nat := if xlUp s m && (getXl s m).release != 0 then (boundaryOf (getXl s m) n).toNat else 0
  match ringPartner s l with
  | some p => if (getXl s l).ignored then of l else max (of l) (of p)
  | none => of l

/-- A lane's release boundary moved later, and those of the streams that started at it. -/
def delayLane (s : State) (l rel : Nat) : State :=
  let was := (getXl s l).release
  let s := modXl s l fun x => { x with release := rel }
  forEach (portStreams s.objs 2 l 1) s fun s n =>
    modIn s (streamCode 2 l n) fun x => if x.st = 2 ∧ x.release = was then { x with release := rel, sched := x.sched + (rel - was) } else x

/-- The lanes of a bond whose superframe with this number is in share one release boundary, the latest, where deskew can
bring them together: one frame at most (R305, log 45). -/
def shareBoundary (s : State) (l : Nat) : State :=
  let x := getXl s l
  let mates := (bondLanes s.objs l).filter fun m => m != l && xlUp s m && (getXl s m).rxSeq == x.rxSeq &&
    (getXl s m).release != 0 && decide (((getXl s m).release : Int) - x.release ≤ 1) && decide ((x.release : Int) - (getXl s m).release ≤ 1)
  let rel := mates.foldl (fun a m => max a (getXl s m).release) x.release
  forEach (l :: mates) s fun s m => if (getXl s m).release < rel then delayLane s m rel else s

/-- One copy of superframe `n` for the fed lane `a`, by lane `l`: the first to come is placed at the later boundary; the
other completes it, the primary lane's samples before its partner's (R307). `ring` keeps what was placed. -/
def placeQuarters (s : State) (a l n flags : Nat) (qs : SMap (List Smp)) : State :=
  let x := getXl s a
  let keep (e : Nat × SMap (List Smp)) (old : List (Nat × SMap (List Smp))) : List (Nat × SMap (List Smp)) :=
    if (ringPartner s a).isSome then (e :: old).take 64 else []
  if x.done < n then
    let s := if x.done = 0 then s else missSuperframes s a (n - x.done - 1)
    let s := deliverQuarters s a (laterBoundary s a n) flags qs
    let s := modXl s a fun x => { x with done := n, ring := keep (n, qs) x.ring }
    if l = a ∨ xlUp s a then s else noteSwitch s a qs.length
  else
    let old := match x.ring.find? fun e => e.1 == n with | some e => e.2 | none => []
    let first := if l = a then qs else old
    let more := (if l = a then old else qs).filter fun e => !first.any fun m => m.1 == e.1
    let new := sortBy (fun u v => decide (u.1 ≤ v.1)) (first ++ more)
    let s := modXl s a fun x => { x with ring := x.ring.map fun e => if e.1 = n then (n, new) else e }
    noteSwitch (patchQuarters s a (x.done - n) flags new) a more.length

/-- Copies that the primary lane has skipped are its partner's to serve: the quarters taken from it count as switched. -/
def skipSwitches (s : State) (l skipped : Nat) : State :=
  let n := (getXl s l).rxIdx
  noteSwitch s l (sumMap ((getXl s l).ring.filter fun e => decide (n < e.1 + skipped + 1) && decide (e.1 < n)) fun e => e.2.length)

/-- The streams' share of a superframe on a lane that is up. -/
def deliverSuperframe (s : State) (l : Nat) (sf : Superframe) (good : Bool) (skipped : Nat) : State :=
  let s := shareBoundary (modXl s l fun x => { x with release := releaseFrame s }) l
  let a := fedLane s l
  let s := match ringPartner s l with
    | some p => modXl s a fun x => { x with ignored := ringApart s l p }
    | none => s
  let s := if l = a then skipSwitches s l skipped else s
  if l ≠ a ∧ (getXl s a).ignored = true then s
  else placeQuarters s a l (getXl s l).rxIdx (trailerFlags sf good) (usableQuarters sf good)

/-- SUPERFRAME_RECEIVE (R301–R304, R307): `drift` is the trailer's arrival since the lane came up, 0.01 ns. -/
def execSuperframeReceive (lane : Nat) (sf : Superframe) (drift : Int) (s : State) : Host.Outcome State Fault Refusal :=
  if 16 ≤ lane ∨ !coreRuns s ∨ xlMode s.objs lane ≠ 1 ∨ (getXl s lane).restarting then .next s
  else
    let good := superframeGood sf
    let seq := bits sf.trailer.toNat 55 52
    let x := getXl s lane
    let next := (x.rxSeq + 1) % 16
    let wasLocked := x.locked
    let s := modXl s lane fun x => { x with
      locked := true, crcFail := if good then x.crcFail else inc32 x.crcFail,
      good := if !good then 0 else if x.good ≠ 0 ∧ seq ≠ next then 1 else min 4 (x.good + 1),
      bad := if good then 0 else x.bad + 1,
      rxSeq := if good then seq else next, hops := if good then bits sf.trailer.toNat 23 16 else x.hops }
    let s := if wasLocked then s else linkStateRecord s 2 lane
    let y := getXl s lane
    if !x.up then .next (if 4 ≤ y.good then laneUp s lane drift else s)
    else if 16 ≤ y.bad then .next (laneDown s lane)
    else
      let skipped := if good then (seq + 16 - next) % 16 else 0
      let s := modXl s lane fun x => { x with rxIdx := x.rxIdx + 1 + skipped }
      let s := if good then laneDrift s lane drift else s
      .next (itemArrives s 4 lane id fun s =>
        deliverSuperframe (linkParity s 2 lane 0 (sf.bad.map (·.2))) lane sf good skipped)

/-- LANE_BLOCK_LOCK_LOSS (R303). -/
def execLaneBlockLockLoss (lane : Nat) (s : State) : Host.Outcome State Fault Refusal :=
  if 16 ≤ lane ∨ xlMode s.objs lane ≠ 1 ∨ !(getXl s lane).up then .next s
  else .next (laneDown s lane)

/-- The share of an egress stream in the superframe to be sent: its oldest, zeros where it has none. -/
def egressShare (s : State) (code : Nat) : List Smp := match (getOut s code).items with | [] => [] | e :: _ => e.2

/-- The 288 positions of slot j in an egress superframe: position c belongs to stream j + 3u, u = c mod 2^k. -/
def slotPositions (s : State) (l j : Nat) : List Smp :=
  let k := xlSlotRate s.objs l 2 j
  if 5 < k then List.replicate 288 {}
  else
    let qs := (List.range (2 ^ k)).map fun u => egressShare s (streamCode 2 l (j + 3 * u))
    (List.range 288).map fun c => ((qs.getD (c % 2 ^ k) []).getD (c / 2 ^ k) {})

/-- A position as 32 bits; a poisoned sample is sent as zero. -/
def positionWord (x : Smp) : Nat := if x.poison then 0 else ofSigned 16 x.re * 65536 + ofSigned 16 x.im

/-- The 432 IQ blocks of a lane's next superframe: block b of a quarter carries two positions of slot b mod 3 (R302). -/
def iqBlocks (s : State) (l : Nat) : List (BitVec 64) :=
  let slots := (List.range 3).map (slotPositions s l)
  let at' (j c : Nat) : Smp := (slots.getD j []).getD c {}
  (List.range 432).map fun b =>
    let c := 72 * (b / 108) + 2 * (b % 108 / 3)
    BitVec.ofNat 64 (positionWord (at' (b % 3) c) * 2 ^ 32 + positionWord (at' (b % 3) (c + 1)))

/-- Poison and settling flags of its quarters (Table 12.5); samples flagged invalid count as settling (R94). -/
def quarterFlags (s : State) (l : Nat) : Nat :=
  let slots := (List.range 3).map (slotPositions s l)
  sumMap (List.range 12) fun n =>
    let xs := ((slots.getD (n % 3) []).drop (72 * (n / 3))).take 72
    b2n (xs.any (·.poison)) * 2 ^ (47 - 2 * n) + b2n (xs.any fun x => x.settle || x.invalid) * 2 ^ (46 - 2 * n)

/-- Superframes whose four transfer frames are complete. -/
def superframesDue (s : State) : Nat := (s.clk.frame + 1) / 4

/-- SUPERFRAME_TRANSMIT (R301–R303, R305): the superframe of transfer frames 4m to 4m + 3 leaves a lane that is no
through output, once those frames are complete (log 45); poison and settling travel as flags; its relay blocks carry
what waits (R309). -/
def execSuperframeTransmit (lane : Nat) (s : State) : Host.Outcome State Fault Refusal :=
  if 16 ≤ lane ∨ !coreRuns s ∨ xlMode s.objs lane ≠ 1 ∨ (getXl s lane).restarting ∨ cfgNat s.objs (xlObj lane 0) 3 < 16 ∨
      superframesDue s ≤ (getXl s lane).txDone then .next s
  else
    let iq := iqBlocks s lane
    let idx := ((bondLanes s.objs lane).filter (· < lane)).length
    let top := (getXl s lane).txSeq * 2 ^ 52 + idx % 4 * 2 ^ 50 + quarterFlags s lane
    let s := sendSuperframe s lane iq (BitVec.ofNat 56 (top + superframeCrc iq top)) (superframesDue s)
    let s := forEach (portStreams s.objs 2 lane 2) s fun s n =>
      modOut s (streamCode 2 lane n) fun o => { o with items := o.items.tail }
    .next (modXl s lane fun x => { x with txSeq := (x.txSeq + 1) % 16, txDone := superframesDue s })

/-- IQ blocks as a through queue gives them out: a poisoned word is a block of zeros (R315). -/
def readBlocks (sf : Superframe) : List (BitVec 64) := sf.iq.zipIdx.map fun (b, i) => if sf.bad.any (·.1 == i) then 0 else b

/-- THROUGH_REPEAT (R306): a through output repeats what its source received, with one hop more, and
fills the relay blocks with its own traffic. A superframe that a flush of the through queue ends is not repeated
(R317); one with a poisoned trailer word is discarded. -/
def execThroughRepeat (lane : Nat) (sf : Superframe) (s : State) : Host.Outcome State Fault Refusal :=
  let src := cfgNat s.objs (xlObj lane 0) 3
  if 16 ≤ lane ∨ !coreRuns s ∨ xlMode s.objs lane ≠ 1 ∨ (getXl s lane).restarting ∨ 16 ≤ src ∨ xlMode s.objs src ≠ 1 then .next s
  else
    let t := sf.trailer.toNat
    let hops := min 255 (bits t 23 16 + 1)
    let s := linkParity s 2 lane (if sf.bad.any (·.1 == 432) then 1 else 0) (sf.bad.map (·.2))
    .next (itemArrives s 6 lane id fun s =>
      if sf.bad.any (·.1 == 432) then relayShare s lane
      else sendSuperframe s lane (readBlocks sf) (BitVec.ofNat 56 (t / 2 ^ 24 * 2 ^ 24 + hops * 2 ^ 16 + t % 2 ^ 16)) (superframesDue s))

/-- Hop offset 1,740.33 ns + τ + φ (X+2:03). -/
def hopOffset (s : State) (l : Nat) : Nat := let x := getXl s l; (174033 + x.cable + x.phase) % 2 ^ 32

/-! ### Fault lines (R319) -/

def dnFault (s : State) (l : Nat) : Bool :=
  dnMode s.objs l != 0 && (!dnUp s l || (portStreams s.objs 1 l 1).any (fun n => (getIn s (streamCode 1 l n)).st == 3) ||
    decide (s.time < (getDn s l).parityUntil))
def xlFault (s : State) (l : Nat) : Bool :=
  xlMode s.objs l != 0 && (!xlUp s l || (portStreams s.objs 2 l 1).any (fun n => (getIn s (streamCode 2 l n)).st == 3) ||
    (getXl s l).ignored || decide (s.time < (getXl s l).parityUntil))

/-! ### At a commit boundary (R286) -/

/-- Objects of a port whose change restarts it. -/
def dnRestartObjs (cfg : SMap Nat) (l : Nat) : List Nat := [1, 2, 3, 4, 5, 6].map fun sub => cfgNat cfg (dnObj l 0) sub
def xlRestartObjs (cfg : SMap Nat) (l : Nat) : List Nat :=
  ([1, 2, 3, 4].map fun sub => cfgNat cfg (xlObj l 0) sub) ++ [1, 2, 3, 4, 5, 6].map fun sub => cfgNat cfg (xlObj l 1) sub

/-- The message phase of a donor egress stream (R298): the first frame of its period of 4 × 2^k frames that no other stream
of the port ends a message in. Periods are filled from three frames of four, four of them with 12-bit IQ, so that no
message waits for more than one other (log 45). -/
def messagePhase (s : State) (l n k : Nat) : Nat :=
  let others := (portStreams s.objs 1 l 2).filterMap fun m =>
    let at' := (getOut s (streamCode 1 l m)).startAt
    if m = n ∨ at' = 0 then none else some (at', (streamRate s.objs (streamCode 1 l m) 2).getD 0)
  let clash (f : Nat) : Bool := others.any fun e => let g := 4 * 2 ^ min k e.2; f % g == e.1 % g
  let frames := (List.range (if dnNarrow s.objs l then 4 else 3)).flatMap fun c => (List.range (2 ^ k)).map fun u => c + 4 * u
  (frames.find? fun f => !clash f).getD 0

/-- An egress stream that a commit enables begins its first message at its phase. -/
def phaseStream (s : State) (l n : Nat) : State :=
  let code := streamCode 1 l n
  match streamRate s.objs code 2 with
  | none => s
  | some k =>
    let p := 4 * 2 ^ k
    let f := s.clk.frame + 1
    modOut s code fun o => { o with startAt := f + (messagePhase s l n k + p - f % p) % p }

/-- Streams that a commit enables, changes or disables on a port. -/
def commitStreams (old : SMap Nat) (s : State) (kind l : Nat) : State :=
  let word (cfg : SMap Nat) (dir n : Nat) : Option Nat :=
    (streamRate cfg (streamCode kind l n) dir).map fun k => if kind = 1 then dnStreamWord cfg l dir n else k
  let fresh := (List.range 96).filter fun n => word old 2 n != word s.objs 2 n
  let s := forEach (List.range 96) s fun s n =>
    let code := streamCode kind l n
    let s :=
      if word old 1 n = word s.objs 1 n then s
      else if (word s.objs 1 n).isNone then modIn (setStream s code 0) code fun _ => {}
      else enableStream (modIn s code fun x => { x with st := 0 }) code
    if fresh.contains n then modOut s code fun _ => {} else s
  if kind = 1 then forEach fresh s fun s n => phaseStream s l n else s

/-- A DN port after a commit from `old`: its streams, and its restart where its configuration changed, be it to off. -/
def dnCommit (old : SMap Nat) (s : State) (l : Nat) : State :=
  let was := dnState { s with objs := old } l
  let t := commitStreams old s 1 l
  if dnRestartObjs old l = dnRestartObjs s.objs l then t
  else noteLinkState was (modDn (dnDown t l) l fun p => { p with restarting := true }) 1 l

/-- An XL lane after a commit from `old`. -/
def xlCommit (old : SMap Nat) (s : State) (l : Nat) : State :=
  let was := xlState { s with objs := old } l
  let t := commitStreams old s 2 l
  if xlRestartObjs old l = xlRestartObjs s.objs l then t
  else noteLinkState was (requestFlush (xlDown (modXl t l fun x => { x with restarting := true }) l false) 5 l) 2 l

/-- Every port after a commit from `old`. -/
def linksCommit (old : SMap Nat) (s : State) : State :=
  let inUse (cfg : SMap Nat) (lo : Nat) (l : Nat) : Bool := cfg.any fun e => e.1 / 256 / 8 == lo / 8 + l
  let s := forEach ((List.range 16).filter fun l => inUse old 0x1900 l || inUse s.objs 0x1900 l) s (dnCommit old)
  forEach ((List.range 16).filter fun l => inUse old 0x1A00 l || inUse s.objs 0x1A00 l) s (xlCommit old)

/-- The mutes of R290 that the routes in force need; none is released by a commit (R30). -/
def streamMutes (s : State) : State :=
  forEach (txMembers s.objs) s fun s e =>
    match feedingStream s.objs e.1 with
    | some c => if streamSettled s c then s else addMute s (.stream e.1) (.slot e.1)
    | none => s

/-- Clean-up of a change of the equalisation delays (R312): the samples to refill are flagged settling. -/
def eqCommit (old : SMap Nat) (s : State) : State :=
  let e (cfg : SMap Nat) (r : Nat) : Nat := cfgNat cfg (0x1980 + r / 32) (r % 32 + 1)
  let rs := ((cfgRun old 0x1980 0x19FF) ++ (cfgRun s.objs 0x1980 0x19FF)).foldl (fun l x => insertNat (32 * (x.1 / 256 - 0x1980) + x.1 % 256 - 1) l) []
  forEach rs s fun s r =>
    if e old r = e s.objs r then s
    else { s with links := { s.links with
      eqLine := smSet [] s.links.eqLine r [], eqFlag := smSet 0 s.links.eqFlag r (e s.objs r) } }

end Sys2Proof.Machine
end

