-- ==== Sys2Proof/Machine/Capture.lean ====
section
/-! DEFINITION. Capture.lean: the capture store (ch. 13): sources and pages, the ring, marks and their
triggers, export and replay. A write's behaviour answers a status of Table 2.7 and the state. -/

namespace Sys2Proof.Machine

/-! ### Population and limits (R321, R326, R328) -/

/-- Number of DDR channels in use. -/
def ddrCount (s : State) : Nat := sumMap (List.range 4) fun n => b2n (bit s.cap.channels n)

/-- Pages of the ring (Table 13.1). -/
def ringPages (s : State) : Nat := ddrCount s * s.cap.ranks * 4194304

/-- The DDR channel on which a page lies (R322). -/
def pageChannel (s : State) (i : Nat) : Nat := i % max 1 (ddrCount s)

/-- Write limit in 1/32 unit. -/
def captureWriteLimit (s : State) : Nat := ddrCount s * 960

/-- Thermal capture limit in 1/32 unit, by frame-die stage (Table 16.2). -/
def thermalCaptureLimit (s : State) : Nat :=
  match s.therm.stage with | 0 => 3840 | 1 => 2560 | 2 => 1280 | _ => 320

/-- Admitted limit (R328). -/
def admittedLimit (s : State) : Nat := min (captureWriteLimit s) (thermalCaptureLimit s)

/-- Enabled source entries: entry number 0–255 and code (Table 13.3). -/
def capEntries (cfg : SMap Nat) : List (Nat × Nat) :=
  (cfgRun cfg 0x1810 0x181F).filterMap fun e =>
    if bit e.2 31 then some (16 * (e.1 / 256 - 0x1810) + e.1 % 256 - 1, bits e.2 15 0) else none

def srcKind (code : Nat) : Nat := bits code 15 12
def srcNum (code : Nat) : Nat := bits code 9 0
/-- Rate exponent of a source: 0 for CSR sources. -/
def srcK (cfg : SMap Nat) (code : Nat) : Nat := if srcKind code ≤ 3 then 0 else kOf cfg (srcNum code)
/-- A carrier-slot source writes only while its side is active (R329). -/
def srcActive (cfg : SMap Nat) (code : Nat) : Bool :=
  match srcKind code with | 4 => rxActive cfg (srcNum code) | 5 => txActive cfg (srcNum code) | _ => true
/-- Cost of a source in 1/32 unit (R326). -/
def srcUnits (cfg : SMap Nat) (code : Nat) : Nat := 32 / 2 ^ srcK cfg code
/-- What a source costs in a run: nothing while its side is inactive (R328). -/
def srcCost (cfg : SMap Nat) (code : Nat) : Nat := if srcActive cfg code then srcUnits cfg code else 0

def getSrc (s : State) (e : Nat) : CapSrc := smGet {} s.cap.srcs e
def modSrc (s : State) (e : Nat) (f : CapSrc → CapSrc) : State :=
  { s with cap := { s.cap with srcs := smMod {} s.cap.srcs e f } }

/-- Units in use: enabled, unsuspended sources (0x1800:09). -/
def unitsInUse (s : State) : Nat :=
  sumMap ((capEntries s.objs).filter fun e => !(getSrc s e.1).suspended) fun e => srcCost s.objs e.2

/-! ### Pages (R323, R324) -/

/-- A sample word: I high, Q low; a poisoned sample is stored as zero. -/
def sampleWord (x : Smp) : Word :=
  if x.poison then 0 else BitVec.ofNat 32 (ofSigned 16 x.re * 65536 + ofSigned 16 x.im)

/-- Two words of a 64-bit field, high word first. -/
def words64 (v : Nat) : List Word := [BitVec.ofNat 32 (v / 2 ^ 32), BitVec.ofNat 32 v]

/-- A mask word from a list of bit numbers. -/
def maskOf (bs : List Nat) : Nat := (bs.eraseDups).foldl (fun a b => a + 2 ^ b) 0

/-- The page under construction of a source, closed: words 1, 2 and 15 and the header-bad flag are set
when it is written. -/
def formPage (s : State) (code : Nat) (c : CapSrc) (last : Bool) : List Word :=
  let valid := c.buf.length
  [BitVec.ofNat 32 (2 ^ 24 + b2n c.first * 2 ^ 22 + b2n last * 2 ^ 21 + code), 0, 0] ++
  words64 (c.count - valid) ++ words64 c.startFrame ++
  [BitVec.ofNat 32 (c.k * 2 ^ 24 + valid), BitVec.ofNat 32 s.cap.run, BitVec.ofNat 32 (maskOf c.pois),
   BitVec.ofNat 32 (maskOf c.sett), BitVec.ofNat 32 (maskOf c.marks)] ++
  words64 (wallWord s) ++ [0, 0] ++ c.buf.reverse ++ List.replicate (1008 - valid) 0

/-- A source closes its page; an empty page is not written. -/
def closePage (s : State) (e code : Nat) (last : Bool) : State :=
  let c := getSrc s e
  if c.buf.isEmpty then s
  else
    let s := { s with cap := { s.cap with ready := s.cap.ready ++ [(e, formPage s code c last)] } }
    modSrc s e fun c => { c with buf := [], pois := [], sett := [], marks := [], first := false }

/-- A source begins at the next block boundary. -/
def startSource (s : State) (e code : Nat) (first : Bool) : State :=
  modSrc s e fun c =>
    { c with on := true, suspended := false, startFrame := s.clk.frame + 1, count := 0, buf := [], pois := [], sett := [],
             marks := [], k := srcK s.objs code, first := first || c.first }

/-- Samples appended to a source's page, closing it at 1,008. -/
def addSamples (s : State) (e code : Nat) (xs : List Smp) : State :=
  let s := xs.foldl (fun s x => modSrc s e fun c =>
    let g := c.buf.length / 72
    { c with buf := sampleWord x :: c.buf, count := c.count + 1,
             pois := if x.poison then insertNat g c.pois else c.pois,
             sett := if x.settle || x.invalid then insertNat g c.sett else c.sett }) s
  if 1008 ≤ (getSrc s e).buf.length then closePage s e code false else s

/-- `n` samples of a feedback receiver: the spec gives them no source inside the device (log 4). -/
def feedbackSamples (s : State) : Nat → List Smp × State
  | 0 => ([], s)
  | n + 1 =>
    let d := drawNat s
    let r := feedbackSamples d.2 n
    (mkSmp (toSigned 16 d.1) (toSigned 16 (d.1 / 65536)) :: r.1, r.2)

/-- The samples of one tap in this frame (Table 13.3); a receive tap that computes no block gives zeros flagged invalid. -/
def tapSamples (s : State) (code : Nat) : List Smp × State :=
  let n := srcNum code
  let frame (invalid : Bool) (xs : List Smp) (len : Nat) := xs ++ List.replicate (len - xs.length) ({ invalid } : Smp)
  let tap (xs : List Smp) := frame true (if computes s n then xs else []) 72
  match srcKind code with
  | 0 => (tap (getChan s n).tap5, s)
  | 1 => (tap (getChan s n).tap6, s)
  | 2 => ((frame false ((getChan s n).ref.take 72) 72).reverse, s)
  | 3 => feedbackSamples s 72
  | 4 => (frame true (getSlot s n).rxHold (gridCount (kOf s.objs n) (s.clk.frame + 2)), s)
  | _ => (frame false (getSlot s n).txIn (gridCount (kOf s.objs n) s.clk.frame), s)

/-- Every running source takes the frame's samples. -/
def captureFrame (s : State) : State :=
  if s.cap.st ≠ 1 then s
  else forEach ((capEntries s.objs).filter fun e => (getSrc s e.1).on) s fun s e =>
    let t := tapSamples s e.2
    addSamples t.2 e.1 e.2 t.1

/-! ### Suspension (R328, R329) -/

/-- Sources suspended highest entry first until the rest fit (R328). Table 15.3 gives the record kind 8 of source; which
number, the spec does not say: 0 (log 20). -/
def suspendSources (s : State) : State :=
  (capEntries s.objs).reverse.foldl (fun s e =>
    if admittedLimit s < unitsInUse s && !(getSrc s e.1).suspended && decide (0 < srcCost s.objs e.2) then
      let s := closePage s e.1 e.2 true
      tallyEvent (modSrc s e.1 fun c => { c with suspended := true, on := false }) 0x0A00 (srcField 8 0) [e.2]
    else s) s

/-- Sources of some entries resumed lowest first where they fit again. -/
def resumeSources (s : State) (es : List (Nat × Nat)) : State :=
  es.foldl (fun s e =>
    if decide (unitsInUse s + srcCost s.objs e.2 ≤ admittedLimit s) then
      let s := if srcActive s.objs e.2 then startSource s e.1 e.2 true
        else modSrc s e.1 fun c => { c with suspended := false, first := true }
      tallyEvent s 0x0A00 (srcField 8 0) [e.2]
    else s) s

/-- The limit and the costs that the next look is held against. -/
def noteFit (s : State) : State :=
  { s with cap := { s.cap with fitLimit := admittedLimit s, fitCosts := (capEntries s.objs).map fun e => srcCost s.objs e.2 } }

/-- Has the admitted limit risen, or a source come to cost less, since the last look? -/
def fitsMore (s : State) : Bool :=
  decide (s.cap.fitLimit < admittedLimit s) ||
  (s.cap.fitCosts.zip (capEntries s.objs)).any fun x => decide (srcCost s.objs x.2.2 < x.1)

/-- R328: an excess suspends sources; where the limit has risen or sources cost less, those suspended before that fit
again are resumed. -/
def fitSources (s : State) : State :=
  if s.cap.st ≠ 1 then s
  else
    let waiting := (capEntries s.objs).filter fun e => (getSrc s e.1).suspended
    let t := suspendSources s
    noteFit (if fitsMore s then resumeSources t waiting else t)

/-- Carrier-slot sources at a commit boundary (R329), then R328. A side that becomes inactive closes the page without the
last-page flag, which Table 13.2 gives to a stop, a suspension and a rate change (log 20). -/
def captureCommit (s : State) : State :=
  if s.cap.st ≠ 1 then s else
  fitSources <| forEach (capEntries s.objs) s fun s e =>
    let c := getSrc s e.1
    if c.suspended then s
    else if c.on && !srcActive s.objs e.2 then
      modSrc (closePage s e.1 e.2 false) e.1 fun c => { c with on := false }
    else if c.on && c.k != srcK s.objs e.2 then startSource (closePage s e.1 e.2 true) e.1 e.2 false
    else if !c.on && srcActive s.objs e.2 then startSource s e.1 e.2 false
    else s

/-! ### Runs (R327) -/

/-- A stop: each source writes its partial page. -/
def captureHalt (s : State) (st : Nat) : State :=
  let s := forEach (capEntries s.objs) s fun s e =>
    modSrc (if (getSrc s e.1).on then closePage s e.1 e.2 true else s) e.1 fun c => { c with on := false, suspended := false }
  { s with cap := { s.cap with st } }

/-- 0x1800:01 Run control. -/
def captureControl (s : State) (v : Nat) : Nat × State :=
  if v = 1 then
    let es := capEntries s.objs
    if es.isEmpty || decide (admittedLimit s < sumMap es fun e => srcUnits s.objs e.2) then (0x05, s)
    else if s.cap.st = 3 ∨ s.cap.restarting then (0x0C, s)
    else
      let s := if s.cap.st = 1 then captureHalt s 0 else s
      let s := { s with cap := { s.cap with st := 1, run := (s.cap.run + 1) % 2 ^ 32, srcs := [] } }
      (0, noteFit (forEach (es.filter fun e => srcActive s.objs e.2) s fun s e => startSource s e.1 e.2 true))
  else (0, if s.cap.st = 1 then captureHalt s 0 else s)

/-! ### Marks (R330–R332) -/

def getMark (s : State) (m : Nat) : Mark := smGet {} s.cap.marks m
def modMark (s : State) (m : Nat) (f : Mark → Mark) : State :=
  { s with cap := { s.cap with marks := smMod {} s.cap.marks m f } }

/-- A field of a page header. -/
def pageWord (p : List Word) (i : Nat) : Nat := (p.getD i 0).toNat
def pageCode (p : List Word) : Nat := bits (pageWord p 0) 15 0
def pageSeqOf (p : List Word) : Nat := pageWord p 1 * 2 ^ 32 + pageWord p 2
/-- Instant just after a page's last sample, in 1/1,800 of a frame. -/
def pageEnd (p : List Word) : Nat :=
  1800 * (pageWord p 5 * 2 ^ 32 + pageWord p 6) +
  25 * ((pageWord p 3 * 2 ^ 32 + pageWord p 4) + bits (pageWord p 7) 10 0) * 2 ^ bits (pageWord p 7) 31 24

/-- Instant of a page's first sample, in the same unit (R324). -/
def pageStart (p : List Word) : Nat :=
  1800 * (pageWord p 5 * 2 ^ 32 + pageWord p 6) + 25 * (pageWord p 3 * 2 ^ 32 + pageWord p 4) * 2 ^ bits (pageWord p 7) 31 24

/-- An instant `us` microseconds before or after a frame, in the same unit. -/
def instantBefore (frame us : Nat) : Nat := 1800 * frame - us * 6144
def instantAfter (frame us : Nat) : Nat := 1800 * frame + us * 6144

/-- The page written first among some pages of the ring. -/
def oldestPage (ps : SMap (List Word)) : Option Nat :=
  (ps.foldl (fun (b : Option (Nat × Nat)) e =>
    match b with
    | none => some (e.1, pageSeqOf e.2)
    | some x => if pageSeqOf e.2 < x.2 then some (e.1, pageSeqOf e.2) else b) none).map (·.1)

/-- Guard page of a trigger mark (R330): the oldest page in the ring of an enabled source whose samples include F − pre.
Where none includes it, the oldest that ends after it (log 20). -/
def guardFound (s : State) (frame pre : Nat) : Option Nat :=
  let codes := (capEntries s.objs).map (·.2)
  let t := instantBefore frame pre
  let later := s.cap.ring.filter fun e => codes.contains (pageCode e.2) && decide (t < pageEnd e.2)
  (oldestPage (later.filter fun e => decide (pageStart e.2 ≤ t))).or (oldestPage later)

/-- With no such page in the ring it is the next page to be written (log 20). -/
def guardPage (s : State) (frame pre : Nat) : Nat := (guardFound s frame pre).getD s.cap.wptr

/-- A page with the CRC of its words in word 15. -/
def withCrc (q : List Word) : List Word := q.take 15 ++ [crcOut (crcWords 0xFFFFFFFF#32 (q.take 15 ++ q.drop 16))] ++ q.drop 16

/-- Does a page hold the instant of a frame? -/
def holdsFrame (p : List Word) (f : Nat) : Bool := decide (pageStart p ≤ 1800 * f) && decide (1800 * f < pageEnd p)

/-- A mark noted in word 11 of a page. -/
def noteWord (p : List Word) (m : Nat) : List Word :=
  if bit (pageWord p 11) m then p else p.set 11 (p.getD 11 0 + BitVec.ofNat 32 (2 ^ m))

/-- A mark fired at frame `f` noted in the page of an enabled source that holds `f` (R331): the page under construction, or
one complete that waits, or one in the ring, whose CRC follows. -/
def notePage (s : State) (e : Nat × Nat) (f m : Nat) : State :=
  let c := getSrc s e.1
  let mine (x : Nat × List Word) : Bool := x.1 == e.1 && holdsFrame x.2 f
  let stored (x : Nat × List Word) : Nat × List Word :=
    if pageCode x.2 = e.2 ∧ holdsFrame x.2 f then (x.1, withCrc (noteWord x.2 m)) else x
  if c.on ∧ c.startFrame ≤ f ∧ (c.count - c.buf.length) * 2 ^ c.k ≤ 72 * (f - c.startFrame) then
    modSrc s e.1 fun c => { c with marks := insertNat m c.marks }
  else if s.cap.ready.any mine then
    { s with cap := { s.cap with ready := s.cap.ready.map fun x => if mine x then (x.1, noteWord x.2 m) else x } }
  else
    { s with cap := { s.cap with ring := s.cap.ring.map stored } }

/-- An armed mark fires at this frame (R330). Where its guard page is the one that the write pointer stands at, it is
reached before that page is written (R332). -/
def fireMark (s : State) (m : Nat) : State :=
  let f := s.clk.frame
  let pre := cfgNat s.objs (0x1820 + m) 2
  let g := guardPage s f pre
  let atPtr := guardFound s f pre == some s.cap.wptr
  let s := modMark s m fun x => { x with st := 2, guard := g, trigger := f, firings := inc32 x.firings, closed := [], region := 0, atPtr }
  let s := forEach (capEntries s.objs) s fun s e => notePage s e f m
  tallyEvent s 0x0A01 (srcField 8 m) [0, g, f / 2 ^ 32, f % 2 ^ 32]

/-- Is a mark armed on a trigger source, while a run is in progress (R331)? -/
def markArmed (s : State) (src m : Nat) : Bool :=
  let c := cfgNat s.objs (0x1820 + m) 1
  s.cap.st == 1 && (getMark s m).st == 1 && bits c 31 30 == 2 && bits c 23 20 == src

/-- A trigger event: every armed mark whose source and argument it meets fires. -/
def fireMarks (s : State) (src : Nat) (hit : Nat → Bool) : State :=
  forEach ((List.range 16).filter fun m => markArmed s src m && hit (bits (cfgNat s.objs (0x1820 + m) 1) 15 0)) s fireMark

/-- 0x1820 + m:01 written: the mark is replaced, whatever its state. -/
def markControl (s : State) (m v : Nat) : State :=
  let s := { s with objs := cfgSet s.objs (key (0x1820 + m) 1) v }
  let old := getMark s m
  modMark s m fun _ =>
    match bits v 31 30 with
    | 0 => { firings := old.firings }
    | 1 => if s.cap.st = 1 then { st := 3, guard := s.cap.wptr, firings := old.firings } else { st := 1, firings := old.firings }
    | _ => { st := 1, firings := old.firings }

/-- Every mark unused (R339); its firings go on counting. -/
def unuseMarks (s : State) : State :=
  { s with cap := { s.cap with marks := (s.cap.marks.map (·.1)).foldl (fun l m => smMod {} l m fun x => ({ firings := x.firings } : Mark)) s.cap.marks } }

/-- 0x1820 + m:09: trigger source 0. -/
def manualFire (s : State) (m : Nat) : State := if markArmed s 0 m then fireMark s m else s

/-! ### Replay (R336, R337) -/

def getReplay (s : State) (r : Nat) : Replay := smGet {} s.cap.replays r
def modReplay (s : State) (r : Nat) (f : Replay → Replay) : State :=
  { s with cap := { s.cap with replays := smMod {} s.cap.replays r f } }

/-- A running replay ends in state `st`, kept in Tally. -/
def endReplay (s : State) (r st : Nat) : State :=
  if (getReplay s r).st = 1 then
    tallyEvent (modReplay s r fun x => { x with st, rest := [], all := [] }) 0x0A04 (srcField 8 (16 + r)) []
  else s

/-- The replays that meet a condition end under R337. -/
def stopReplays (s : State) (p : Replay → Bool) : State :=
  forEach ((List.range 8).filter fun r => (getReplay s r).st == 1 && p (getReplay s r)) s fun s r => endReplay s r 3

/-- The pages of a mark's region, in ring order, with their numbers. -/
def regionRing (s : State) (m : Nat) : List (Nat × List Word) :=
  let x := getMark s m
  (List.range x.region).map fun i =>
    let n := (x.guard + i) % max 1 (ringPages s)
    (n, smGet [] s.cap.ring n)

/-- Does a stored page's CRC hold? -/
def pageCrcOk (p : List Word) : Bool :=
  crcOut (crcWords 0xFFFFFFFF#32 (p.take 15 ++ p.drop 16)) == p.getD 15 0

/-- The samples of a page as replay takes them: a page that fails its CRC gives poisoned zeros. -/
def pageSamples (p : List Word) : List Smp :=
  ((p.drop 16).take (bits (pageWord p 7) 10 0)).map fun w =>
    if pageCrcOk p then mkSmp (toSigned 16 (w.toNat / 65536)) (toSigned 16 w.toNat) else poisonZero

/-- Bandwidth in use by capture, export and replay, in 0.01 MB/s (Table 13.1, R336). -/
def ddrTraffic (s : State) : Nat :=
  unitsInUse s * 99864 / 32 +
  sumMap ((List.range 16).filter fun l => dnMode s.objs l == 2 && cfgNat s.objs (0x1840 + l) 1 != 0xFFFFFFFF) (fun _ => 298000) +
  sumMap ((List.range 8).filter fun r => (getReplay s r).st == 1) fun r => 99864 / 2 ^ kOf s.objs (getReplay s r).target

/-- A page read back whose CRC fails (R334): counted, and its channel's source set (Table 13.7). -/
def noteBadPage (s : State) (n : Nat) : State :=
  faultEvent { s with cap := { s.cap with crcFails := inc32 s.cap.crcFails } } (260 + pageChannel s n)

/-- 0x1830 + r:01 Replay control. The source's pages are read from the store as the replay starts (log 20). -/
def replayControl (s : State) (r v : Nat) : Nat × State :=
  if v = 2 then (0, endReplay s r 3)
  else
    let rec0 := cfgNat s.objs (0x1830 + r) 3
    let tgt := cfgNat s.objs (0x1830 + r) 2
    let m := bits rec0 31 24
    let code := bits rec0 15 0
    let x := getMark s m
    if rec0 = 0xFFFFFFFF ∨ ¬ (x.st = 3 ∨ x.st = 5) then (0x05, s)
    else if ¬ (srcKind code = 4 ∨ srcKind code = 5) ∨ 768 ≤ srcNum code then (0x05, s)
    else if 768 ≤ tgt then (0x05, s)
    else
      let ps := (regionRing s m).filter fun p => pageCode p.2 == code
      let k := match ps with | p :: _ => bits (pageWord p.2 7) 31 24 | [] => srcK s.objs code
      if k ≠ kOf s.objs tgt then (0x05, s)
      else if !txActive s.objs tgt then (0x05, s)
      else if 4000000 * ddrCount s < ddrTraffic s + 99864 / 2 ^ k then (0x05, s)
      else
        let mode : Option Nat :=
          match s.life.power with
          | .quiet => some 0
          | .serve => if ((boundRecord s s.objs tgt).map recReplay).getD false then some 1 else none
          | _ => none
        match mode with
        | none => (0x07, s)
        | some md =>
          let xs := ps.flatMap fun p => pageSamples p.2
          let s := forEach ((ps.filter fun p => !pageCrcOk p.2).map (·.1)) (endReplay s r 3) noteBadPage
          let s := modReplay s r fun _ =>
            { st := 1, poisoned := (getReplay s r).poisoned, mode := md, rest := xs, all := xs, target := tgt, mark := m }
          (0, tallyEvent s 0x0A04 (srcField 8 (16 + r)) [code])

/-- The running replay whose target is a transmit side. -/
def replayOf (s : State) (g : Nat) : Option Nat :=
  (List.range 8).find? fun r => (getReplay s r).st == 1 && (getReplay s r).target == g

/-- Does a replay run again from the start at its last sample (0x1830 + r:04)? -/
def replayLoops (s : State) (r : Nat) : Bool := cfgBool s.objs (0x1830 + r) 4

/-- Samples still to play, with as many runs of the recording behind them as `n` samples need where it loops. -/
def replayLine (x : Replay) (loops : Bool) (n : Nat) : List Smp :=
  let a := x.all.length
  if loops ∧ 0 < a then x.rest ++ (List.replicate ((n - x.rest.length + a - 1) / a) x.all).flatten else x.rest

/-- Does the traffic exceed the controller bandwidth, so that replay, served last, can underrun (R338)? -/
def ddrOverrun (s : State) : Bool := decide (4000000 * ddrCount s < ddrTraffic s)

/-- Do a replay's samples of this frame come too late (R337, R338)? Under an overrun the spec does not say which do: the
choice is free (log 4). -/
def replayLate (s : State) : Bool × State := if ddrOverrun s then drawBool s else (false, s)

/-- The samples a replay delivers in a frame in place of the target's Crossbar input; those that come late are poisoned
zeros. -/
def replayFrame (s : State) (r : Nat) : State :=
  let late := replayLate s
  let s := late.2
  let x := getReplay s r
  let n := gridCount (kOf s.objs x.target) s.clk.frame
  let rest := replayLine x (replayLoops s r) n
  if rest.isEmpty then s
  else
    let ys := if late.1 then poisonZeros (rest.take n).length else rest.take n
    let ys := ys ++ List.replicate (n - ys.length) ({} : Smp)
    let bad := (ys.filter (·.poison)).length
    let s := modReplay s r fun x => { x with rest := rest.drop n, poisoned := sat32 (x.poisoned + bad) }
    let s := modSlot s x.target fun g => { g with txIn := ys }
    if bad = 0 then s else nameSlot (faultEvent s 266) 266 x.target

/-! ### Export (R335) -/

def getExport (s : State) (l : Nat) : Export := smGet {} s.cap.exports l
def modExport (s : State) (l : Nat) (f : Export → Export) : State :=
  { s with cap := { s.cap with exports := smMod {} s.cap.exports l f } }

/-- 0x1840 + l:01 Export selector. -/
def exportControl (s : State) (l v : Nat) : State :=
  let s := { s with objs := cfgSet s.objs (key (0x1840 + l) 1) v }
  modExport s l fun x =>
    if v = 0 then { x with st := 1, next := s.cap.pageSeq }
    else if v = 0xFFFFFFFF then { x with st := 0 }
    else { x with st := 2, mark := v - 0x100, next := 0, last := 0 }

/-- Pages of a region export: those of its mark's region once that is complete or holding (R333, R335). -/
def exportRegion (s : State) (x : Export) : Option Nat :=
  if x.last ≠ 0 then some x.last
  else if (getMark s x.mark).st = 3 ∨ (getMark s x.mark).st = 5 then some (getMark s x.mark).region else none

/-- One export frame (R300): the header with sequence, fragment and flags, and a quarter of the page in order, its words
in network byte order (R37). -/
def exportFrame (s : State) (port : Nat) (p : List Word) (frag : Nat) (endFlag : Bool) : List Byte :=
  ethFrame s port 0x88B5 (beBytes 4 (pageWord p 2) ++ beBytes 1 frag ++ beBytes 1 (b2n endFlag) ++ [0, 0] ++
    ((p.drop (256 * frag)).take 256).flatMap fun w => beBytes 4 w.toNat)

/-- Four frames carrying one page (R300). -/
def exportPage (s : State) (port : Nat) (p : List Word) (endFlag : Bool) : State :=
  let p := if p.isEmpty then List.replicate 1024 0 else p
  forEach (List.range 4) s fun s f => emit s (.dnFrame port (exportFrame s port p f endFlag))

/-- EXPORT_PAGE_SEND (R300, R335): the port sends its next page, where it has one. Table 15.3 gives the record of a lap kind 8
of source, which has no number for a port; the port's own stands there (log 20). -/
def execExportPageSend (port : Nat) (s : State) : Host.Outcome State Fault Refusal :=
  let x := getExport s port
  let n := ringPages s
  if !coreRuns s ∨ dnMode s.objs port ≠ 2 ∨ (getDn s port).restarting ∨ !(getDn s port).link ∨
      s.cap.st = 3 ∨ s.cap.restarting then .next s
  else if x.st = 1 then
    let old := s.cap.pageSeq - n
    let s := if x.next < old then
        let s := modExport s port fun e => { e with next := old, skipped := sat32 (e.skipped + (old - x.next)) }
        faultEvent (tallyEvent s 0x0A05 (srcField 8 port) []) 267
      else s
    let x := getExport s port
    if s.cap.pageSeq ≤ x.next then .next s
    else
      let s := exportPage s port (smGet [] s.cap.ring (x.next % max 1 n)) false
      .next (modExport s port fun e => { e with next := e.next + 1, sent := inc32 e.sent })
  else if x.st = 2 then
    match exportRegion s x with
    | none => .next s
    | some last =>
      if last ≤ x.next then .next (modExport s port fun e => { e with st := 3 })
      else
        let p := smGet [] s.cap.ring (((getMark s x.mark).guard + x.next) % max 1 n)
        let s := exportPage s port p (x.next + 1 == last)
        .next (modExport s port fun e => { e with
          last, next := e.next + 1, sent := inc32 e.sent, st := if x.next + 1 = last then 3 else 2 })
  else .next s

/-! ### Writing pages (R322, R332) -/

/-- The marks whose guard page the write pointer has come to. -/
def marksAt (s : State) : List Nat := (List.range 16).filter fun m =>
  let x := getMark s m
  (x.st == 2 || x.st == 3) && x.guard == s.cap.wptr && bits (cfgNat s.objs (0x1820 + m) 1) 31 30 != 0

/-- Those that the write pointer stood at already when they fired, or when a Hold mark held their page (R332). -/
def marksHere (s : State) : List Nat := (List.range 16).filter fun m =>
  let x := getMark s m
  (x.st == 2 || x.st == 3) && x.atPtr

/-- Marks are reached (R332). With a Hold mark among them capture stops, and those in Lapse mode wait at the page; pages
that are complete and wait find no place any more, and the region of a trigger mark reached while it fills is the whole
ring (DESIGN CHOICE, log 20). -/
def reachMarks (s : State) (hit : List Nat) : State :=
  let holds := hit.filter fun m => bit (cfgNat s.objs (0x1820 + m) 1) 29
  if holds.isEmpty then
    forEach hit s fun s m =>
      let s := modMark s m fun x => { x with st := 4, atPtr := false }
      let s := tallyEvent s 0x0A02 (srcField 8 m) [0, s.cap.wptr]
      stopReplays s fun r => r.mark == m
  else
    let s := forEach holds s fun s m =>
      tallyEvent (modMark s m fun x => { x with st := 5, atPtr := false, region := if x.st = 2 then ringPages s else x.region })
        0x0A03 (srcField 8 m) [0, s.cap.wptr]
    let s := forEach (hit.filter fun m => !holds.contains m) s fun s m => modMark s m fun x => { x with atPtr := true }
    let s := captureHalt s 2
    { s with cap := { s.cap with ready := [] } }

/-- A source entry has closed the page that holds a mark's F + post. -/
def noteClosed (s : State) (e : Nat) (p : List Word) (m : Nat) : State :=
  let x := getMark s m
  if x.st = 2 ∧ instantAfter x.trigger (cfgNat s.objs (0x1820 + m) 3) < pageEnd p then
    modMark s m fun x => { x with closed := insertNat e x.closed }
  else s

/-- Has every source closed the page that holds a filling mark's F + post, and has every such page been written (R330)? -/
def regionDone (s : State) (m : Nat) : Bool :=
  let x := getMark s m
  let t := instantAfter x.trigger (cfgNat s.objs (0x1820 + m) 3)
  x.st == 2 && !x.closed.isEmpty &&
  ((capEntries s.objs).all fun e => !(getSrc s e.1).on || x.closed.contains e.1) &&
  s.cap.ready.all fun r => x.closed.contains r.1 || decide (pageEnd r.2 ≤ t)

/-- A written page may complete filling marks (R330). -/
def fillMarks (s : State) (e : Nat) (p : List Word) : State :=
  forEach (List.range 16) s fun s m =>
    let s := noteClosed s e p m
    if regionDone s m then
      let n := max 1 (ringPages s)
      let len := (s.cap.wptr + n - (getMark s m).guard) % n
      modMark s m fun x => { x with st := 3, region := if len = 0 then n else len }
    else s

/-- A page as it is written: its sequence, its header-bad flag and its CRC (Table 13.2). -/
def sealPage (s : State) (p : List Word) (bad : Bool) : List Word :=
  withCrc ([BitVec.ofNat 32 (pageWord p 0 + b2n bad * 2 ^ 23)] ++ words64 s.cap.pageSeq ++ p.drop 3)

/-- CAPTURE_PAGE_WRITE (R322, R323): the completed page that has waited longest is written at the write
pointer, dropped where staging overflowed, marked bad where a staging word failed parity. Argument 2 of that record
(R361) is 0: DESIGN CHOICE, unsafe, the spec names no action code for a page written with its header marked bad (log 41). -/
def execCapturePageWrite (entry : Nat) (parity overflow : Bool) (s : State) : Host.Outcome State Fault Refusal :=
  if !coreRuns s ∨ 2 ≤ s.cap.st ∨ s.cap.restarting then .next s
  else match s.cap.ready with
  | [] => .next s
  | (e, p) :: rest =>
    if e ≠ entry then .next s
    else if overflow then
      .next (faultEvent { s with cap := { s.cap with ready := rest, dropped := inc32 s.cap.dropped } } 265)
    else
      let held := reachMarks s (marksHere s)
      if held.cap.st = 2 then .next held
      else
        let s := { held with cap := { held.cap with ready := rest } }
        let s := if parity then
            let d := drawNat s
            faultEvent (parityFailure d.2 5 (d.1 % (8 * 2 ^ 20)) 0) 265
          else s
        let q := sealPage s p parity
        let n := max 1 (ringPages s)
        let s := { s with cap := { s.cap with
          ring := smSet [] s.cap.ring s.cap.wptr q, wptr := (s.cap.wptr + 1) % n, pageSeq := s.cap.pageSeq + 1, written := s.cap.written + 1 } }
        let s := fillMarks s e q
        .next (reachMarks s (marksAt s))

/-- REPLAY_END (R337): the source's last sample has been played and the replay does not loop. -/
def execReplayEnd (rep : Nat) (s : State) : Host.Outcome State Fault Refusal :=
  let x := getReplay s rep
  if x.st = 1 ∧ x.rest.isEmpty ∧ replayLoops s rep = false then .next (endReplay s rep 2) else .next s

/-- A page of the ring that lies on a DDR channel has lost its contents: which one, and which of its words, is open
(log 20), and its CRC fails from now on. -/
def spoilPage (s : State) (n : Nat) : State :=
  let d := drawNat s
  let w := drawNat d.2
  let mine := (s.cap.ring.map (·.1)).filter fun i => pageChannel s i == n
  match mine[d.1 % max 1 mine.length]? with
  | none => s
  | some i =>
    let p := smGet [] s.cap.ring i
    let at_ := 16 + w.1 % 1008
    { w.2 with cap := { s.cap with ring := smSet [] s.cap.ring i (p.set at_ (p.getD at_ 0 ^^^ (BitVec.ofNat 32 w.1 ||| 1))) } }

/-- DDR_CHANNEL_FAILURE (R339): a channel failed training or its PHY check, and the store is unavailable;
otherwise a page on it is read back with a CRC that fails, and is counted (R322, R334). -/
def execDdrChannelFailure (n : Nat) (trainingOrPhy : Bool) (s : State) : Host.Outcome State Fault Refusal :=
  if s.life.power = .off ∨ ¬ bit s.cap.channels n then .next s
  else if trainingOrPhy then
    let s := stopReplays s fun _ => true
    let s := unuseMarks s
    .next { s with cap := { s.cap with st := 3, ready := [], srcs := [], ddrFailed := insertNat n s.cap.ddrFailed } }
  else
    .next (faultEvent { spoilPage s n with cap := { (spoilPage s n).cap with crcFails := inc32 s.cap.crcFails } } (260 + n))

/-- A failed channel is trained again; whether it passes now, the spec does not say (log 20). -/
def retrainDdr (s : State) (n : Nat) : State :=
  let d := drawBool s
  if d.1 then { d.2 with cap := { s.cap with ddrFailed := s.cap.ddrFailed.filter (· != n) } } else d.2

/-- The channels trained and the ring formed again, empty, on the working ones that form a population of Table 13.1 (R339). -/
def formRing (s : State) : State :=
  let s := forEach s.cap.ddrFailed s retrainDdr
  let ok (n : Nat) := !s.cap.ddrFailed.contains n && bit s.cap.fitted n
  let ch := if ok 0 && ok 1 && ok 2 && ok 3 then 0xF else if ok 0 && ok 1 then 3 else if ok 0 then 1 else 0
  let s := unuseMarks s
  let s := { s with cap := { s.cap with
    st := if ch = 0 then 3 else 0, channels := if ch = 0 then s.cap.channels else ch, wptr := 0, pageSeq := 0, ring := [],
    srcs := [], ready := [] } }
  forEach ((s.cap.exports).map (·.1)) s fun s l => modExport s l fun x => { x with next := 0, last := 0 }

end Sys2Proof.Machine
end

