-- ==== Sys2Proof/Machine/Filters.lean ====
section
/-! DEFINITION. Filters.lean: compute budget and synchronising resets (ch. 3), bank seals, swaps and
cross-fades, the carrier power detector and its thresholds (ch. 4). -/

namespace Sys2Proof.Machine

/-! ### Banks in a slot -/

/-- The bank a slot holds once every running and pending swap has completed (R109). -/
def finalBank (x : SlotPath) : Nat :=
  match x.pendSwap with
  | some t => t
  | none => match x.xf with | some f => f.target | none => x.holds

/-- Length N of a bank at its last seal. -/
def bankLen (x : SlotPath) (b : Nat) : Nat := hdrN (bankOf x b).header.toNat

/-- Is the slot cross-fading (R112): from its start to the boundary after the last frame with samples of it? -/
def fading (x : SlotPath) : Bool := x.xf.isSome

/-- Is a cross-fade of the slot still running at the next boundary, or one about to start there from a pending swap
(R112, R115)? One whose samples are all computed ends there. -/
def fadesOn (x : SlotPath) : Bool :=
  match x.xf with | some f => decide (f.done < f.len) || x.pendSwap.isSome | none => false

/-- The bank a slot carries at this boundary: a cross-fade whose samples are all computed has reached its target. -/
def heldBank (x : SlotPath) : Nat :=
  match x.xf with | some f => if f.done < f.len then x.holds else f.target | none => x.holds

/-- N of a slot: its active bank's, or the longer of the two banks during a cross-fade (R84, R93). -/
def slotLen (x : SlotPath) : Nat := if fadesOn x then max (bankLen x 0) (bankLen x 1) else bankLen x (heldBank x)

/-- Is a bank eligible as the target of a swap at rate `k` (R107)? 0, or the result code of Table 4.6. -/
def bankBar (x : SlotPath) (b k : Nat) : Nat :=
  if !(bankOf x b).sealed then 0x10 else if hdrK (bankOf x b).header.toNat ≠ k then 0x11 else 0

/-! ### Compute budget (R83–R85) -/

/-- Cost C_i of a slot with FIR length `n` under a configuration (R83). -/
def slotCost (cfg : SMap Nat) (g n : Nat) : Nat :=
  let k := kOf cfg g
  (if rxActive cfg g then 1 + chainCost k + (n + 2 ^ k - 1) / 2 ^ k else 0) + (if txActive cfg g then 1 + chainCost k else 0)

/-- Counted cost of a slot as it stands, or counted twice with the longer bank (R84). -/
def countedCost (cfg : SMap Nat) (s : State) (g : Nat) (twice : Bool) : Nat :=
  let x := getSlot s g
  if twice then 2 * slotCost cfg g (max (bankLen x 0) (bankLen x 1)) else slotCost cfg g (bankLen x (heldBank x))

/-- Budget use of a channel under the active configuration, slot `extra` counted as fading (R84). -/
def budgetUse (s : State) (ch : Nat) (extra : Option Nat := none) : Nat :=
  sumMap (chanSlots ch) fun g => countedCost s.objs s g (fading (getSlot s g) || extra == some g)

/-- Cross-fade headroom B+0xC:03: 256 less the use and the costliest slot that is not cross-fading. -/
def fadeHeadroom (s : State) (ch : Nat) : Int :=
  let costs := ((chanSlots ch).filter fun g => !fading (getSlot s g)).map fun g => countedCost s.objs s g false
  256 - (budgetUse s ch : Int) - (costs.foldl max 0 : Nat)

/-- Budget use of a channel with slot `g` switched to bank `t` at once, counted once (R84, R113). -/
def switchedUse (s : State) (g t : Nat) : Nat :=
  sumMap (chanSlots (g / 8)) fun h =>
    if h = g then slotCost s.objs g (bankLen (getSlot s g) t) else countedCost s.objs s h (fading (getSlot s h))

/-- Bank select a configuration gives a slot. -/
def setBankSelect (cfg : SMap Nat) (g v : Nat) : SMap Nat := cfgSet cfg (key (sigIdx (g / 8) 7) (g % 8 + 1)) v

/-- Does a commit from the active configuration to `cfg` leave the slot fading (R85, R110, R113)? -/
def fadesUnder (cfg : SMap Nat) (s : State) (g : Nat) : Bool :=
  let x := getSlot s g
  rxActive cfg g && (fadesOn x ||
    (bankSelect cfg g != heldBank x && kOf cfg g == kOf s.objs g && rxActive s.objs g && (bankOf x (heldBank x)).sealed))

/-- Counted cost of a slot under a staged configuration (R85). -/
def stagedCost (cfg : SMap Nat) (s : State) (g : Nat) : Nat :=
  let x := getSlot s g
  if fadesUnder cfg s g then 2 * slotCost cfg g (max (bankLen x 0) (bankLen x 1))
  else slotCost cfg g (bankLen x (bankSelect cfg g))

/-- Budget use of a channel under a staged configuration. -/
def stagedBudget (cfg : SMap Nat) (s : State) (ch : Nat) : Nat := sumMap (chanSlots ch) (stagedCost cfg s)

/-! ### Synchronising resets (R91–R96) -/

/-- Phase accumulator set by a reset: phase offset × 2^16. -/
def phaseOffset (cfg : SMap Nat) (g off : Nat) : BitVec 32 :=
  BitVec.ofNat 32 (cfgNat cfg (sigIdx (g / 8) off) (g % 8 + 9) * 65536)

/-- Receive side of a slot reset: delay lines, phase, settling count, detector window (R91, R93, R118). -/
def resetRx (cfg : SMap Nat) (g : Nat) (chanScope : Bool) (x : SlotPath) : SlotPath :=
  { x with
    rxChain := [], lineA := [], lineB := [], rxPhase := phaseOffset cfg g 2,
    rxSettle := settleC (kOf cfg g) chanScope + slotLen x - 1, detSum := 0, detCnt := 0 }

/-- Transmit side of a slot reset. -/
def resetTx (cfg : SMap Nat) (g : Nat) (x : SlotPath) : SlotPath :=
  { x with txChain := [], txPhase := phaseOffset cfg g 3, txSettle := settleT (kOf cfg g) }

/-- Does a channel-scope reset of the slot fall on this boundary as well? -/
def wideReset (s : State) (g : Nat) : Bool :=
  let x := getSlot s g
  x.resetWide && x.resetAt == s.clk.frame + 1

/-- Both sides of a carrier slot; of two resets at one boundary the wider scope gives the count. -/
def resetSlot (s : State) (g : Nat) (chanScope : Bool) : State :=
  let wide := chanScope || wideReset s g
  modSlot s g fun x => { resetTx s.objs g (resetRx s.objs g wide x) with resetAt := s.clk.frame + 1, resetWide := wide }

/-- The frame of the boundary kept as the last reset of the channel (B+0xB:05). -/
def noteReset (s : State) (ch : Nat) : State := modChan s ch fun c => { c with lastReset := s.clk.frame + 1 }

/-- A synchronising reset of some slots of a channel. -/
def resetSlots (s : State) (ch : Nat) (gs : List Nat) : State :=
  if gs.isEmpty then s else noteReset (forEach gs s fun s g => resetSlot s g false) ch

/-- A channel-scope synchronising reset: also the IQ correction and the canceller's tap lines. -/
def resetChannel (s : State) (ch : Nat) : State :=
  let s := forEach (chanSlots ch) s fun s g => resetSlot s g true
  let s := modChan s ch fun c => { c with iqLine := [], csrSettle := 38 }
  let s := forEach ((getChan s ch).canc.paths.map (·.1)) s fun s p => modPath s ch p fun x => { x with line := [] }
  noteReset s ch

/-- A rod-scope synchronising reset. -/
def resetRod (s : State) (r : Nat) : State := forEach (rodChannels r) s resetChannel

/-- The reset that a write of B+0xB:01–03 asks for (R91). -/
def resetBy (s : State) (ch sub v : Nat) : State :=
  match sub with
  | 1 => resetSlots s ch ((chanSlots ch).filter fun g => bit v (g % 8))
  | 2 => resetChannel s ch
  | _ => resetRod s (ch / 16)

/-- A write of B+0xB:01–03 (R91). It is kept until the boundary, where a commit that takes effect there is applied
first and the reset starts from the new values (R96). -/
def resetWrite (s : State) (ch sub v : Nat) : State :=
  let s := resetBy s ch sub v
  { s with resets := s.resets ++ [(ch, sub, v)] }

/-- The resets of this boundary once more, after the commit that fell on it (R96). -/
def resetsAgain (s : State) : State := forEach s.resets s fun s e => resetBy s e.1 e.2.1 e.2.2

/-! ### Bank seals and the mute of a slot without one (Table 1.7, Table 4.4) -/

/-- Does the slot lack a sealed active bank? -/
def sealLost (s : State) (g : Nat) : Bool :=
  let x := getSlot s g
  !(bankOf x x.holds).sealed || (match x.xf with | some f => !(bankOf x f.target).sealed | none => false)

/-- The mute follows the seal of the active bank: it begins while the receive side is active, and lasts until a sealed
bank is active (Table 1.7). -/
def sealMute (s : State) (g : Nat) : State :=
  if sealLost s g then (if rxActive s.objs g then addMute s (.bankSeal g) (.slot g) else s)
  else if hasMute s (.bankSeal g) then dropMute s (.bankSeal g) else s

/-- A bank loses its seal. -/
def loseSeal (s : State) (g b : Nat) : State :=
  modSlot s g fun x => if b = 0 then { x with bankA := { x.bankA with sealed := false } } else { x with bankB := { x.bankB with sealed := false } }

/-- Parity failure in a coefficient word. -/
def bankParity (s : State) (g b : Nat) : State := sealMute (loseSeal s g b) g

/-! ### Swaps and cross-fades (R107–R116) -/

/-- Cross-fade length of a slot as it stands. -/
def fadeLen (s : State) (g : Nat) : Nat := cfgNat s.objs (sigIdx (g / 8) 7) (g % 8 + 0x11)

/-- The slot switches without a cross-fade (R113). -/
def switchBank (s : State) (g t : Nat) : State :=
  sealMute (modSlot s g fun x => { x with holds := t, xf := none, pendSwap := none, swapResult := 0x04 }) g

/-- A cross-fade starts at this boundary (R111), or the switch of R113 where the bank being left has lost
its seal or the receive side is inactive. -/
def launchSwap (s : State) (g t : Nat) : State :=
  let x := getSlot s g
  if !rxActive s.objs g || !(bankOf x x.holds).sealed then switchBank s g t
  else modSlot s g fun x => { x with xf := some { target := t, len := fadeLen s g }, pendSwap := none, swapResult := 0x01 }

/-- A swap that meets a running cross-fade (R114). -/
def queueSwap (s : State) (g t : Nat) (f : XFade) : State :=
  modSlot s g fun x => if t = f.target then { x with pendSwap := none, swapResult := 0x03 } else { x with pendSwap := some t, swapResult := 0x02 }

/-- A write of B+0x7:09–10 (R109, R110, R114). -/
def swapWrite (s : State) (g t : Nat) : Nat × State :=
  let note (c : Nat) : State := modSlot s g fun x => { x with swapResult := c }
  let x := getSlot s g
  let bar := bankBar x t (kOf s.objs g)
  let chosen (s : State) : State := { s with objs := setBankSelect s.objs g t }
  if s.commit.st = 1 ∨ s.commit.held then (0x0C, note 0x13)
  else match x.xf with
    | some f => if bar ≠ 0 then (0x05, note bar) else (0, chosen (queueSwap s g t f))
    | none =>
      if t = x.holds then (0, note 0x05)
      else if bar ≠ 0 then (0x05, note bar)
      else if decide (256 < if rxActive s.objs g && (bankOf x x.holds).sealed then budgetUse s (g / 8) (some g) else switchedUse s g t) then
        (0x05, note 0x12)
      else (0, chosen (launchSwap s g t))

/-- A pending swap whose target has lost its seal is dropped (R115): the slot stays on the bank it has reached. -/
def dropSwap (s : State) (g : Nat) : State :=
  let s := { modSlot s g (fun x => { x with swapResult := 0x14 }) with objs := setBankSelect s.objs g (getSlot s g).holds }
  let y := getSlot s g
  let word := y.holds * 4096 + b2n y.bankB.sealed * 2048 + b2n y.bankA.sealed * 1024 + 0x14
  sealMute (tallyEvent s 0x0304 (srcField 3 g) [word]) g

/-- A cross-fade ends: the slot holds its target, and a pending swap starts by `go` or is dropped (R112, R115). -/
def endFade (s : State) (g : Nat) (f : XFade) (go : State → Nat → State) : State :=
  let pend := (getSlot s g).pendSwap
  let s := modSlot s g fun x => { x with holds := f.target, xf := none, pendSwap := none }
  match pend with
  | none => sealMute s g
  | some t => if (bankOf (getSlot s g) t).sealed then sealMute (go s t) g else dropSwap s g

/-- CROSS_FADE_END (R112, R115): at the boundary after the last frame with samples of the fade. -/
def execCrossFadeEnd (g : Nat) (s : State) : Host.Outcome State Fault Refusal :=
  match (getSlot s g).xf with
  | none => .next s
  | some f => .next (if f.done < f.len then s else endFade s g f fun s t => launchSwap s g t)

/-- Running and pending swaps completed at once (rod restart or power-up, Table 4.4; a receive side made inactive,
R113): the pending swap switches without a cross-fade. Its result after a rod restart or power-up is 0x04 too:
DESIGN CHOICE, unsafe, Table 4.6 names no code for it (log 39). -/
def completeSwaps (s : State) (g : Nat) : State :=
  match (getSlot s g).xf with
  | none => s
  | some f => endFade s g f fun s t => switchBank s g t

/-! ### Power detector and thresholds (R117–R121) -/

/-- A threshold event: record and, on setting, the marks that wait for it (R120, Table 13.5). -/
def thresholdEvent (s : State) (g : Nat) (lowState set : Bool) : State :=
  let code := 0x0300 + 2 * b2n lowState + b2n (!set)
  let s := tallyEvent s code (srcField 3 g) [argI (getSlot s g).power]
  if set then fireMarks s 1 fun a => bit a 15 == lowState && bits a 9 0 == g else s

/-- A state changed, with its event. -/
def setThreshold (s : State) (g : Nat) (lowState v : Bool) : State :=
  let x := getSlot s g
  let was := if lowState then x.low else x.high
  if was = v then s
  else thresholdEvent (modSlot s g fun x => if lowState then { x with low := v } else { x with high := v }) g lowState v

/-- The two states evaluated on a published result (R119). With a hysteresis of 0 and a result exactly at the threshold
both conditions hold; the model sets the state: DESIGN CHOICE, unsafe, the spec gives no precedence (log 39). -/
def judgeThresholds (s : State) (g : Nat) : State :=
  let x := getSlot s g
  let get (sub : Nat) : Int := cfgVal s.objs (sigIdx (g / 8) 0xA) (g % 8 + sub)
  let hi := get 1
  let lo := get 0x11
  let high := if hi = -32768 then false else if x.power ≥ hi then true else if x.power ≤ hi - get 9 then false else x.high
  let low := if lo = -32768 then false else if x.power ≤ lo then true else if x.power ≥ lo + get 0x19 then false else x.low
  setThreshold (setThreshold s g false high) g true low

/-- Carrier power of a completed window (R117). -/
def carrierPower (sum a : Nat) : Int :=
  if sum = 0 then -15000 else max (-15000) (dbOf sum (2 ^ a * 2 ^ 30))

/-- POWER_DETECTOR_WINDOW (R117–R120): the oldest completed window's power is published and judged. -/
def execPowerDetectorWindow (g : Nat) (s : State) : Host.Outcome State Fault Refusal :=
  match (getSlot s g).detDone with
  | [] => .next s
  | (sum, a) :: rest =>
    if !rxActive s.objs g then .next (modSlot s g fun x => { x with detDone := [] })
    else .next (judgeThresholds (modSlot s g fun x => { x with detDone := rest, power := carrierPower sum a }) g)

/-- A deactivated receive side: no result, both states clear with their events (R121). -/
def clearDetector (s : State) (g : Nat) : State :=
  let s := modSlot s g fun x => { x with power := -32768, detSum := 0, detCnt := 0, detDone := [] }
  setThreshold (setThreshold s g false false) g true false

/-! ### At a commit boundary -/

/-- The swap a commit makes on a slot (R109, R110, R113, R114, Table 4.4); a cross-fade that ends at this boundary has
ended first (R112), and so has one whose receive side the commit makes inactive; a pending swap that the commit's own
bank select replaces is dropped before (R114). -/
def commitSwap (old : SMap Nat) (s : State) (g : Nat) : State :=
  let s := match (getSlot s g).xf with
    | some f =>
      if f.done < f.len ∧ rxActive s.objs g = true then s
      else
        let s := if bankSelect s.objs g = finalBank (getSlot s g) then s else modSlot s g fun x => { x with pendSwap := none }
        endFade s g f fun s t => launchSwap s g t
    | none => s
  let x := getSlot s g
  let t := bankSelect s.objs g
  if t = finalBank x then s
  else if !rxActive s.objs g then switchBank s g t
  else match x.xf with
    | some f => queueSwap s g t f
    | none => if kOf old g ≠ kOf s.objs g ∨ rxActive old g = false then switchBank s g t else launchSwap s g t

/-- Filters, resets and detectors of one slot after a commit from configuration `old` (R92, R118, R121, R145). -/
def commitSlot (old : SMap Nat) (s : State) (g : Nat) : State :=
  let s := commitSwap old s g
  let k := decide (kOf old g ≠ kOf s.objs g)
  let s := if k then resetSlots s (g / 8) [g] else s
  let s := if rxActive s.objs g && !rxActive old g && !k then modSlot s g (resetRx s.objs g (wideReset s g)) else s
  let s := if txActive s.objs g && !txActive old g && !k then modSlot s g (resetTx s.objs g) else s
  let s := if rxActive old g && !rxActive s.objs g then clearDetector (modSlot s g fun x => { x with rxHold := [], rxXbar := [] }) g else s
  let s := if txActive old g && !txActive s.objs g then modSlot s g fun x => { x with txIn := [] } else s
  let a (cfg : SMap Nat) : Nat := cfgNat cfg (sigIdx (g / 8) 9) (g % 8 + 9)
  let s := if a old ≠ a s.objs then modSlot s g fun x => { x with detSum := 0, detCnt := 0 } else s
  sealMute s g

/-- Slots that an object of chapter 3, 4 or 6 names in a configuration. -/
def plannedSlots (cfg : SMap Nat) : List Nat :=
  let sig := (cfgRun cfg 0x3000 0x35FF).foldl (fun l e =>
    let off := e.1 / 256 % 16
    if (off = 4 ∨ off = 7 ∨ off = 9) ∧ 1 ≤ e.1 % 256 then insertNat (8 * ((e.1 / 256 - 0x3000) / 16) + (e.1 % 256 - 1) % 8) l else l) []
  (rxSlots cfg ++ txSlots cfg).foldl (fun l g => insertNat g l) sig

/-- Every slot and channel after a commit; the alignment resets of R88. -/
def filtersCommit (old : SMap Nat) (s : State) : State :=
  let slots := (plannedSlots old).foldl (fun l g => insertNat g l) (plannedSlots s.objs)
  let s := forEach slots s (commitSlot old)
  let align (cfg : SMap Nat) (ch : Nat) : Bool := cfgBool cfg (sigIdx ch 0) 3
  forEach ((List.range 96).filter fun ch => align old ch != align s.objs ch) s resetChannel

end Sys2Proof.Machine
end

