-- ==== Sys2Proof/Machine/Licence.lean ====
section
/-! DEFINITION. Licence.lean: licence fuses, burns, the shadow and licence mutes (ch. 11). -/

namespace Sys2Proof.Machine

/-! ### Generations (R266) -/

def getGen (s : State) (g : Nat) : LicGen := smGet {} s.nv.gens g

/-- The active generation of the fuses: the highest whose seal holds; 0 none. -/
def sealedGen (s : State) : Nat := ((List.range 5).filter fun g => (getGen s g).sealed).foldl max 0

/-- The lowest generation number not consumed. -/
def nextGen (s : State) : Option Nat := [1, 2, 3, 4].find? fun g => !(getGen s g).consumed

/-- Records as the fuses hold them. -/
def genRecords (s : State) (g : Nat) : SMap (List Word) := if g = 0 then [] else (getGen s g).records

/-! ### Bound sides (R144, R228) -/

/-- Is a side claimed by a role, and for the downlink? -/
def sideClaim (cfg : SMap Nat) (g : Nat) (tx : Bool) : Option Bool :=
  if tx then (if txDownlink cfg g then some true else if txUplink cfg g then some false else none)
  else if rxDownlink cfg g then some true else if rxUplink cfg g then some false else none

/-- Is a side active? -/
def sideActive (cfg : SMap Nat) (g : Nat) (tx : Bool) : Bool := if tx then txActive cfg g else rxActive cfg g

/-- The declared external gain of a side's record. -/
def sideExternal (s : State) (cfg : SMap Nat) (g : Nat) (tx : Bool) : Option Int :=
  (boundRecord s cfg g).map (if tx then recTxExt else recRxExt)

/-- Does a side pass the binding rule of R144: bound to a present record whose range holds its span? -/
def sideBinds (s : State) (cfg : SMap Nat) (g : Nat) (tx : Bool) : Bool :=
  match sideClaim cfg g tx with
  | none => true
  | some down => match boundRecord s cfg g with
    | none => false
    | some r =>
      let sp := sideSpan cfg g tx
      let lo : Int := if down then recDlLow r else recUlLow r
      let hi : Int := if down then recDlHigh r else recUlHigh r
      decide (hi ≠ 0) && decide (lo * 32768000 ≤ sp.1) && decide (sp.2 ≤ hi * 32768000)

/-- Does a side's record agree with that of its channel's lowest-numbered active side of the same kind? -/
def sideAgrees (s : State) (cfg : SMap Nat) (g : Nat) (tx : Bool) : Bool :=
  match (chanSlots (g / 8)).find? fun h => sideActive cfg h tx && (sideExternal s cfg h tx).isSome with
  | none => true
  | some h => (sideExternal s cfg g tx).isNone || sideExternal s cfg g tx == sideExternal s cfg h tx

/-- Samples of a group's period in one direction (1 downlink, 2 uplink). -/
def groupShare (cfg : SMap Nat) (i dir : Nat) : Nat :=
  sumMap ((groupIntervals cfg i).filter fun v => v.2.1 == dir) fun v => v.2.2.2

/-- Does the duty of a side's channel meet its record (R228)? -/
def sideDuty (s : State) (cfg : SMap Nat) (g : Nat) : Bool :=
  let i := tddGroupOf cfg (g / 8)
  if 8 ≤ i then true
  else match boundRecord s cfg g with
    | none => true
    | some r => [1, 2].all fun d => decide (groupShare cfg i d * 100 ≤ recDuty r * groupPeriod cfg i)

/-- Every active side of a configuration, transmit before receive in each slot. -/
def activeSides (cfg : SMap Nat) : List (Nat × Bool) :=
  let gs := (rxSlots cfg).foldl (fun l g => insertNat g l) (txSlots cfg)
  gs.flatMap fun g => [(g, true), (g, false)].filter fun x => sideActive cfg x.1 x.2

/-- Sides of the active configuration that no longer pass are muted (R270, R272). -/
def licenceTest (s : State) : State :=
  forEach (activeSides s.objs) s fun s x =>
    if sideBinds s s.objs x.1 x.2 && sideAgrees s s.objs x.1 x.2 && sideDuty s s.objs x.1 then s
    else addMute s (.licence x.1 x.2) (.slot x.1)

/-- A commit that passes releases every licence mute (R270). -/
def licenceRelease (s : State) : State :=
  { s with mutes := s.mutes.filter fun m => match m.owner with | .licence _ _ => false | _ => true }

/-! ### Conditions of a burn (Tables 11.1 to 11.3) -/

/-- A value of a word or field within bounds. -/
def within (v lo hi : Int) : Bool := decide (lo ≤ v) && decide (v ≤ hi)

/-- The tests of a frequency range whose low end stands at subindex `sub`: both ends 0, or each in 410–7,125 MHz; a low
end above the high end is named as the high end's breach (log 23). -/
def rangeTests (lo hi sub : Nat) : List (Bool × Nat) :=
  let none_ := lo == 0 && hi == 0
  [(none_ || within lo 410000 7125000, sub), (none_ || (within hi 410000 7125000 && decide (lo ≤ hi)), sub + 1)]

/-- Does allow-list entry `i` break Table 11.1: RAT, reserved bits and PCI range (Table 9.2), or a word that is not zero
at or above the entry count? -/
def entryBad (rec : List Word) (i : Nat) : Bool :=
  let w := recWord rec (12 + 2 * i)
  if i < recEntries rec then
    decide (2 < bits w 31 30) || bits w 28 10 != 0 || decide ((if bits w 31 30 = 0 then 503 else 1007) < bits w 9 0)
  else w != 0 || recWord rec (13 + 2 * i) != 0

/-- The first subindex of 0x1340 + r whose field breaks Table 11.1. -/
def recordBreach (rec : List Word) : Option Nat :=
  let n := recEntries rec
  let tests : List (Bool × Nat) :=
    [(bits (recWord rec 0) 26 24 == 0 && bits (recWord rec 0) 7 0 == 0 && decide (n ≤ 16) && within (recDuty rec) 1 100 && recCrcOk rec, 1),
     (recDlHigh rec != 0 || recUlHigh rec != 0, 2)] ++ rangeTests (recDlLow rec) (recDlHigh rec) 2 ++
    rangeTests (recUlLow rec) (recUlHigh rec) 4 ++
    [(within (recMaxGain rec) 0 12000, 8), (within (recTxExt rec) (-2000) 6000, 9), (within (recRxExt rec) (-2000) 6000, 0xA),
     (within (recMinMargin rec) 300 3000, 0xB), (within (recCredit rec) 0 4000, 0xC), (within (recNoiseLimit rec) 10 1000, 0xD),
     (within (recCellNoise rec) 0 2000, 0xF), (bits (recWord rec 10) 15 0 == 0, 0x10)]
  match tests.find? (fun t => !t.1) with
  | some t => some t.2
  | none => ((List.range 16).find? (entryBad rec)).map fun i => 0x11 + i

/-- Does entry `i` of a new list match some entry of the earlier one (R221, R269)? -/
def entryKept (old new : List Word) (i : Nat) : Bool :=
  let w := recWord new (12 + 2 * i)
  let f := recWord new (13 + 2 * i)
  (List.range (min 16 (recEntries old))).any fun j =>
    let v := recWord old (12 + 2 * j)
    let e := recWord old (13 + 2 * j)
    bits v 31 30 == bits w 31 30 && (bit v 29 || (!bit w 29 && bits v 9 0 == bits w 9 0)) && decide (e ≤ f + 5) && decide (f ≤ e + 5)

/-- The tests that a direction's range stays within the earlier one, by the subindices of its ends. -/
def rangeKept (ol oh nl nh sub : Nat) : List (Bool × Nat) :=
  let none_ := nl == 0 && nh == 0
  [(none_ || (oh != 0 && decide (ol ≤ nl)), sub), (none_ || decide (nh ≤ oh), sub + 1)]

/-- The first subindex at which a record of a later generation relaxes the earlier one (Table 11.3): every field is
compared, whether or not the present bit is kept (R269). -/
def relaxed (old new : List Word) : Option Nat :=
    let tests : List (Bool × Nat) :=
      [(!(!bit (recWord old 0) 31 && bit (recWord new 0) 31) && !(bit (recWord old 0) 30 && !bit (recWord new 0) 30) &&
          !(recEnforced old && !recEnforced new) &&
          !(!recLastKnown old && recLastKnown new) && !(!recReplay old && recReplay new) && decide (recDuty new ≤ recDuty old), 1)] ++
      rangeKept (recDlLow old) (recDlHigh old) (recDlLow new) (recDlHigh new) 2 ++
      rangeKept (recUlLow old) (recUlHigh old) (recUlLow new) (recUlHigh new) 4 ++
      [(decide (recMaxCarrier new ≤ recMaxCarrier old), 6), (decide (recMaxTotal new ≤ recMaxTotal old), 7),
       (decide (recMaxGain new ≤ recMaxGain old), 8), (recTxExt new == recTxExt old, 9), (recRxExt new == recRxExt old, 0xA),
       (decide (recMinMargin old ≤ recMinMargin new), 0xB), (decide (recCredit new ≤ recCredit old), 0xC),
       (decide (recNoiseLimit new ≤ recNoiseLimit old), 0xD), (decide (recRefPower new ≤ recRefPower old), 0xE),
       (decide (recCellNoise new ≤ recCellNoise old), 0xF), (decide (recEmission new ≤ recEmission old), 0x10)]
    match tests.find? (fun t => !t.1) with
    | some t => some t.2
    | none =>
      if recEnforced old then ((List.range (min 16 (recEntries new))).find? fun i => !entryKept old new i).map fun i => 0x11 + i else none

/-! ### The image under load (R267) -/

def imageWord (img : List (Nat × Word)) (i : Nat) : Word := smGet 0 img i

/-- Record r of a licence image. -/
def imageRecord (img : List (Nat × Word)) (r : Nat) : List Word := (List.range 44).map fun i => imageWord img (4 + 44 * r + i)

/-- The records of an image, as burned: those with a word that is not zero. -/
def imageRecords (img : List (Nat × Word)) : SMap (List Word) :=
  (List.range 64).foldl (fun m r => let x := imageRecord img r; if x.any (· != 0) then smSet [] m r x else m) []

/-- The image of the transfer under way: the words it has written since the cursor was written. A transfer that also read
words has no image (log 23). -/
def transferImage (s : State) : List (Nat × Word) :=
  let x := getWindow s 4
  if x.written = x.moved then s.lic.image.filter fun e => decide (x.cursor - x.moved ≤ e.1) && decide (e.1 < x.cursor) else []

/-- Refusal of a burn: state, reason, field and record (R268). -/
def refuseBurn (s : State) (status reason field : Nat) : Nat × State :=
  let s := { s with lic := { s.lic with burn := 4, reason := if status = 5 then reason else s.lic.reason, field := if status = 5 then field else s.lic.field } }
  (status, tallyEvent s 0x0805 0 [if status = 5 then reason else 0])

/-- The first record and subindex that a test finds. -/
def firstField (f : Nat → Option Nat) : Option Nat :=
  ((List.range 64).findSome? fun r => (f r).map fun sub => r * 256 + sub)

/-- The burn of generation `g` from the image under load, its CRC having matched (R268). -/
def burnLicence (s : State) (g : Nat) (readBackOk : Bool) : Nat × State :=
  let img := transferImage s
  let recs := imageRecords img
  let earlier := genRecords s (sealedGen s)
  if s.nv.lifecycle ≠ 1 then refuseBurn s 0x07 0 0
  else if s.life.power ≠ .hold ∧ s.life.power ≠ .quiet then refuseBurn s 0x06 0 0
  else match nextGen s with
    | none => refuseBurn s 0x05 0x01 0
    | some n =>
      if n ≠ g then refuseBurn s 0x05 0x06 0
      else if !Config.signatureOk 1 ((List.range 2836).map (imageWord img)) then refuseBurn s 0x05 0x02 0
      else match firstField (fun r => if bit (recWord (imageRecord img r) 0) 31 then recordBreach (imageRecord img r) else none) with
        | some f => refuseBurn s 0x05 0x03 f
        | none =>
          match (if sealedGen s = 0 then none else firstField fun r => relaxed (smGet [] earlier r) (imageRecord img r)) with
          | some f => refuseBurn s 0x05 0x04 f
          | none =>
            let gen : LicGen := { consumed := true, integrator := (imageWord img 1).toNat, sealed := readBackOk, records := recs }
            let s := { s with nv := { s.nv with gens := smSet {} s.nv.gens g gen } }
            if readBackOk then (0, { s with lic := { s.lic with burn := 3, reason := 0, field := 0, due := some g } })
            else refuseBurn s 0x05 0x05 0

/-! ### Shadow (R270, R272) -/

/-- The shadow copied from the fuses; records that a generation changed carry its number. -/
def loadShadow (s : State) : State :=
  let g := sealedGen s
  let recs := genRecords s g
  let changed := (List.range 64).filter fun r => smGet [] recs r != smGet [] s.lic.shadow r
  { s with lic := { s.lic with shadow := recs, active := g, setBy := changed.foldl (fun m r => smSet 0 m r g) s.lic.setBy } }

/-- The shadow as a frame-die reset forms it: each record's number is that of the latest generation that
changed it, over the generations in order. -/
def bootShadow (s : State) : State :=
  let gens := [1, 2, 3, 4].filter fun g => (getGen s g).sealed
  let r := gens.foldl (fun (a : SMap (List Word) × SMap Nat) g =>
    let recs := (getGen s g).records
    let changed := (List.range 64).filter fun r => smGet [] recs r != smGet [] a.1 r
    (recs, changed.foldl (fun m r => smSet 0 m r g) a.2)) ([], [])
  { s with lic := { s.lic with shadow := r.1, active := sealedGen s, setBy := r.2, due := none } }

/-- LICENCE_GENERATION_ACTIVATE (R270): the generation read back becomes active at a block boundary. -/
def execLicenceGenerationActivate (s : State) : Host.Outcome State Fault Refusal :=
  match s.lic.due with
  | none => .next s
  | some g =>
    if !coreClock s then .next s
    else
      let grants (s : State) (x : Replay) : Bool := ((boundRecord s s.objs x.target).map recReplay).getD false
      let before := s
      let s := loadShadow { s with lic := { s.lic with due := none } }
      let s := stopReplays s fun x => (x.mode == 1 || grants before x) && !grants s x
      .next (tallyEvent (licenceTest s) 0x0804 0 [g])

/-- LICENCE_SHADOW_COMPARE (R272): on a mismatch the shadow is reloaded and source 292 set. -/
def execLicenceShadowCompare (shadowOk : Bool) (s : State) : Host.Outcome State Fault Refusal :=
  if s.life.power = .off ∨ shadowOk = true then .next s
  else if s.lic.due.isSome then .next (faultEvent s 292)
  else .next (licenceTest (loadShadow (faultEvent s 292)))

end Sys2Proof.Machine
end

