-- ==== Sys2Proof/Machine/Sentinel.lean ====
section
/-! DEFINITION. Sentinel.lean: the Output Sentinel and MUTE_N (ch. 11). Levels are in 0.01 dB. -/

namespace Sys2Proof.Machine

/-! ### The licence map (R273, R275) -/

/-- Transmit LO of a channel as its synthesiser holds it, kHz. -/
def sentinelLo (s : State) (ch : Nat) : Nat :=
  match (getChan s ch).radio.txSynth with
  | some n => (smGet {} (getRod s (ch / 16)).synths n).lo
  | none => txLo s.objs ch

/-- Does a range in kHz overlap the channel's 245.76 MHz about its LO? -/
def rangeNear (lo low high : Nat) : Bool := high != 0 && decide (low < lo + 122880) && decide (lo < high + 122880)

/-- The records of the Sentinel's copy in a channel's map, with their numbers. -/
def sentinelMap (s : State) (ch : Nat) : List (Nat × List Word) :=
  let lo := sentinelLo s ch
  s.sent.copy.filter fun e =>
    recPresent e.2 && (rangeNear lo (recDlLow e.2) (recDlHigh e.2) || rangeNear lo (recUlLow e.2) (recUlHigh e.2))

/-- The unlicensed ceiling. -/
def unlicensedCeiling (s : State) : Int := if s.nv.lifecycle = 0 then -1000 else -3000

/-- Is the channel judged against the unlicensed ceiling: no generation, an empty map, or a lost record? -/
def unlicensed (s : State) (ch : Nat) : Bool :=
  s.sent.copyGen == 0 || (sentinelMap s ch).isEmpty || (sentinelMap s ch).any fun e => s.sent.lost.contains e.1

/-- The greatest of a list of levels over a first one. -/
def maxOf (x : Int) (xs : List Int) : Int := xs.foldl max x

/-- Ceiling of a channel at the ball (0x1312). -/
def ceiling (s : State) (ch : Nat) : Int :=
  if unlicensed s ch then unlicensedCeiling s
  else maxOf (-32768) ((sentinelMap s ch).map fun e => recMaxTotal e.2 - recTxExt e.2)

/-- Limit of bin b, 0–63; none where the bin is not judged. With a lost record the bins are judged against
the unlicensed ceiling; with a map that is empty under an active generation none is (log 23). -/
def binLimit (s : State) (ch b : Nat) : Option Int :=
  let m := sentinelMap s ch
  if s.sent.copyGen = 0 then some (unlicensedCeiling s)
  else if m.isEmpty then none
  else if unlicensed s ch then some (unlicensedCeiling s)
  else
    let lo : Int := (sentinelLo s ch : Int) - 122880 + 3840 * (b : Int)
    let hi := lo + 3840
    let ranges (r : List Word) : List (Int × Int) :=
      ([((recDlLow r : Int), (recDlHigh r : Int)), ((recUlLow r : Int), (recUlHigh r : Int))]).filter fun x => x.2 != 0
    let holding := m.filter fun e => (ranges e.2).any fun x => decide (x.1 ≤ lo) && decide (hi ≤ x.2)
    let touching := m.any fun e => (ranges e.2).any fun x => decide (x.1 < hi) && decide (lo < x.2)
    if !holding.isEmpty then some (maxOf (-32768) (holding.map fun e => recMaxCarrier e.2 - recTxExt e.2))
    else if touching then none
    else
      let least := (m.map fun e => recEmission e.2).foldl min 32767
      some (least + 584 - maxOf (-32768) (m.map fun e => recTxExt e.2))

/-! ### Trips (R276–R278) -/

/-- Forward power at the ball of a feedback level. -/
def ballPower (s : State) (ch : Nat) (fb : Int) : Int := fb - (getChan s ch).cal.sentinelFwd

/-- No forward samples reach the Sentinel during a reflected window (R277). -/
def reflected (s : State) (ch : Nat) : Bool := let w := (getChan s ch).mis.win; w == 2 || w == 3

/-- Has a TXEN-low trip latched in the rod? -/
def rodTripped (s : State) (r : Nat) : Bool := (rodChannels r).any fun ch => (getChan s ch).sent.txLow

/-- A trip of kind 1 overpower, 2 spectral, 3 TXEN low; a further excess while it is latched is none. -/
def trip (s : State) (ch kind : Nat) : State :=
  let x := (getChan s ch).sent
  let latched := match kind with | 1 => x.overpower | 2 => x.spectral | _ => rodTripped s (ch / 16)
  if latched then s
  else
    let trips := s.time :: x.trips.filter fun t => decide (s.time < t + 60000 * msUnits)
    let before := s
    let s := modSent s ch fun x => { x with
      overpower := x.overpower || kind == 1, spectral := x.spectral || kind == 2, txLow := x.txLow || kind == 3,
      closed := x.closed || kind != 3, trips, locked := x.locked || decide (3 ≤ trips.length), overRun := 0, lowRun := 0 }
    let s := txenDrops before s
    let s := { s with sent := { s.sent with trips := inc32 s.sent.trips } }
    let s := if kind = 3 then addMute s (.sentinelRod (ch / 16)) (.rod (ch / 16)) else addMute s (.sentinel ch) (.chan ch)
    let s := faultEvent s (if kind = 2 then 294 else 293)
    let s := tallyEvent s 0x0800 (srcField 2 ch) [kind, argI (ceiling s ch)]
    let s := stopReplays s fun x => x.target / 8 == ch
    fireMarks s 5 fun a => bits a 6 0 == 0x7F || bits a 6 0 == ch

/-- SENTINEL_OVERPOWER_INTERVAL (R276, R277): `fb` is the mean forward feedback power of a 2 µs interval,
0.01 dBFS. -/
def execSentinelOverpowerInterval (ch : Nat) (fb : Int) (s : State) : Host.Outcome State Fault Refusal :=
  if s.life.power = .off ∨ 96 ≤ ch ∨ reflected s ch then .next s
  else
    let p := ballPower s ch fb
    let x := (getChan s ch).sent
    if txen s ch then
      let c := ceiling s ch
      let run := if c < p then x.overRun + 1 else 0
      let s := modSent s ch fun x => { x with overRun := min 2 run, lowRun := 0 }
      .next (if 2 ≤ run ∨ c + 600 ≤ p then trip s ch 1 else s)
    else
      let run := if -3000 < p then x.lowRun + 1 else 0
      let s := modSent s ch fun x => { x with lowRun := min 2 run }
      .next (if 2 ≤ run then trip s ch 3 else s)

/-- SENTINEL_SPECTRAL_WINDOW (R276): the 64 bin powers of a 250 µs window of TXEN-high time, 0.01 dBFS. -/
def execSentinelSpectralWindow (ch : Nat) (bins : List Int) (s : State) : Host.Outcome State Fault Refusal :=
  if s.life.power = .off ∨ 96 ≤ ch ∨ txen s ch = false then .next s
  else
    let exceeding := (List.range 64).filter fun b =>
      match bins[b]?, binLimit s ch b with
      | some v, some l => decide (l < ballPower s ch v)
      | _, _ => false
    let again := exceeding.any fun b => (getChan s ch).sent.binsOver.contains b
    let s := modSent s ch fun x => { x with binsOver := if again then [] else exceeding }
    .next (if again then trip s ch 2 else s)

/-- A write of 0x1310:01 (R279). -/
def gateWrite (s : State) (ch : Nat) : Nat × State :=
  let r := ch / 16
  if 96 ≤ ch then (0x05, s)
  else if (getChan s ch).sent.locked ∨ ((rodChannels r).any fun c => (getChan s c).sent.locked && (getChan s c).sent.txLow) = true then (0x05, s)
  else
    let had := (getChan s ch).sent.closed || rodTripped s r
    let s := forEach (rodChannels r) s fun s c => modSent s c fun x => { x with txLow := false }
    let s := modSent s ch fun x => { x with closed := false, overpower := false, spectral := false, overRun := 0, binsOver := [] }
    let s := dropMute (dropMute s (.sentinel ch)) (.sentinelRod r)
    (0, if had then tallyEvent s 0x0801 (srcField 2 ch) [] else s)

/-! ### Self-check (R280) -/

/-- A self-check failure: every gate closes and every output is muted (Table 1.8); source 295 follows. -/
def sentinelFail (s : State) : State :=
  if s.sent.failed then s
  else
    let before := s
    addMute (txenDrops before { s with sent := { s.sent with failed := true } }) .sentinelSelf .device

/-- SENTINEL_SELF_TEST (R280): one round of 96 detector tests, and the channels whose test failed. A round
without failure ends a standing failure (log 23). -/
def execSentinelSelfTest (failed : List Nat) (s : State) : Host.Outcome State Fault Refusal :=
  if s.life.power = .off then .next s
  else
    let bad := (List.range 96).filter failed.contains
    let s := { s with sent := { s.sent with selfTests := min (2 ^ 64 - 1) (s.sent.selfTests + (96 - bad.length)) } }
    .next (if bad.isEmpty then dropMute { s with sent := { s.sent with failed := false } } .sentinelSelf else sentinelFail s)

/-- SENTINEL_SELF_CHECK_FAILURE (R280): 0 a failed test, 1 loss of its oscillator, 2 disagreement with
SUPCLK, or with REFCLK while SUPCLK is absent; with both absent the comparison is suspended. -/
def execSentinelSelfCheckFailure (kind : Nat) (s : State) : Host.Outcome State Fault Refusal :=
  if s.life.power = .off ∨ (kind = 2 ∧ s.clk.supclk = false ∧ s.clk.refclk = false) then .next s
  else .next (sentinelFail s)

/-- SENTINEL_FUSE_READ (R273): with no lost record the read completes and the copy is the active
generation's; otherwise a parity failure of the copy has lost the records named, until the re-read. -/
def execSentinelFuseRead (lost : List Nat) (s : State) : Host.Outcome State Fault Refusal :=
  if s.life.power = .off then .next s
  else if lost.isEmpty then
    .next { s with sent := { s.sent with copy := genRecords s (sealedGen s), copyGen := sealedGen s, lost := [] } }
  else .next { s with sent := { s.sent with lost := (lost.filter (· < 64)).foldl (fun l r => insertNat r l) s.sent.lost } }

/-! ### MUTE_N (R281, R282) -/

/-- MUTE_N_ASSERT (R281): a low level of `lowNs` ns; 50–200 ns acts or is ignored. -/
def execMuteNAssert (lowNs : Nat) (s : State) : Host.Outcome State Fault Refusal :=
  let act (s : State) : State :=
    let before := s
    let s := txenDrops before { s with pins := { s.pins with muteN := false, muteNRose := s.time + lowNs * 32 } }
    tallyEvent (addMute s .muteN .device) 0x0802 0 []
  if s.life.power = .off then .next { s with pins := { s.pins with muteN := decide (lowNs < 200) && s.pins.muteN, muteNRose := s.time + lowNs * 32 } }
  else if lowNs < 50 then .next s
  else if lowNs < 200 then (let d := drawBool s; .next (if d.1 then act d.2 else d.2))
  else .next (act s)

/-- MUTE_N_RELEASE (R282): MUTE_N has stayed high for 10 ms. -/
def execMuteNRelease (s : State) : Host.Outcome State Fault Refusal :=
  if s.pins.muteN ∨ s.time < s.pins.muteNRose + 10 * msUnits ∨ coreClock s = false then .next s
  else .next (tallyEvent (dropMute { s with pins := { s.pins with muteN := true } } .muteN) 0x0803 0 [])

end Sys2Proof.Machine
end

