-- ==== Sys2Proof/Machine/Power.lean ====
section
/-! DEFINITION. Power.lean: what must work for service (ch. 1), the power states and the requests that
change them, the supervisor's stop, rods powered up, powered down and restarted (chs. 16 to 18). -/

namespace Sys2Proof.Machine

/-! ### Rods and donor paths (R26, R27, R455) -/

/-- Is a rod muted by a rod-scope fault reaction, or by the fixed reaction of R12? -/
def rodFaultMuted (s : State) (r : Nat) : Bool :=
  s.mutes.any fun m => match m.owner with
    | .fault _ => m.scope == .rod r
    | .dieLink r' => r' == r
    | _ => false

/-- A rod that works: powered, not restarting, its calibration not failed, not muted by a fault. -/
def rodWorks (s : State) (r : Nat) : Bool :=
  let x := getRod s r
  x.powered && !x.restarting && x.calStep == 0 && !rodFaultMuted s r

/-- Is a source's sticky bit set? -/
def sticky (s : State) (n : Nat) : Bool := s.flt.sticky.getLsbD n

/-- A rod counts towards R26 (R27). -/
def rodCounts (s : State) (r : Nat) : Bool :=
  rodWorks s r && !sticky s (193 + 6 * r) && !sticky s (197 + 6 * r) && !sticky s (285 + r)

/-- A channel counts as a donor path or a service-role channel (R27). -/
def chanCounts (s : State) (ch : Nat) : Bool := rodCounts s (ch / 16) && !sticky s (2 * ch) && gateOpen s ch

/-- RF donor paths: active receive sides claimed by a downlink donor role (R455). -/
def rfDonors (cfg : SMap Nat) : List Nat := (rxSlots cfg).filter fun g => dlRole cfg (g / 8) == 1

/-- Stream donor paths: sources of downlink routes in use (R455), by endpoint code. -/
def streamDonors (cfg : SMap Nat) : List Nat :=
  ((routesInUse cfg).filter fun r => !routeUp cfg r && (endKind (routeEnd cfg r) == 1 || endKind (routeEnd cfg r) == 2)).map (routeEnd cfg) |>.eraseDups

/-- Every donor path of the active configuration is lost, and there is at least one (R455). -/
def donorsLost (s : State) : Bool :=
  let a := rfDonors s.objs
  let b := streamDonors s.objs
  !(a.isEmpty && b.isEmpty) && a.all (fun g => !rodWorks s (g / 128)) && b.all (streamLost s)

/-- Fault source of the port or lane of a stream. -/
def linkFaultSrc (code : Nat) : Nat := if endKind code = 1 then 228 + endLink code else 244 + endLink code

/-- Is the minimum configuration of R26 there, as R27 counts it? -/
def partsPresent (s : State) : Bool :=
  coreClock s && !s.sent.failed && s.life.sup &&
  (((rfDonors s.objs).any fun g => chanCounts s (g / 8)) ||
    (streamDonors s.objs).any fun c => !sticky s (linkFaultSrc c) && !streamLost s c) &&
  (List.range 96).any fun ch => (dlRole s.objs ch == 2 || ulRole s.objs ch == 2) && chanCounts s ch

/-- The device-scope sources of R27. -/
def serviceSources : List Nat := [268, 269, 270, 271, 273, 274, 276, 277, 278, 279, 284, 292, 295]

/-! ### Changes of power state (R409–R413) -/

/-- The power state changes: its mute, its radio targets and its record; every replay ends (R337), and an
entry to SAFE or SHUTDOWN ends boundary scan (R421). A request (`source` its manager's) is carried out with its row and
takes effect at the next block boundary, whose frame is kept (R410, log 26). -/
def changePower (s : State) (new : Power) (source : Nat := 0) : State :=
  let old := s.life.power
  if old = new then s
  else
    let gone := new == .safe || new == .shutdown
    let s := { s with life := { s.life with power := new, prev := old, entryFrame := if source = 0 then s.clk.frame else s.clk.frame + 1, scan := s.life.scan && !gone } }
    let s := if gone || new == .quiet then addMute s .power .device else dropMute s .power
    let s := stopReplays s fun _ => true
    let s := tallyEvent s 0x0C00 source [powerCode old, powerCode new]
    driveFree s allChannels

/-- SAFE is entered for `cause` (R345, R410, R411): held in BOOT, recorded in SHUTDOWN. -/
def enterSafe (s : State) (cause : Nat) : State :=
  match s.life.power with
  | .boot => { s with life := { s.life with heldSafe := some (s.life.heldSafe.getD cause) } }
  | .hold | .serve | .quiet =>
    changePower { s with life := { s.life with safeCause := cause, shutFrom := none } } .safe
  | .shutdown => { s with life := { s.life with safeCause := cause, shutFrom := some .safe } }
  | _ => s

/-- QUIET is entered by hardware, from SERVE only (Table 17.6). -/
def enterQuiet (s : State) : State := if s.life.power = .serve then changePower s .quiet else s

/-- Is a downlink route's RF donor path lost (R455)? -/
def routeLost (s : State) (r : Nat) : Bool :=
  let e := routeEnd s.objs r
  !routeUp s.objs r && endKind e == 0 && !rodWorks s (endSlot e / 128)

/-- The transmit sides fed by such a route. -/
def lostDonorSides (s : State) : List Nat := ((routesInUse s.objs).filter (routeLost s)).flatMap (slotMembers s.objs)

/-- Routes from a lost RF donor path are muted in SERVE, with another path left (Table 1.8, R28). -/
def muteLostRoutes (s : State) : State :=
  if s.life.power == .serve && !donorsLost s then forEach (lostDonorSides s) s fun s g => addMute s (.donorPath g) (.slot g) else s

/-- At a block boundary those mutes follow the donor paths: they end where the path is back. -/
def donorPathMutes (s : State) : State :=
  let lost := lostDonorSides s
  let back := s.mutes.filterMap fun m => match m.owner with | .donorPath g => if lost.contains g then none else some g | _ => none
  muteLostRoutes (forEach back s fun s g => dropMute s (.donorPath g))

/-- A rod lost: with the last working one SAFE is entered (Table 1.8, R435), else the routes from its donor paths are muted.
`before` is the state the loss came to. -/
def lastRod (before s : State) (cause : Nat) : State :=
  if (List.range 6).any (rodWorks before) && !(List.range 6).any (rodWorks s) then enterSafe s cause else muteLostRoutes s

/-! ### Rods (R391, R393, R434) -/

/-- A rod calibrates no more: it is abandoned (R391). -/
def abandonCal (s : State) (r : Nat) : State :=
  if (getRod s r).cal = 1 then dropMute (modRod s r fun x => { x with cal := 0 }) (.rodCal r) else s

/-- A rod powered down: muted, its channels in SLEEP (R391, R395). -/
def powerDownRod (s : State) (r : Nat) : State :=
  let s := addMute s (.rodShutdown r) (.rod r)
  let s := dropMute (abandonCal s r) (.rodRestart r)
  radioOff (modRod s r fun x => { x with powered := false, restarting := false, rejoin := false }) r

/-- A rod powered up: swaps complete and paths are untrained (Tables 4.4 and 7.4), and it calibrates (R260). -/
def powerUpRod (s : State) (r : Nat) : State :=
  if (getRod s r).powered then s
  else
    let s := modRod s r fun x => { x with powered := true, linkSince := s.time }
    let s := forEach ((rodChannels r).flatMap chanSlots) s completeSwaps
    let s := startRodCal (cancellerRod (restartDwell s r) r false) r
    dropMute s (.rodShutdown r)

/-- Counters of a rod's channels that restart from 0 at a rod restart (R434). -/
def clearRodCounters (s : State) (r : Nat) : State :=
  let s := forEach (rodChannels r) s fun s ch => modChan s ch fun c => { c with
    adcOver := 0, rxSat := 0, txSat := 0, nines := { inject := c.nines.inject },
    canc := { c.canc with updates := 0, reversions := 0, clips := 0, noUpdate := 0, discarded := 0 },
    radio := { c.radio with rejections := 0 }, mis := { c.mis with mutes := 0, skipped := 0 } }
  let s := forEach (List.range 4) s fun s i => modBus s (4 * r + i) fun b => { b with count := 0, late := 0 }
  modRod s r fun x => { x with recals := 0, ninesLog := [] }

/-- The rod die and the Reckoner reset (Table 18.6): the rod die's lines empty and the DC notch estimates clear (R75). -/
def clearRodLines (s : State) (r : Nat) : State :=
  forEach (rodChannels r) s fun s ch => modChan s ch fun c =>
    { c with notchRe := 0, notchIm := 0, rodLine := [], rxLink := [], txLink := [], rodUp1 := [], rodUp2 := [], rxIn := [] }

/-- A rod restart begins (R434, Table 18.6). -/
def restartRod (s : State) (r : Nat) (cause : Nat) : State :=
  if (getRod s r).restarting || !(getRod s r).powered then s
  else
    let before := s
    let s := addMute s (.rodRestart r) (.rod r)
    let s := radioOff (modRod s r fun x => { x with restarting := true, rejoin := false, linkSince := s.time }) r
    let s := requestFlush (requestFlush s 0 r) 1 r
    let s := forEach ((rodChannels r).flatMap chanSlots) s completeSwaps
    let s := clearRodLines (clearRodCounters (cancellerRod s r true) r) r
    let s := forEach ((List.range 8).filter fun i => (getGroup s i).st == 2 && groupRef s.objs i / 128 == r && groupSource s.objs i == 1) s
      fun s i => setGroup (modGroup s i fun g => { g with heldAt := s.time }) i 3
    lastRod before (startRodCal s r) cause

/-- Has a channel come to its target state, or as far as a held or rejected command or its TDD windows let it (R247, R248)? -/
def hasRisen (s : State) (ch : Nat) : Bool :=
  let x := (getChan s ch).radio
  x.trans.isNone && (x.st == radioTarget s ch || (decide (2 ≤ x.st.rank) && (x.held.isSome || x.rejected || reqState s.objs ch == 6)))

/-- Is a restarting rod ready to return (Table 18.6): calibration ended, its PLL and link up, its synthesisers locked at the
committed LOs and its channels at their target states? -/
def rodReady (s : State) (r : Nat) : Bool :=
  let x := getRod s r
  x.cal != 1 && x.linkOk && x.pll && coreRuns s &&
  ((neededLos s.objs r).all fun lo => (synthOf s r lo).any (synthLocked s r)) && (rodChannels r).all (hasRisen s)

/-- ROD_RESTART_COMPLETE (R434): the flushes of its die-to-die queues take effect and the rod has its synchronising
reset; its mute ends at the next block boundary. -/
def execRodRestartComplete (r : Nat) (s : State) : Host.Outcome State Fault Refusal :=
  if !(getRod s r).restarting || !rodReady s r then .next s
  else
    let s := flushPort s [0, 1] r
    .next (resetRod (restartDwell (modRod s r fun x => { x with restarting := false, rejoin := true }) r) r)

/-- The next block boundary: the rod mutes of completed restarts end (Table 18.6). -/
def rejoinRods (s : State) : State :=
  forEach ((List.range 6).filter fun r => (getRod s r).rejoin) s fun s r =>
    dropMute (modRod s r fun x => { x with rejoin := false }) (.rodRestart r)

/-- A rod calibration ends, passed or failed: the channels go to what their target is now, on synthesisers that a restart
had freed (R435, Table 18.6). -/
def afterCal (s : State) (r : Nat) : State := driveFree (assignSynths s r) (rodChannels r)

/-- A rod calibration fails at a step: the rod stays muted (R260). -/
def failCal (s : State) (r step : Nat) : State :=
  lastRod s (afterCal (modRod s r fun x => { x with cal := 3, calStep := step }) r) (197 + 6 * r)

/-- ROD_CALIBRATION_COMPLETE (R260, R274, R279): `failStep` 0 where every step passed, and the values it gives. -/
def execRodCalibrationComplete (r failStep : Nat) (values : List CalValues) (s : State) : Host.Outcome State Fault Refusal :=
  if (getRod s r).cal ≠ 1 ∨ !(getRod s r).powered ∨ !coreRuns s then .next s
  else if failStep ≠ 0 then .next (failCal s r (max 1 (failStep % 16)))
  else if values.any fun v => v.ch / 16 == r && decide (150 < (v.fbForward - smGet 0 s.nv.coupler v.ch).natAbs) then
    .next (failCal s r 8)
  else
    let s := modRod s r fun x => { x with cal := 2, calStep := 0, calPending := false, refTrim := 0 }
    let s := forEach (rodChannels r) s fun s ch => modSent s ch fun x => { x with locked := false, trips := [] }
    let s := forEach (values.filter fun v => v.ch / 16 == r) s fun s v => modChan s v.ch fun c =>
      { c with cal := { c.cal with
          rxGain := clip16 v.rxGain, txGain := clip16 v.txGain, noiseFigure := min 65535 v.noiseFigure, outNoise := clip16 v.outNoise,
          fbForward := clip16 v.fbForward, sentinelFwd := clip16 v.fbForward, fbReflected := clip16 v.fbReflected,
          loLeak := (clip16 v.loLeak.1, clip16 v.loLeak.2), iqTaps := (v.iqTaps.take 8).map (fun t => (clip16 t.1, clip16 t.2)) } }
    let s := forEach (rodChannels r) s fun s ch => modChan s ch fun c =>
      { c with cal := { c.cal with temp := rodTemp s r, frame := s.clk.frame }, radio := { c.radio with trimTemp := some (rodTemp s r) } }
    .next (driveFree (freshSynths (assignSynths (dropMute s (.rodCal r)) r) r) (rodChannels r))

/-! ### Requests (R27, R28, R399, R403, R410, R421) -/

/-- Is a rod calibration of R399 still to pass? -/
def calOwed (s : State) : Bool := (List.range 6).any fun r => (getRod s r).powered && (getRod s r).calPending

/-- Reason a request for state `t` is refused for: 0 none, else the first in the order 5, 4, 3, 1, 2. -/
def refusalReason (s : State) (t : Power) : Nat :=
  let leaves := t != .hold
  if (leaves && s.nv.burned != s.nv.lifecycle) || (t == .serve && s.nv.lifecycle == 3) then 5
  else if leaves && s.life.scan then 4
  else if s.life.power == .safe && calOwed s then 3
  else if t == .serve && !partsPresent s then 1
  else if t == .serve && serviceSources.any (sticky s) then 2
  else 0

/-- A write of 0x1200:01 by manager `m`. -/
def powerRequest (s : State) (m v : Nat) : Nat × State :=
  let t : Power := match v with | 1 => .hold | 2 => .serve | _ => .quiet
  let store (s : State) : State := { s with objs := cfgSet s.objs (key 0x1200 1) v }
  if t = s.life.power then (0, store { s with life := { s.life with refusal := 0 } })
  else match refusalReason s t with
    | 0 => (0, changePower (store { s with life := { s.life with refusal := 0, shutFrom := none } }) t (srcField 11 m))
    | n => (0x05, { s with life := { s.life with refusal := n } })

/-! ### The supervisor stops (R417, R422–R426, R60, R67) -/

/-- The monitor session returns to CLOSED, which ends boundary scan (R417, R421). -/
def closeMonitor (s : State) : State :=
  let s := if s.life.level = 0 then s else tallyEvent s 0x0C03 0 [s.life.level, 0]
  { s with life := { s.life with level := 0, scan := false } }

/-- Staging, the lock, claims and subscriptions are lost; a checked commit still awaits its boundary. -/
def loseStaging (s : State) : State :=
  let c := s.commit
  { s with
    commit := { snapshot := if c.held then c.snapshot else [], held := c.held, st := if c.held then c.st else 0, frame := c.frame, count := c.count },
    windows := (s.windows.map (·.1)).foldl (fun m w => smMod {} m w fun x => { x with claim := none }) s.windows,
    olp := { s.olp with subs := [], busy := none, rxq := [], commitBy := none },
    flt := { s.flt with snap := none },
    govSnap := [] }

/-- Does a trial run? -/
def trialRuns (s : State) : Bool := s.life.trialSt == 1 && s.nv.trial == some s.life.running

/-- The trial ends: the boot slot is to start next (R426). -/
def revertTrial (s : State) : State :=
  let slot := s.life.running
  let s := { s with nv := { s.nv with trial := none }, life := { s.life with trialSt := 2, startSlot := s.nv.bootSlot } }
  tallyEvent s 0x0C05 0 [1, 2, slot]

/-- The supervisor stops for a cause of Table 17.10, and hardware autonomy begins; a trial image that stops
under causes 3–6 is reverted under cause 2. -/
def stopSupervisor (s : State) (cause : Nat) : State :=
  if !s.life.sup then s
  else
    let revert := trialRuns s && decide (3 ≤ cause) && decide (cause ≤ 6)
    let s := { s with life := { s.life with startSlot := s.life.running } }
    let s := if revert then revertTrial s else s
    let why := if revert then 2 else cause
    let s := loseStaging (closeMonitor s)
    let s := { s with life := { s.life with
      sup := false, autonomy := true, autoCause := why, autoSince := s.time, limitPassed := false,
      autoEntries := inc32 s.life.autoEntries, lastCause := why, activateDue := none, restartDue := false } }
    tallyEvent s 0x0C01 0 [0, 1, s.life.running]

end Sys2Proof.Machine
end

