-- ==== Sys2Proof/Machine/Thermal.lean ====
section
/-! DEFINITION. Thermal.lean: sensors, zones, throttling, shut-down and the junction-temperature limit
(ch. 16). Temperatures are in 0.01 °C, reductions in 0.01 dB. -/

namespace Sys2Proof.Machine

/-! ### Demands (R380, R383) -/

/-- The hardware backstop is in charge while hardware autonomy lasts (R383, R423) and it has SUPCLK. -/
def backstop (s : State) : Bool := s.life.autonomy && s.clk.supclk

/-- The time from the last demand to the next, in ms: the value 0x1500:01 had at that demand, since a change takes
effect at the next demand; 20 for the backstop. -/
def demandPeriod (s : State) : Nat := if backstop s then 20 else s.therm.period

/-- Does the thermal manager or its backstop run: out of reset, with SUPCLK? -/
def thermalRuns (s : State) : Bool := s.life.power != .off && s.clk.supclk

/-- THERMAL_DEMAND. -/
def execThermalDemand (s : State) : Host.Outcome State Fault Refusal :=
  if !thermalRuns s || s.therm.demanded || !elapsedMs s s.therm.lastDemand (demandPeriod s) then .next s
  else .next (emit { s with therm := { s.therm with demanded := true, lastDemand := s.time, period := cfgNat s.objs 0x1500 1 } } .thermalDemand)

/-! ### Sensors (R379, R381) -/

/-- Sensors of a zone. -/
def zoneSensors (z : Nat) : List Nat := if z = 0 then List.range 16 else (List.range 4).map fun i => 12 + 4 * z + i

/-- Zone of a sensor. -/
def sensorZone (n : Nat) : Nat := if n < 16 then 0 else (n - 12) / 4

def getSensor (s : State) (n : Nat) : Sensor := smGet {} s.therm.sensors n
def modSensor (s : State) (n : Nat) (f : Sensor → Sensor) : State :=
  { s with therm := { s.therm with sensors := smMod {} s.therm.sensors n f } }

/-- Is a result within −50.00 to 175.00 °C? -/
def sensorInRange (v : Int) : Bool := decide (-5000 ≤ v) && decide (v ≤ 17500)

/-- Twice the median of a list in rising order. -/
def median2 (xs : List Int) : Int := xs.getD (xs.length / 2) 0 + xs.getD ((xs.length - 1) / 2) 0

/-- Does a result differ by more than 20.00 °C from the median of the other in-range sensors of its zone, of
which there are at least two? -/
def medianFails (get : Nat → Int) (n : Nat) : Bool :=
  let others := (((zoneSensors (sensorZone n)).filter (· != n)).map get).filter sensorInRange
  decide (2 ≤ others.length) && decide (4000 < (2 * get n - median2 (sortBy (fun a b => decide (a ≤ b)) others)).natAbs)

/-- One result taken: stored, tested, and the flag set or, after ten good readings in a row, cleared. -/
def takeResult (get : Nat → Int) (s : State) (n : Nat) : State :=
  let rangeBad := !sensorInRange (get n)
  let medianBad := medianFails get n
  let bad := rangeBad || medianBad
  let x := getSensor s n
  let run := if bad || !x.flagged then 0 else x.okRun + 1
  let flagged := bad || (x.flagged && decide (run < 10))
  let s := modSensor s n fun _ => { value := clip16 (get n), flagged, rangeBad, medianBad, okRun := if flagged then run else 0 }
  if flagged = x.flagged then s else tallyEvent s 0x0B03 (srcField 10 (sensorZone n)) [0, argI (get n), n]

/-! ### Zones -/

/-- Thresholds and hystereses of a zone: 0 warning, 1 throttle, 2 shut-down. -/
def threshold (cfg : SMap Nat) (z k : Nat) : Int := cfgVal cfg (0x1501 + z) (3 + 2 * k)
def hysteresis (cfg : SMap Nat) (z k : Nat) : Int := cfgVal cfg (0x1501 + z) (4 + 2 * k)

/-- Release level of a zone (R394). -/
def releaseLevel (cfg : SMap Nat) (z : Nat) : Int := threshold cfg z 2 - hysteresis cfg z 2

/-- A threshold's record. -/
def zoneRecord (s : State) (code z k : Nat) : State :=
  tallyEvent s code (srcField 10 z) [argI (threshold s.objs z k), argI (getZone s z).temp, (getZone s z).hottest]

/-- Consecutive readings counted toward entry and toward exit. -/
def countRuns (s : State) (z k : Nat) (v : Int) : State :=
  let thr := threshold s.objs z k
  modZone s z fun x =>
    { x with inRun := x.inRun.set k (if thr ≤ v then min 3 (x.inRun.getD k 0 + 1) else 0),
             outRun := x.outRun.set k (if v ≤ thr - hysteresis s.objs z k then min 3 (x.outRun.getD k 0 + 1) else 0) }

/-- The warning or throttling state judged at a reading (R384). -/
def judgeState (s : State) (z k : Nat) (v : Int) : State :=
  let s := countRuns s z k v
  let x := getZone s z
  let cur := if k = 0 then x.warn else x.throttle
  let new := if cur then decide (x.outRun.getD k 0 < 3) else decide (x.inRun.getD k 0 = 3)
  if new = cur then s
  else zoneRecord (modZone s z fun x => if k = 0 then { x with warn := new } else { x with throttle := new }) 0x0B00 z k

/-- The device enters SHUTDOWN (R392, R411). -/
def enterShutdown (s : State) : State :=
  match s.life.power with
  | .off | .shutdown => s
  | p =>
    let back : Power := match p, s.life.heldSafe with | .boot, some _ => .safe | .boot, none => .hold | _, _ => p
    let s := { s with life := { s.life with
      shutFrom := some back, safeCause := if p == .boot then s.life.heldSafe.getD s.life.safeCause else s.life.safeCause, heldSafe := none } }
    let s := if s.cap.st = 1 then captureHalt s 0 else s
    forEach (List.range 6) (changePower s .shutdown) powerDownRod

/-- A zone in shut-down: the action of R391 or R392, and the record of R393. -/
def shutZone (s : State) (z : Nat) : State :=
  let before := s
  let s := modZone s z fun x => { x with shut := true, down := true, leftAt := none, shutdowns := inc32 x.shutdowns }
  if z = 0 then enterShutdown s else lastRod before (powerDownRod s (z - 1)) (284 + z)

/-- The shut-down threshold judged at a reading: entry, or the time at which R384 lets the zone leave. -/
def judgeShut (s : State) (z : Nat) (v : Int) : State :=
  let s := countRuns s z 2 v
  let x := getZone s z
  if !x.shut then
    if x.inRun.getD 2 0 = 3 then zoneRecord (shutZone (zoneRecord s 0x0B00 z 2) z) 0x0B01 z 2 else s
  else if x.leftAt.isNone && decide (x.outRun.getD 2 0 = 3) then
    zoneRecord (modZone s z fun x => { x with leftAt := some s.time }) 0x0B00 z 2
  else if x.leftAt.isSome && decide (x.inRun.getD 2 0 = 3) then
    zoneRecord (modZone s z fun x => { x with leftAt := none }) 0x0B00 z 2
  else s

/-- k × a span above a level, rounded up to 0.01 dB, at most 12.00 dB (R386). -/
def slopeReduction (cfg : SMap Nat) (x : Int) : Nat := min 1200 ((cfgNat cfg 0x1500 2 * x.toNat + 99) / 100)

/-- Frame-die stage of x = T − T_throttle (Table 16.2). -/
def stageOf (x : Int) : Nat := if x < 200 then 1 else if x < 400 then 2 else 3

/-- Reduction and stage of a zone at temperature `t` (R386, R387). -/
def setReduction (s : State) (z : Nat) (t : Int) : State :=
  let on := (getZone s z).throttle
  let x := t - threshold s.objs z 1
  if z = 0 then
    let st := if on then stageOf x else 0
    modZone { s with therm := { s.therm with stage := st } } 0 fun y => { y with red := if st = 3 then slopeReduction s.objs (x - 400) else 0 }
  else modZone s z fun y => { y with red := if on then slopeReduction s.objs x else 0 }

/-- The hottest sensor of a throttling zone flagged by this reading: a freeze begins, and the sensor counts for the
loss margin while it stays flagged (R389). -/
def noteLost (wasFlagged : Nat → Bool) (s : State) (z : Nat) : State :=
  let x := getZone s z
  let gone := x.throttle && x.hottest != 0xFF && (getSensor s x.hottest).flagged && !wasFlagged x.hottest
  modZone s z fun x => { x with
    frozen := if gone then some s.time else x.frozen,
    lost := (if gone then insertNat x.hottest x.lost else x.lost).filter fun n => (getSensor s n).flagged }

/-- No valid sensor in the reading: states held, full reduction, stage C (R390); what a freeze holds is kept. -/
def noSensor (s : State) (z : Nat) : State :=
  let stage := s.therm.stage
  let s := modZone s z fun x => { x with
    kept := if x.noValid then x.kept else x.frozen.map fun _ => (x.red, stage)
    noValid := true, valid := 0, temp := -32768, hottest := 0xFF, red := 1200 }
  if z = 0 then { s with therm := { s.therm with stage := 3 } } else s

/-- In a freeze the reduction it holds stands, again after a reading with no valid sensor (R389). -/
def holdReduction (s : State) (z : Nat) : State :=
  match (getZone s z).kept with
  | none => s
  | some (red, stage) =>
    let s := if z = 0 then { s with therm := { s.therm with stage } } else s
    modZone s z fun x => { x with red, kept := none }

/-- One reading of a zone with a valid sensor (R382, R384, R389). -/
def readZone (s : State) (z : Nat) (top : Int) (hot valid : Nat) : State :=
  let x := getZone s z
  let t := if x.frozen.isSome || x.lost.isEmpty then top else top + 500
  let s := modZone s z fun x => { x with noValid := false, valid, temp := t, hottest := hot }
  if x.frozen.isSome then judgeShut (holdReduction s z) z (top + 500)
  else judgeShut (setReduction (judgeState (judgeState (modZone s z fun x => { x with kept := none }) z 0 t) z 1 t) z t) z t

/-- One zone after its sensors: the highest valid result, from its lowest-numbered sensor. -/
def evalZone (wasFlagged : Nat → Bool) (s : State) (z : Nat) : State :=
  let s := noteLost wasFlagged s z
  match (zoneSensors z).filter fun n => !(getSensor s n).flagged with
  | [] => noSensor s z
  | n :: ns =>
    let hot := ns.foldl (fun b m => if (getSensor s m).value > (getSensor s b).value then m else b) n
    readZone s z (getSensor s hot).value hot (ns.length + 1)

/-! ### SUPCLK compensation (R398) -/

/-- A REAL32 value times 2^149; none where it is not finite. -/
def real32 (w : Nat) : Option Int :=
  let e := bits w 30 23
  let m := bits w 22 0
  if e = 255 then none
  else
    let v : Int := ((if e = 0 then m else (m + 2 ^ 23) * 2 ^ (e - 1) : Nat) : Int)
    some (if bit w 31 then -v else v)

/-- c in 0.001 ppm for a temperature in 0.01 °C; none where a coefficient is not finite. -/
def compensation (cfg : SMap Nat) (t : Int) : Option Int :=
  match real32 (cfgNat cfg 0x1401 1), real32 (cfgNat cfg 0x1401 2), real32 (cfgNat cfg 0x1401 3),
        real32 (cfgNat cfg 0x1401 4), real32 (cfgNat cfg 0x1401 5) with
  | some c0, some c1, some c2, some c3, some t0 =>
    let q : Nat := 100 * 2 ^ 149
    let d := t * 2 ^ 149 - 100 * t0
    some (roundDiv ((((c3 * d + c2 * q) * d + c1 * (q * q)) * d + c0 * (q * q * q)) * 1000) (2 ^ 149 * q * q * q))
  | _, _, _, _, _ => none

/-- The correction set from a reading of sensor 0, limited to ±100 ppm; a coefficient that is not finite
leaves it open (log 25). -/
def compensate (s : State) : State :=
  if (getSensor s 0).flagged then s
  else
    let r : Int × Bool × State := match compensation s.objs (getSensor s 0).value with
      | some c => (max (-100000) (min 100000 c), decide (100000 < c.natAbs), s)
      | none => let d := drawNat s; let b := drawBool d.2; ((d.1 % 200001 : Nat) - 100000, b.1, b.2)
    let s := if r.1 = -r.2.2.clk.corr then r.2.2 else foldWall r.2.2
    { s with clk := { s.clk with corr := -r.1, limited := r.2.1 } }

/-! ### Readings -/

/-- Is a rod to be powered up now that its zone reads at or below its release level (R394, R430)? -/
def rodMayStart (s : State) (r : Nat) : Bool :=
  let z := getZone s (r + 1)
  !(getRod s r).powered && !z.shut && !z.tripped && decide (z.temp ≤ releaseLevel s.objs (r + 1)) &&
  (match s.life.power with | .off => false | .shutdown => false | .boot => s.life.booting && s.life.sup | _ => true)

/-- THERMAL_READING (R380–R392, R394, R396, R398): the results of a demand. -/
def execThermalReading (results : List Int) (s : State) : Host.Outcome State Fault Refusal :=
  if !thermalRuns s || !s.therm.demanded then .next s
  else
    let s := { s with therm := { s.therm with demanded := false } }
    let was := fun n => (getSensor s n).flagged
    let s := forEach (List.range 40) s (takeResult fun n => results.getD n (-32768))
    let s := forEach (List.range 7) s (evalZone was)
    let s := fitSources (compensate s)
    let s := forEach ((List.range 6).filter fun r => (getRod s r).powered && tempKnown s r) s fun s r => retrimRod (dueSynths (trimRefs s r) r) r
    .next (forEach (List.range 6) s fun s r => if rodMayStart s r then powerUpRod s r else s)

/-- THROTTLE_FREEZE_END (R389): the loss margin applies from the next reading. -/
def execThrottleFreezeEnd (z : Nat) (s : State) : Host.Outcome State Fault Refusal :=
  match (getZone s z).frozen with
  | some t => if thermalRuns s && elapsedMs s t 10000 then .next (modZone s z fun x => { x with frozen := none }) else .next s
  | none => .next s

/-! ### Leaving shut-down (R393) -/

/-- The gates of the junction-temperature limit: closed from a trip until its zone has left shut-down and
the comparator has reset (R395). -/
def setThermGates (s : State) : State :=
  let hold (z : Nat) : Bool := (getZone s z).latched || (getZone s z).tripped
  let before := s
  let s := forEach allChannels s fun s ch =>
    let c := hold 0 || hold (ch / 16 + 1)
    if (getChan s ch).sent.thermClosed = c then s else modSent s ch fun x => { x with thermClosed := c }
  txenDrops before s

/-- A zone leaves shut-down: its rod is powered up and calibrated; the device passes to HOLD and powers its
rods up. -/
def leaveZone (s : State) (z : Nat) : State :=
  let s := zoneRecord s 0x0B02 z 2
  let s := modZone s z fun x => { x with shut := false, down := false, latched := false, leftAt := none }
  let s := setThermGates s
  if z = 0 then
    let s := if s.life.power = .shutdown then changePower s .hold else s
    forEach (List.range 6) s fun s r => if (getZone s (r + 1)).shut || (getZone s (r + 1)).tripped then s else powerUpRod s r
  else if s.life.power = .shutdown then s
  else powerUpRod s (z - 1)

/-- A write of 0x1500:07. -/
def leaveWrite (s : State) (v : Nat) : Nat × State :=
  let zs := (List.range 7).filter (bit v)
  if zs.all fun z => (getZone s z).shut && !(getZone s z).noValid && decide ((getZone s z).temp ≤ releaseLevel s.objs z)
  then (0, forEach zs s leaveZone) else (0x05, s)

/-- Automatic exits of the last 24 h of operating time (0x1500:08). -/
def recentExits (s : State) : List Nat := s.therm.exits.filter fun t => decide (opMs s < t + 86400000)

/-- AUTOMATIC_RESUME (R393). -/
def execAutomaticResume (z : Nat) (s : State) : Host.Outcome State Fault Refusal :=
  match (getZone s z).leftAt with
  | some t =>
    if thermalRuns s && cfgBool s.objs 0x1500 3 && (getZone s z).shut && elapsedMs s t (1000 * cfgNat s.objs 0x1500 4) &&
        decide ((recentExits s).length < 3) then
      let s := { s with therm := { s.therm with exits := opMs s :: recentExits s } }
      .next (leaveZone s z)
    else .next s
  | none => .next s

/-! ### The junction-temperature limit (R395) -/

/-- JUNCTION_COMPARATOR_TRIP: gates close, rod dies are powered down, the zone is in shut-down. With the frame die
in reset the comparator trips alone (R431). -/
def execJunctionComparatorTrip (z : Nat) (s : State) : Host.Outcome State Fault Refusal :=
  if 7 ≤ z ∨ (getZone s z).tripped then .next s
  else if s.life.power = .off then .next (modZone s z fun x => { x with tripped := true })
  else
    let s := setThermGates (modZone s z fun x => { x with tripped := true, latched := true })
    let s := if (getZone s z).shut then modZone s z fun x => { x with leftAt := none } else shutZone s z
    if s.clk.supclk then .next (zoneRecord s 0x0B01 z 2)
    else .next (modZone s z fun x => { x with unrecorded := some s.clk.frame })

/-- JUNCTION_COMPARATOR_RESET. -/
def execJunctionComparatorReset (z : Nat) (s : State) : Host.Outcome State Fault Refusal :=
  if (getZone s z).tripped then .next (setThermGates (modZone s z fun x => { x with tripped := false })) else .next s

end Sys2Proof.Machine
end

