-- ==== Sys2Proof/Machine/Lines.lean ====
section
/-! DEFINITION. Lines.lean: the 320 raw lines of the fault collector (R341, Tables 14.1–14.4) and the three
views of the Fault Status Word (R349). -/

namespace Sys2Proof.Machine

/-- Is an event line active: 1 ms after its last occurrence (Table 14.1, kind E)? -/
def eventActive (s : State) (n : Nat) : Bool := decide (s.time < smGet 0 s.flt.evt n)

/-- A level that arrives from outside (COLLECTOR_CYCLE). -/
def outsideLine (s : State) (n : Nat) : Bool := smGet false s.flt.lines n

/-- REFCLK against the compensated SUPCLK, in 0.001 ppm (R397, 0x1400:03): what was measured against the crystal less the
correction in use, as INTEGER32 holds it. -/
def refclkOffset (s : State) : Int := max (-2147483648) (min 2147483647 (s.clk.refRaw - s.clk.corr))

/-- Level of a channel's front-end source: a synthesiser it uses is unlocked, or Muted mismatch. -/
def frontEndLevel (s : State) (ch : Nat) : Bool :=
  let x := getChan s ch
  let bad (o : Option Nat) : Bool := match o with | some n => (getSynth s (ch / 16) n).st == 6 | none => false
  bad x.radio.rxSynth || bad x.radio.txSynth || x.mis.st == 2

/-- Is a network-protection mute of R233 in force on a channel of a rod? -/
def protectionLevel (s : State) (r : Nat) : Bool :=
  s.mutes.any fun m => match m.owner with
    | .donorLoss g | .identity g | .noiseRise g => g / 128 == r
    | .tdd _ => (rodChannels r).any m.scope.coversChan
    | _ => false

/-- Level of a rod-die source. -/
def rodDieLevel (s : State) (r : Nat) : Bool :=
  let x := getRod s r
  (x.powered && (!x.linkOk || !x.lanesOk || !x.pll)) || x.calStep != 0

/-- Level part of a rod source 192 + 6r + j. -/
def rodLevel (s : State) (r : Nat) : Nat → Bool
  | 1 => ninesPersistent s r
  | 3 => protectionLevel s r
  | 4 => (getRod s r).finder == 2 || (getRod s r).finder == 3
  | 5 => rodDieLevel s r
  | _ => false

/-- Level part of sources 260–299. -/
def deviceLevel (s : State) (n : Nat) : Bool :=
  match n with
  | 271 => s.life.limitPassed
  | 276 => !s.clk.refclk || s.flt.latch276
  | 277 => s.flt.latch277
  | 278 => !s.clk.supclk
  | 279 => decide (50000 < (refclkOffset s).natAbs)
  | 280 => !s.clk.ddr || !s.clk.supclk
  | 281 => !s.clk.mgmt || !s.clk.supclk
  | 282 => !s.clk.link || !s.clk.supclk
  | 283 => s.clk.limited
  | 291 => (List.range 40).any (fun i => (getSensor s i).flagged) || backstop s
  | 295 => s.sent.failed
  | n => if n < 264 then s.cap.ddrFailed.contains (n - 260)
         else if 284 ≤ n ∧ n ≤ 290 then (getZone s (n - 284)).shut || (getZone s (n - 284)).noValid
         else if n = 273 ∨ n = 274 ∨ n = 275 then outsideLine s n
         else false

/-- The raw line of a source (R341); the lines of reserved sources are tied inactive (R342). -/
def rawLine (s : State) (n : Nat) : Bool :=
  if reservedSrc n then false
  else eventActive s n ||
    (if n < 192 then n % 2 == 0 && frontEndLevel s (n / 2)
     else if n < 228 then rodLevel s ((n - 192) / 6) ((n - 192) % 6)
     else if n < 244 then dnFault s (n - 228)
     else if n < 260 then xlFault s (n - 244)
     else deviceLevel s n)

/-- A 320-bit view of a predicate on sources. -/
def viewOf (p : Nat → Bool) : BitVec 320 :=
  (List.range 320).foldl (fun v n => if p n then v ||| (1#320 <<< n) else v) 0

/-- The raw view. -/
def rawView (s : State) : BitVec 320 := viewOf (rawLine s)

/-- While the core clock is absent, sources 276 and 277 show from their latches and the collector's other bits
as they stood at the loss (R357). -/
def stickyView (s : State) : BitVec 320 :=
  if coreClock s then s.flt.sticky
  else s.flt.sticky ||| (if s.flt.latch276 then 1#320 <<< 276 else 0) ||| (if s.flt.latch277 then 1#320 <<< 277 else 0)

/-- The raw view as it is shown: without the core clock the lines stand as at its loss, but for those two (R357). -/
def rawShown (s : State) : BitVec 320 :=
  if coreClock s then rawView s
  else (s.flt.held &&& ~~~(3#320 <<< 276)) ||| (if s.flt.latch276 then 1#320 <<< 276 else 0) ||| (if s.flt.latch277 then 1#320 <<< 277 else 0)

/-- The collector's lines at the loss of the core clock are kept (R357). -/
def holdLines (s : State) : State := if coreClock s then { s with flt := { s.flt with held := rawView s } } else s

/-- Bit n of a view. -/
def viewBit (v : BitVec 320) (n : Nat) : Bool := v.getLsbD n

/-- 32-bit word w of a view: bit b stands for source 32w + b. -/
def viewWord (v : BitVec 320) (w : Nat) : Nat := (v >>> (32 * w)).toNat % 2 ^ 32

/-- A mask written as 40 bytes: byte 4w + i holds bits [31 − 8i : 24 − 8i] of word w (R356). -/
def maskOfNat (v : Nat) : BitVec 320 :=
  (List.range 10).foldl (fun m w => m ||| (BitVec.ofNat 320 (bits v (319 - 32 * w) (288 - 32 * w)) <<< (32 * w))) 0

/-- A view as the number its 40 bytes spell. -/
def natOfMask (m : BitVec 320) : Nat := (List.range 10).foldl (fun a w => a * 2 ^ 32 + viewWord m w) 0

/-- Severity of a source, 1–4. -/
def sevOf (n : Nat) : Nat := (srcRow n).sev

/-- The reaction chosen for a source (Table 14.9). -/
def reactionOf (s : State) (n : Nat) : Nat := cfgNat s.objs (0x1610 + n / 16) (n % 16 + 1)

/-- Does a view hold an S3 or S4 bit? -/
def serious (v : BitVec 320) : Bool := (List.range 300).any fun n => v.getLsbD n && decide (3 ≤ sevOf n)

/-- Highest severity among a view's bits. -/
def highestSev (v : BitVec 320) : Nat := (List.range 300).foldl (fun m n => if v.getLsbD n then max m (sevOf n) else m) 0

end Sys2Proof.Machine
end

