-- ==== Sys2Proof/Machine/Restart.lean ====
section
/-! DEFINITION. Restart.lean: blocks restarted in service, by a write to 0x1240:01 or by fault reaction 6
(R433–R435, Tables 18.5 and 18.7). A block is named by its kind of Table 18.5 and its number; kind 7 is the
supervisor and kind 8 the link transmit PLLs with every port and lane (Table 14.5). -/

namespace Sys2Proof.Machine

/-- Is a block restarting? -/
def blockRestarting (s : State) : Nat → Nat → Bool
  | 1, n => (getRod s n).restarting
  | 2, n => (getDn s n).restarting
  | 3, n => (getXl s n).restarting
  | 4, _ => s.cap.restarting
  | 5, _ => s.tally.restarting
  | 6, n => (getRod s n).finder == 2
  | 7, _ => s.life.power != .off && !s.life.sup
  | 8, _ => s.links.pllRestart
  | _, _ => false

/-- Is there such a block (Table 18.5)? -/
def blockExists (kind n : Nat) : Bool :=
  match kind with
  | 1 | 6 => decide (n < 6)
  | 2 | 3 => decide (n < 16)
  | 4 | 5 => n == 0
  | _ => false

/-- The capture controller restarts (R337, R339): replays stop, and the store is unavailable. -/
def restartCapture (s : State) : State :=
  let s := captureHalt (stopReplays s fun _ => true) 3
  let s := unuseMarks s
  { s with cap := { s.cap with restarting := true, ready := [] } }

/-- Every port and lane that is not off restarts (Table 14.5, source 282). -/
def restartLinks (s : State) : State :=
  let s := forEach ((List.range 16).filter fun l => dnMode s.objs l != 0 && !(getDn s l).restarting) s restartDn
  let s := forEach ((List.range 16).filter fun l => xlMode s.objs l != 0 && !(getXl s l).restarting) s restartXl
  endPllRestart { s with links := { s.links with pllRestart := true } }

/-- A block's restart begins; `cause` is the fault source that asked for it, 0xFFFF a manager. -/
def restartBlock (s : State) (kind n cause : Nat) : State :=
  let s := { s with life := { s.life with restarts := inc32 s.life.restarts } }
  match kind with
  | 1 => restartRod s n cause
  | 2 => restartDn s n
  | 3 => restartXl s n
  | 4 => restartCapture s
  | 5 => { s with tally := { s.tally with restarting := true } }
  | 6 => finderLost s n 2
  | 8 => restartLinks s
  | _ => s

/-- A write to 0x1240:01. A rod that is powered down has nothing to restart (log 28). -/
def blockRestartWrite (s : State) (v : Nat) : Nat × State :=
  let kind := v / 256
  let n := v % 256
  if !blockExists kind n then (0x05, s)
  else if blockRestarting s kind n then (0x0C, s)
  else if kind = 1 ∧ !(getRod s n).powered then (0, s)
  else (0, restartBlock s kind n 0xFFFF)

/-- BLOCK_RESTART_COMPLETE (Table 18.7): kinds 2–6. -/
def execBlockRestartComplete (kind num : Nat) (s : State) : Host.Outcome State Fault Refusal :=
  if s.life.power = .off ∨ !blockExists kind num ∨ !blockRestarting s kind num then .next s
  else match kind with
  | 2 => .next (portRestarted s num)
  | 3 => .next (portRestarted s (num + 16))
  | 4 => .next (formRing { s with cap := { s.cap with restarting := false } })
  | 5 => .next { s with tally := { s.tally with restarting := false, scan := 0 } }
  | 6 => .next (endFallback (modRod s num fun x =>
      { x with finder := b2n (!(rodSides s.objs num).isEmpty), visited := [], dwellAt := s.time, dwellUsable := false }) num)
  | _ => .next s

/-- Fault source's block (Table 14.5, reaction 6). -/
def blockOf (n : Nat) : Option (Nat × Nat) :=
  if n < 192 then none
  else if n < 228 then some (if (n - 192) % 6 = 4 then 6 else 1, (n - 192) / 6)
  else if n < 244 then some (2, n - 228)
  else if n < 260 then some (3, n - 244)
  else if n ≤ 267 ∨ n = 280 then some (4, 0)
  else if n ≤ 270 then some (7, 0)
  else if n = 282 then some (8, 0)
  else if 296 ≤ n ∧ n ≤ 299 then some (5, 0)
  else none

/-- The restart that reaction 6 of a source asks for (R346, R435): at most three of one block within 600 s; a
further one is withheld, and one for a block that is restarting only counts. -/
def reactionRestart (s : State) (n : Nat) : State :=
  match blockOf n with
  | none => s
  | some (kind, num) =>
    let code := kind * 256 + num
    let recent := (smGet [] s.flt.restarts code).filter fun t => decide (s.time < t + 600000 * msUnits)
    if 3 ≤ recent.length then
      let s := { s with flt := { s.flt with withheld := smSet 0 s.flt.withheld n (600000 * msUnits + recent.foldl min s.time) } }
      let s := if kind = 7 then { s with life := { s.life with held := true } } else s
      tallyEvent s 0x0104 (srcField 1 n) [recent.length]
    else
      let s := { s with flt := { s.flt with restarts := smSet [] s.flt.restarts code (s.time :: recent) } }
      if blockRestarting s kind num || (kind == 1 && !(getRod s num).powered) then s
      else
        let s := tallyEvent s 0x0103 (srcField 1 n) [recent.length + 1]
        if kind = 7 then s else restartBlock s kind num n

/-- RESTART_WITHHELD_EXPIRY (R346): 600 s have passed since the first of the three restarts. -/
def execRestartWithheldExpiry (src : Nat) (s : State) : Host.Outcome State Fault Refusal :=
  let t := smGet 0 s.flt.withheld src
  if t = 0 ∨ s.time < t then .next s
  else .next { s with flt := { s.flt with withheld := smSet 0 s.flt.withheld src 0 } }

end Sys2Proof.Machine
end

