-- ==== Sys2Proof/Machine/Collector.lean ====
section
/-! DEFINITION. Collector.lean: the fault collector's cycle, reactions, episodes, FAULT_N and clears (ch. 14). -/

namespace Sys2Proof.Machine

/-! ### FAULT_N (R355) -/

/-- FAULT_N is pulled low for an episode pulse. -/
def faultPulse (s : State) : State := { s with flt := { s.flt with pulse := true, pulseAt := s.time } }

/-- FAULT_N at the ball: true high. In reset nothing pulls it (Table 19.10). -/
def faultN (s : State) : Bool := !s.flt.pulse && cfgNat s.objs 0x1600 0xA == 0 && !s.life.noImage

/-- FAULT_N_PULSE_END: the pulse lasts 10.0 µs at least. -/
def execFaultNPulseEnd (s : State) : Host.Outcome State Fault Refusal :=
  if s.flt.pulse && decide (s.flt.pulseAt + 10 * usUnits ≤ s.time) then .next { s with flt := { s.flt with pulse := false } }
  else .next s

/-! ### Episodes (R351–R354) -/

/-- An occurrence of an episode's record; while SUPCLK is absent those of the latest episode are held (R453). -/
def episodeOcc (s : State) (o : Occ) : State :=
  if s.clk.supclk then tallyOcc s o
  else
    let kept := if o.code = 0x0100 then [] else s.tally.gapEpisode
    { s with tally := { s.tally with gapEpisode := kept ++ (if o.code = 0x0101 ∧ kept.isEmpty then [] else [o]) } }

/-- The lead of a set of sources: the lowest-numbered of the highest severity (R352). -/
def leadOf (v : BitVec 320) : Nat := ((List.range 300).find? fun n => v.getLsbD n && sevOf n == highestSev v).getD 0xFFFF

/-- An episode opens with the settings `new` of this cycle (R351, R352). -/
def openEpisode (s : State) (new : BitVec 320) : State :=
  let lead := leadOf new
  let number := (s.flt.number + 1) % 2 ^ 32
  let s := faultPulse { s with flt := { s.flt with
    isOpen := true, number, lead, leadSev := sevOf lead, openFrame := s.clk.frame, merged := 0, highest := highestSev s.flt.sticky } }
  let s := episodeOcc s { code := 0x0100, source := srcField 1 lead, args := [number, sevOf lead], frame := s.clk.frame,
                          snap := (List.range 10).map (viewWord s.flt.sticky) }
  fireMarks s 2 fun _ => true

/-- The episode closes (R354). -/
def closeEpisode (s : State) : State :=
  let s := { s with flt := { s.flt with isOpen := false, closeFrame := s.clk.frame } }
  episodeOcc s { code := 0x0101, source := srcField 1 s.flt.lead, args := [s.flt.number, s.flt.merged, s.flt.highest], frame := s.clk.frame }

/-- Episode opening and closing in a cycle whose new settings are `new`. -/
def evalEpisode (s : State) (new : BitVec 320) : State :=
  let s := if s.flt.isOpen then
      let n := ((List.range 300).filter new.getLsbD).length
      { s with flt := { s.flt with merged := sat32 (s.flt.merged + n), highest := max s.flt.highest (highestSev s.flt.sticky) } }
    else if serious new then openEpisode s new else s
  if s.flt.isOpen && !serious s.flt.sticky then closeEpisode s else s

/-! ### Reactions (R344, R345) -/

/-- The mutes of reactions 2 and 3 at the targets that a source's events name. -/
def namedMutes (s : State) (n : Nat) (mk : Nat → Scope) : State :=
  forEach (smGet [] s.flt.named n) s fun s x => addMute s (.fault n) (mk x)

/-- The action of a reaction code for source `n`; code 2 of 194 + 6r and 195 + 6r is their own rules' mute. -/
def reactionAct (s : State) (n code : Nat) : State :=
  match code with
  | 2 => if n = 266 then namedMutes s n .slot else s
  | 3 => if n < 192 then addMute s (.fault n) (.chan (n / 2)) else namedMutes s n .chan
  | 4 => addMute s (.fault n) (.rod ((n - 192) / 6))
  | 5 =>
    let s := addMute s (.fault n) .device
    if (srcRow n).fixed && sevOf n == 4 then enterSafe s n else s
  | 6 => reactionRestart s n
  | _ => s

/-- A sticky bit has changed from 0 to 1 (R345): its record, and its reaction. -/
def react (merged : Bool) (s : State) (n : Nat) : State :=
  let code := reactionOf s n
  let s := if code = 0 then s
    else tallyOcc s { code := 0x0102, source := srcField 1 n, args := [sevOf n, code, b2n merged], frame := s.clk.frame, force := sevOf n == 4 }
  let before := s
  let s := reactionAct s n code
  if 192 ≤ n ∧ n < 228 ∧ code = 4 then lastRod before s n else s

/-- A channel or target named by a further event while the bit is set joins the acting mute (Table 14.5). -/
def extendNamed (s : State) : State :=
  forEach (s.flt.named.map (·.1)) s fun s n =>
    if s.mutes.any fun m => m.owner == .fault n && (match m.scope with | .chan _ => true | .slot _ => true | _ => false)
    then namedMutes s n (if n = 266 then .slot else .chan) else s

/-- A sticky bit has been cleared: its mute reaction ends (R356). -/
def releaseSource (s : State) (n : Nat) : State :=
  let s := dropMute s (.fault n)
  let s := if n < 192 ∧ n % 2 = 0 then dropMute s (.fbSwitch (n / 2)) else s
  { s with flt := { s.flt with named := smSet [] s.flt.named n [] } }

/-! ### The cycle (R348, R354, R356, R358) -/

/-- One collector cycle with a clear mask: bits set from the raw lines, the clear applied, episodes evaluated,
reactions of the bits that set. -/
def collect (s : State) (mask : BitVec 320) : State :=
  let raw := rawView s
  let new := raw &&& ~~~s.flt.sticky
  let set := s.flt.sticky ||| raw
  let refused := mask &&& set &&& raw
  let cleared := mask &&& set &&& ~~~raw
  let merged := s.flt.isOpen
  let s := { s with flt := { s.flt with sticky := set &&& ~~~cleared, refused := if mask = 0 then s.flt.refused else refused } }
  let s := forEach ((List.range 300).filter cleared.getLsbD) s releaseSource
  let s := evalEpisode s new
  let s := forEach ((List.range 300).filter new.getLsbD) s (react merged)
  extendNamed s

/-- Sources whose level arrives at the collector and nowhere else: the PLLs, self-checks and management links
of Table 14.3, and the rod PLLs of Table 14.1. -/
def outsideSources : List Nat := [273, 275, 280, 281, 282]

/-- One outside level taken. -/
def takeLevel (s : State) (e : Nat × Bool) : State :=
  if 192 ≤ e.1 ∧ e.1 < 228 ∧ (e.1 - 192) % 6 = 5 then modRod s ((e.1 - 192) / 6) fun x => { x with pll := !e.2 }
  else if !outsideSources.contains e.1 then s
  else match e.1 with
  | 280 => { s with clk := { s.clk with ddr := !e.2 } }
  | 281 => { s with clk := { s.clk with mgmt := !e.2 } }
  | 282 => { s with clk := { s.clk with link := !e.2 } }
  | n => setLine s n e.2

/-- The independent checker (R358): three disagreements in a row set source 274, force every mute term low and
enter SAFE; its line is active as long as the checker disagrees (Table 14.3). -/
def checker (s : State) (disagree : Bool) : State :=
  let n := if disagree then s.flt.disagree + 1 else 0
  let s := { s with flt := { s.flt with disagree := min n 3 } }
  if n < 3 then (if outsideLine s 274 then setLine s 274 false else s)
  else
    let before := s
    let s := forEach (s.chans.map (·.1)) (setLine s 274 true) fun s ch => modChan s ch fun c => { c with muteTerm := false, outClear := false }
    enterSafe (txenDrops before s) 274

/-- COLLECTOR_CYCLE. -/
def execCollectorCycle (inp : CollectorInput) (s : State) : Host.Outcome State Fault Refusal :=
  if !coreClock s then .next s
  else
    let s := { s with clk := { s.clk with refRaw := inp.refOffset.getD s.clk.refRaw } }
    let s := forEach inp.levels s takeLevel
    let s := forEach (inp.events.filter fun n => n == 264 || n == 299) s faultEvent
    .next (collect (checker s inp.disagree) 0)

/-- A write of the clear mask 0x1602:01 (R356), as the number its 40 bytes spell; without the core clock nothing
can be cleared (log 28). -/
def clearWrite (s : State) (v : Nat) : Nat × State :=
  let mask := maskOfNat v &&& viewOf fun n => !reservedSrc n
  let s := if coreClock s then collect { s with flt := { s.flt with refused := 0 } } mask
    else { s with flt := { s.flt with refused := mask &&& stickyView s } }
  (if s.flt.refused = 0 then 0 else 0x05, s)

end Sys2Proof.Machine
end

