-- ==== Sys2Proof/Machine/Clocks.lean ====
section
/-! DEFINITION. Clocks.lean: loss and return of REFCLK, the core clock, SUPCLK and the die-to-die links
(R12, R16, R357, R399, R422, R453). -/

namespace Sys2Proof.Machine

/-- DIE_LINK_ALIGNMENT_LOSS (R12): the link has lost alignment, or its Sentinel lanes have failed their CRC in
four consecutive words; the rod is muted. -/
def execDieLinkAlignmentLoss (r : Nat) (sentinelLanes : Bool) (s : State) : Host.Outcome State Fault Refusal :=
  if s.life.power = .off ∨ 6 ≤ r ∨ !(getRod s r).powered then .next s
  else
    let before := s
    let s := modRod s r fun x => { x with linkOk := x.linkOk && sentinelLanes, lanesOk := x.lanesOk && !sentinelLanes, linkSince := s.time }
    .next (lastRod before (addMute s (.dieLink r) (.rod r)) (197 + 6 * r))

/-- DIE_LINK_ERROR_FREE_EXPIRY (R12): the link, realigned, has run error-free for 10 ms. -/
def execDieLinkErrorFreeExpiry (r : Nat) (s : State) : Host.Outcome State Fault Refusal :=
  let x := getRod s r
  if s.life.power = .off ∨ (x.linkOk && x.lanesOk) ∨ !elapsedMs s x.linkSince 10 then .next s
  else .next (dropMute (modRod s r fun x => { x with linkOk := true, lanesOk := true }) (.dieLink r))

/-- REFCLK_LOSS (R16, R357): all TX muted, the latch set, FAULT_N pulsed, SAFE entered; the core clock stops. -/
def execRefclkLoss (s : State) : Host.Outcome State Fault Refusal :=
  if s.life.power = .off ∨ !s.clk.refclk then .next s
  else
    let s := holdLines s
    let s := faultPulse { s with clk := { s.clk with refclk := false, core := false }, flt := { s.flt with latch276 := true } }
    .next (enterSafe (addMute s .refclk .device) 276)

/-- REFCLK_RETURN (R399): the PLLs relock, and every powered rod runs a rod calibration. -/
def execRefclkReturn (s : State) : Host.Outcome State Fault Refusal :=
  if s.life.power = .off ∨ s.clk.refclk then .next s
  else
    let s := dropMute { s with clk := { s.clk with refclk := true } } .refclk
    .next (forEach ((List.range 6).filter fun r => (getRod s r).powered) s fun s r =>
      modRod (startRodCal (restartDwell s r) r) r fun x => { x with calPending := true })

/-- CORE_PLL_UNLOCK (R357): the latch set, FAULT_N pulsed, all TX muted. -/
def execCorePllUnlock (s : State) : Host.Outcome State Fault Refusal :=
  if s.life.power = .off ∨ s.flt.latch277 then .next s
  else
    let s := holdLines s
    let s := faultPulse { s with clk := { s.clk with core := false }, flt := { s.flt with latch277 := true } }
    .next (addMute s .corePll .device)

/-- CORE_CLOCK_RETURN (R357): in its first cycle the collector copies the latches into sources 276 and 277. -/
def execCoreClockReturn (s : State) : Host.Outcome State Fault Refusal :=
  if s.life.power = .off ∨ s.clk.core ∨ !s.clk.refclk then .next s
  else
    let s := collect { s with clk := { s.clk with core := true } } 0
    let s := forEach (List.range 6) s restartDwell
    .next (dropMute { s with flt := { s.flt with latch276 := false, latch277 := false, held := 0 } } .corePll)

/-- SUPCLK_LOSS (R14, R422, R453): the supervisor, Tally and the thermal manager stop. -/
def execSupclkLoss (s : State) : Host.Outcome State Fault Refusal :=
  if s.life.power = .off ∨ !s.clk.supclk then .next s
  else
    let s := foldWall s
    let s := { s with
      clk := { s.clk with supclk := false },
      tally := { s.tally with gap := some s.clk.frame, gapEpisode := [] },
      therm := { s.therm with demanded := false } }
    .next (stopSupervisor s 6)

/-- Records that Tally forms before any other when SUPCLK returns (R453). -/
def gapRecords (s : State) : List Occ :=
  { code := 0x0006, source := 0, args := [s.clk.frame / 2 ^ 32, s.clk.frame % 2 ^ 32], frame := s.tally.gap.getD s.clk.frame } ::
  ((List.range 7).filterMap fun z => (getZone s z).unrecorded.map fun f =>
    { code := 0x0B01, source := srcField 10 z, frame := f,
      args := [argI (threshold s.objs z 2), argI (getZone s z).temp, (getZone s z).hottest] : Occ }) ++
  s.tally.gapEpisode

/-- SUPCLK_RETURN (R399, R453); the supervisor's start is its own command. -/
def execSupclkReturn (s : State) : Host.Outcome State Fault Refusal :=
  if s.life.power = .off ∨ s.clk.supclk then .next s
  else
    let s := { s with
      clk := { s.clk with supclk := true },
      tally := { s.tally with wallAt := s.time, queue := gapRecords s ++ s.tally.queue, gap := none, gapEpisode := [] } }
    .next (forEach (List.range 7) s fun s z => if (getZone s z).unrecorded.isSome then modZone s z fun x => { x with unrecorded := none } else s)

end Sys2Proof.Machine
end

