-- ==== Sys2Proof/Machine/Read.lean ====
section
/-! DEFINITION. Read.lean: what every object of the dictionary reads as, chapter by chapter (the RO and LK
objects of each chapter's tables, and the RW objects that a block keeps itself). -/

namespace Sys2Proof.Machine

/-- A signed figure as the bits of its `w`-bit object. -/
def sg (w : Nat) (v : Int) : Nat := ofSigned w (satSigned w v)

/-- Saturated flags: bit i set where counter i has saturated. -/
def satFlags (cs : List Nat) : Nat := cs.zipIdx.foldl (fun a e => if e.1 = 0xFFFFFFFF then a + 2 ^ e.2 else a) 0

/-- A pair of 16-bit parts, real or I in [31:16]. -/
def pair16 (x : Int × Int) : Nat := ofSigned 16 x.1 * 65536 + ofSigned 16 x.2

/-- A mask of the numbers below `n` that satisfy a test. -/
def maskBelow (n : Nat) (p : Nat → Bool) : Nat := (List.range n).foldl (fun a i => if p i then a + 2 ^ i else a) 0

/-- The count of a list's members that satisfy a test. -/
def countOf {α : Type} (xs : List α) (p : α → Bool) : Nat := (xs.filter p).length

/-- The image in a slot. -/
def slotImage (s : State) (slot : Nat) : List Word := if slot = 0 then s.nv.imgA else s.nv.imgB

/-- Security version of an image (Table 17.4). -/
def imageSecurity (img : List Word) : Nat := (img.getD 2 0).toNat % 64

/-- 0x1210:03–04: what a slot holds; 0 invalid. -/
def imageWordOf (img : List Word) : Nat :=
  if img.isEmpty then 0
  else imageSecurity img * 2 ^ 24 + bits (img.getD 1 0).toNat 31 24 * 2 ^ 16 + bits (img.getD 1 0).toNat 15 0

/-! ### Chapters 0–2 -/

/-- 0x1000, 0x1010, 0x1012, 0x1101, 0x1102. -/
def readBase (s : State) (idx sub : Nat) : Option Nat :=
  let c := s.commit
  match idx, sub with
  | 0x1000, 2 => some (ofBytes s.nv.serial)
  | 0x1000, 3 => some s.nv.stepping
  | 0x1000, 4 => some ((slotImage s s.life.running).getD 1 0).toNat
  | 0x1000, 5 => some s.life.starts
  | 0x1010, 2 => some c.staged.length
  | 0x1010, 3 => some c.st
  | 0x1010, 4 => some c.reason
  | 0x1010, 5 => some (c.object * 256)
  | 0x1010, 6 => some c.frame
  | 0x1010, 7 => some (c.count % 2 ^ 32)
  | 0x1010, 8 => some (c.lock.getD 0xFF)
  | 0x1012, 1 => some s.clk.frame
  | 0x1101, 3 => some (maskBelow 8 fun m => !(smGet [] s.nv.olpKeys m).isEmpty)
  | 0x1102, 1 => some s.olp.accepted
  | 0x1102, 2 => some s.olp.tagFail
  | 0x1102, 3 => some s.olp.replay
  | 0x1102, 4 => some s.olp.malformed
  | 0x1102, 5 => some s.olp.relayed
  | 0x1102, 6 => some s.olp.relayDrops
  | 0x1102, 7 => some (satFlags [s.olp.accepted, s.olp.tagFail, s.olp.replay, s.olp.malformed, s.olp.relayed, s.olp.relayDrops])
  | _, _ => none

/-- Words in the item a window selects (W:06: R104, R216, R267, R333, R376, R407); 0 where none is selected. -/
def windowLength (s : State) (w : Nat) : Nat :=
  let sel := (getWindow s w).sel
  match w with
  | 0 => 257
  | 1 => 524288
  | 2 => if sel = 0 then s.tally.next else if sel = 1 then s.nv.log.length else if sel = 2 then s.tally.lastResort.length else 0
  | 3 => if sel = 0 then 1024 * ringPages s else if 0x100 ≤ sel ∧ sel < 0x110 then 1024 * (getMark s (sel - 0x100)).region else 0
  | _ => if sel ≤ 1 then 1048576 else if sel < 0x105 then 2836 else 0

/-- Has the mark of a selected region lapsed (R333)? -/
def regionLapsed (s : State) (sel : Nat) : Bool :=
  decide (0x100 ≤ sel) && decide (sel < 0x110) && (getMark s (sel - 0x100)).st == 4

/-- Window subindices (Table 2.9). -/
def readWindow (s : State) (w sub : Nat) : Option Nat :=
  let x := getWindow s w
  match sub with
  | 1 => some x.sel
  | 2 => some x.cursor
  | 4 => some (crcOut x.crc).toNat
  | 5 => some (if w = 3 && x.st == 1 && regionLapsed s x.sel then 4 else x.st)
  | 6 => some (windowLength s w)
  | 7 => some (x.claim.getD 0xFF)
  | _ => none

/-! ### Chapters 3–6 -/

/-- Swap state word of a slot (B+0x8:01–08). -/
def swapWord (x : SlotPath) : Nat :=
  b2n x.xf.isSome * 2 ^ 15 + b2n x.pendSwap.isSome * 2 ^ 14 + x.pendSwap.getD 0 * 2 ^ 13 + x.holds * 2 ^ 12 +
  b2n x.bankB.sealed * 2 ^ 11 + b2n x.bankA.sealed * 2 ^ 10 + x.swapResult

/-- Signal path of a channel (0x3000 + 0x10 × ch). -/
def readSignal (s : State) (ch off sub : Nat) : Option Nat :=
  let c := getChan s ch
  let n := c.nines
  let slot (base : Nat) : SlotPath := getSlot s (8 * ch + (sub - base))
  match off with
  | 0x0 => match sub with
    | 5 => some (pair16 c.cal.loLeak)
    | 6 => some (b2n !(c.radio.st.receives && rxValid s ch))
    | _ => none
  | 0x1 => some (pair16 (c.cal.iqTaps.getD (sub - 1) (0, 0)))
  | 0x8 =>
    if sub ≤ 8 then some (swapWord (slot 1))
    else if sub ≤ 0x10 then some (match (slot 9).xf with | some f => f.len - f.done | none => 0)
    else if sub ≤ 0x18 then some (slot 0x11).bankA.header.toNat
    else some (slot 0x19).bankB.header.toNat
  | 0x9 =>
    if sub ≤ 8 then some (sg 16 (slot 1).power)
    else if 0x11 ≤ sub then some (2 * b2n (slot 0x11).high + b2n (slot 0x11).low)
    else none
  | 0xB => match sub with
    | 4 => some (maskBelow 8 fun i => (getSlot s (8 * ch + i)).carriedSettle)
    | 5 => some c.lastReset
    | _ => none
  | 0xC => match sub with
    | 1 => some (budgetUse s ch)
    | 2 => some (stagedBudget (cfgMerge s.objs s.commit.staged) s ch)
    | 3 => some (sg 16 (fadeHeadroom s ch))
    | 4 => some (6 * skewSamples s.objs ch)
    | _ => none
  | 0xD => match sub with
    | 1 => some c.adcOver
    | 2 => some c.rxSat
    | 3 => some c.txSat
    | _ => some (satFlags [c.adcOver, c.rxSat, c.txSat])
  | 0xE => match sub with
    | 1 => some n.checked
    | 2 => some n.recomputed
    | 3 => some n.poisonedAfter
    | 4 => some n.noSlot
    | 5 => some n.entryFail
    | 6 => some n.inherited
    | 7 => some n.xbarRepeat
    | 8 => some n.exitFail
    | 9 => some n.lastFail
    | 0xA => some n.lastFrame
    | 0xB => some (satFlags [n.recomputed, n.poisonedAfter, n.noSlot, n.entryFail, n.inherited, n.xbarRepeat, n.exitFail])
    | _ => some n.inject
  | _ => none

/-- Routing summary 0x5000. -/
def readRouting (s : State) (sub : Nat) : Option Nat :=
  let used (r : Nat) := routeUsed s.objs r
  match sub with
  | 1 => some (routesInUse s.objs).length
  | 2 => some (countOf (txMembers s.objs) fun e => used e.2 && !routeUp s.objs e.2)
  | 3 => some (countOf (rxMembers s.objs) fun e => used e.2 && routeUp s.objs e.2)
  | 4 => some (countOf (egressMembers s.objs ++ ingressMembers s.objs) fun m => used m.route)
  | 5 => some s.combSat
  | 6 => some (satFlags [s.combSat])
  | _ => none

/-! ### Chapter 7 -/

/-- Mean power in LSB² of units 2⁻³², as 0.01 dBFS. -/
def dbfsOf (p : Nat) : Int := dbOf p (2 ^ 62)

/-- Canceller of a channel (0x4000 + 0x10 × ch). -/
def readCanceller (s : State) (ch off sub : Nat) : Option Nat :=
  let c := (getChan s ch).canc
  let path (base : Nat) : CPath := getPath s ch (sub - base)
  match off with
  | 0x0 => match sub with
    | 9 => some (nEff s ch)
    | 0xA => some (sg 16 (channelDepth s ch))
    | 0xB => some (sg 16 c.estPower)
    | 0xC => some (sg 16 c.resPower)
    | _ => none
  | 0x3 =>
    if sub ≤ 8 then
      let x := path 1
      some (b2n (frozen s ch (sub - 1)) * 2 ^ 15 + b2n x.lim45 * 2 ^ 14 + b2n x.resBound * 2 ^ 13 + b2n x.belowFloor * 2 ^ 12 +
        b2n x.clipped * 2 ^ 11 + b2n x.reverted * 2 ^ 10 + x.e % 4 * 2 ^ 8 + x.st)
    else if sub ≤ 0x10 then some (sg 16 (path 9).depth)
    else if sub ≤ 0x18 then some (if (path 0x11).lastMeas = 0 then 0 else min 65535 ((s.time - (path 0x11).lastMeas) / msUnits))
    else some (sg 16 (dbfsOf (path 0x19).pest))
  | 0x4 => if sub ≤ 8 then some (sg 32 (rotatorOffset s.objs ch (sub - 1))) else some (sg 16 (dbfsOf (path 9).pr))
  | 0x5 => match sub with
    | 1 => some c.updates
    | 2 => some c.reversions
    | 3 => some c.clips
    | 4 => some c.noUpdate
    | 5 => some c.discarded
    | _ => some (satFlags [c.updates, c.reversions, c.clips, c.noUpdate, c.discarded])
  | 0x6 => match sub with
    | 1 => some c.survRef
    | 2 => some c.survState
    | 3 => some c.survDelay
    | 4 => some (sg 16 c.survGain)
    | _ => some c.survProgress
  | 0x7 => match sub with
    | 1 => some c.snapPath
    | 2 => some c.snapFrame
    | 3 => some c.snapExp
    | _ => let t := c.snapTaps.getD (sub - 4) (0, 0); some (sg 32 t.1 * 2 ^ 32 + sg 32 t.2)
  | _ => none

/-! ### Chapters 8 and 9 -/

/-- The governor's summary, a loop and a slot (0x7000, 0x7010, 0x7011): figures of the last tick (R207). -/
def readGovernor (s : State) (idx sub : Nat) : Option Nat :=
  let loops := s.gov.inUse.map (getLoop s)
  if idx = 0x7000 then match sub with
    | 2 => some s.gov.inUse.length
    | 3 => some s.gov.below
    | 4 => some (countOf loops fun l => l.mutedAt.isSome)
    | 5 => some (countOf loops (·.locked))
    | 6 => some s.gov.oscMutes
    | 7 => some s.gov.marginMutes
    | 8 => some (satFlags [s.gov.oscMutes, s.gov.marginMutes])
    | _ => none
  else if idx = 0x7010 then
    let r := cfgNat s.objs 0x7010 1
    let l : LoopSnap := smGet {} s.gov.shown r
    match sub with
    | 2 => some l.kind
    | 3 => some l.st
    | 4 => some (sg 16 l.margin)
    | 5 => some (sg 16 l.target)
    | 6 => some (sg 16 l.lc)
    | 7 => some l.lcSrc
    | 8 => some (sg 16 l.dcr)
    | 9 => some l.limit
    | 0xA => some (sg 16 l.gloop)
    | 0xB => some (sg 16 l.cap)
    | 0xD => some l.comfort
    | 0xE => some l.mutes
    | _ => none
  else
    let g := cfgNat s.objs 0x7011 1
    let x : SideSnap := if g < 768 then (getGain s g).snap else {}
    if 2 ≤ sub ∧ sub ≤ 7 then some (sg 16 ((x.caps[sub - 2]?).getD 32767))
    else match sub with
    | 8 => some (sg 16 (x.eff.getD (-32768)))
    | 9 => some x.bind
    | 0xA => some x.mult
    | _ => none

/-- Effective gain, binding cap and gain status of a channel's sides (0x7020 + ch). -/
def readSides (s : State) (ch sub : Nat) : Option Nat :=
  let g (base : Nat) := 8 * ch + (sub - base)
  if sub ≤ 8 then some (sg 16 (((getGain s (g 1)).eff.map effDb).getD (-32768)))
  else if sub ≤ 0x10 then some (getGain s (g 9)).bind
  else if 0x19 ≤ sub then
    let x := getGain s (g 0x19)
    let loopMuted := s.mutes.any fun m => (match m.owner with | .loop _ => true | _ => false) && m.scope == .slot (g 0x19)
    some (8 * b2n x.osc.flag + 4 * b2n loopMuted + 2 * b2n x.slewLimited + b2n x.unreachable)
  else none

/-- Network protection (0x7080–0x708F, 0x70A0 + ch). -/
def readProtection (s : State) (idx sub : Nat) : Option Nat :=
  if idx = 0x7080 then match sub with
    | 4 => some (countOf s.gains (·.2.donorLoss))
    | 5 => some (countOf s.gains (·.2.unidentified))
    | 6 => some (countOf s.gains (·.2.bind == 4))
    | 7 => some s.prot.lossMutes
    | 8 => some s.prot.idMutes
    | 9 => some (satFlags [s.prot.lossMutes, s.prot.idMutes])
    | _ => none
  else if idx = 0x7081 then
    if sub ≤ 6 then some (getRod s (sub - 1)).finder
    else if sub ≤ 12 then some (40 * (rodSides s.objs (sub - 7)).length)
    else some (trackedCells s (sub - 13)).length
  else if idx = 0x7082 then match sub with
    | 1 => some (countOf s.prot.ledger (·.2.valid))
    | 2 => some (pinnedEntries s).length
    | 6 => some s.prot.replaced
    | 7 => some s.prot.parityDiscards
    | 8 => some (satFlags [s.prot.replaced, s.prot.parityDiscards])
    | _ => none
  else if idx < 0x7090 then match sub with
    | 0xF => some (getGroup s (idx - 0x7088)).st
    | 0x10 => some (sg 32 (roundDiv (getGroup s (idx - 0x7088)).diff 6))
    | _ => none
  else
    let ch := idx - 0x70A0
    let g (base : Nat) := 8 * ch + (sub - base)
    if sub ≤ 8 then
      let x := getGain s (g 1)
      let grp := tddGroupOf s.objs ch
      let tdd := s.mutes.any fun m => m.owner == .tdd grp && m.scope.coversChan ch
      let fall := ((donorSides s.objs).contains (g 1) && (getRod s (ch / 16)).fallback) ||
        ((uplinkDonors s.objs).contains (g 1) && donorFallback s (g 1))
      some (b2n x.donorLoss * 2 ^ 15 + b2n x.unidentified * 2 ^ 14 + b2n x.nrMute * 2 ^ 13 + b2n tdd * 2 ^ 12 + b2n fall * 2 ^ 11 +
        b2n (cfgNat s.objs idx (sub + 0x30) != 0xFFFFFFFF) * 2 ^ 10)
    else if sub ≤ 0x10 then some ((getGain s (g 9)).serving.getD 0xFFFF)
    else if sub ≤ 0x18 then some (sg 16 (match (getGain s (g 0x11)).serving with | some e => (getEntry s e).rsrp | none => -32768))
    else if sub ≤ 0x20 then some (min 65535 (getGain s (g 0x19)).noiseRise)
    else none

/-! ### Chapters 10 and 11 -/

/-- A synthesiser's word (B+0xF:02–09). -/
def synthWord (x : Synth) : Nat := x.st * 2 ^ 28 + (if x.lo = 0 then 0 else dividerCode x.lo) * 2 ^ 26 + x.lo % 2 ^ 23

/-- Radio objects of a channel (0x2000 + 0x10 × ch). -/
def readRadio (s : State) (ch off sub : Nat) : Option Nat :=
  let c := getChan s ch
  let rod := getRod s (ch / 16)
  match off with
  | 0x0 => match sub with
    | 2 => some (b2n (inTransition s ch) * 128 + radioCode c.radio.st)
    | 6 => some c.radio.lastCmd
    | 7 => some c.radio.rejections
    | 8 => some (satFlags [c.radio.rejections])
    | _ => none
  | 0x1 => match sub with
    | 3 => some (c.radio.rxSynth.getD 0xFF)
    | 4 => some (c.radio.txSynth.getD 0xFF)
    | 5 => some c.radio.lastInterrupt
    | _ => none
  | 0x4 => match sub with
    | 5 => some c.mis.tuner
    | _ => none
  | 0x5 => match sub with
    | 3 => some (sg 16 c.mis.pf)
    | 4 => some (sg 16 c.mis.pr)
    | 5 => some (sg 16 c.mis.rl)
    | 6 => some (c.mis.st + 128 * b2n c.mis.search)
    | 8 => some c.mis.mutes
    | 9 => some c.mis.skipped
    | 0xA => some (satFlags [c.mis.mutes, c.mis.skipped])
    | _ => none
  | 0x6 => match sub with
    | 1 => some (sg 16 c.cal.rxGain)
    | 2 => some (sg 16 c.cal.txGain)
    | 3 => some c.cal.noiseFigure
    | 4 => some (sg 16 c.cal.outNoise)
    | 5 => some (sg 16 c.cal.fbForward)
    | 6 => some (sg 16 c.cal.fbReflected)
    | 7 => some (sg 16 c.cal.temp)
    | 8 => some c.cal.frame
    | 9 => some (sg 16 (smGet 0 s.nv.coupler ch))
    | _ => none
  | 0x7 => if sub = 2 then some (sg 16 (inputNoiseFigure s ch)) else none
  | 0x8 => if sub = 2 then some (rod.cal + if rod.cal = 3 then 16 * rod.calStep else 0) else none
  | 0xE => match sub with
    | 2 => some (getBus s (ch / 4)).count
    | 3 => some (getBus s (ch / 4)).late
    | 4 => some (satFlags [(getBus s (ch / 4)).count, (getBus s (ch / 4)).late])
    | _ => none
  | 0xF => if sub = 0xA then some rod.recals else if 2 ≤ sub then some (synthWord (getSynth s (ch / 16) (sub - 2))) else none
  | _ => none

/-- Trip state of a channel (0x1311). -/
def tripWord (s : State) (ch : Nat) : Nat :=
  let x := (getChan s ch).sent
  128 * b2n x.locked + 64 * b2n (!gateOpen s ch) + 8 * b2n x.txLow + 4 * b2n x.spectral + 2 * b2n x.overpower

/-- A licence record's objects (0x1340 + r). -/
def readRecord (s : State) (r sub : Nat) : Option Nat :=
  let rec_ := licRecord s r
  if !recShown rec_ then none
  else if sub = 0x21 then some (smGet 0 s.lic.setBy r)
  else
    let w := recWord rec_
    if sub ≤ 5 then some (w (sub - 1))
    else if 0x11 ≤ sub then some (w (12 + 2 * (sub - 0x11)) * 2 ^ 32 + w (13 + 2 * (sub - 0x11)))
    else match sub with
    | 6 => some (bits (w 5) 31 16)
    | 7 => some (bits (w 5) 15 0)
    | 8 => some (bits (w 6) 31 16)
    | 9 => some (bits (w 6) 15 0)
    | 0xA => some (bits (w 7) 31 16)
    | 0xB => some (bits (w 7) 15 0)
    | 0xC => some (bits (w 8) 31 16)
    | 0xD => some (bits (w 8) 15 0)
    | 0xE => some (bits (w 9) 31 16)
    | 0xF => some (bits (w 9) 15 0)
    | 0x10 => some (bits (w 10) 31 16)
    | _ => none

/-- Licence and Sentinel (0x1300–0x137F). -/
def readLicence (s : State) (idx sub : Nat) : Option Nat :=
  if idx = 0x1300 then match sub with
    | 1 => some s.lic.active
    | 2 => some (maskBelow 4 fun i => (getGen s (i + 1)).consumed)
    | 3 => some (maskBelow 32 fun i => recPresent (licRecord s i))
    | 4 => some (maskBelow 32 fun i => recPresent (licRecord s (i + 32)))
    | _ => none
  else if idx = 0x1301 then match sub with
    | 1 => some (if s.lic.active = 0 then 0 else (getGen s s.lic.active).integrator)
    | 2 => some s.lic.burn
    | 3 => some s.lic.reason
    | 4 => some s.lic.field
    | _ => none
  else if idx = 0x1310 then match sub with
    | 2 => some (countOf (List.range 96) fun ch => !gateOpen s ch)
    | 3 => some s.sent.trips
    | 4 => some s.sent.selfTests
    | 5 => some (b2n (s.pins.muteN || decide (s.pins.muteNRose ≤ s.time)))
    | 6 => some (satFlags [s.sent.trips])
    | _ => none
  else if idx = 0x1311 then some (tripWord s (sub - 1))
  else if idx = 0x1312 then some (sg 16 (ceiling s (sub - 1)))
  else readRecord s (idx - 0x1340) sub

/-! ### Chapters 12 and 13 -/

/-- Sum of the equalisation delays of the routes in use (R313). -/
def eqUse (cfg : SMap Nat) : Nat := sumMap (routesInUse cfg) (routeEq cfg)

/-- Links (0x1900–0x1AFF). -/
def readLinks (s : State) (idx sub : Nat) : Option Nat :=
  if idx < 0x1980 then
    let l := (idx - 0x1900) / 8
    let p := getDn s l
    match (idx - 0x1900) % 8 with
    | 0 => match sub with
      | 3 => some (ownMac s l)
      | 8 => some (dnState s l)
      | _ => none
    | 3 => some (getIn s (streamCode 1 l (sub - 1))).st
    | 4 => match sub with
      | 1 => some p.accepted
      | 2 => some p.discarded
      | 3 => some p.fcs
      | 4 => some p.late
      | 5 => some p.missing
      | 6 => some p.resync
      | 7 => some p.poisoned
      | _ => some (satFlags [p.accepted, p.discarded, p.fcs, p.late, p.missing, p.resync, p.poisoned])
    | 5 => match sub with
      | 2 => some p.measId
      | 3 => some (sg 32 p.delay)
      | 4 => some p.delaySt
      | _ => none
    | _ => none
  else if 0x1A00 ≤ idx ∧ idx < 0x1A80 then
    let l := (idx - 0x1A00) / 8
    let x := getXl s l
    match (idx - 0x1A00) % 8 with
    | 0 => match sub with
      | 6 => some (xlState s l)
      | 7 => some x.neighbour
      | 8 => some x.hops
      | 9 => some x.neighLane
      | _ => none
    | 2 => match sub with
      | 1 => some x.cable
      | 2 => some x.phase
      | 3 => some (if x.up || x.cable != 0 || x.phase != 0 then hopOffset s l else 0)
      | _ => some (sg 32 x.drift)
    | 3 => match sub with
      | 1 => some x.crcFail
      | 2 => some x.poisoned
      | 3 => some x.switches
      | 4 => some x.sent
      | 5 => some x.dropped
      | 6 => some x.resync
      | _ => some (satFlags [x.crcFail, x.poisoned, x.switches, x.sent, x.dropped, x.resync])
    | _ => none
  else if idx = 0x1A80 then match sub with
    | 3 => some s.links.learned.length
    | 4 => some (eqUse s.objs)
    | 5 => some (eqUse (cfgMerge s.objs s.commit.staged))
    | _ => none
  else none

/-- Depth of the ring at the units in use, ms (R326). -/
def ringDepth (s : State) : Nat :=
  let u := unitsInUse s
  if u = 0 then 0 else sat32 (ringPages s * 1000 * 32 * 1008 / (u * 245760000))

/-- Capture (0x1800–0x184F). -/
def readCapture (s : State) (idx sub : Nat) : Option Nat :=
  let c := s.cap
  if idx = 0x1800 then match sub with
    | 2 => some c.st
    | 3 => some c.fitted
    | 4 => some c.ranks
    | 5 => some (ringPages s)
    | 6 => some c.wptr
    | 7 => some c.run
    | 8 => some (captureWriteLimit s)
    | 9 => some (unitsInUse s)
    | 0xA => some (thermalCaptureLimit s)
    | 0xB => some c.written
    | 0xC => some c.dropped
    | 0xD => some (ringDepth s)
    | 0xE => some (countOf c.srcs (·.2.suspended))
    | 0xF => some c.crcFails
    | 0x10 => some (satFlags [c.dropped, c.crcFails])
    | _ => none
  else if 0x1820 ≤ idx ∧ idx < 0x1830 then
    let m := getMark s (idx - 0x1820)
    match sub with
    | 4 => some m.st
    | 5 => some m.guard
    | 6 => some m.region
    | 7 => some m.trigger
    | 8 => some m.firings
    | _ => none
  else if 0x1830 ≤ idx ∧ idx < 0x1838 then
    let r := getReplay s (idx - 0x1830)
    match sub with
    | 5 => some r.st
    | 6 => some r.poisoned
    | 7 => some r.mode
    | _ => none
  else if 0x1840 ≤ idx then
    let e := getExport s (idx - 0x1840)
    match sub with
    | 2 => some e.st
    | 3 => some e.sent
    | 4 => some e.skipped
    | _ => none
  else none

/-! ### Chapters 14 and 15 -/

/-- The three views and the frame of 0x1601: the message's snapshot, or the present cycle (R350). -/
def faultSnap (s : State) : BitVec 320 × BitVec 320 × Nat := s.flt.snap.getD (stickyView s, rawShown s, s.clk.frame)

/-- A source's descriptor (Table 14.9). -/
def descriptor (s : State) (n : Nat) : Nat :=
  let x := srcRow n
  b2n (reservedSrc n) * 2 ^ 15 + (maskBelow 7 x.permitted.contains) * 2 ^ 8 + b2n (smGet 0 s.flt.withheld n != 0) * 2 ^ 7 +
  b2n x.fixed * 2 ^ 6 + (x.sev - 1) * 2 ^ 4 + b2n x.event * 2 ^ 3 + x.dflt

/-- Faults (0x1600–0x1643). -/
def readFault (s : State) (idx sub : Nat) : Option Nat :=
  let f := s.flt
  if idx = 0x1600 then match sub with
    | 1 => some (countOf (List.range 320) (viewBit (stickyView s)))
    | 2 => some (b2n f.isOpen)
    | 3 => some f.number
    | 4 => some f.lead
    | 5 => some f.leadSev
    | 6 => some f.openFrame
    | 7 => some f.merged
    | 8 => some f.highest
    | 9 => some f.closeFrame
    | 0xB => some (b2n (faultN s))
    | 0xC => some (satFlags [f.merged])
    | _ => none
  else if idx = 0x1601 then
    let v := faultSnap s
    if sub ≤ 0xA then some (viewWord v.1 (sub - 1))
    else if sub ≤ 0x14 then some (viewWord v.2.1 (sub - 0xB))
    else if sub ≤ 0x1E then some (viewWord (v.1 &&& ~~~v.2.1) (sub - 0x15))
    else some v.2.2
  else if idx = 0x1602 then some (natOfMask f.refused)
  else if idx = 0x1603 then
    if sub ≤ 13 then some (smGet 0 f.parity sub) else some (satFlags ((List.range 13).map fun i => smGet 0 f.parity (i + 1)))
  else if 0x1630 ≤ idx then some (descriptor s (16 * (idx - 0x1630) + sub - 1))
  else none

def getCode (s : State) (code : Nat) : CodeState := smGet {} s.tally.codes code
def modCode (s : State) (code : Nat) (f : CodeState → CodeState) : State :=
  { s with tally := { s.tally with codes := smMod {} s.tally.codes code f } }

/-- Burst and refill period of a code, ms (R370). -/
def burstOf (s : State) (code : Nat) : Nat := let b := (getCode s code).burst; if b = 0 then cfgNat s.objs 0x1700 9 else b
def refillOf (s : State) (code : Nat) : Nat := let r := (getCode s code).refill; if r = 0 then cfgNat s.objs 0x1700 0xA else r

/-- Tokens in a code's bucket: it holds no more than its burst. -/
def tokensOf (s : State) (code : Nat) : Nat := min (burstOf s code) ((getCode s code).tokens.getD (burstOf s code))

/-- Snapshot list of a code. -/
def listOf (s : State) (code : Nat) : List Nat := (getCode s code).list.getD (defaultSnapshot code)

/-- Oldest sequence held in the ring. -/
def oldestSeq (s : State) : Nat := s.tally.ring.foldl (fun m e => min m e.2.seq) s.tally.next

/-- Tally (0x1700–0x1711). -/
def readTally (s : State) (idx sub : Nat) : Option Nat :=
  let t := s.tally
  if idx = 0x1700 then match sub with
    | 1 => some (opMs s)
    | 2 => some t.pcc
    | 3 => some (wallWord s)
    | 4 => some (b2n t.wallSet)
    | 5 => some t.next
    | 6 => some (oldestSeq s)
    | 7 => some (32768 - 32 * t.excluded.length)
    | 8 => some t.excluded.length
    | 0xB => some t.lastResort.length
    | _ => none
  else if idx = 0x1701 then match sub with
    | 1 => some t.suppressed
    | 2 => some t.summaries
    | 3 => some t.written
    | 4 => some t.withheld
    | 5 => some t.failures
    | 6 => some t.overtaken
    | _ => some (satFlags [t.suppressed, t.summaries, t.written, t.withheld, t.failures, t.overtaken])
  else if idx = 0x1711 then
    let code := cfgNat s.objs 0x1710 0
    if sub ≤ 16 then some ((listOf s code).getD (sub - 1) 0)
    else match sub with
    | 0x11 => some (getCode s code).burst
    | 0x12 => some (getCode s code).refill
    | 0x13 => some (b2n (persistentCodes.contains code))
    | 0x14 => some (getCode s code).pending
    | _ => some (tokensOf s code)
  else none

/-! ### Chapters 16 to 18 -/

/-- State byte of a zone (0x1501 + z:02). -/
def zoneByte (x : Zone) : Nat :=
  128 * b2n x.noValid + 64 * b2n x.frozen.isSome + 32 * b2n (!x.lost.isEmpty && x.frozen.isNone) + 4 * b2n x.shut + 2 * b2n x.throttle + b2n x.warn

/-- Status byte of a sensor (0x1510:29–50). -/
def sensorByte (x : Sensor) : Nat := 4 * b2n x.flagged + 2 * b2n x.medianBad + b2n x.rangeBad

/-- Thermal and clocks (0x1400–0x1510). The REFCLK offset is a measurement the model leaves free (log 4). -/
def readThermal (s : State) (idx sub : Nat) : Option Nat :=
  if idx = 0x1400 then match sub with
    | 1 => some (maskBelow 6 (fun r => (getRod s r).pll && (getRod s r).powered && s.clk.refclk) +
        256 * b2n (s.clk.core && s.clk.refclk) + 512 * b2n (s.clk.sup && s.clk.supclk) + 1024 * b2n (s.clk.ddr && s.clk.supclk) +
        2048 * b2n (s.clk.mgmt && s.clk.supclk) + 4096 * b2n (s.clk.link && s.clk.supclk))
    | 2 => some (b2n s.clk.refclk)
    | 3 => some (sg 32 (refclkOffset s))
    | 4 => some (sg 32 s.clk.corr)
    | 5 => some (b2n s.clk.limited)
    | _ => none
  else if idx = 0x1500 then match sub with
    | 5 => some (b2n (backstop s))
    | 6 => some s.therm.stage
    | 8 => some (recentExits s).length
    | 9 => some (maskBelow 7 fun z => (getZone s z).latched)
    | _ => none
  else if idx = 0x1510 then
    if sub ≤ 40 then some (sg 16 (getSensor s (sub - 1)).value) else some (sensorByte (getSensor s (sub - 0x29)))
  else if 0x1501 ≤ idx ∧ idx ≤ 0x1507 then
    let x := getZone s (idx - 0x1501)
    match sub with
    | 1 => some (sg 16 x.temp)
    | 2 => some (zoneByte x)
    | 9 => some x.red
    | 0xA => some x.valid
    | 0xB => some x.hottest
    | 0xC => some x.shutdowns
    | 0xD => some (satFlags [x.shutdowns])
    | _ => none
  else none

/-- Autonomy so far, ms. -/
def autonomyMs (s : State) : Nat := (s.time - s.life.autoSince) / msUnits

/-- Lifecycle, power, images, autonomy, monitor, restarts (0x1200–0x1240). -/
def readLife (s : State) (idx sub : Nat) : Option Nat :=
  let x := s.life
  match idx, sub with
  | 0x1200, 2 => some (powerCode x.power)
  | 0x1200, 3 => some x.refusal
  | 0x1200, 4 => some x.safeCause
  | 0x1200, 5 => some x.entryFrame
  | 0x1200, 6 => some (powerCode x.prev)
  | 0x1201, 1 => some s.nv.lifecycle
  | 0x1201, 2 => some (if s.nv.burned = s.nv.lifecycle then 0xFF else s.nv.burned)
  | 0x1201, 3 => some s.nv.secVersion
  | 0x1201, 4 => some (b2n s.nv.rootHash)
  | 0x1201, 5 => some (b2n s.nv.licHash)
  | 0x1210, 1 => some x.running
  | 0x1210, 2 => some s.nv.bootSlot
  | 0x1210, 3 => some (imageWordOf s.nv.imgA)
  | 0x1210, 4 => some (imageWordOf s.nv.imgB)
  | 0x1210, 5 => some x.load
  | 0x1210, 9 => some x.trialSt
  | 0x1220, 2 => some (if x.limitPassed then 2 else b2n x.autonomy)
  | 0x1220, 4 => some x.autoEntries
  | 0x1220, 5 => some (min 0xFFFFFFFF (if x.autonomy then max x.longest (autonomyMs s) else x.longest))
  | 0x1220, 6 => some x.lastCause
  | 0x1220, 8 => some (satFlags [x.autoEntries])
  | 0x1230, 1 => some x.level
  | 0x1230, 4 => some x.unlockFails
  | 0x1230, 5 => some ((x.lockUntil - s.time + 1000 * msUnits - 1) / (1000 * msUnits))
  | 0x1230, 6 => some (b2n x.scan)
  | 0x1230, 7 => some (satFlags [x.unlockFails])
  | 0x1240, 2 => some (maskBelow 6 (blockRestarting s 1) + 2 ^ 6 * maskBelow 16 (blockRestarting s 2) + 2 ^ 22 * maskBelow 16 (blockRestarting s 3) +
      2 ^ 38 * b2n s.cap.restarting + 2 ^ 39 * b2n s.tally.restarting + 2 ^ 40 * maskBelow 6 (blockRestarting s 6))
  | 0x1240, 3 => some x.restarts
  | 0x1240, 4 => some (satFlags [x.restarts])
  | _, _ => none

/-! ### Every object -/

/-- The value a block keeps for an object; none where the object holds what was written, or its default. -/
def blockValue (s : State) (idx sub : Nat) : Option Nat :=
  if sub = 0 ∧ idx ≠ 0x1710 then none
  else if idx < 0x1200 then readBase s idx sub
  else if idx < 0x1300 then readLife s idx sub
  else if idx < 0x1400 then readLicence s idx sub
  else if idx < 0x1600 then readThermal s idx sub
  else if idx < 0x1700 then readFault s idx sub
  else if idx < 0x1800 then readTally s idx sub
  else if idx < 0x1900 then readCapture s idx sub
  else if idx < 0x2000 then readLinks s idx sub
  else if idx < 0x3000 then readRadio s ((idx - 0x2000) / 16) (idx % 16) sub
  else if idx < 0x4000 then readSignal s ((idx - 0x3000) / 16) (idx % 16) sub
  else if idx < 0x5000 then readCanceller s ((idx - 0x4000) / 16) (idx % 16) sub
  else if idx = 0x5000 then readRouting s sub
  else if 0x6100 ≤ idx ∧ idx ≤ 0x6500 then readWindow s ((idx - 0x6100) / 256) sub
  else if idx = 0x7000 ∨ idx = 0x7010 ∨ idx = 0x7011 then readGovernor s idx sub
  else if 0x7020 ≤ idx ∧ idx < 0x7080 then readSides s (idx - 0x7020) sub
  else if 0x7080 ≤ idx ∧ idx < 0x7100 then readProtection s idx sub
  else none

/-- What index:subindex reads as, raw: the block's own value, else the written value or the default. -/
def objValue (s : State) (idx sub : Nat) : Nat :=
  match blockValue s idx sub with
  | some v => v
  | none => cfgNat s.objs (canonIdx idx) sub

/-- The bytes of a value of a type. -/
def valueBytes (t : Typ) (v : Nat) : List Byte := beBytes t.len v

end Sys2Proof.Machine
end

