-- ==== Sys2Proof/Machine/Tally.lean ====
section
/-! DEFINITION. Tally.lean: the event recorder (ch. 15): records and their snapshots, token buckets, the RAM
ring, the persistent tier, the last-resort slots, EVENT_N. -/

namespace Sys2Proof.Machine

/-- Tally forms records: it has SUPCLK, is not restarting, and the boot sequence has come to step 4. -/
def tallyRuns (s : State) : Bool :=
  s.clk.supclk && s.life.power != .off && !s.tally.restarting && (s.life.power != .boot || (s.life.booting && !s.life.noImage))

/-! ### Records (R362, R367) -/

/-- The 32 words of a record (Table 15.1). -/
def recordWords (r : Record) : List Word :=
  let w0 := 2 ^ 24 + b2n r.persistent * 2 ^ 23 + b2n r.lastResort * 2 ^ 22 + b2n r.wallUnset * 2 ^ 21 + b2n (r.suppressed == 65535) * 2 ^ 20 +
    b2n r.summary * 2 ^ 19 + b2n r.incomplete * 2 ^ 18 + b2n r.withheld * 2 ^ 17 + r.seq / 2 ^ 32 % 2 ^ 16
  let body := [w0, r.seq, r.pcc * 256 + r.op / 2 ^ 32, r.op, r.wall / 2 ^ 32, r.wall, r.frame / 2 ^ 32, r.frame,
      r.code * 65536 + r.source, r.suppressed * 65536 + r.snap.length * 256] ++
    (List.range 4).map (fun i => r.args.getD i 0) ++ (List.range 16).map (fun i => r.snap.getD i 0) ++ [r.seq]
  let ws := body.map (BitVec.ofNat 32)
  ws ++ [crcOut (crcWords 0xFFFFFFFF#32 ws)]

/-- Objects that only the supervisor serves (log 27). -/
def supervisorServed (idx : Nat) : Bool :=
  [0x1010, 0x1101, 0x1102, 0x1230, 0x6100, 0x6200, 0x6300, 0x6400, 0x6500].contains idx

/-- The channel of a record source of kind 2 or 3. -/
def sourceChannel (source : Nat) : Option Nat :=
  match source / 4096 with
  | 2 => some (source % 4096)
  | 3 => some (source % 4096 / 8)
  | _ => none

/-- One snapshot entry read for a record (R367): the word, or none where the object cannot be read. -/
def snapWord (s : State) (source e : Nat) : Option Nat :=
  let rel := if bit e 0 then 16 * (sourceChannel source).getD 0 else 0
  let idx := bits e 31 16 + rel
  let sub := bits e 15 8
  match dictObj idx sub with
  | none => none
  | some o =>
    if o.acc = .wo ∨ (supervisorServed idx && !s.life.sup) then none
    else
      let v := objValue s idx sub
      match o.typ with
      | .i8 | .i16 | .i32 => some (ofSigned 32 (o.typ.toInt v))
      | .oct _ | .dom => none
      | _ => some (v % 2 ^ 32)

/-- The snapshot of a record: its words, and whether one could not be read. -/
def snapshotOf (s : State) (o : Occ) : List Nat × Bool :=
  if o.code = 0x0100 then (o.snap, false)
  else
    let ws := ((listOf s o.code).filter (· != 0)).map (snapWord s o.source)
    (ws.map fun w => w.getD 0xFFFFFFFF, ws.any (·.isNone))

/-! ### Ring (R371, R374, R375) -/

/-- Pages that are usable. -/
def usablePages (s : State) : Nat := 1024 - s.tally.excluded.length

/-- The slot the next record takes: the given one, or the first of the next page that is not excluded. -/
def usableSlot (excluded : List Nat) : Nat → Nat → Option Nat
  | 0, _ => none
  | n + 1, i => if excluded.contains (i / 32) then usableSlot excluded n ((i / 32 + 1) % 1024 * 32) else some i

/-- A record formed (R363): sequence and operating time are taken now. -/
def formRecord (s : State) (o : Occ) (summary : Bool) : State :=
  let snap := snapshotOf s o
  let last := o.code == 0x0003 || decide (usablePages s < 64)
  let persistent := persistentCodes.contains o.code || o.force
  let r : Record := {
    seq := s.tally.next, pcc := s.tally.pcc, op := opMs s, wall := wallWord s, frame := o.frame, code := o.code, source := o.source,
    suppressed := (getCode s o.code).pending, args := o.args.take 4, snap := snap.1.take 16, persistent, lastResort := last,
    wallUnset := !s.tally.wallSet, summary, incomplete := snap.2 }
  let s := modCode s o.code fun c => { c with pending := 0 }
  let t := s.tally
  let t := { t with next := (t.next + 1) % 2 ^ 48 }
  let t := match usableSlot t.excluded 1025 t.slot with
    | some i => { t with ring := smSet {} t.ring i r, slot := (i + 1) % 32768 }
    | none => t
  let t := if last then { t with lastResort := (t.lastResort ++ [r]).drop (t.lastResort.length + 1 - 16) } else t
  let t := if persistent then { t with toWrite := t.toWrite ++ [r], event := true, eventAt := s.time } else t
  let s := { s with tally := t }
  if last then faultEvent s 298 else s

/-- One token drawn from a code's bucket. -/
def drawToken (s : State) (code : Nat) : State :=
  let n := tokensOf s code
  modCode s code fun c => { c with tokens := some (n - 1), refillAt := if n = burstOf s code then s.time else c.refillAt }

/-- A change of bursts: a bucket keeps its tokens, up to the new burst, and one that was full and has room now fills from
this instant. -/
def burstChange (s : State) (codes : List Nat) (change : State → State) : State :=
  forEach codes (change s) fun t code =>
    let n := tokensOf s code
    let b := burstOf t code
    modCode t code fun c =>
      { c with tokens := if b ≤ n then none else some n, refillAt := if n = burstOf s code ∧ n < b then s.time else c.refillAt }

/-- RECORD_FORM (R363, R370): the oldest occurrence forms its record, or is suppressed. -/
def execRecordForm (s : State) : Host.Outcome State Fault Refusal :=
  match s.tally.queue with
  | [] => .next s
  | o :: rest =>
    if !tallyRuns s then .next s
    else
      let s := { s with tally := { s.tally with queue := rest } }
      if unlimitedCodes.contains o.code then .next (formRecord s o false)
      else if 0 < tokensOf s o.code then
        .next (modCode (formRecord (drawToken s o.code) o false) o.code fun c => { c with lastAt := s.time })
      else .next (suppressOcc s o)

/-- TOKEN_REFILL (R370). -/
def execTokenRefill (code : Nat) (s : State) : Host.Outcome State Fault Refusal :=
  let c := getCode s code
  let n := tokensOf s code + 1
  if burstOf s code < n ∨ !elapsedMs s c.refillAt (refillOf s code) then .next s
  else .next (modCode s code fun c =>
    { c with tokens := if n = burstOf s code then none else some n, refillAt := c.refillAt + refillOf s code * msUnits })

/-- SUMMARY_RECORD (R370): source, arguments and frame of the last refused occurrence. -/
def execSummaryRecord (code : Nat) (s : State) : Host.Outcome State Fault Refusal :=
  let c := getCode s code
  let free := unlimitedCodes.contains code
  match c.last with
  | none => .next s
  | some o =>
    if !tallyRuns s || c.pending == 0 || (!free && tokensOf s code == 0) || !elapsedMs s c.lastAt 1000 then .next s
    else
      let s := if free then s else drawToken s code
      let s := formRecord s o true
      .next (modCode { s with tally := { s.tally with summaries := inc32 s.tally.summaries } } code fun c => { c with last := none })

/-- EVENT_N_PULSE_END (R450): 2.0 µs after the latest persistent record's formation. -/
def execEventNPulseEnd (s : State) : Host.Outcome State Fault Refusal :=
  if s.tally.event && decide (s.tally.eventAt + 2 * usUnits ≤ s.time) then .next { s with tally := { s.tally with event := false } }
  else .next s

/-! ### Persistent tier (R364, R372, R373) -/

/-- A record appended to the log; a full log loses its oldest sector's 32 records first. -/
def logAppend (log : List Record) (r : Record) : List Record := (if 65536 ≤ log.length then log.drop 32 else log) ++ [r]

/-- The record in the ring marked as not written to the persistent tier: flag [17] (R373). Its copy in a last-resort slot
does not change (R377). -/
def markWithheld (s : State) (seq : Nat) : State :=
  let mark (r : Record) : Record := if r.seq = seq then { r with withheld := true } else r
  { s with tally := { s.tally with ring := s.tally.ring.map fun e => (e.1, mark e.2) } }

/-- PERSISTENT_WRITE (R373): the oldest waiting record is written and read back; `ok` false where the write
fails or is not confirmed. Such a write counts toward the 64 of a second and sets no flag [17] (log 27). -/
def execPersistentWrite (ok : Bool) (s : State) : Host.Outcome State Fault Refusal :=
  match s.tally.toWrite with
  | [] => .next s
  | r :: rest =>
    if !tallyRuns s then .next s
    else
      let recent := s.tally.writes.filter fun t => decide (s.time < t + 1000 * msUnits)
      let s := { s with tally := { s.tally with toWrite := rest, writes := recent } }
      if 64 ≤ recent.length then
        .next (markWithheld { s with tally := { s.tally with withheld := inc32 s.tally.withheld } } r.seq)
      else
        let s := { s with tally := { s.tally with writes := s.time :: recent } }
        if ok then
          .next { s with nv := { s.nv with log := logAppend s.nv.log r }, tally := { s.tally with written := inc32 s.tally.written } }
        else
          let s := { s with tally := { s.tally with failures := inc32 s.tally.failures } }
          .next (faultEvent (tallyEvent s 0x0004 0 [r.seq / 2 ^ 32, r.seq % 2 ^ 32]) 297)

/-- A pair of counters saved: a full counter area loses its oldest sector's 256 entries first (R372, log 27). -/
def saveCounters (l : List (Nat × Nat)) (e : Nat × Nat) : List (Nat × Nat) := e :: if 4096 ≤ l.length then l.take 3840 else l

/-- The operating time saved last. -/
def savedTime (s : State) : Nat := match s.nv.counters with | c :: _ => c.2 | [] => 0

/-- OPERATING_TIME_SAVE (R364): at each multiple of 60,000 ms. -/
def execOperatingTimeSave (s : State) : Host.Outcome State Fault Refusal :=
  let v := opMs s / 60000 * 60000
  if tallyRuns s && decide (savedTime s < v) then .next { s with nv := { s.nv with counters := saveCounters s.nv.counters (s.tally.pcc, v) } }
  else .next s

/-! ### Ring parity (R371, R374) -/

/-- A ring page excluded for a parity failure: its records are lost. Records are formed whole, so none is being
written (item 4 of R374, log 27). -/
def excludePage (s : State) (page : Nat) : State :=
  if s.tally.excluded.contains page ∨ 1024 ≤ page then s
  else
    let held := (s.tally.ring.filter fun e => e.1 / 32 == page).map (·.2.seq)
    let d := drawNat s
    let s := parityFailure d.2 8 (page * 4096 + 4 * (d.1 % 1024)) 1
    let bounds : List Nat × State := match held with
      | [] => let a := drawNat s; let b := drawNat a.2; ([a.1 % 2 ^ 32, b.1 % 2 ^ 32], b.2)
      | x :: xs => ([xs.foldl min x % 2 ^ 32, xs.foldl max x % 2 ^ 32], s)
    let s := bounds.2
    let s := { s with tally := { s.tally with
      excluded := insertNat page s.tally.excluded, ring := s.tally.ring.filter fun e => e.1 / 32 != page } }
    let s := faultEvent (tallyEvent s 0x0003 0 (page :: bounds.1)) 296
    if usablePages s < 64 then faultEvent s 299 else s

/-- RING_SCAN: the next page is read; `parity` true where a word of it fails. -/
def execRingScan (parity : Bool) (s : State) : Host.Outcome State Fault Refusal :=
  if !tallyRuns s then .next s
  else
    let page := s.tally.scan
    let s := { s with tally := { s.tally with scan := (page + 1) % 1024 } }
    .next (if parity then excludePage s page else s)

/-! ### Writes of Tally objects -/

/-- 0x1700:03 Wall time (R365). -/
def wallWrite (s : State) (m v : Nat) : State :=
  let old := wallWord s
  let s := { s with tally := { s.tally with
    wallNs := ((v / 2 ^ 32 * 1000000000 + v % 2 ^ 32 : Nat) : Int), wallAt := s.time, wallSet := true }, links := { s.links with ppsRef := none } }
  tallyEvent s 0x0002 (srcField 11 m) [old / 2 ^ 32, old % 2 ^ 32, v / 2 ^ 32, v % 2 ^ 32]

/-- 0x1711:01–10 Snapshot entry of the selected code (R367). -/
def snapEntryWrite (s : State) (entry v : Nat) : Nat × State :=
  let code := cfgNat s.objs 0x1710 0
  let ok := (0, modCode s code fun c => { c with list := some ((((c.list.getD (defaultSnapshot code)) ++ List.replicate 16 0).take 16).set (entry - 1) v) })
  if code = 0x0100 then (0x03, s)
  else if v = 0 then ok
  else match dictIndex (bits v 31 16) with
  | none => (0x01, s)
  | some f => match f (bits v 15 8) with
    | none => (0x02, s)
    | some o => match o.typ with
      | .oct _ | .dom => (0x04, s)
      | _ => if bits v 7 1 ≠ 0 then (0x05, s) else ok

end Sys2Proof.Machine
end

