-- ==== Sys2Proof/Machine/Life.lean ====
section
/-! DEFINITION. Life.lean: the supervisor's stops and starts, firmware images, hardware autonomy, the
frame-die reset and the boot sequence (chs. 17 and 18). -/

namespace Sys2Proof.Machine

/-! ### Images (R405–R408) -/

/-- Is an image whole, signed, and of a security version that the fuses allow (R407, R408)? -/
def imageQualifies (s : State) (img : List Word) : Bool :=
  let l := img.length
  decide (64 ≤ l) && decide (l ≤ 1048576) && img.getD 0 0 == 0x494D4701#32 && (img.getD 3 0).toNat == l && img.getD 4 0 == 0x96000000#32 &&
  decide (s.nv.secVersion ≤ imageSecurity img) && Config.signatureOk 0 img

/-- The regions of the QSPI flash (Table 17.3). -/
inductive FlashRegion where
  | loader | bootRecord | slotA | slotB | sessions | tally
  deriving DecidableEq, Repr

/-- First and last byte address of a region. -/
def FlashRegion.span : FlashRegion → Nat × Nat
  | .loader => (0, 0x3FFFF)
  | .bootRecord => (0x40000, 0x41FFF)
  | .slotA => (0x100000, 0x4FFFFF)
  | .slotB => (0x500000, 0x8FFFFF)
  | .sessions => (0x1E00000, 0x1E0FFFF)
  | .tally => (0x1F00000, 0x27FFFFF)

/-- The boot record as each of its two copies holds it: boot slot, trial slot, trial flag and CRC-32. Table 17.3 gives no
widths: a byte for each field, PRESUMED (log 29). -/
def bootRecord (s : State) : List Byte :=
  let body := beBytes 1 s.nv.bootSlot ++ beBytes 1 (s.nv.trial.getD 0) ++ beBytes 1 (b2n s.nv.trial.isSome) ++ [0]
  body ++ beBytes 4 (crcOut (crcWords 0xFFFFFFFF#32 (wordsOfBytes body))).toNat

/-- Does the boot loader in flash verify with the Ranullen root key (R405)? -/
def loaderOk (s : State) : Bool := Config.signatureOk 3 s.nv.loader

/-- The slot the loader, itself verified, starts: the boot slot, then the other one (R405, R408). A loader that does not
verify starts none (log 29). -/
def bootChoice (s : State) : Option Nat :=
  if loaderOk s then [s.nv.bootSlot, 1 - s.nv.bootSlot].find? fun b => imageQualifies s (slotImage s b) else none

/-- An image slot's content set. -/
def setSlot (s : State) (slot : Nat) (img : List Word) : State :=
  if slot = 0 then { s with nv := { s.nv with imgA := img } } else { s with nv := { s.nv with imgB := img } }

/-- IMAGE_PROGRAMMING_COMPLETE (R407): the sealed image stands in its slot. -/
def execImageProgrammingComplete (s : State) : Host.Outcome State Fault Refusal :=
  if s.life.load ≠ 2 ∨ s.life.power = .off then .next s
  else
    let img := (List.range (smGet 0 s.life.image 3).toNat).map (smGet 0 s.life.image)
    let s := setSlot s s.life.loadSlot img
    .next { s with life := { s.life with load := 3 } }

/-! ### Starting the supervisor (R422, R425, R426) -/

/-- Source 272: an image or licence failed verification. -/
def imageFault (s : State) : State := faultEvent s 272

/-- The image a restart brings up, and whether an activated slot failed its verification: the previous image
then restarts. -/
def startImage (s : State) : Nat × Bool :=
  if s.life.autoCause = 1 then
    if imageQualifies s (slotImage s s.life.startSlot) then (s.life.startSlot, false) else (s.life.running, true)
  else (s.life.startSlot, false)

/-- SUPERVISOR_START (R422–R425, R60): a restarted supervisor takes charge and autonomy ends. -/
def execSupervisorStart (s : State) : Host.Outcome State Fault Refusal :=
  let x := s.life
  if x.sup || !x.autonomy || !s.clk.supclk || x.power == .off || (x.held && (x.autoCause == 3 || x.autoCause == 4 || x.autoCause == 5)) then .next s
  else
    let r := startImage s
    let trial := x.autoCause == 1 && !r.2
    let s := if r.2 then imageFault s else s
    let s := { s with
      life := { s.life with
        sup := true, autonomy := false, limitPassed := false, held := false, longest := max x.longest (autonomyMs s),
        starts := (x.starts + 1) % 2 ^ 32, restarts := inc32 x.restarts, running := r.1, startSlot := r.1,
        lastCause := if r.2 then 2 else x.lastCause,
        trialSt := if trial then 1 else x.trialSt, trialSince := if trial then s.time else x.trialSince },
      nv := { s.nv with trial := if trial then some r.1 else s.nv.trial },
      commit := { s.commit with st := 0, count := 0 } }
    let s := if trial then tallyEvent s 0x0C05 0 [0, 1, r.1] else s
    .next (tallyEvent s 0x0C02 0 [if x.limitPassed then 2 else 1, 0, r.1])

/-! ### Stops (Table 17.10) -/

/-- Is a supervisor running that can stop? -/
def supervisorRuns (s : State) : Bool := s.life.sup && s.life.power != .off

/-- LOCKSTEP_MISMATCH. -/
def execLockstepMismatch (s : State) : Host.Outcome State Fault Refusal :=
  if supervisorRuns s then .next (stopSupervisor (faultEvent s 268) 3) else .next s

/-- SUPERVISOR_MEMORY_PARITY (Table 1.7): a word of supervisor memory fails its parity check; the spec does not
say which. -/
def execSupervisorMemoryParity (s : State) : Host.Outcome State Fault Refusal :=
  if supervisorRuns s then
    let d := drawNat s
    .next (stopSupervisor (faultEvent (parityFailure d.2 10 (4 * (d.1 % 2097152)) 4) 269) 4)
  else .next s

/-- SUPERVISOR_WATCHDOG_MISS. -/
def execSupervisorWatchdogMiss (s : State) : Host.Outcome State Fault Refusal :=
  if supervisorRuns s then .next (stopSupervisor (faultEvent s 270) 5) else .next s

/-- TRIAL_LIMIT_EXPIRY (R426): a trial not confirmed within 0x1210:08 seconds is reverted under cause 2, be the supervisor
absent already. -/
def execTrialLimitExpiry (s : State) : Host.Outcome State Fault Refusal :=
  if trialRuns s && elapsedMs s s.life.trialSince (1000 * cfgNat s.objs 0x1210 8) && s.life.power != .off then
    let s := stopSupervisor s 2
    .next (revertTrial { s with life := { s.life with autoCause := 2, lastCause := 2 } })
  else .next s

/-- A write of 0x1210:06 (R425), its tests in the order in which the rule states them (R39). -/
def activateWrite (s : State) (v : Nat) : Nat × State :=
  if s.life.load ≠ 3 ∨ s.life.loadSlot ≠ v ∨ s.life.running = v then (0x05, s)
  else if s.commit.st = 1 ∨ s.commit.held then (0x0C, s)
  else (0, { s with life := { s.life with activateDue := some v } })

/-- A write of 0x1210:07 (R426): the trial slot becomes the boot slot, and the fuses take its security version;
with no trial there is nothing to confirm. -/
def confirmWrite (s : State) : Nat × State :=
  if !trialRuns s then (0x05, s)
  else
    let v := imageSecurity (slotImage s s.life.running)
    (0, { s with
      nv := { s.nv with bootSlot := s.life.running, trial := none, secVersion := max s.nv.secVersion v },
      life := { s.life with trialSt := 0 } })

/-- The supervisor stops at a block boundary for an accepted activation or restart request (R422, R425). -/
def dueStops (s : State) : State :=
  match s.life.activateDue with
  | some slot =>
    let s := stopSupervisor s 1
    { s with life := { s.life with startSlot := slot, activateDue := none } }
  | none => if s.life.restartDue then { stopSupervisor s 7 with life := { (stopSupervisor s 7).life with restartDue := false } } else s

/-! ### The autonomy limit (R424) -/

/-- AUTONOMY_LIMIT_EXPIRY: QUIET is entered, and source 271 is active until autonomy ends. -/
def execAutonomyLimitExpiry (s : State) : Host.Outcome State Fault Refusal :=
  let x := s.life
  if x.autonomy && !x.limitPassed && x.power != .off && elapsedMs s x.autoSince (1000 * cfgNat s.objs 0x1220 1) then
    .next (enterQuiet { s with life := { s.life with limitPassed := true } })
  else .next s

/-! ### Frame-die reset (R429, R431, Table 18.3) -/

/-- The frame die in reset: fuses, flash and the security block's keys are kept; pins, oscillators and
comparators are outside it, but FRAME_SYNC_OUT is driven low (R452); every other object and register is at its default. -/
def dieReset (s : State) (power : Power) (cause : Nat) : State :=
  { ({} : State) with
    time := s.time, out := s.out, free := s.free, pending := s.pending, pins := { s.pins with syncOut := false }, nv := s.nv,
    clk := { refclk := s.clk.refclk, supclk := s.clk.supclk, core := s.clk.refclk },
    flt := { lines := s.flt.lines.filter fun e => e.1 == 275 },
    cap := { fitted := s.cap.fitted, ranks := s.cap.ranks, ddrFailed := s.cap.ddrFailed },
    therm := { zones := s.therm.zones.foldl (fun m e => if e.2.tripped then smSet {} m e.1 { tripped := true } else m) [] },
    life := { power, prev := power, resetCause := cause } }

/-- The entries of a list whose places are not among some. -/
def goodOnes {α : Type} (l : List α) (bad : List Nat) : List α := (l.zipIdx.filter fun e => !bad.contains e.2).map (·.1)

/-- Tally restores its counters (R364, R372): power-cycle count, operating time and the status of argument 1. -/
def restoredCounters (s : State) (flash : BootFlash) : Nat × Nat × Nat :=
  if !flash.answers then (0, 0, 2)
  else match goodOnes s.nv.counters flash.badEntries with
  | (p, t) :: _ => (p, t, 0)
  | [] =>
    let log := goodOnes s.nv.log flash.badRecords
    if log.isEmpty then (0, 0, 3)
    else ((log.map (·.pcc)).foldl max 0, (log.map (·.op)).foldl max 0, 1)

/-- Did the previous power cycle end with the frame-die zone shut down (R369)? -/
def endedShut (log : List Record) (pcc : Nat) : Bool :=
  (log.filter fun r => r.pcc == pcc && r.source == srcField 10 0).foldl
    (fun shut r => if r.code = 0x0B01 then true else if r.code = 0x0B02 then false else shut) false

/-- Step 4: the counters are restored and saved, code 0x0001 is the first record (R364, R369) and the change from OFF to BOOT
the next (R409); of the ring's pages those that fail their test are excluded (R374). -/
def startTally (s : State) (flash : BootFlash) : State :=
  let c := restoredCounters s flash
  let cause := if c.2.2 < 2 && endedShut (goodOnes s.nv.log flash.badRecords) c.1 then 3 else s.life.resetCause
  let pcc := min 16777215 (c.1 + 1)
  let s := { s with
    tally := { s.tally with pcc, opBase := c.2.1, opAt := s.time, queue := [], excluded := flash.badPages.foldl (fun l p => insertNat p l) [] },
    nv := { s.nv with counters := if flash.answers then saveCounters s.nv.counters (pcc, c.2.1) else s.nv.counters } }
  let s := tallyEvent s 0x0001 0 [cause, c.2.2, c.2.1 / 2 ^ 32, c.2.1 % 2 ^ 32]
  tallyEvent s 0x0C00 0 [powerCode .off, powerCode .boot]

/-- What the flash and the RAM show at a reset whose command does not carry it: free (log 4). -/
def freeFlash (s : State) : BootFlash × State :=
  let bit_ (i : Nat) : Bool := Config.freeValue (s.free + i) % 2 == 1
  let n := s.nv.counters.length
  let m := s.nv.log.length
  ({ answers := bit_ 0, badEntries := (List.range n).filter fun i => bit_ (1 + i), badRecords := (List.range m).filter fun i => bit_ (1 + n + i),
     badPages := (List.range 1024).filter fun i => bit_ (1 + n + m + i) }, { s with free := s.free + (1025 + n + m) })

/-- The lifecycle a reset brings into force; the first reset in RETURNED erases the keys of R404. -/
def bootLifecycle (s : State) : State :=
  let first := s.nv.burned == 3 && s.nv.lifecycle != 3
  let s := { s with nv := { s.nv with lifecycle := s.nv.burned, trial := none } }
  if first then { s with nv := { s.nv with olpKeys := [], obsKey := [], svcKey := [] } } else s

/-- Steps 1 to 5 of Table 18.2, but for the first thermal reading: the boot chain, the supervisor, Tally, the
licence shadow and the Sentinel's copy; the capture ring is formed (R339). With no image that qualifies the device stays in
BOOT (R408); its reset is counted all the same (R364). -/
def bootStart (s : State) (flash : BootFlash) : State :=
  let s := formRing (bootLifecycle s)
  let s := { s with life := { s.life with power := .boot, prev := .boot, booting := true } }
  let s := if s.pins.muteN then s else addMute s .muteN .device
  let s := setThermGates s
  match bootChoice s with
  | none => startTally { s with life := { s.life with noImage := true } } flash
  | some slot =>
    let s := { s with life := { s.life with sup := true, running := slot, startSlot := slot, starts := (s.life.starts + 1) % 2 ^ 32 } }
    let s := bootShadow (startTally s flash)
    { s with sent := { s.sent with copy := genRecords s (sealedGen s), copyGen := sealedGen s } }

/-- RESET_N_ASSERT (R429): a low level of `lowNs` ns; 200 ns to 1 µs acts or is ignored. Cause 1 is RESET_N held low for
1 µs or more (R369). -/
def execResetNAssert (lowNs : Nat) (s : State) : Host.Outcome State Fault Refusal :=
  let act (s : State) (cause : Nat) : State := dieReset { s with pins := { s.pins with resetN := false } } .off cause
  if lowNs < 200 then .next s
  else if lowNs < 1000 then (let d := drawBool s; .next (if d.1 then act d.2 0 else d.2))
  else .next (act s 1)

/-- SUPPLY_MONITOR_RESET (R429). -/
def execSupplyMonitorReset (s : State) : Host.Outcome State Fault Refusal :=
  .next (dieReset { s with pins := { s.pins with supplies := false } } .off 0)

/-- RESET_N_RELEASE (R430): RESET_N rises with the supplies valid, and the boot sequence begins. -/
def execResetNRelease (flash : BootFlash) (s : State) : Host.Outcome State Fault Refusal :=
  if s.life.power = .off ∨ (s.life.power = .boot ∧ !s.life.booting) then
    .next (bootStart { s with pins := { s.pins with resetN := true, supplies := true } } flash)
  else .next s

/-- AUTONOMY_WATCHDOG_RESET (R424): the supervisor has stayed absent 600 s beyond the limit. -/
def execAutonomyWatchdogReset (s : State) : Host.Outcome State Fault Refusal :=
  let x := s.life
  if x.autonomy && x.limitPassed && x.power != .off && cfgBool s.objs 0x1220 3 && s.clk.supclk &&
      elapsedMs s x.autoSince (1000 * cfgNat s.objs 0x1220 1 + 600000) then
    let f := freeFlash (dieReset s .boot 2)
    .next (bootStart f.2 f.1)
  else .next s

/-! ### BOOT to HOLD (R394, R410, R430 steps 6 to 8) -/

/-- Has the frame-die zone been read? -/
def zoneRead (s : State) (z : Nat) : Bool := (getZone s z).noValid || (getZone s z).valid != 0

/-- BOOT_COMPLETE: HOLD, or SAFE where a cause was held, or SHUTDOWN where the frame-die zone reads above its
release level. -/
def execBootComplete (s : State) : Host.Outcome State Fault Refusal :=
  if s.life.power != .boot || !s.life.booting || !s.life.sup || !coreRuns s || !zoneRead s 0 ||
      (List.range 6).any (fun r => (getRod s r).powered && (getRod s r).cal == 1) then .next s
  else if (getZone s 0).shut || decide (releaseLevel s.objs 0 < (getZone s 0).temp) then
    let s := { s with life := { s.life with booting := false } }
    .next (zoneRecord (shutZone s 0) 0x0B01 0 2)
  else
    let held := s.life.heldSafe
    let s := changePower { s with life := { s.life with booting := false, heldSafe := none } } .hold
    .next (match held with | some c => enterSafe s c | none => s)

/-- SHUTDOWN has passed to HOLD (R393), and its rods have calibrated: the device returns to the state it left,
to SERVE subject to R27. With a lifecycle pending or boundary scan enabled it stays in HOLD (R403, R421). -/
def shutdownReturn (s : State) : State :=
  match s.life.shutFrom with
  | none => s
  | some p =>
    if s.life.power != .hold || (List.range 6).any (fun r => (getRod s r).cal == 1) then s
    else if p != .safe && (s.nv.burned != s.nv.lifecycle || s.life.scan) then s
    else
      let s := forEach (List.range 6) { s with life := { s.life with shutFrom := none } } restartDwell
      match p with
      | .safe => changePower s .safe
      | .quiet => changePower s .quiet
      | .serve => if partsPresent s && !serviceSources.any (sticky s) then changePower s .serve else s
      | _ => s

end Sys2Proof.Machine
end

