-- ==== Sys2Proof/Machine/BulkWindows.lean ====
section
/-! DEFINITION. BulkWindows.lean: the DOMAIN windows 0x6100–0x6500, numbered 0–4: claims, selectors, cursors,
words moved and CRC confirms (R61–R63, R104–R106, R216, R267, R268, R333, R376, R377, R407). -/

namespace Sys2Proof.Machine

/-- The selector value that releases a window (R61). -/
def releaseSel : Nat := 0xFFFFFFFF

/-- Is the window claimed by another manager? -/
def windowBusy (s : State) (m w : Nat) : Bool := match (getWindow s w).claim with | some h => h != m | none => false

/-- An operation of the holder on its window (R61). -/
def touchWindow (s : State) (m w : Nat) : State :=
  if (getWindow s w).claim = some m then modWindow s w fun x => { x with claimAt := s.time } else s

/-- May a window take a selector? -/
def selectorOk (s : State) (w v : Nat) : Bool :=
  match w with
  | 0 => decide (v < 1536)
  | 1 => v == 0
  | 2 => decide (v ≤ 2)
  | 3 => v == 0 || (decide (0x100 ≤ v) && decide (v < 0x110) && ((getMark s (v - 0x100)).st == 3 || (getMark s (v - 0x100)).st == 5))
  | _ => decide (v ≤ 1) || (decide (0x101 ≤ v) && decide (v ≤ 0x104))

/-- A transfer that begins anew: the running CRC, the counts and the status. -/
def restartTransfer (x : Window) (fromZero : Bool) : Window :=
  { x with offset := 0, crc := 0xFFFFFFFF#32, moved := 0, written := 0, fromZero, st := 0 }

/-- A free window is claimed by manager `m`. -/
def takeClaim (s : State) (m w : Nat) : State :=
  if (getWindow s w).claim.isNone then modWindow s w fun x => { x with claim := some m, claimAt := s.time } else s

/-- A write of W:01. -/
def selectorWrite (s : State) (m w v : Nat) : Nat × State :=
  if windowBusy s m w then (0x0C, s)
  else if v ≠ releaseSel ∧ !selectorOk s w v then (0x05, s)
  else (0, modWindow (takeClaim s m w) w fun x => restartTransfer { x with sel := v, cursor := 0 } false)

/-- A write of W:02. -/
def cursorWrite (s : State) (m w v : Nat) : Nat × State :=
  if windowBusy s m w then (0x0C, s)
  else (0, modWindow (takeClaim s m w) w fun x =>
    restartTransfer { x with cursor := v, claim := if x.sel = releaseSel then none else x.claim } (v == 0))

/-- WINDOW_CLAIM_TIMEOUT (R61): 5 s without an operation of the holder. -/
def execWindowClaimTimeout (w : Nat) (s : State) : Host.Outcome State Fault Refusal :=
  if (getWindow s w).claim.isSome && elapsedMs s (getWindow s w).claimAt 5000 then .next (modWindow s w fun x => { x with claim := none })
  else .next s

/-! ### Words of the items -/

/-- The eight words of a Ledger entry (Table 9.2). -/
def ledgerWords (s : State) (i : Nat) : List Nat :=
  let e := getEntry s i
  let listed := (donorSides s.objs).any fun g =>
    (cellsOf s g).any (fun c => c.1 == i) && ((boundRecord s s.objs g).map fun r => allowed r e).getD false
  if !e.valid then List.replicate 8 0
  else
    [2 ^ 31 + b2n e.pinned * 2 ^ 30 + b2n ((servingEntries s).contains i) * 2 ^ 29 + b2n listed * 2 ^ 28 + e.rat * 2 ^ 26 + b2n e.tdd * 2 ^ 25 +
       b2n ((trackedCells s (e.ch / 16)).contains i) * 2 ^ 24 + e.ch * 2 ^ 17 + e.pci,
     e.freq, ofSigned 16 e.rsrp * 65536 + ofSigned 16 e.sinr, e.timing, e.first % 2 ^ 32, e.last % 2 ^ 32,
     e.first / 2 ^ 32 * 2 ^ 24 + e.last / 2 ^ 32 * 65536 + e.detections, e.ssb * 2 ^ 24]

/-- A word of the selected item of windows 0, 1, 3 and 4. -/
def itemWord (s : State) (w i : Nat) : Word :=
  let sel := (getWindow s w).sel
  match w with
  | 0 => smGet 0 (bankOf (getSlot s (sel / 2)) (sel % 2)).words i
  | 1 => BitVec.ofNat 32 ((ledgerWords s (i / 8)).getD (i % 8) 0)
  | 3 =>
    let first := if sel = 0 then 0 else (getMark s (sel - 0x100)).guard
    (smGet [] s.cap.ring ((first + i / 1024) % max 1 (ringPages s))).getD (i % 1024) 0
  | _ =>
    if 1 < sel then smGet 0 s.lic.image i
    else if s.life.loadSlot = sel ∧ s.life.image ≠ [] then smGet 0 s.life.image i
    else (slotImage s sel).getD i 0

/-- Words moved through a window. -/
def noteMoved (s : State) (w : Nat) (ws : List Word) (wrote : Bool) : State :=
  modWindow s w fun x => { x with
    cursor := x.cursor + ws.length, moved := x.moved + ws.length, written := if wrote then x.written + ws.length else x.written,
    crc := crcWords x.crc ws, st := 1 }

/-! ### The Tally window (R376, R377) -/

/-- Does the ring hold the record with a sequence number? -/
def ringRecord (s : State) (q : Nat) : Option Record := (s.tally.ring.find? fun e => e.2.seq == q).map (·.2)

/-- The first record held at or after a sequence number. -/
def nextHeld (s : State) (q : Nat) : Nat :=
  s.tally.ring.foldl (fun m e => if q ≤ e.2.seq then min m e.2.seq else m) s.tally.next

/-- A record of the selected store by cursor. -/
def storeRecord (s : State) (sel q : Nat) : Option Record :=
  match sel with
  | 0 => ringRecord s q
  | 1 => s.nv.log[q]?
  | _ => s.tally.lastResort[q]?

/-- `n` words from a record and word offset on, and where they end; a lost record of the ring is passed over. -/
def tallyWords (s : State) (sel : Nat) : Nat → Nat → Nat → List Word → List Word × Nat × Nat
  | 0, q, off, acc => (acc.reverse, q, off)
  | n + 1, q, off, acc =>
    let q := if sel = 0 ∧ off = 0 then nextHeld s q else q
    let x := ((storeRecord s sel q).map fun r => (recordWords r).getD off 0).getD 0
    if off = 31 then tallyWords s sel n (q + 1) 0 (x :: acc) else tallyWords s sel n q (off + 1) (x :: acc)

/-- A read of `n` words of the Tally window. -/
def tallyRead (s : State) (n : Nat) : Nat × List Word × State :=
  let x := getWindow s 2
  let lost := x.sel == 0 && decide (x.cursor < s.tally.next) && (ringRecord s x.cursor).isNone
  if lost then
    let nxt := nextHeld s x.cursor
    (0x05, [], modWindow { s with tally := { s.tally with overtaken := inc32 s.tally.overtaken } } 2 fun x => { x with cursor := nxt, offset := 0, st := 4 })
  else if windowLength s 2 * 32 < x.cursor * 32 + x.offset + n then (0x05, [], s)
  else
    let r := tallyWords s x.sel n x.cursor x.offset []
    if windowLength s 2 * 32 < r.2.1 * 32 + r.2.2 then (0x05, [], s)
    else (0, r.1, modWindow s 2 fun x => { x with
      cursor := r.2.1, offset := r.2.2, moved := x.moved + n, crc := crcWords x.crc r.1, st := 1 })

/-! ### Data (R62, R105, R407) -/

/-- A read of `n` words from W:03, 1–256. -/
def dataRead (s : State) (m w n : Nat) : Nat × List Word × State :=
  let x := getWindow s w
  if windowBusy s m w then (0x0C, [], s)
  else if x.sel = releaseSel then (0x05, [], s)
  else if w = 2 then tallyRead s n
  else if w = 3 ∧ x.sel ≠ 0 ∧ !selectorOk s 3 x.sel then (0x05, [], modWindow s w fun x => { x with st := 4 })
  else if windowLength s w < x.cursor + n then (0x05, [], s)
  else
    let ws := (List.range n).map fun i => itemWord s w (x.cursor + i)
    (0, ws, noteMoved s w ws false)

/-- May the words of a bank not be written now (R105)? -/
def bankHeld (x : SlotPath) (b : Nat) : Bool := x.holds == b || x.xf.isSome || x.pendSwap == some b

/-- Words put into a table of words from a position on. -/
def putWords (m : List (Nat × Word)) (i : Nat) (ws : List Word) : List (Nat × Word) :=
  (ws.zipIdx i).foldl (fun m e => smSet 0 m e.2 e.1) m

/-- One bank of a slot changed. -/
def modBank (s : State) (g b : Nat) (f : Bank → Bank) : State :=
  modSlot s g fun x => if b = 0 then { x with bankA := f x.bankA } else { x with bankB := f x.bankB }

/-- A write of W:03 (windows 0 and 4). -/
def dataWrite (s : State) (m w : Nat) (ws : List Word) : Nat × State :=
  let x := getWindow s w
  if windowBusy s m w then (0x0C, s)
  else if x.sel = releaseSel then (0x05, s)
  else if w = 0 ∧ bankHeld (getSlot s (x.sel / 2)) (x.sel % 2) then (0x0C, s)
  else if w = 4 ∧ x.sel ≤ 1 ∧ (s.life.running = x.sel ∨ s.life.load = 2) then (0x0C, s)
  else if windowLength s w < x.cursor + ws.length then (0x05, s)
  else
    let s := noteMoved s w ws true
    if w = 0 then (0, modBank s (x.sel / 2) (x.sel % 2) fun b => { b with words := putWords b.words x.cursor ws, sealed := false })
    else if 1 < x.sel then (0, { s with lic := { s.lic with image := putWords s.lic.image x.cursor ws } })
    else
      let old := if s.life.loadSlot = x.sel then s.life.image else []
      (0, { s with life := { s.life with image := putWords old x.cursor ws, loadSlot := x.sel, load := 0 } })

/-! ### CRC confirms (R63, R106, R268, R407) -/

/-- May the bank written through the window be sealed (R106)? The number of coefficients is taken from the header that
stands in word 0 and the words written are counted, also where the transfer read a word in place of writing it:
DESIGN CHOICE, unsafe, the spec speaks only of a header written as word 0 (log 39). -/
def bankSealable (x : Window) (b : Bank) : Bool :=
  let h := (smGet 0 b.words 0).toNat
  x.fromZero && hdrValid h && x.written == 1 + hdrCoefs h &&
  (List.range (hdrCoefs h)).all fun i => bits (smGet 0 b.words (i + 1)).toNat 13 0 == 0

/-- May the image written through the window be programmed (R407)? -/
def imageSealable (s : State) (x : Window) : Bool :=
  let l := (smGet 0 s.life.image 3).toNat
  s.life.loadSlot == x.sel && x.cursor == x.moved && x.written == l && decide (l ≤ 1048576) &&
  imageQualifies s ((List.range l).map (smGet 0 s.life.image))

/-- A CRC that does not match. -/
def crcMismatch (s : State) (w : Nat) : Nat × State := (0x0B, modWindow s w fun x => { x with st := 3 })

/-- The content is sealed. -/
def windowSealed (s : State) (w : Nat) : State := modWindow s w fun x => { x with st := 2 }

/-- A write of W:04. `event` is what the environment does to an image: a licence's read-back equals it, or no
word of the image staging fails its parity check. -/
def crcConfirm (s : State) (m w : Nat) (crc : BitVec 32) (event : Bool) : Nat × State :=
  let x := getWindow s w
  if windowBusy s m w then (0x0C, s)
  else if x.sel = releaseSel then (0x05, s)
  else if w = 0 ∧ !bankSealable x (bankOf (getSlot s (x.sel / 2)) (x.sel % 2)) then (0x05, s)
  else if w = 4 ∧ x.sel ≤ 1 ∧ s.life.running = x.sel then (0x0C, s)
  else if crcOut x.crc ≠ crc then crcMismatch s w
  else if w = 0 then
    (0, modBank (windowSealed s w) (x.sel / 2) (x.sel % 2) fun b => { b with header := smGet 0 b.words 0, sealed := true })
  else if w ≠ 4 then (0, windowSealed s w)
  else if 1 < x.sel then
    let r := burnLicence s (x.sel - 0x100) event
    (r.1, if r.1 = 0 then windowSealed r.2 w else r.2)
  else
    let d := drawNat s
    let s := if event then s else parityFailure d.2 11 (4 * (d.1 % 1048576)) 1
    if event && imageSealable s x then
      let s := setSlot (windowSealed s w) x.sel []
      (0, { s with life := { s.life with load := 2 } })
    else (0x05, imageFault { s with life := { s.life with load := 4 } })

end Sys2Proof.Machine
end

