-- ==== Sys2Proof/Machine/Governor.lean ====
section
/-! DEFINITION. Governor.lean: GOVERNOR_TICK (ch. 8): oscillation detection, input levels, the licence and
network-protection caps, one action of Table 8.1 per loop, and the figures shown until the next tick. -/

namespace Sys2Proof.Machine

/-! ### Oscillation detection (R199, R200) -/

/-- Samples of one segment of a side's spectrum: enough to tell bins of B/128 apart at the carrier rate, at most the
1,024 that an unskipped interval has (R199, log 42). -/
def segLength (cfg : SMap Nat) (g : Nat) : Nat :=
  let b := bandwidth cfg g
  if b = 0 then 1024 else min 1024 ((128 * 245760 + b * 2 ^ kOf cfg g - 1) / (b * 2 ^ kOf cfg g))

/-- Phase step of bin `i` per carrier sample: its centre, (2i − 127)/256 of the occupied bandwidth. -/
def binStep (cfg : SMap Nat) (g i : Nat) : BitVec 32 :=
  ncoWord (roundDiv ((2 * (i : Int) - 127) * bandwidth cfg g * 2 ^ kOf cfg g * 2 ^ 32) (256 * 245760))

/-- The spectrum takes one usable sample: every bin's sum moves on, and a full segment joins the bins (R199). -/
def specStep (cfg : SMap Nat) (g : Nat) (x : SpecAcc) (y : Smp) : SpecAcc :=
  let seg := (List.range 128).map fun i =>
    let p := phaseAfter 0 (binStep cfg g i) x.segCount
    let a := x.seg.getD i (0, 0)
    (a.1 + y.re * cosOf p + y.im * sinOf p, a.2 + y.im * cosOf p - y.re * sinOf p)
  if x.segCount + 1 < segLength cfg g then { x with count := x.count + 1, segCount := x.segCount + 1, seg }
  else
    { count := x.count + 1, segs := x.segs + 1, segCount := 0, seg := []
      bins := (List.range 128).map fun i =>
        let a := seg.getD i (0, 0)
        x.bins.getD i 0 + (a.1 * a.1 + a.2 * a.2).toNat }

/-- Receive sides of every route in use (R199). -/
def watchedSides (cfg : SMap Nat) : List Nat := (routesInUse cfg).flatMap (loopRx cfg)

/-- The spectra take the carrier-slot output of this frame's blocks. -/
def spectraFrame (s : State) : State :=
  forEach (watchedSides s.objs) s fun s g =>
    let ys := (getSlot s g).rxHold.filter usable
    if ys.isEmpty then s else modSlot s g fun x => { x with spec := ys.foldl (specStep s.objs g) x.spec }

/-- Level of one bin of an interval: its mean power over the segments. -/
def binLevel (x : SpecAcc) (i : Nat) : Nat := x.bins.getD i 0 / max 1 x.segs

/-- Is a level 20.00 dB or more above the mean of all bins? -/
def standsOut (bins : List Nat) (p : Nat) : Bool :=
  decide (0 < sumMap bins id) && decide (100 * sumMap bins id ≤ p * bins.length)

/-- Has a level risen by at least 0.25 dB? -/
def risen (new old : Nat) : Bool := decide (old * powRatio 25 ≤ new * 2 ^ 64)

/-- A run of intervals after one more: the level stands out, and from the second interval on it has risen. -/
def runAfter (bins : List Nat) (run new old : Nat) : Nat :=
  if !standsOut bins new then 0 else if run = 0 || !risen new old then 1 else run + 1

/-- One interval of one side's detector (R199, R200): skipped with fewer than 1,024 usable samples. A bin stands out by
its own level, two adjacent ones by their sum. -/
def oscStep (o : Osc) (x : SpecAcc) : Osc :=
  if x.count < 1024 then o
  else
    let bins := (List.range 128).map (binLevel x)
    let pair (l : List Nat) (i : Nat) : Nat := l.getD i 0 + l.getD (i + 1) 0
    let runs := (List.range 128).map fun i => runAfter bins (o.runs.getD i 0) (bins.getD i 0) (o.prev.getD i 0)
    let pairRuns := (List.range 127).map fun i => runAfter bins (o.pairRuns.getD i 0) (pair bins i) (pair o.prev i)
    let clear := !bins.any (standsOut bins)
    { flag := (runs ++ pairRuns).any (fun n => decide (5 ≤ n)) || (o.flag && !clear), prev := bins, runs, pairRuns }

/-- The detectors of a tick; a flag that sets is recorded and fires its marks, a side no longer of a route
forgets its run. -/
def detectOsc (s : State) : State :=
  let sides := watchedSides s.objs
  let s := forEach ((s.gains.filter fun e => e.2.osc != {} && !sides.contains e.1).map (·.1)) s fun s g => modGain s g fun x => { x with osc := {} }
  forEach sides s fun s g =>
    let before := oscFlag s g
    let sp := (getSlot s g).spec
    let s := modGain s g fun x => { x with osc := oscStep x.osc sp }
    let s := if sp = {} then s else modSlot s g fun x => { x with spec := {} }
    if oscFlag s g && !before then
      let r := (routeOfRx s.objs g).getD 0
      let l := getLoop s r
      let s := tallyEvent s 0x0505 (srcField 5 r) [argI l.margin, argI l.dcr, argI (effDb (l.gov.getD noCap)), 1]
      fireMarks s 3 fun a => bits a 9 0 == g
    else s

/-! ### Input levels and caps (R202, R224) -/

/-- P_in of the tick interval from its sums; an interval without usable samples keeps the value. -/
def measureInputs (s : State) : State :=
  let s := forEach ((s.gains.filter fun e => e.2.inCnt != 0).map (·.1)) s fun s g => modGain s g fun x =>
    { x with pin := some (clip16 (dbOf x.inSum (x.inCnt * 2 ^ 30))), inSum := 0, inCnt := 0 }
  forEach s.gov.streamSum { s with gov := { s.gov with streamSum := [] } } fun s e =>
    if e.2.2 = 0 then s
    else
      let lv := clip16 (dbOf e.2.1 (e.2.2 * 2 ^ 30))
      { s with gov := { s.gov with streamFloor := smMod [] s.gov.streamFloor e.1 fun l =>
          (s.gov.tick, lv) :: l.filter fun x => decide (s.gov.tick < x.1 + 10000) && decide (x.2 < lv) } }

/-- The licence value of one side before its channel's total: maximum gain, and output less input (R202). -/
def licOwn (s : State) (g : Nat) (rec : List Word) : Int :=
  match inputLevel s g with
  | none => recMaxGain rec
  | some p => min (recMaxGain rec) (recMaxCarrier rec - p - 50)

/-- Licence caps of a channel (R202), for the sides that `who` takes in. -/
def licenceCapsFor (s : State) (ch : Nat) (who : Nat → Bool) : State :=
  let sides := (chanSlots ch).filter (txActive s.objs)
  let recs := sides.filterMap fun g => (boundRecord s s.objs g).map fun r => (g, r)
  let total := sumMap sides fun g =>
    match inputLevel s g, (getGain s g).eff with
    | some p, some e => powRatio (p + effDb e)
    | _, _ => 0
  let least := (recs.map fun x => recMaxTotal x.2).foldl min 32767
  let excess : Int := if total = 0 then 0 else max 0 (dbOfPow total - (least - 50))
  let s := forEach (recs.filter fun x => who x.1) s fun s x => modGain s x.1 fun y => { y with licCap := clip16 (licOwn s x.1 x.2 - excess) }
  forEach ((chanSlots ch).filter fun g => who g && (getGain s g).licCap != 32767 && !(recs.any fun x => x.1 == g)) s fun s g =>
    modGain s g fun y => { y with licCap := 32767 }

/-- Licence caps of a channel at a tick. -/
def licenceCaps (s : State) (ch : Nat) : State := licenceCapsFor s ch fun _ => true

/-- A transmit side that a commit makes active carries its licence cap from the commit boundary on. -/
def licenceCommit (old : SMap Nat) (s : State) : State :=
  let new := (txSlots s.objs).filter fun g => !txActive old g
  forEach new s fun s g => licenceCapsFor s (g / 8) (· == g)

/-! ### Actions (Table 8.1, R193–R198) -/

/-- The least of a side's caps other than the governor's, the thermal cap taken below those (log 17). -/
def otherCaps (s : State) (g : Nat) : Int :=
  leastCap (((capsOf s g).set 2 noCap).set 4 noCap) - sideReduction s (g / 128) * 10240

/-- Row 6: held, and released where it is not below the least of the other caps of every side (R194). -/
def releasable (s : State) (r : Nat) (v : Int) : Bool := (loopTx s.objs r).all fun g => decide (otherCaps s g ≤ v)

/-- The action of a loop that is not muted. -/
def loopAct (s : State) (r : Nat) (e : Eval) : State :=
  let osc := (loopRx s.objs r).any (oscFlag s)
  if osc then loopMute s r 1 e
  else match e.m with
  | none => modLoop s r fun l => { l with comfort := none, slew := 0, st := 1 }
  | some m =>
    let now := s.gov.tick
    let s := modLoop s r fun l => { l with comfort := if m ≥ e.mt + 200 then some (l.comfort.getD now) else none }
    let l := getLoop s r
    let restart := e.restart * 10240
    if heldByOthers s r then
      modLoop s r fun l => { l with gov := some (match l.gov with | some v => min v restart | none => restart), slew := 0, st := 1 }
    else if m < 300 then loopMute s r 2 e
    else if m < e.mt - 600 then
      let s := modLoop s r fun l => { l with gov := e.gl.map fun v => v - 600 * 10240, slew := 0, st := 3 }
      let s := forEach (loopTx s.objs r) s fun s g => modGain s g fun x => { x with steps := x.steps + 1 }
      loopRecord s r 0x0500 e 3
    else if m < e.mt then
      if l.slew < 0 then s
      else
        let s := modLoop s r fun l => { l with gov := e.gl, slew := -1, st := 2 }
        loopRecord s r 0x0501 e 4
    else if l.gov.isSome && (match l.comfort with | some t => decide (t + 1000 ≤ now) | none => false) then
      modLoop s r fun l => { l with slew := 1, slewTo := e.ceil * 10240, st := 4 }
    else
      modLoop s r fun l => { l with gov := l.gov.filter fun v => !releasable s r v, slew := 0, st := 1 }

/-- The figures that 0x7010 shows of a loop until the next tick (R207). -/
def showLoop (s : State) (r : Nat) (x : LoopSnap) : State := { s with gov := { s.gov with shown := smSet {} s.gov.shown r x } }

/-- One loop at a tick: a loop mute ends at the first tick 1,000 ms or more after it was set, with no
oscillation flag (R195); a locked-out loop stays muted (R196). -/
def loopTick (s : State) (r : Nat) : State :=
  let e := evalLoop s r
  let l := getLoop s r
  let cap := l.gov
  let s :=
    if l.locked then s
    else match l.mutedAt with
    | none => loopAct s r e
    | some t =>
      if t + 1000 ≤ s.gov.tick && !((loopRx s.objs r).any (oscFlag s)) then loopAct (loopUnmute s r e) r e else s
  let s := if (getLoop s r).isMuted && (!l.isMuted || (getLoop s r).mutedAt != l.mutedAt) then fireMarks s 4 fun a => bits a 11 0 == r || bits a 11 0 == 0xFFF else s
  let s := modLoop s r fun x =>
    { x with margin := clip16 (e.m.getD (-32768)), target := e.mt.toNat, dcr := clip16 e.cr.dcr
             mutes := x.mutes.filter fun t => decide (s.gov.tick < t + 60000) }
  let x := getLoop s r
  showLoop s r
    { kind := if routeUp s.objs r then 2 else 1, st := x.st, margin := x.margin, target := x.target, lc := clip16 e.cr.lc
      lcSrc := e.cr.src, dcr := x.dcr, limit := e.cr.limit, gloop := (e.gl.map fun v => clip16 (effDb v)).getD (-32768)
      cap := (cap.map effDb).getD 32767, comfort := match x.comfort with | some t => min 65535 (s.gov.tick - t) | none => 0
      mutes := x.mutes.length }

/-- A loop mute whose route has no loop any more ends as one of a loop does (R195). -/
def orphanTick (s : State) (r : Nat) : State :=
  match (getLoop s r).mutedAt with
  | some t =>
    if !(getLoop s r).locked && decide (t + 1000 ≤ s.gov.tick) && !((loopRx s.objs r).any (oscFlag s)) then endLoop s r else s
  | none => s

/-- The figures of every transmit side as the tick finds them (R207). -/
def snapSides (s : State) : State :=
  forEach (txSlots s.objs ++ (s.gains.filter fun e => !txActive s.objs e.1).map (·.1)) s fun s g =>
    modGain s g fun x =>
      { x with snap := if txActive s.objs g then
          { caps := (capsOf s g).map fun c => clip16 (effDb c), eff := x.eff.map effDb, bind := x.bind, mult := x.mult } else {} }

/-- The frame boundary of tick j: frame count ⌈j · 10,240/3⌉ (R192). -/
def tickFrame (j : Nat) : Nat := (10240 * j + 2) / 3

/-- A side's spectrum of the interval read with bad parity is discarded (Table 1.7, region 12): the interval is skipped. -/
def dropSpectrum (s : State) (b : Nat × Nat) : State := modSlot (parityWord s 12 (some b.2)) b.1 fun x => { x with spec := {} }

/-- GOVERNOR_TICK (R192). `bad` names the receive sides whose spectrum has a word with bad parity, each with the word's
byte offset. -/
def execGovernorTick (bad : List (Nat × Nat)) (s : State) : Host.Outcome State Fault Refusal :=
  let j := 3 * s.clk.frame / 10240
  if !coreRuns s || tickFrame j != s.clk.frame || decide (j < s.gov.tick) then .next s
  else
    let s := { s with gov := { s.gov with tick := j } }
    let s := snapSides (forEach bad s dropSpectrum)
    let s := measureInputs (detectOsc s)
    let s := forEach (List.range 96) s licenceCaps
    let s := forEach (List.range 8) (noiseRise s) tidyGroup
    let s := forEach s.gov.inUse { s with gov := { s.gov with shown := [] } } loopTick
    let s := forEach (orphanLoops s) s orphanTick
    let below := (s.gov.inUse.filter fun r => decide ((getLoop s r).margin < (getLoop s r).target) && (getLoop s r).margin != -32768).length
    .next { s with gov := { s.gov with below, tick := j + 1 } }

/-- 0x7010:0C Loop release (R196): a lock-out ends and the loop restarts at its restart gain. -/
def loopRelease (s : State) : State :=
  let r := cfgNat s.objs 0x7010 1
  if !(getLoop s r).locked then s
  else if s.gov.inUse.contains r then loopUnmute s r (evalLoop s r) else endLoop s r

end Sys2Proof.Machine
end

