-- ==== Sys2Proof/Machine/Commit.lean ====
section
/-! DEFINITION. Commit.lean: the staging area, the commit checks in the order of R59, and what a commit does at
its boundary (R53–R60 and the chapters that own each check). A check answers the first failure: its reason
and the key of the refused object. -/

namespace Sys2Proof.Machine

/-- Reason and refused object, as index × 256 + subindex. -/
abbrev Refused := Option (Nat × Nat)

/-- A failure of a check on an object where a condition is broken. -/
def failIf (bad : Bool) (reason idx sub : Nat) : Refused := if bad then some (reason, key idx sub) else none

/-- The first failure over a list taken in order. -/
def firstFail {α : Type} (xs : List α) (f : α → Refused) : Refused := xs.findSome? f

/-! ### Table 6.4 -/

/-- One end or member of a route: its object, whether it is a carrier-slot side, its global slot or endpoint
code, and whether it is inward (a receive side, an ingress stream). -/
structure Part where
  obj : Nat
  slot : Bool
  num : Nat
  inward : Bool
  deriving DecidableEq, Repr

def headerKey (r : Nat) : Nat := key (0x5100 + r / 16) (r % 16 + 1)
def memberKey (g : Nat) (rx : Bool) : Nat := key (0x5200 + g / 8) (g % 8 + if rx then 9 else 1)
def enableKey (g : Nat) : Nat := key (0x5300 + g / 8) (g % 8 + 9)
def rateKey (g : Nat) : Nat := key (sigIdx (g / 8) 4) (g % 8 + 1)

/-- End, slot members and stream members of a route, in the order of R152. -/
def routeParts (cfg : SMap Nat) (r : Nat) : List Part :=
  let up := routeUp cfg r
  let e := routeEnd cfg r
  { obj := headerKey r, slot := endKind e == 0, num := if endKind e = 0 then endSlot e else e, inward := !up } ::
  ((slotMembers cfg r).map fun g => { obj := memberKey g up, slot := true, num := g, inward := up : Part }) ++
  (streamMembers cfg r).map fun m => { obj := m.key, slot := false, num := m.code, inward := up : Part }

/-- Is a side active? -/
def partActive (cfg : SMap Nat) (g : Nat) (rx : Bool) : Bool := if rx then rxActive cfg g else txActive cfg g

/-- The direction whose role claims an active side (R142): true uplink. -/
def claimedUp (cfg : SMap Nat) (g : Nat) (rx : Bool) : Option Bool := (sideClaim cfg g !rx).map (!·)

/-- Check 1: role pairing, and no transmit side active on a channel without a role. Both are taken channel by channel:
DESIGN CHOICE, unsafe, R152 does not say whether all pairings come before all tests of R143 (log 39). -/
def checkRoles (cfg : SMap Nat) : Refused :=
  firstFail allChannels fun ch =>
    let d := dlRole cfg ch
    let u := ulRole cfg ch
    if (d = 1 ∧ u = 2) ∨ (d = 2 ∧ u = 1) then some (3, key (0x5400 + ch) 1)
    else if d = 0 ∧ u = 0 then (((chanSlots ch).find? (txActive cfg)).map fun g => (3, enableKey g)) else none

/-- Is an endpoint code one of Table 6.1? -/
def endValid (e : Nat) : Bool :=
  match endKind e with
  | 0 => bits e 13 10 == 0 && decide (endSlot e < 768)
  | 1 | 2 => bits e 13 11 == 0 && decide (endStream e < 96)
  | _ => false

/-- Check 2: headers. -/
def checkHeaders (cfg : SMap Nat) : Refused :=
  firstFail (routesInUse cfg) fun r =>
    let h := routeHeader cfg r
    if bits h 31 21 ≠ 0 ∨ bit h 17 ∨ 5 < routeK cfg r ∨ !endValid (routeEnd cfg r) then some (3, headerKey r) else none

/-- Every member as its object stands: its place in the order of R152, the route it names, whether it is an
uplink member, its object. -/
def allMembers (cfg : SMap Nat) : List (Nat × Nat × Bool × Nat) :=
  let slots (rx : Bool) (ms : List (Nat × Nat)) : List (Nat × Nat × Bool × Nat) := ms.filterMap fun e =>
    if e.2 = 0xFFFF then none else some (e.2 * 2 ^ 20 + 2 * e.1 + b2n rx, e.2, rx, memberKey e.1 rx)
  let streams (up : Bool) (ms : List StreamMember) : List (Nat × Nat × Bool × Nat) := ms.filterMap fun m =>
    if m.route = 0xFFFF then none else some (m.route * 2 ^ 20 + 2 ^ 18 + 2 * m.code + b2n up, m.route, up, m.key)
  sortBy (fun a b => decide (a.1 ≤ b.1))
    (slots false (txMembers cfg) ++ slots true (rxMembers cfg) ++ streams false (egressMembers cfg) ++ streams true (ingressMembers cfg))

/-- Check 3: every member names a route in use of the matching direction. -/
def checkNamed (cfg : SMap Nat) : Refused :=
  firstFail (allMembers cfg) fun m => if routeUsed cfg m.2.1 && routeUp cfg m.2.1 == m.2.2.1 then none else some (3, m.2.2.2)

/-- Check 4: ends and slot members are active sides of the matching role. -/
def checkClaims (cfg : SMap Nat) : Refused :=
  firstFail (routesInUse cfg) fun r => firstFail (routeParts cfg r) fun p =>
    if p.slot && !(partActive cfg p.num p.inward && claimedUp cfg p.num p.inward == some (routeUp cfg r)) then some (3, p.obj) else none

/-- The first object that comes a second time. -/
def firstRepeat : List (Nat × Part) → List (Bool × Nat × Bool) → Refused
  | [], _ => none
  | (_, p) :: ps, seen =>
    let id := (p.slot, p.num, p.inward)
    if seen.contains id then some (3, p.obj) else firstRepeat ps (id :: seen)

/-- Check 5: single use across ends and members. -/
def checkSingle (cfg : SMap Nat) : Refused :=
  firstRepeat ((routesInUse cfg).flatMap fun r => (routeParts cfg r).map fun p => (r, p)) []

/-- Check 6: member counts (R147). -/
def checkCounts (cfg : SMap Nat) : Refused :=
  firstFail (routesInUse cfg) fun r =>
    let a := (slotMembers cfg r).length
    let b := (streamMembers cfg r).length
    if 96 < a ∨ 8 < b ∨ a + b = 0 then some (3, headerKey r) else none

/-- Check 7: every slot side has the route's k (R90). -/
def checkRates (cfg : SMap Nat) : Refused :=
  firstFail (routesInUse cfg) fun r => firstFail (routeParts cfg r) fun p =>
    if p.slot && kOf cfg p.num != routeK cfg r then some (3, p.obj) else none

/-- Check 8: every active transmit side claimed by a role is in a route. -/
def checkRouted (cfg : SMap Nat) : Refused :=
  firstFail (txSlots cfg) fun g =>
    if (claimedUp cfg g false).isSome && (routeOfTx cfg g).isNone then some (3, enableKey g) else none

/-- Check 9: every stream is configured on its link at the route's k. -/
def checkStreams (cfg : SMap Nat) : Refused :=
  firstFail (routesInUse cfg) fun r => firstFail (routeParts cfg r) fun p =>
    if !p.slot && streamRate cfg p.num (if p.inward then 1 else 2) != some (routeK cfg r) then some (3, p.obj) else none

/-- Check 10: band binding (R144). -/
def checkBands (s : State) (cfg : SMap Nat) : Refused :=
  firstFail (activeSides cfg) fun x =>
    if sideBinds s cfg x.1 x.2 && sideAgrees s cfg x.1 x.2 then none else some (4, key (0x5300 + x.1 / 8) (x.1 % 8 + 1))

/-- Check 11: one band record, one bandwidth and one RF centre within 1 kHz. -/
def checkCommon (cfg : SMap Nat) : Refused :=
  firstFail (routesInUse cfg) fun r =>
    match (routeParts cfg r).filter (·.slot) with
    | [] => none
    | a :: rest =>
      let centre (p : Part) : Int := sideCentre cfg p.num (!p.inward)
      firstFail rest fun p =>
        if recordOf cfg p.num ≠ recordOf cfg a.num ∨ bandwidth cfg p.num ≠ bandwidth cfg a.num ∨ 32768000 < (centre p - centre a).natAbs
        then some (3, p.obj) else none

/-- Check 12: no slot side in a powered-down rod. -/
def checkRods (s : State) (cfg : SMap Nat) : Refused :=
  firstFail (routesInUse cfg) fun r =>
    if (routeParts cfg r).any fun p => p.slot && !(getRod s (p.num / 128)).powered then some (6, headerKey r) else none

/-! ### R162, R184, R218 -/

/-- Does a route radiate locally? -/
def radiatesLocally (cfg : SMap Nat) (r : Nat) : Bool :=
  routeUsed cfg r && (if routeUp cfg r then endKind (routeEnd cfg r) == 0 else !(slotMembers cfg r).isEmpty)

/-- Canceller references: the pairs of channel and path in order, with what has been named before. -/
def checkRefs (cfg : SMap Nat) : List (Nat × Nat) → List Nat → List (Nat × Nat × Nat) → Refused
  | [], _, _ => none
  | (ch, p) :: rest, named, taken =>
    let ref := pathRef cfg ch p
    let d := pathDelay cfg ch p
    let bad : Refused := some (3, key (canIdx ch 1) (p + 1))
    if ref = 0xFFFF then checkRefs cfg rest named taken
    else if 96 ≤ ref ∧ (ref < 0x1000 ∨ 0x1FFF < ref) then bad
    else if 0x1000 ≤ ref ∧ !radiatesLocally cfg (ref - 0x1000) then bad
    else
      let named := if 0x1000 ≤ ref then insertNat ref named else named
      if 32 < named.length then bad
      else if taken.any fun t => t.1 == ch && t.2.1 == ref && decide (((t.2.2 : Int) - d).natAbs < 32) then bad
      else checkRefs cfg rest named ((ch, ref, d) :: taken)

/-- The paths of the channels whose canceller is enabled (R162). -/
def enabledPaths (cfg : SMap Nat) : List (Nat × Nat) :=
  (allChannels.filter (cancOn cfg)).flatMap fun ch => (List.range 8).map fun p => (ch, p)

/-- Declared isolation (R184). -/
def checkIsolation (cfg : SMap Nat) : Refused :=
  firstFail (rxSlots cfg) fun g =>
    if (claimedUp cfg g true).isSome && cfgVal cfg (0x7020 + g / 8) (g % 8 + 0x11) == -32768 then some (3, key (0x7020 + g / 8) (g % 8 + 0x11)) else none

/-- Serving references (R218). -/
def checkServing (cfg : SMap Nat) : Refused :=
  firstFail (uplinkDonors cfg) fun g =>
    let n := servingSide cfg g
    if n < 768 ∧ rxActive cfg n ∧ (dlRole cfg (n / 8) = 1 ∨ ulRole cfg (n / 8) = 1) then none else some (3, key (0x70A0 + g / 8) (g % 8 + 0x29))

/-! ### TDD groups, radio states, TDD windows (R228, R237, R249) -/

/-- Is a group in use: followed by a channel, or given a source (log 31)? -/
def groupUsed (cfg : SMap Nat) (i : Nat) : Bool := groupSource cfg i != 0 || !(groupChannels cfg i).isEmpty

/-- The least maximum duty of the band records bound to the sides of a group's channels, in percent. -/
def groupDuty (s : State) (cfg : SMap Nat) (i : Nat) : Nat :=
  (activeSides cfg).foldl (fun m x =>
    if tddGroupOf cfg (x.1 / 8) = i then (match boundRecord s cfg x.1 with | some r => min m (recDuty r) | none => m) else m) 100

/-- Intervals of a group taken in order of subindex: the first that overlaps an earlier one, runs past the
period, or takes its direction above the duty. -/
def intervalBreach (period duty : Nat) : List (Nat × Nat × Nat × Nat) → List (Nat × Nat × Nat × Nat) → Option (Nat × Nat)
  | [], _ => none
  | v :: vs, done =>
    let start := v.2.2.1
    let len := v.2.2.2
    let total := len + sumMap (done.filter fun d => d.2.1 == v.2.1) fun d => d.2.2.2
    if period < start + len ∨ done.any (fun d => decide (start < d.2.2.1 + d.2.2.2) && decide (d.2.2.1 < start + len)) then some (3, v.1)
    else if duty * period < 100 * total then some (4, v.1)
    else intervalBreach period duty vs (v :: done)

/-- TDD groups (R228). -/
def checkGroups (s : State) (cfg : SMap Nat) : Refused :=
  firstFail ((List.range 8).filter (groupUsed cfg)) fun i =>
    let ref := groupRef cfg i
    if groupSource cfg i = 1 ∧ !(decide (ref < 768) && rxDownlink cfg ref) then some (3, key (0x7088 + i) 2)
    else (intervalBreach (groupPeriod cfg i) (groupDuty s cfg i) (groupIntervals cfg i) []).map fun x => (x.1, key (0x7088 + i) x.2)

/-- Requested radio states (R237). -/
def checkStates (cfg : SMap Nat) : Refused :=
  firstFail allChannels fun ch =>
    let q := reqState cfg ch
    let g := tddGroupOf cfg ch
    let rx := (chanSlots ch).any (rxActive cfg)
    let tx := (chanSlots ch).any (txActive cfg)
    if (rx ∧ q ≠ 3 ∧ q ≠ 5 ∧ q ≠ 6) ∨ (tx ∧ q ≠ 4 ∧ q ≠ 5 ∧ q ≠ 6) ∨ (q = 6 ∧ 8 ≤ g) ∨ ((q = 3 ∨ q = 4 ∨ q = 5) ∧ g ≠ 0xFF) ∨
        (2 ≤ q ∧ (rxLo cfg ch = 0 ∨ txLo cfg ch = 0)) then some (3, key (radIdx ch 0) 1) else none

/-- TDD windows (R249). -/
def checkWindows (s : State) (cfg : SMap Nat) : Refused :=
  firstFail (allChannels.filter fun ch => decide (tddGroupOf cfg ch < 8)) fun ch =>
    (windowBreach s cfg ch).map fun sub => (3, key (0x7088 + tddGroupOf cfg ch) sub)

/-! ### Link configuration (R318, Table 12.9) -/

/-- Ports that some object of a configuration names. -/
def portsNamed (cfg : SMap Nat) (base : Nat) : List Nat := (List.range 16).filter fun l => !(cfgRun cfg (base + 8 * l) (base + 8 * l + 7)).isEmpty

/-- The enabled streams of a DN port: stream, direction (1 ingress, 2 egress), word. -/
def dnEnabled (cfg : SMap Nat) (l dir : Nat) : List (Nat × Nat) :=
  (List.range 96).filterMap fun n => let w := dnStreamWord cfg l dir n; if bit w 31 then some (n, w) else none

def dnStreamKey (l dir n : Nat) : Nat := key (dnObj l dir) (n + 1)

/-- Weight of a stream in 1/128 (R294). -/
def streamWeight (cfg : SMap Nat) (l w : Nat) : Nat := (if dnNarrow cfg l then 96 else 128) / 2 ^ bits w 18 16

/-- The first stream at which the weights pass 3.000. -/
def weightBreach (cfg : SMap Nat) (l dir : Nat) : List (Nat × Nat) → Nat → Refused
  | [], _ => none
  | (n, w) :: rest, sum =>
    let sum := sum + streamWeight cfg l w
    if 384 < sum then some (3, dnStreamKey l dir n) else weightBreach cfg l dir rest sum

/-- The first stream with the PC_ID of an earlier one. -/
def pcidBreach (l dir : Nat) : List (Nat × Nat) → List Nat → Refused
  | [], _ => none
  | (n, w) :: rest, seen => if seen.contains (bits w 15 0) then some (3, dnStreamKey l dir n) else pcidBreach l dir rest (bits w 15 0 :: seen)

/-- Checks 1–3. -/
def checkDnStreams (cfg : SMap Nat) : Refused :=
  let ports := portsNamed cfg 0x1900
  let mode := firstFail ports fun l =>
    if dnMode cfg l = 1 then none
    else firstFail (List.range 96) fun n => firstFail [1, 2] fun dir => failIf (bit (dnStreamWord cfg l dir n) 31) 3 (dnObj l dir) (n + 1)
  let each (f : Nat → Nat → Refused) : Refused := firstFail ports fun l => firstFail [1, 2] (f l)
  mode.or ((each fun l dir => weightBreach cfg l dir (dnEnabled cfg l dir) 0).or (each fun l dir => pcidBreach l dir (dnEnabled cfg l dir) []))

def bondLeader (cfg : SMap Nat) (l : Nat) : Nat := cfgNat cfg (xlObj l 0) 2
def throughSource (cfg : SMap Nat) (l : Nat) : Nat := cfgNat cfg (xlObj l 0) 3
def partnerOf (cfg : SMap Nat) (l : Nat) : Nat := cfgNat cfg (xlObj l 0) 4
def primaryLane (cfg : SMap Nat) (l : Nat) : Bool := cfgBool cfg (xlObj l 0) 5

/-- Rates of a lane's three slots in a direction. -/
def slotRates (cfg : SMap Nat) (l dir : Nat) : List Nat := [0, 1, 2].map (xlSlotRate cfg l dir)

/-- Check 4: bonds (R305). -/
def checkBonds (cfg : SMap Nat) : Refused :=
  firstFail (portsNamed cfg 0x1A00) fun l =>
    let b := bondLeader cfg l
    failIf (decide (b < 16) && (decide (l < b) || bondLeader cfg b != b || xlMode cfg l != 1 ||
      decide (4 ≤ ((List.range l).filter fun m => bondLeader cfg m == b).length))) 3 (xlObj l 0) 2

/-- Check 5: through outputs (R306). -/
def checkThrough (cfg : SMap Nat) : Refused :=
  firstFail (portsNamed cfg 0x1A00) fun l =>
    let src := throughSource cfg l
    failIf (decide (src < 16) && (xlMode cfg src != 1 || slotRates cfg l 2 != slotRates cfg src 1 ||
      decide (4 ≤ ((List.range l).filter fun m => throughSource cfg m == src).length) ||
      (egressMembers cfg).any (fun m => endKind m.code == 2 && endLink m.code == l && m.route != 0xFFFF))) 3 (xlObj l 0) 3

/-- Is a stream of a lane in a route, as a member, as its source or as its destination? -/
def laneRouted (cfg : SMap Nat) (l : Nat) : Bool :=
  (ingressMembers cfg).any (fun m => endKind m.code == 2 && endLink m.code == l && m.route != 0xFFFF) ||
  (routesInUse cfg).any fun r => (endKind (routeEnd cfg r) == 2 && endLink (routeEnd cfg r) == l) ||
    (streamMembers cfg r).any fun m => endKind m.code == 2 && endLink m.code == l

/-- Check 6: ring partners (R307). -/
def checkRings (cfg : SMap Nat) : Refused :=
  firstFail (portsNamed cfg 0x1A00) fun l =>
    let p := partnerOf cfg l
    failIf (decide (p < 16) && (partnerOf cfg p != l || slotRates cfg l 1 != slotRates cfg p 1 || primaryLane cfg l == primaryLane cfg p ||
      laneRouted cfg (if primaryLane cfg l then p else l))) 3 (xlObj l 0) 4

/-- Check 7: equalisation delays (R313). -/
def eqBreach (cfg : SMap Nat) : List Nat → Nat → Refused
  | [], _ => none
  | r :: rs, sum =>
    let e := routeEq cfg r
    let sum := sum + e
    if 3145728 / (100 * 2 ^ routeK cfg r) < e ∨ 1572864 < sum then some (3, key (0x1980 + r / 32) (r % 32 + 1)) else eqBreach cfg rs sum

/-- Link configuration, in the order of Table 12.9. -/
def checkLinks (cfg : SMap Nat) : Refused :=
  (checkDnStreams cfg).or <| (checkBonds cfg).or <| (checkThrough cfg).or <| (checkRings cfg).or <| eqBreach cfg (routesInUse cfg) 0

/-! ### LOs (R82, R240, R241) -/

/-- Does a side break R81? Frequencies in 2^-15 Hz. -/
def placementBad (cfg : SMap Nat) (g : Nat) (tx : Bool) : Bool :=
  let f := ((if tx then txNco cfg g else rxNco cfg g) * 1875).natAbs
  let b := bandwidth cfg g * 16384000
  decide (f < b + 32768000000) || decide (100760 * 32768000 < f + b) || decide (maxBandwidth (kOf cfg g) < bandwidth cfg g)

/-- LO placement (R82). -/
def checkPlacement (cfg : SMap Nat) : Refused :=
  firstFail (activeSides cfg) fun x =>
    failIf (placementBad cfg x.1 x.2) 2 (sigIdx (x.1 / 8) (if x.2 then 3 else 2)) (x.1 % 8 + 1)

/-- The LOs a rod needs, receive before transmit, with their objects. -/
def loObjects (cfg : SMap Nat) (r : Nat) : List (Nat × Nat) :=
  (rodChannels r).flatMap fun ch =>
    if 2 ≤ reqState cfg ch then [(rxLo cfg ch, key (radIdx ch 1) 1), (txLo cfg ch, key (radIdx ch 1) 2)] else []

/-- The LO at which the distinct frequencies pass the number served. -/
def synthBreach (served : Nat) : List (Nat × Nat) → List Nat → Refused
  | [], _ => none
  | (lo, k) :: rest, seen =>
    if lo = 0 ∨ seen.contains lo then synthBreach served rest seen
    else if served ≤ seen.length then some (2, k)
    else synthBreach served rest (lo :: seen)

/-- Synthesiser assignment (R240). -/
def checkSynths (cfg : SMap Nat) : Refused :=
  firstFail (List.range 6) fun r => synthBreach (if reliefHold cfg r then 7 else 8) (loObjects cfg r) []

/-- LO changes on channels above SYNTH (R241). -/
def checkRetune (s : State) (cfg : SMap Nat) : Refused :=
  let live := s.life.power == .serve || s.life.power == .quiet || s.life.power == .safe
  firstFail allChannels fun ch =>
    if live && decide (3 ≤ reqState s.objs ch) && decide (3 ≤ reqState cfg ch) && !cfgBool cfg (radIdx ch 0) 4 then
      (failIf (rxLo cfg ch != rxLo s.objs ch) 2 (radIdx ch 1) 1).or (failIf (txLo cfg ch != txLo s.objs ch) 2 (radIdx ch 1) 2)
    else none

/-! ### Banks and budget (R85, R95, R107, R108, R110) -/

/-- Bank seals: k during a cross-fade, swaps by commit, then the bank each slot will carry. -/
def checkBanks (s : State) (cfg : SMap Nat) : Refused :=
  let rate := firstFail ((s.slots.filter fun e => fadesOn e.2).map (·.1)) fun g => if kOf cfg g = kOf s.objs g then none else some (5, rateKey g)
  let bad (g : Nat) : Bool := bankBar (getSlot s g) (bankSelect cfg g) (kOf cfg g) != 0
  let swap := firstFail (rxSlots cfg) fun g =>
    if bankSelect cfg g ≠ finalBank (getSlot s g) ∧ bad g then some (5, key (sigIdx (g / 8) 7) (g % 8 + 1)) else none
  rate.or (swap.or (firstFail (rxSlots cfg) fun g => if bad g then some (5, rateKey g) else none))

/-- The slot of highest counted cost, the lowest among equals. -/
def costliest (cfg : SMap Nat) (s : State) (ch : Nat) : Nat :=
  (chanSlots ch).foldl (fun b g => if stagedCost cfg s b < stagedCost cfg s g then g else b) (8 * ch)

/-- Compute budget (R85). -/
def checkBudget (s : State) (cfg : SMap Nat) : Refused :=
  firstFail allChannels fun ch => if 256 < stagedBudget cfg s ch then some (1, rateKey (costliest cfg s ch)) else none

/-- Thermal threshold order (R385). -/
def checkThermal (cfg : SMap Nat) : Refused :=
  firstFail (List.range 7) fun z =>
    (failIf (decide (threshold cfg z 1 < threshold cfg z 0)) 7 (0x1501 + z) 5).or
      (failIf (decide (threshold cfg z 2 ≤ threshold cfg z 1)) 7 (0x1501 + z) 7)

/-! ### The commit (R55–R60) -/

/-- The commit checks in the order of R59. -/
def checkList : List (State → SMap Nat → Refused) :=
  [fun _ c => checkRoles c, fun _ c => checkHeaders c, fun _ c => checkNamed c, fun _ c => checkClaims c, fun _ c => checkSingle c,
   fun _ c => checkCounts c, fun _ c => checkRates c, fun _ c => checkRouted c, fun _ c => checkStreams c, checkBands,
   fun _ c => checkCommon c, checkRods, fun _ c => checkRefs c (enabledPaths c) [] [], fun _ c => checkIsolation c,
   fun _ c => checkServing c, checkGroups, fun _ c => checkStates c, checkWindows, fun _ c => checkLinks c,
   fun _ c => checkPlacement c, fun _ c => checkSynths c, checkRetune, checkBanks, checkBudget, fun _ c => checkThermal c]

/-- The first failure of a configuration that is to become active. -/
def commitChecks (s : State) (cfg : SMap Nat) : Refused := checkList.findSome? fun f => f s cfg

/-- Entries of two staging areas together, an object present in both counted once (R55). -/
def stagedTotal (c : Commit) : Nat := c.staged.length + (c.snapshot.filter fun e => c.staged.all fun x => x.1 != e.1).length

/-- Entries of `news` put over those of `base`; an entry is kept whatever its value. -/
def putEntries (base news : SMap Nat) : SMap Nat :=
  news.foldl (fun m e => smInsert e.1 e.2 (m.filter fun x => x.1 != e.1)) base

/-- One RWS write staged (R53). -/
def stageEntry (s : State) (k v : Nat) : Nat × State :=
  let c := { s.commit with staged := putEntries s.commit.staged [(k, v)] }
  if 8192 < stagedTotal c then (0x09, s) else (0, { s with commit := c })

/-- A commit request that may start: the staging area becomes its snapshot. -/
def startCommit (s : State) : State :=
  { s with commit := { s.commit with st := 1, snapshot := s.commit.staged, staged := [] } }

/-- The checks of the commit under way have ended (R56, R57): it awaits its boundary, or it is refused and its
snapshot returned. A commit of an empty staging area is never refused (R58). -/
def endChecks (s : State) : State :=
  if s.commit.snapshot.isEmpty then { s with commit := { s.commit with st := 2, held := true } }
  else match commitChecks s (cfgMerge s.objs s.commit.snapshot) with
  | none => { s with commit := { s.commit with st := 2, held := true } }
  | some (reason, object) =>
    { s with commit := { s.commit with
        st := 4, reason, object, staged := putEntries s.commit.snapshot s.commit.staged, snapshot := [] } }

/-- The frame count of the next block boundary. -/
def nextBoundary (s : State) : Nat := s.clk.frame + 1

/-- What an applied commit leaves in the commit objects (R54, R56). -/
def committed (s : State) : Commit :=
  { s.commit with
    st := 3, held := false, reason := 0, object := 0, frame := nextBoundary s, count := (s.commit.count + 1) % 2 ^ 32, snapshot := [], lock := none }

/-- The snapshot becomes the active configuration, and every unit follows it; a reset of the same boundary starts from the
new values (R96). -/
def applySnapshot (s : State) : State :=
  let old := s.objs
  let before := s
  let s := { s with objs := cfgMerge s.objs s.commit.snapshot, commit := committed s }
  let s := eqCommit old (linksCommit old s)
  let s := cancellerCommit old (protectCommit old (filtersCommit old s))
  let s := radioCommit old (licenceCommit old (formLoops old s))
  let s := captureCommit (licenceRelease (streamMutes s))
  txenDrops before (dropMuteTerms (resetsAgain s))

/-- The staged configuration becomes active at a block boundary (R21, R56, R145, R153); an empty one has no other
effect than the commit's own count and frame (R58). -/
def applyCommit (s : State) : State :=
  if s.commit.snapshot.isEmpty then { s with commit := committed s } else applySnapshot s

/-- Every staged entry discarded, and the lock released (R55). -/
def discardStaged (s : State) : State := { s with commit := { s.commit with staged := [], lock := none } }

/-- STAGING_LOCK_TIMEOUT (R54). -/
def execStagingLockTimeout (s : State) : Host.Outcome State Fault Refusal :=
  if s.commit.lock.isSome && elapsedMs s s.commit.lockAt (1000 * cfgNat s.objs 0x1010 9) then
    .next { s with commit := { s.commit with lock := none } }
  else .next s

end Sys2Proof.Machine
end

