-- ==== Sys2Proof/Machine/Access.lean ====
section
/-! DEFINITION. Access.lean: one operation on the object dictionary, as R39 tests it and as each object's own
rules carry it out: reads, staged reads and writes, shared by OLP, by the monitor and by every row that
writes one object. Manager 8 is the monitor (R418). -/

namespace Sys2Proof.Machine

/-! ### The tests of R39 -/

/-- The entry at index:subindex, or the status of tests 1 and 2. -/
def lookup (idx sub : Nat) : Nat × Option Obj :=
  match dictIndex idx with
  | none => (0x01, none)
  | some f => match f sub with
    | none => (0x02, none)
    | some o => (0, some o)

/-- Is the length of written data the entry's (test 3)? A DOMAIN takes 1–256 words (Table 2.1). -/
def lengthOk (o : Obj) (n : Nat) : Bool :=
  match o.typ with
  | .dom => n % 4 == 0 && decide (4 ≤ n) && decide (n ≤ 1024)
  | t => n == t.len

/-- May the entry be written (Table 2.2)? -/
def Acc.writes : Acc → Bool
  | .ro | .lk => false
  | _ => true

/-- May the entry be read? -/
def Acc.reads : Acc → Bool
  | .wo => false
  | _ => true

/-- Does the session or the lifecycle give the manager a right (Table 17.8)? OLP ends with RETURNED; the monitor
needs its level: 1 OBSERVE for reads, 2 SERVICE for writes. -/
def hasRight (s : State) (m level : Nat) : Bool :=
  if m = 8 then decide (level ≤ s.life.level) else decide (m < 8) && s.nv.lifecycle != 3

/-- Does the matrix permit a read (R419)? -/
def readPermitted (s : State) (m : Nat) : Bool :=
  hasRight s m 1 && s.life.power != .off && s.life.power != .boot

/-- The objects written in SHUTDOWN (R419). -/
def shutdownWrites : List (Nat × Nat) := [(0x1500, 7), (0x1600, 0xA), (0x1602, 1), (0x1700, 3)]

/-- Does the matrix permit a write? -/
def writePermitted (s : State) (m idx sub : Nat) : Bool :=
  hasRight s m 2 && s.life.power != .off && s.life.power != .boot &&
  (s.life.power != .shutdown || shutdownWrites.contains (idx, sub))

/-- The status of tests 1–7 of a write; 0 where all pass. -/
def writeTest (s : State) (m idx sub : Nat) (data : List Byte) : Nat :=
  match lookup idx sub with
  | (st, none) => st
  | (_, some o) =>
    if !lengthOk o data.length then 0x04
    else if !o.acc.writes then 0x03
    else if !writePermitted s m idx sub then 0x07
    else if o.acc = .rwh ∧ s.life.power ≠ .hold ∧ s.life.power ≠ .quiet then 0x06
    else if o.typ ≠ .dom ∧ !o.ok (o.typ.toInt (ofBytes data)) then 0x05
    else 0

/-- The status of tests 1–5 of a read of data length `n`; 0 where all pass. -/
def readTest (s : State) (m idx sub n : Nat) : Nat :=
  match lookup idx sub with
  | (st, none) => st
  | (_, some o) =>
    if o.typ = .dom ∧ !lengthOk o n then 0x04
    else if !o.acc.reads then 0x03
    else if !readPermitted s m then 0x07
    else 0

/-- An operation of a manager: it keeps the manager's staging lock and window claim (R54, R61). -/
def touch (s : State) (m idx : Nat) : State :=
  let s := if s.commit.lock = some m then { s with commit := { s.commit with lockAt := s.time } } else s
  if 0x6100 ≤ idx ∧ idx ≤ 0x6500 ∧ idx % 256 = 0 then touchWindow s m ((idx - 0x6100) / 256) else s

/-! ### The lock and the commit (R54, R55, R58) -/

/-- Does another manager hold the staging lock? -/
def lockedOut (s : State) (m : Nat) : Bool := match s.commit.lock with | some h => h != m | none => false

/-- A write of 0x1010:08. -/
def lockWrite (s : State) (m v : Nat) : Nat × State :=
  if lockedOut s m then (0x08, s)
  else if v = 0xFF then (0, { s with commit := { s.commit with lock := none } })
  else if v ≠ m then (0x05, s)
  else (0, { s with commit := { s.commit with lock := some m, lockAt := s.time } })

/-- Is a commit under way, checking or awaiting its boundary? -/
def commitBusy (s : State) : Bool := s.commit.st == 1 || s.commit.held

/-- A write of 0x1010:01: 1 starts the checks, 2 discards. -/
def commitWrite (s : State) (m v : Nat) : Nat × State :=
  if lockedOut s m then (0x08, s)
  else if commitBusy s then (0x0C, s)
  else if v = 1 then (0, startCommit s)
  else (0, discardStaged s)

/-- Is a write the commit request, whose answer waits for the end of the commit (R56, R57)? -/
def commitWaits (idx sub : Nat) (data : List Byte) (status : Nat) : Bool :=
  idx == 0x1010 && sub == 1 && ofBytes data == 1 && status == 0

/-! ### Own rules (test 8) -/

/-- A write whose only effect is the object's new value. -/
def storeWrite (s : State) (idx sub v : Nat) : Nat × State :=
  (0, { s with objs := cfgSet s.objs (key (canonIdx idx) sub) v })

/-- 0x1000–0x17FF. -/
def writeDevice (s : State) (m idx sub v : Nat) : Nat × State :=
  match idx, sub with
  | 0x1010, 1 => commitWrite s m v
  | 0x1010, 8 => lockWrite s m v
  | 0x1200, 1 => powerRequest s m v
  | 0x1210, 6 => activateWrite s v
  | 0x1210, 7 => confirmWrite s
  | 0x1220, 7 => (0, { s with life := { s.life with restartDue := true } })
  | 0x1240, 1 => blockRestartWrite s v
  | 0x1310, 1 => gateWrite s v
  | 0x1500, 7 => leaveWrite s v
  | 0x1602, 1 => clearWrite s v
  | 0x1700, 3 => (0, wallWrite s m v)
  | 0x1700, 9 => (0, burstChange s tallyCodes fun s => { s with objs := cfgSet s.objs (key 0x1700 9) v })
  | 0x1700, 0xC => (0, { s with tally := { s.tally with lastResort := [] } })
  | 0x1711, 0x11 => (0, burstChange s [cfgNat s.objs 0x1710 0] fun s => modCode s (cfgNat s.objs 0x1710 0) fun c => { c with burst := v })
  | 0x1711, 0x12 => (0, modCode s (cfgNat s.objs 0x1710 0) fun c => { c with refill := v })
  | _, _ => if idx = 0x1711 ∧ sub ≤ 16 then snapEntryWrite s sub v else storeWrite s idx sub v

/-- 0x1800–0x1FFF: capture and links. -/
def writeStore (s : State) (idx sub v : Nat) : Nat × State :=
  if idx = 0x1800 then captureControl s v
  else if inRun idx 0x1810 0x181F then if s.cap.st = 1 ∨ s.cap.st = 2 then (0x0C, s) else storeWrite s idx sub v
  else if inRun idx 0x1820 0x182F ∧ sub = 1 then (0, markControl s (idx - 0x1820) v)
  else if inRun idx 0x1820 0x182F ∧ sub = 9 then (0, manualFire s (idx - 0x1820))
  else if inRun idx 0x1830 0x1837 ∧ sub = 1 then replayControl s (idx - 0x1830) v
  else if inRun idx 0x1840 0x184F then (0, exportControl s (idx - 0x1840) v)
  else if inRun idx 0x1900 0x197F ∧ (idx - 0x1900) % 8 = 5 then delayWrite s ((idx - 0x1900) / 8) v
  else storeWrite s idx sub v

/-- 0x2000–0x4FFF: radio, signal path, canceller. -/
def writeChannel (s : State) (idx sub v : Nat) : Nat × State :=
  let ch := idx % 4096 / 16
  match idx / 4096, idx % 16 with
  | 2, 4 => tunerStateWrite s ch v
  | 2, 8 => calRequest s ch v
  | 3, 7 => swapWrite s (8 * ch + (sub - 9)) v
  | 3, 0xB => (0, resetWrite s ch sub v)
  | 3, 0xE => (0, modNines s ch fun n => { n with inject := v })
  | 4, 2 =>
    if sub ≤ 8 then let r := storeWrite s idx sub v; (r.1, freezeWrite r.2 ch (sub - 1) v)
    else modelResetWrite s ch (sub - 9) v
  | 4, 6 => surveyWrite s ch v
  | 4, 7 => snapshotWrite s ch v
  | _, _ => storeWrite s idx sub v

/-- 0x6100–0x6500: selector, cursor, data, CRC confirm. What the environment does to an image whose CRC matches
is drawn here (log 4); the rows BANK_SEAL, LICENCE_BURN and IMAGE_SEAL carry it. -/
def writeWindow (s : State) (m w sub : Nat) (data : List Byte) : Nat × State :=
  match sub with
  | 1 => selectorWrite s m w (ofBytes data)
  | 2 => cursorWrite s m w (ofBytes data)
  | 3 => dataWrite s m w (wordsOfBytes data)
  | _ =>
    let d := drawBool s
    crcConfirm (if w = 4 then d.2 else s) m w (BitVec.ofNat 32 (ofBytes data)) d.1

/-- 0x7000–0x70FF: governor and network protection. -/
def writeGovernor (s : State) (idx sub v : Nat) : Nat × State :=
  match idx, sub with
  | 0x7010, 0xC => (0, loopRelease s)
  | 0x7082, 3 => pinEntry s v
  | 0x7082, 4 => (0, unpinEntry s v)
  | 0x7082, 5 => (0, clearLedger s)
  | _, _ => storeWrite s idx sub v

/-- An entry's own rules. -/
def ownWrite (s : State) (m idx sub : Nat) (o : Obj) (data : List Byte) : Nat × State :=
  let v := ofBytes data
  if o.acc = .rws then
    if lockedOut s m then (0x08, s) else stageEntry s (key (canonIdx idx) sub) v
  else if idx < 0x1800 then writeDevice s m idx sub v
  else if idx < 0x2000 then writeStore s idx sub v
  else if idx < 0x5000 then writeChannel s idx sub v
  else if idx < 0x7000 then writeWindow s m ((idx - 0x6100) / 256) sub data
  else writeGovernor s idx sub v

/-- One write (opcode 0x02): its status and the state after it. -/
def writeObject (s : State) (m idx sub : Nat) (data : List Byte) : Nat × State :=
  let s := touch s m idx
  match writeTest s m idx sub data, lookup idx sub with
  | 0, (_, some o) => ownWrite s m idx sub o data
  | st, _ => (st, s)

/-! ### Reads -/

/-- Does the read leave a snapshot for the rest of its message (R207, R350)? -/
def takeSnapshots (s : State) (idx : Nat) : State :=
  let s := if idx = 0x1601 ∧ s.flt.snap.isNone then { s with flt := { s.flt with snap := some (faultSnap s) } } else s
  if (idx = 0x7010 ∨ idx = 0x7011) ∧ s.govSnap.all (·.1 != idx) then
    { s with govSnap := s.govSnap ++ [(idx, { objs := s.objs, gov := s.gov, gains := s.gains })] }
  else s

/-- The message in execution ends: its snapshots are dropped. -/
def dropSnapshots (s : State) : State := { s with flt := { s.flt with snap := none }, govSnap := [] }

/-- The state a read of 0x7010 or 0x7011 looks at: the snapshot's, with the selectors of now. -/
def snapView (s : State) (idx : Nat) : State :=
  match s.govSnap.find? (·.1 == idx) with
  | none => s
  | some (_, x) =>
    let at_ (o : SMap Nat) (i : Nat) : SMap Nat := cfgSet o (key i 1) (cfgNat s.objs i 1)
    { s with objs := at_ (at_ x.objs 0x7010) 0x7011, gov := x.gov, gains := x.gains }

/-- May a manager not read the subindex while another holds its window (R61)? -/
def windowShut (s : State) (m idx sub : Nat) : Bool :=
  decide (0x6100 ≤ idx) && decide (idx ≤ 0x6500) && [1, 2, 3, 4].contains sub && windowBusy s m ((idx - 0x6100) / 256)

/-- One read (opcode 0x01) of data length `n`: status, data, and the state after it. -/
def readObject (s : State) (m idx sub n : Nat) : Nat × List Byte × State :=
  let s := touch s m idx
  match readTest s m idx sub n, lookup idx sub with
  | 0, (_, some o) =>
    if windowShut s m idx sub then (0x0C, [], s)
    else if o.typ = .dom then
      let r := dataRead s m ((idx - 0x6100) / 256) (n / 4)
      (r.1, bytesOfWords r.2.1, r.2.2)
    else
      let s := takeSnapshots s idx
      (0, valueBytes o.typ (objValue (snapView s idx) idx sub), s)
  | st, _ => (st, [], s)

/-- One staged read (opcode 0x03). -/
def readStaged (s : State) (m idx sub n : Nat) : Nat × List Byte × State :=
  let r := readObject s m idx sub n
  if r.1 ≠ 0 then r
  else match (lookup idx sub).2, r.2.2.commit.staged.find? (·.1 == key (canonIdx idx) sub) with
    | some o, some e => (0, valueBytes o.typ e.2, r.2.2)
    | _, _ => (0x0D, r.2.1, r.2.2)

/-! ### Subscribed values (R65) -/

/-- The value a subscription carries now. -/
def subscribedValue (s : State) (idx sub : Nat) : List Byte :=
  match (lookup idx sub).2 with | some o => valueBytes o.typ (objValue s idx sub) | none => []

/-- The bits of a word of 0x1601 whose setting is notified: a source of reaction 0 latches without a notification (R344). -/
def notifiedBits (s : State) (w : Nat) : Nat := maskBelow 32 fun b => reactionOf s (32 * w + b) != 0

/-- What of a subscribed value a change is looked for in. -/
def watchedValue (s : State) (idx sub : Nat) : List Byte :=
  if idx = 0x1601 ∧ 1 ≤ sub ∧ sub ≤ 0x1E then beBytes 4 (objValue s idx sub &&& notifiedBits s ((sub - 1) % 10)) else subscribedValue s idx sub

/-- A look at every subscribed value: a change since the last look is remembered until it is notified. The supervisor
looks after each write it carries out and in each frame (DESIGN CHOICE, log 46). -/
def noteChanges (s : State) : State :=
  if s.olp.subs.isEmpty then s
  else { s with olp := { s.olp with subs := s.olp.subs.map fun x =>
    let v := watchedValue s x.index x.sub
    if v = x.seen then x else { x with seen := v, changed := true } } }

/-! ### Answers -/

/-- An operation commanded on its own is answered to its manager: on the monitor to manager 8, over OLP otherwise. -/
def answer (s : State) (m opcode idx sub status : Nat) (data : List Byte) : State :=
  if m = 8 then emit s (.monitor status data) else emit s (.reply m { opcode, status, index := idx, sub, data })

/-- A write commanded on its own: answered, but for a commit request, whose answer follows its end. -/
def commandWrite (s : State) (m idx sub : Nat) (data : List Byte) : State :=
  if !s.life.sup then s
  else
    let r := writeObject s m idx sub data
    if commitWaits idx sub data r.1 then { r.2 with olp := { r.2.olp with commitBy := some m } }
    else answer (noteChanges r.2) m 2 idx sub r.1 []

/-- The bytes of a number for an entry of `len` bytes; one too large takes a byte more, which no entry accepts. -/
def numberBytes (len v : Nat) : List Byte := if v < 256 ^ len then beBytes len v else beBytes (len + 1) v

/-- A write of a number to an entry of its own length. -/
def commandValue (s : State) (m idx sub v : Nat) : State :=
  match (lookup idx sub).2 with
  | some o => commandWrite s m idx sub (numberBytes o.typ.len v)
  | none => commandWrite s m idx sub []

/-- What is read on its own is read under snapshots of its own (R207, R350). -/
def alone (s : State) (f : State → State) : State :=
  let r := f (dropSnapshots s)
  { r with flt := { r.flt with snap := s.flt.snap }, govSnap := s.govSnap }

/-- A read commanded on its own, a message of one operation. -/
def commandRead (s : State) (m idx sub n : Nat) : State :=
  if !s.life.sup then s
  else alone s fun s =>
    let r := readObject s m idx sub n
    answer r.2.2 m 1 idx sub r.1 r.2.1

/-- A staged read commanded on its own. -/
def commandStaged (s : State) (m idx sub n : Nat) : State :=
  if !s.life.sup then s
  else alone s fun s =>
    let r := readStaged s m idx sub n
    answer r.2.2 m 3 idx sub r.1 r.2.1

end Sys2Proof.Machine
end

