-- ==== Sys2Proof/Machine/Chain.lean ====
section
/-! DEFINITION. Chain.lean: relay messages as the device sends them over its chain lanes (R308–R310). Each
lane has a queue of them, which its superframes' relay blocks empty (log 34). -/

namespace Sys2Proof.Machine

/-- The device's own chain address (0x1A80:01). -/
def ownAddr (s : State) : Nat := cfgNat s.objs 0x1A80 1

/-- Is an address the device's own? At 0xFFFE it cannot be addressed (R308). -/
def isOwnAddr (s : State) (a : Nat) : Bool := a == ownAddr s && a != 0xFFFE

/-- The lanes that carry relay blocks now, ascending. -/
def lanesUp (s : State) : List Nat := if coreRuns s then (List.range 16).filter (xlUp s) else []

/-- Has a lane's relay queue room for a message? -/
def relayRoom (x : XlLane) (msg : RelayMsg) : Bool := queueRoom 7 (sumMap x.relayQ relayBlocks) (relayBlocks msg)

/-- Timing and hello messages go before OLP messages. -/
def relayFirst (msg : RelayMsg) : Bool := msg.typ == 1 || msg.typ == 2

/-- A message in its place: behind the one being sent and behind its equals. -/
def relayInsert (started : Bool) (msg : RelayMsg) (q : List RelayMsg) : List RelayMsg :=
  if !relayFirst msg then q ++ [msg]
  else
    let n := started.toNat
    q.take n ++ (q.drop n).takeWhile relayFirst ++ [msg] ++ (q.drop n).dropWhile relayFirst

/-- A message given to a lane: it waits in the queue, or is dropped and counted where there is no room. -/
def relayPut (x : XlLane) (msg : RelayMsg) : XlLane :=
  let msg := { msg with crc := relayCrc msg }
  if relayRoom x msg then { x with relayQ := relayInsert (x.relayAt != 0) msg x.relayQ } else { x with dropped := inc32 x.dropped }

/-- A message given to one lane. -/
def relayOn (s : State) (msg : RelayMsg) (l : Nat) : State := modXl s l fun x => relayPut x msg

/-- The learned lane of an address with the time it was last seen; lane 255 none. -/
def learnedAt (s : State) (a : Nat) : Nat × Nat := smGet (255, 0) s.links.learned a

/-- The up lanes of a lane's bond; it is one path for relay (R305). -/
def bondUp (s : State) (l : Nat) : List Nat := (bondLanes s.objs l).filter (lanesUp s).contains

/-- The lanes a message takes: the learned lane or, where that is not up, the lowest up lane of its bond; else every path
but the one it arrived on, each by its lowest up lane (R305, R309). -/
def relayLanes (s : State) (dst : Nat) (arrival : Option Nat) : List Nat :=
  let l := (learnedAt s dst).1
  if l < 16 then (if (lanesUp s).contains l then [l] else (bondUp s l).take 1)
  else (lanesUp s).filter fun l => (bondUp s l).head? == some l && !arrival.any (bondLanes s.objs l).contains

/-- A message sent on each of some lanes. -/
def relayOut (s : State) (msg : RelayMsg) (lanes : List Nat) : State := forEach lanes s fun s l => relayOn s msg l

/-- The next message ID taken. -/
def nextIdent (s : State) : State := { s with links := { s.links with nextId := (s.links.nextId + 1) % 65536 } }

/-- A message this device originates, sent on some lanes. -/
def originate (s : State) (dst typ : Nat) (payload : List Byte) (lanes : List Nat) : State :=
  let msg : RelayMsg := { dst, src := ownAddr s, hop := cfgNat s.objs 0x1A80 2, typ, ident := s.links.nextId, payload }
  relayOut (nextIdent s) msg lanes

/-- CABLE_DELAY_MEASUREMENT (R310): a timing message to the neighbour, and the result of the exchange it belongs to, 0.01 ns;
τ is the mean of 16. -/
def execCableDelayMeasurement (lane roundTrip turnaround : Nat) (s : State) : Host.Outcome State Fault Refusal :=
  if 16 ≤ lane ∨ !coreRuns s ∨ !xlUp s lane then .next s
  else
    let s := originate s (getXl s lane).neighbour 1 (Config.timingPayload s.time) [lane]
    .next <| modXl s lane fun x =>
      let xs := ((roundTrip - turnaround) / 2 :: x.exchanges).take 16
      { x with exchanges := xs, cable := min 0xFFFFFFFF (sumMap xs id / xs.length) }

/-- HELLO_SEND (R308): the address and the lane, on every up lane. -/
def execHelloSend (s : State) : Host.Outcome State Fault Refusal :=
  .next (forEach (lanesUp s) s fun s l => originate s 0xFFFF 2 (beBytes 2 (ownAddr s) ++ beBytes 1 l) [l])

/-- RELAY_ADDRESS_AGE_OUT (R309). -/
def execRelayAddressAgeOut (addr : Nat) (s : State) : Host.Outcome State Fault Refusal :=
  if (learnedAt s addr).1 < 16 ∧ elapsedMs s (learnedAt s addr).2 60000 then
    .next { s with links := { s.links with learned := smSet (255, 0) s.links.learned addr (255, 0) } }
  else .next s

end Sys2Proof.Machine
end

