-- ==== Sys2Proof/Machine/Olp.lean ====
section
/-! DEFINITION. Olp.lean: OLP messages: framing, authentication, the anti-replay window, execution of their
operations, responses, subscriptions, notifications and relayed requests (R41–R70). -/

namespace Sys2Proof.Machine

/-! ### Framing (R41–R44, R46, R47) -/

/-- Longest and shortest message. -/
def olpMax : Nat := 1452
def olpMin : Nat := 32

/-- Data padded with zeros to a multiple of 4. -/
def padded (n : Nat) : Nat := (n + 3) / 4 * 4

/-- A field of a message. -/
def fieldAt (bs : List Byte) (pos len : Nat) : Nat := ofBytes ((bs.drop pos).take len)

/-- Header fields (Table 2.4). -/
structure OlpHeader where
  version : Nat
  flags : Nat
  seq : Nat
  session : Nat
  m : Nat
  count : Nat
  len : Nat
  device : Nat
  reserved : Nat
  deriving DecidableEq, Repr

def olpHeader (bs : List Byte) : OlpHeader :=
  { version := fieldAt bs 0 1, flags := fieldAt bs 1 1, seq := fieldAt bs 2 2, session := fieldAt bs 4 4, m := fieldAt bs 8 1,
    count := fieldAt bs 9 1, len := fieldAt bs 10 2, device := fieldAt bs 12 2, reserved := fieldAt bs 14 2 }

/-- The tag, bytes 16 + L to 16 + L + 15, and the bytes 0 to 16 + L − 1 it covers (Table 2.3, R48). -/
def olpTag (bs : List Byte) : List Byte := (bs.drop (16 + (olpHeader bs).len)).take 16
def olpBody (bs : List Byte) : List Byte := bs.take (16 + (olpHeader bs).len)
def tagOf (key body : List Byte) : List Byte := (hmac key body).take 16

/-- Does an opcode's length field carry the length of data that follows? A read's carries the length it asks for
(R62). -/
def carriesData (opcode : Nat) : Bool := opcode != 1 && opcode != 3

/-- The operations of a payload, none where its structure is wrong (R47). -/
def parseOps : Nat → List Byte → Option (List OlpOp)
  | 0, bs => if bs.isEmpty then some [] else none
  | n + 1, bs =>
    let opcode := fieldAt bs 0 1
    let len := fieldAt bs 6 2
    let size := if carriesData opcode then padded len else 0
    if bs.length < 8 + size ∨ fieldAt bs 5 1 ≠ 0 then none
    else
      let op : OlpOp := { opcode, index := fieldAt bs 2 2, sub := fieldAt bs 4 1, len,
                          data := if carriesData opcode then (bs.drop 8).take len else [] }
      (parseOps n (bs.drop (8 + size))).map fun ops => op :: ops

/-- The operations of a request of right structure (R47); bytes behind the tag are a payload length that disagrees
(DESIGN CHOICE, log 46). -/
def requestOps (bs : List Byte) : Option (List OlpOp) :=
  let h := olpHeader bs
  if h.reserved ≠ 0 ∨ h.flags % 32 ≠ 0 ∨ h.count = 0 ∨ 64 < h.count ∨ bs.length ≠ 32 + h.len then none
  else parseOps h.count ((olpBody bs).drop 16)

/-- One operation of a response or notification (Table 2.5). -/
def replyBytes (r : Reply) : List Byte :=
  beBytes 1 r.opcode ++ beBytes 1 r.status ++ beBytes 2 r.index ++ beBytes 1 r.sub ++ [0] ++ beBytes 2 r.data.length ++ r.data ++
  List.replicate (padded r.data.length - r.data.length) 0

/-- A message of the device with its tag. -/
def olpMessage (key : List Byte) (flags seq session m device : Nat) (rs : List Reply) : List Byte :=
  let ops := rs.flatMap replyBytes
  let body := beBytes 1 1 ++ beBytes 1 flags ++ beBytes 2 seq ++ beBytes 4 session ++ beBytes 1 m ++ beBytes 1 rs.length ++
    beBytes 2 ops.length ++ beBytes 2 device ++ [0, 0] ++ ops
  body ++ tagOf key body

/-- A message of the device on its way: from a management port, or back over the lane it came by (R41, R68). -/
def sendTo (s : State) (o : Origin) (bytes : List Byte) : State :=
  if o.port < 2 then emit s (.olp o bytes)
  else originate s o.addr 0 bytes ((lanesUp s).filter (· == o.port - 2))

/-! ### Sessions (R50–R52) -/

def getSession (s : State) (m : Nat) : Session := smGet {} s.olp.sessions m
def modSession (s : State) (m : Nat) (f : Session → Session) : State :=
  { s with olp := { s.olp with sessions := smMod {} s.olp.sessions m f } }

/-- The key of a manager; [] an empty slot. -/
def olpKey (s : State) (m : Nat) : List Byte := if m < 8 then smGet [] s.nv.olpKeys m else []

/-- Highest session counter accepted (R51). -/
def storedSession (s : State) (m : Nat) : Nat := smGet 0 s.nv.sessions m

/-- Is a request the most recently accepted one again (R52)? -/
def exactRepeat (s : State) (h : OlpHeader) (tag : List Byte) : Bool :=
  let x := getSession s h.m
  x.isOpen && h.session == storedSession s h.m && h.seq == x.lastSeq && tag == x.lastTag

/-- The session after a request passes the window, none where it is rejected (R50, R51). -/
def windowTest (stored : Nat) (x : Session) (session seq : Nat) : Option Session :=
  if stored = 0xFFFFFFFF then none
  else if stored < session then some { x with isOpen := true, newest := seq, seen := [] }
  else if session < stored ∨ !x.isOpen then none
  else
    let ahead := (seq + 65536 - x.newest) % 65536
    let behind := (x.newest + 65536 - seq) % 65536
    if 1 ≤ ahead ∧ ahead ≤ 32767 then
      some { x with newest := seq, seen := (ahead :: x.seen.map (· + ahead)).filter (decide <| · ≤ 64) }
    else if 1 ≤ behind ∧ behind ≤ 64 ∧ !x.seen.contains behind then some { x with seen := behind :: x.seen }
    else none

/-! ### Subscriptions (R64–R67) -/

/-- The status of tests 2–7 of a subscribe. A reserved byte of its data (Table 2.10) that is not zero is a value out of
range, 0x05, and no header error of R47: DESIGN CHOICE, unsafe, the spec does not say which (log 46). -/
def subscribeTest (s : State) (m idx sub : Nat) (data : List Byte) : Nat :=
  match lookup idx sub with
  | (st, none) => st
  | (_, some o) =>
    let mode := fieldAt data 0 1
    let interval := fieldAt data 2 2
    if data.length ≠ 8 ∨ o.typ = .dom then 0x04
    else if !o.acc.reads then 0x03
    else if !readPermitted s m then 0x07
    else if ¬ (mode = 1 ∨ mode = 2) ∨ fieldAt data 1 1 ≠ 0 ∨ fieldAt data 6 2 ≠ 0 ∨ interval = 0 ∨ 6000 < interval ∨ 3600 < fieldAt data 4 2 then 0x05
    else 0

/-- One subscribe operation (opcode 0x04). -/
def subscribeOp (s : State) (m idx sub : Nat) (data : List Byte) (origin : Origin) : Nat × State :=
  let s := touch s m idx
  match subscribeTest s m idx sub data with
  | 0 =>
    if windowShut s m idx sub then (0x0C, s) else
    let rest := s.olp.subs.filter fun x => !(x.m == m && x.index == idx && x.sub == sub)
    let put (subs : List Subscription) : State := { s with olp := { s.olp with subs } }
    if fieldAt data 4 2 = 0 then (0, put rest)
    else if 512 ≤ rest.length ∨ 128 ≤ (rest.filter (·.m == m)).length then (0x0E, s)
    else (0, put (rest ++ [{ m, index := idx, sub, mode := fieldAt data 0 1, interval := fieldAt data 2 2, lease := fieldAt data 4 2,
                             since := s.time, lastSent := none, seen := watchedValue s idx sub, origin }]))
  | st => (st, s)

/-- Is a notification of a subscription due (R65)? -/
def subDue (s : State) (x : Subscription) : Bool :=
  if x.mode = 2 then elapsedMs s (x.lastSent.getD x.since) (10 * x.interval)
  else (x.changed || watchedValue s x.index x.sub != x.seen) &&
    (match x.lastSent with | none => true | some t => elapsedMs s t (10 * x.interval))

/-- The notification operation of a subscription. -/
def subReply (s : State) (x : Subscription) : Reply :=
  { opcode := 0x81, status := 0, index := x.index, sub := x.sub, data := subscribedValue s x.index x.sub }

/-- The first operations that fit one message: at most 64, at most 1,452 bytes. -/
def fitReplies (s : State) : Nat → Nat → List Subscription → List Subscription
  | 0, _, _ => []
  | _ + 1, _, [] => []
  | n + 1, size, x :: xs =>
    let size := size + (replyBytes (subReply s x)).length
    if olpMax < size then [] else x :: fitReplies s n size xs

/-- NOTIFY (R65, R66): the subscriptions of a manager that are due and share the first one's origin. -/
def execNotify (m : Nat) (s : State) : Host.Outcome State Fault Refusal :=
  match s.olp.subs.filter fun x => x.m == m && subDue s x with
  | [] => .next s
  | x :: xs =>
    if !s.life.sup || (olpKey s m).isEmpty then .next s
    else
      let due := fitReplies s 64 32 (x :: xs.filter (·.origin == x.origin))
      let device := if x.origin.port < 2 then 0xFFFF else ownAddr s
      let bytes := olpMessage (olpKey s m) 0x40 (getSession s m).notifySeq s.life.starts m device (due.map (subReply s))
      let subs := s.olp.subs.map fun y =>
        if due.contains y then { y with lastSent := some s.time, seen := watchedValue s y.index y.sub, changed := false } else y
      let s := modSession { s with olp := { s.olp with subs } } m fun x => { x with notifySeq := (x.notifySeq + 1) % 65536 }
      .next (sendTo s x.origin bytes)

/-- SUBSCRIPTION_LEASE_EXPIRY (R67). -/
def execSubscriptionLeaseExpiry (m index sub : Nat) (s : State) : Host.Outcome State Fault Refusal :=
  .next { s with olp := { s.olp with
    subs := s.olp.subs.filter fun x => !(x.m == m && x.index == index && x.sub == sub && elapsedMs s x.since (1000 * x.lease)) } }

/-! ### Execution (R45, R46, R56) -/

/-- The padded length of the full response data of an operation (R46). For a DOMAIN read that is the length it asks for,
be it one that the read then refuses: DESIGN CHOICE, unsafe, so such a read may be answered 0x0F where its own test
gives 0x04 (log 46). -/
def expected (op : OlpOp) : Nat :=
  if carriesData op.opcode then 0
  else match (lookup op.index op.sub).2 with
    | none => 0
    | some o => padded (if o.typ = .dom then op.len else o.typ.len)

/-- One operation carried out: its status, its data, and the state after it. -/
def execOp (s : State) (p : InProgress) (op : OlpOp) : Nat × List Byte × State :=
  match op.opcode with
  | 1 => readObject s p.m op.index op.sub op.len
  | 2 => let r := writeObject s p.m op.index op.sub op.data; (r.1, [], noteChanges r.2)
  | 3 => readStaged s p.m op.index op.sub op.len
  | 4 => let r := subscribeOp s p.m op.index op.sub op.data p.origin; (r.1, [], r.2)
  | _ => (0x04, [], s)

/-- The response of a message is formed, stored and sent (R46, R52). -/
def finish (s : State) (p : InProgress) (flags : Nat) : State :=
  let bytes := olpMessage (olpKey s p.m) flags p.seq p.session p.m p.device p.done
  let s := dropSnapshots { s with olp := { s.olp with busy := none } }
  sendTo (modSession s p.m fun x => { x with response := some bytes }) p.origin bytes

/-- Bytes of the response so far, with its header and tag. -/
def sizeOf_ (rs : List Reply) : Nat := 32 + sumMap rs fun r => (replyBytes r).length

/-- The operations of a message in their order; `full` once one did not fit (R46). A commit request suspends the
message until the commit ends. -/
def runOps : List OlpOp → Bool → State → InProgress → State
  | [], _, s, p => finish s p 0x80
  | op :: rest, full, s, p =>
    let reply (st : Nat) (data : List Byte) : Reply := { opcode := op.opcode, status := st, index := op.index, sub := op.sub, data }
    let full := full || decide (olpMax < sizeOf_ p.done + 8 + expected op + 8 * rest.length)
    if full then runOps rest true s { p with done := p.done ++ [reply 0x0F []] }
    else
      let r := execOp s p op
      let p := { p with done := p.done ++ [reply r.1 r.2.1] }
      if op.opcode = 2 ∧ commitWaits op.index op.sub op.data r.1 then { r.2.2 with olp := { r.2.2.olp with busy := some { p with rest } } }
      else runOps rest false r.2.2 p

/-- A counter of 0x1102 moved on. -/
def countOlp (s : State) (f : Olp → Olp) : State := { s with olp := f s.olp }

/-- One message taken from the queue (R47–R52). -/
def startMessage (s : State) (origin : Origin) (bs : List Byte) : State :=
  let h := olpHeader bs
  let key := olpKey s h.m
  let tag := olpTag bs
  let x := getSession s h.m
  let p : InProgress := { m := h.m, session := h.session, seq := h.seq, device := h.device, tag, origin, done := [], rest := [] }
  let go (s : State) : State :=
    let s := countOlp s fun o => { o with accepted := inc32 o.accepted }
    match requestOps bs with
    | none => finish (countOlp s fun o => { o with malformed := inc32 o.malformed }) p 0xA0
    | some ops => runOps ops false (dropSnapshots s) p
  if key.isEmpty || tagOf key (olpBody bs) != tag then countOlp s fun o => { o with tagFail := inc32 o.tagFail }
  else if exactRepeat s h tag then
    match x.response with
    | some r => sendTo s origin r
    | none => go s
  else match windowTest (storedSession s h.m) x h.session h.seq with
  | none => countOlp s fun o => { o with replay := inc32 o.replay }
  | some x =>
    let s := { s with nv := { s.nv with sessions := smSet 0 s.nv.sessions h.m h.session } }
    go (modSession s h.m fun _ => { x with lastTag := tag, lastSeq := h.seq, response := none })

/-- The queued messages, one at a time, up to the first that waits for a commit (R45). -/
def serveQueue : Nat → State → State
  | 0, s => s
  | n + 1, s =>
    if s.olp.busy.isSome then s
    else match s.olp.rxq with
    | [] => s
    | (o, bs) :: rest => serveQueue n (startMessage { s with olp := { s.olp with rxq := rest } } o bs)

/-- The commit under way has ended: its write is answered, and its message goes on (R56, R57). -/
def commitAnswered (s : State) (status : Nat) : State :=
  match s.olp.commitBy with
  | some m => answer { s with olp := { s.olp with commitBy := none } } m 2 0x1010 1 status []
  | none => match s.olp.busy with
    | none => s
    | some p =>
      let done := match p.done.reverse with | r :: rs => (({ r with status } : Reply) :: rs).reverse | [] => []
      let s := runOps p.rest false { s with olp := { s.olp with busy := none } } { p with done, rest := [] }
      serveQueue s.olp.rxq.length s

/-! ### Relay (R68, R69) -/

/-- A request for another device of the chain. -/
def relayRequest (s : State) (origin : Origin) (h : OlpHeader) (bs : List Byte) : State :=
  let lanes := relayLanes s h.device none
  if 32 ≤ s.olp.waiting.length ∨ lanes.isEmpty then countOlp s fun o => { o with relayDrops := inc32 o.relayDrops }
  else
    let sent := lanes.any fun l => relayRoom (getXl s l) { dst := h.device, src := 0, hop := 0, typ := 0, ident := 0, payload := bs }
    let s := originate s h.device 0 bs lanes
    if !sent then countOlp s fun o => { o with relayDrops := inc32 o.relayDrops }
    else countOlp s fun o => { o with
      relayed := inc32 o.relayed,
      waiting := o.waiting ++ [{ device := h.device, m := h.m, session := h.session, seq := h.seq, origin, since := s.time }] }

/-- A response from the chain goes to the manager whose request waits for it; any other is discarded. -/
def relayResponse (s : State) (bs : List Byte) : State :=
  let h := olpHeader bs
  match s.olp.waiting.find? fun w => w.device == h.device && w.m == h.m && w.session == h.session && w.seq == h.seq with
  | none => s
  | some w => sendTo { s with olp := { s.olp with waiting := s.olp.waiting.erase w } } w.origin bs

/-- RELAY_RESPONSE_RETURN (R68). -/
def execRelayResponseReturn (lane : Nat) (bytes : List Byte) (s : State) : Host.Outcome State Fault Refusal :=
  .next (if (lanesUp s).contains lane then relayResponse s bytes else s)

/-- RELAY_RESPONSE_TIMEOUT (R69): the oldest relayed request has waited 500 ms. -/
def execRelayResponseTimeout (s : State) : Host.Outcome State Fault Refusal :=
  match s.olp.waiting with
  | w :: ws =>
    if elapsedMs s w.since 500 then .next (countOlp s fun o => { o with waiting := ws, relayDrops := inc32 o.relayDrops }) else .next s
  | [] => .next s

/-- A datagram arrives on a management port, or an OLP payload over a lane: it is malformed, for another device,
or taken into the queue. Without the supervisor only relay forwarding acts (R423); OLP is not served in OFF or in
the RETURNED lifecycle (R404). -/
def olpReceive (s : State) (origin : Origin) (bs : List Byte) : State :=
  let h := olpHeader bs
  if s.life.power = .off ∨ s.nv.lifecycle = 3 then s
  else if bs.length < olpMin ∨ olpMax < bs.length ∨ h.version ≠ 1 then
    if s.life.sup then countOlp s fun o => { o with malformed := inc32 o.malformed } else s
  else if !(h.device == 0xFFFF && decide (origin.port < 2)) && !isOwnAddr s h.device then
    if origin.port < 2 then relayRequest s origin h bs else s
  else if !s.life.sup then s
  else if !queueRoom 8 (sumMap s.olp.rxq fun e => (e.2.length + 7) / 8) ((bs.length + 7) / 8) then
    countOlp s fun o => { o with malformed := inc32 o.malformed }
  else if origin.bad then countOlp s fun o => { o with malformed := inc32 o.malformed }
  else
    let s := { s with olp := { s.olp with rxq := s.olp.rxq ++ [(origin, bs)] } }
    serveQueue s.olp.rxq.length s

/-- Is a datagram OLP's: to its UDP port, over an IP version that is served (R41, 0x1101:01–02)? -/
def olpServed (s : State) (o : Origin) : Bool :=
  o.dst == cfgNat s.objs 0x1101 1 && bit (cfgNat s.objs 0x1101 2) (if o.v6 then 1 else 0)

/-- OLP_MESSAGE: a datagram on MP0 or MP1. -/
def execOlpMessage (origin : Origin) (bytes : List Byte) (s : State) : Host.Outcome State Fault Refusal :=
  .next (if origin.port < 2 && olpServed s origin then olpReceive s origin bytes else s)

/-! ### The end of a commit -/

/-- COMMIT_CHECKS_DONE (R57, R59). -/
def execCommitChecksDone (s : State) : Host.Outcome State Fault Refusal :=
  if s.life.sup && s.commit.st == 1 then
    let s := endChecks s
    .next (if s.commit.st = 4 then commitAnswered s 0x0A else s)
  else .next s

/-- COMMIT_APPLY (R56, R60): at the next block boundary, with or without the supervisor. -/
def execCommitApply (s : State) : Host.Outcome State Fault Refusal :=
  if coreClock s && s.commit.held then .next (commitAnswered (applyCommit s) 0) else .next s

end Sys2Proof.Machine
end

