-- ==== Sys2Proof/Machine/Monitor.lean ====
section
/-! DEFINITION. Monitor.lean: the Yile monitor: challenge and unlock, levels, keys, lifecycle requests, boundary
scan and recovery (R402–R404, R408, R414–R421). The monitor is manager 8. -/

namespace Sys2Proof.Machine

/-- The ROM serves the monitor where no image qualifies (R408). -/
def romServes (s : State) : Bool := s.life.power == .boot && s.life.noImage

/-- Somebody answers the monitor. -/
def monitorServed (s : State) : Bool := s.life.power != .off && (s.life.sup || romServes s)

/-- A hexadecimal digit in ASCII. -/
def hexDigit (n : Nat) : Byte := BitVec.ofNat 8 (if n < 10 then 0x30 + n else 0x37 + n)

/-- Bytes in hexadecimal, in groups of eight digits as R415 and R417 write them. -/
def hexGroups : Nat → List Byte → List Byte
  | _, [] => []
  | i, b :: bs => (if i % 4 = 0 then [0x20#8] else []) ++ [hexDigit (b.toNat / 16), hexDigit (b.toNat % 16)] ++ hexGroups (i + 1) bs

/-- The line that answers a command (R414): `OK`, or `ERR` and the status in hexadecimal, and what the command returns
(its form DESIGN CHOICE but for the nonce's, log 29). -/
def monitorLine (status : Nat) (data : List Byte) : List Byte :=
  (if status = 0 then [0x4F#8, 0x4B#8] else [0x45#8, 0x52#8, 0x52#8, 0x20#8, hexDigit (status / 16), hexDigit (status % 16)]) ++ hexGroups 0 data

/-- The rate of the monitor in baud (R414): a row answers at the rate it found, and leaves the one written. -/
def monitorRate (s : State) : Nat := cfgNat s.objs 0x1230 3

/-- A command is answered with a status and data, on the line monitorLine. -/
def reply (s : State) (status : Nat) (data : List Byte) : State := emit s (.monitor status data)

/-- A monitor command: without an answer where nobody serves the monitor; in BOOT only the ROM's commands are
served (R419). -/
def monitorCommand (s : State) (inBoot : Bool) (f : State → State) : Host.Outcome State Fault Refusal :=
  if !monitorServed s then .next s
  else
    let s := { s with life := { s.life with lastCmd := s.time } }
    .next (if s.life.power = .boot ∧ !inBoot then reply s 0x07 [] else f s)

/-- The level of the session changes, with its record (R417). -/
def setLevel (s : State) (l : Nat) : State :=
  if s.life.level = l then s else tallyEvent { s with life := { s.life with level := l } } 0x0C03 0 [s.life.level, l]

/-! ### Challenge and unlock (R415, R416) -/

/-- MONITOR_CHALLENGE: a fresh nonce of the random generator (log 4). -/
def execMonitorChallenge (level : Nat) (s : State) : Host.Outcome State Fault Refusal :=
  monitorCommand s true fun s =>
    if level = 0 ∨ 3 < level then reply s 0x05 []
    else
      let n := Config.nonce s.free
      reply { s with free := s.free + 1, life := { s.life with nonce := some (level, n, s.time) } } 0 n

/-- The key that unlocks a level; in RETURNED the FACTORY key unlocks every level. -/
def levelKey (s : State) (level : Nat) : List Byte :=
  if level = 3 ∨ s.nv.lifecycle = 3 then s.nv.facKey else if level = 2 then s.nv.svcKey else s.nv.obsKey

/-- The response that unlocks a level for a nonce. -/
def unlockResponse (s : State) (level : Nat) (nonce : List Byte) : List Byte :=
  (hmac (levelKey s level) (nonce ++ s.nv.serial ++ beBytes 1 level)).take 16

/-- Does a response verify against the nonce outstanding? -/
def unlockOk (s : State) (level : Nat) (response : List Byte) : Bool :=
  match s.life.nonce with
  | some (l, n, t) =>
    l == level && !elapsedMs s t 60000 && !(levelKey s level).isEmpty && response == unlockResponse s level n
  | none => false

/-- Seconds of lock-out after `n` consecutive failures. -/
def lockoutSeconds (n : Nat) : Nat := if n < 3 then 0 else min 3600 (60 * 2 ^ min 6 (n - 3))

/-- A failed unlock. -/
def unlockFailed (s : State) : State :=
  let n := s.life.fails + 1
  { s with life := { s.life with
      fails := n, unlockFails := inc32 s.life.unlockFails,
      lockUntil := if n < 3 then s.life.lockUntil else lockoutSeconds n * 1000 * msUnits + s.time } }

/-- MONITOR_UNLOCK: a nonce serves one attempt; a lower level's key leaves a higher level as it is. -/
def execMonitorUnlock (level : Nat) (response : List Byte) (s : State) : Host.Outcome State Fault Refusal :=
  monitorCommand s true fun s =>
    if s.time < s.life.lockUntil then reply s 0x0C []
    else if level = 0 ∨ 3 < level then reply s 0x05 []
    else
      let ok := unlockOk s level response
      let s := { s with life := { s.life with nonce := none } }
      if ok then reply (setLevel { s with life := { s.life with fails := 0 } } (max s.life.level level)) 0 []
      else reply (unlockFailed s) 0x07 []

/-- UNLOCK_LOCKOUT_END. -/
def execUnlockLockoutEnd (s : State) : Host.Outcome State Fault Refusal :=
  .next (if s.life.lockUntil ≠ 0 ∧ s.life.lockUntil ≤ s.time then { s with life := { s.life with lockUntil := 0 } } else s)

/-- MONITOR_LOCK. -/
def execMonitorLock (s : State) : Host.Outcome State Fault Refusal :=
  monitorCommand s false fun s => reply (closeMonitor s) 0 []

/-- MONITOR_LEVEL: the session level and the lifecycle. -/
def execMonitorLevel (s : State) : Host.Outcome State Fault Refusal :=
  monitorCommand s false fun s => reply s 0 (beBytes 1 s.life.level ++ beBytes 1 s.nv.lifecycle)

/-- MONITOR_IDLE_TIMEOUT (R417). -/
def execMonitorIdleTimeout (s : State) : Host.Outcome State Fault Refusal :=
  .next (if monitorServed s ∧ s.life.level ≠ 0 ∧ elapsedMs s s.life.lastCmd (60000 * cfgNat s.objs 0x1230 2) then closeMonitor s else s)

/-! ### Objects -/

/-- MONITOR_RD: an object, or up to 64 words of a window's data subindex. -/
def execMonitorRd (index sub n : Nat) (s : State) : Host.Outcome State Fault Refusal :=
  monitorCommand s false fun s => alone s fun s =>
    if 64 < n then reply s 0x04 []
    else let r := readObject s 8 index sub (4 * n); reply r.2.2 r.1 r.2.1

/-- MONITOR_WR. -/
def execMonitorWr (index sub : Nat) (data : List Byte) (s : State) : Host.Outcome State Fault Refusal :=
  monitorCommand s false fun s => commandWrite s 8 index sub data

/-! ### Keys (R49, R51, R415) -/

/-- May keys be installed (Table 17.8)? -/
def keysPermitted (s : State) : Bool :=
  s.life.power != .shutdown && s.nv.lifecycle != 3 && decide ((if s.nv.lifecycle = 0 then 3 else 2) ≤ s.life.level)

/-- MONITOR_MKEY: the OBSERVE or SERVICE key. -/
def execMonitorMkey (level : Nat) (newKey : List Byte) (s : State) : Host.Outcome State Fault Refusal :=
  monitorCommand s false fun s =>
    if newKey.length ≠ 32 then reply s 0x04 []
    else if !keysPermitted s then reply s 0x07 []
    else match level with
      | 1 => reply { s with nv := { s.nv with obsKey := newKey } } 0 []
      | 2 => reply { s with nv := { s.nv with svcKey := newKey } } 0 []
      | _ => reply s 0x05 []

/-- A manager's key replaced or cleared: its stored session counter and its session go. -/
def setOlpKey (s : State) (slot : Nat) (newKey : List Byte) : State :=
  modSession { s with nv := { s.nv with olpKeys := smSet [] s.nv.olpKeys slot newKey, sessions := smSet 0 s.nv.sessions slot 0 } } slot
    fun x => { notifySeq := x.notifySeq }

/-- MONITOR_OKEY: 32 bytes install a key, none clear the slot. -/
def execMonitorOkey (slot : Nat) (newKey : List Byte) (s : State) : Host.Outcome State Fault Refusal :=
  monitorCommand s false fun s =>
    if newKey.length ≠ 32 ∧ newKey ≠ [] then reply s 0x04 []
    else if !keysPermitted s then reply s 0x07 []
    else if 8 ≤ slot then reply s 0x05 []
    else reply (setOlpKey s slot newKey) 0 []

/-! ### Lifecycle (R402, R403) -/

/-- What a return token signs: the SHA-256 of the serial number and the bytes 52 45 54. -/
def returnDigest (s : State) : List Byte := sha256 (s.nv.serial ++ [0x52, 0x45, 0x54])

/-- The level a transition asks for; none where the lifecycle in force does not allow it. -/
def transitionLevel (s : State) (target : Nat) : Option Nat :=
  let from_ := s.nv.lifecycle
  if target ≤ s.nv.burned then none
  else if target = 3 then some (if from_ = 0 then 3 else 2)
  else if from_ = 0 ∧ target = 1 then some 3
  else if from_ = 1 ∧ target = 2 then some 2
  else none

/-- The preconditions of Table 17.2. -/
def transitionReady (s : State) (target : Nat) (token : List Word) : Bool :=
  match target with
  | 1 => s.nv.rootHash && s.nv.licHash && !s.nv.obsKey.isEmpty && !s.nv.svcKey.isEmpty
  | 2 => s.lic.active != 0
  | _ => Config.signatureOk 2 (wordsOfBytes (returnDigest s) ++ token)

/-- MONITOR_LIFECYCLE. -/
def execMonitorLifecycle (target : Nat) (token : List Word) (s : State) : Host.Outcome State Fault Refusal :=
  monitorCommand s false fun s =>
    match transitionLevel s target with
    | none => reply s 0x07 []
    | some l =>
      if s.life.level < l then reply s 0x07 []
      else if s.life.power ≠ .hold then reply s 0x06 []
      else if !transitionReady s target token then reply s 0x05 []
      else reply (tallyEvent { s with nv := { s.nv with burned := target } } 0x0C04 (srcField 11 8) [s.nv.lifecycle, target]) 0 []

/-! ### Boundary scan and recovery (R408, R421) -/

/-- MONITOR_SCAN_ON. -/
def execMonitorScanOn (s : State) : Host.Outcome State Fault Refusal :=
  monitorCommand s false fun s =>
    if s.life.level < 3 ∨ s.nv.lifecycle ≠ 0 ∨ s.life.power ≠ .hold then reply s 0x07 []
    else reply { s with life := { s.life with scan := true } } 0 []

/-- MONITOR_SCAN_OFF. -/
def execMonitorScanOff (s : State) : Host.Outcome State Fault Refusal :=
  monitorCommand s false fun s =>
    if s.life.level < 3 then reply s 0x07 [] else reply { s with life := { s.life with scan := false } } 0 []

/-- MONITOR_RECOVER: the ROM takes an image into slot A and resets the frame die, which boots at once (log 29). -/
def execMonitorRecover (image : List Word) (s : State) : Host.Outcome State Fault Refusal :=
  monitorCommand s true fun s =>
    if !romServes s ∨ s.life.level < 2 then reply s 0x07 []
    else if image.isEmpty ∨ 1048576 < image.length then reply s 0x05 []
    else
      let s := reply { s with nv := { s.nv with imgA := image } } 0 []
      let f := freeFlash (dieReset s .boot 0)
      bootStart f.2 f.1

end Sys2Proof.Machine
end

