-- ==== Sys2Proof/Machine/Relay.lean ====
section
/-! DEFINITION. Relay.lean: relay messages as they arrive over a chain lane (R308, R309, R315), and the
FRAME_SYNC_OUT pin (R448). -/

namespace Sys2Proof.Machine

/-! ### Relay messages (R309) -/

/-- A relay message discarded: CRC, hop limit, duplicate, or a poisoned word. -/
def relayDropped (s : State) (lane : Nat) : State := modXl s lane fun x => { x with dropped := inc32 x.dropped }

/-- Has one of the last 64 messages accepted the same source and message ID? -/
def seenBefore (s : State) (msg : RelayMsg) : Bool := s.links.recent.contains (msg.src, msg.ident)

/-- A message accepted on a lane: it is remembered, and its source's lane is learned, up to 256 addresses. -/
def learn (s : State) (lane : Nat) (msg : RelayMsg) : State :=
  let known := decide ((learnedAt s msg.src).1 < 16)
  { s with links := { s.links with
    recent := ((msg.src, msg.ident) :: s.links.recent).take 64,
    learned := if known || decide (s.links.learned.length < 256)
      then smSet (255, 0) s.links.learned msg.src (lane, s.time) else s.links.learned } }

/-- A hello from the neighbour on a lane (R308). -/
def hello (s : State) (lane : Nat) (msg : RelayMsg) : State :=
  modXl s lane fun x => { x with neighbour := fieldAt msg.payload 0 2, neighLane := fieldAt msg.payload 2 1 }

/-- An OLP message delivered here: a response to a relayed request, or a request to this device. -/
def deliverOlp (s : State) (lane : Nat) (msg : RelayMsg) : State :=
  if bit (olpHeader msg.payload).flags 7 then relayResponse s msg.payload
  else olpReceive s { port := lane + 2, addr := msg.src } msg.payload

/-- A message for another device: forwarded with its hop limit lowered, discarded where that reaches 0. -/
def forward (s : State) (lane : Nat) (msg : RelayMsg) : State :=
  if msg.hop ≤ 1 then relayDropped s lane
  else relayOut s { msg with hop := msg.hop - 1 } (relayLanes s msg.dst (some lane))

/-- The bytes a relay block carries. -/
def relayChunk (b : BitVec 64) : List Byte := (beBytes 7 (bits b.toNat 55 0)).take (bits b.toNat 58 56 + 1)

/-- Are these the blocks of one message: data blocks, the first marked as its start and the last as its end? -/
def relayWhole (bs : List (BitVec 64)) : Bool :=
  !bs.isEmpty && bs.zipIdx.all fun e =>
    let b := e.1.toNat
    bit b 63 && bit b 62 == (e.2 == 0) && bit b 61 == (e.2 + 1 == bs.length) && bits b 60 59 == 0

/-- The message that relay blocks spell (R309); none where they spell none. -/
def relayParse (bs : List (BitVec 64)) : Option RelayMsg :=
  let x := bs.flatMap relayChunk
  let n := fieldAt x 8 2
  if relayWhole bs && x.length == n + 16 && fieldAt x 10 2 == 0 then
    some { dst := fieldAt x 0 2, src := fieldAt x 2 2, hop := fieldAt x 4 1, typ := fieldAt x 5 1, ident := fieldAt x 6 2
           payload := (x.drop 12).take n, crc := BitVec.ofNat 32 (fieldAt x (12 + n) 4) }
  else none

/-- A timing message from a neighbour, answered where it calls for an answer (R310, log 34). -/
def timing (s : State) (lane : Nat) (msg : RelayMsg) : State :=
  match Config.timingAnswer msg.payload with
  | some bytes => originate s msg.src 1 bytes [lane]
  | none => s

/-- RELAY_MESSAGE_RECEIVE (R309): the blocks of one message on a lane; `bad` a word of it with bad parity. -/
def execRelayMessageReceive (lane : Nat) (blocks : List (BitVec 64)) (bad : Option Nat) (s : State) : Host.Outcome State Fault Refusal :=
  if !(lanesUp s).contains lane then .next s
  else if bad.isSome then .next (relayDropped (linkParity s 2 lane 1 bad.toList) lane)
  else match relayParse blocks with
  | none => .next (relayDropped s lane)
  | some msg =>
    if msg.crc != relayCrc msg || seenBefore s msg then .next (relayDropped s lane)
    else
      let s := learn s lane msg
      .next (match msg.typ with
        | 2 => hello s lane msg
        | 1 => timing s lane msg
        | _ => if isOwnAddr s msg.dst then deliverOlp s lane msg else forward s lane msg)

/-! ### FRAME_SYNC_OUT (R448) -/

/-- Does an instant of the 10 ms grid, 2,457,600 samples at CSR, lie in the present frame (R211)? -/
def gridInstant (s : State) : Bool := decide (s.clk.frame * 72 ≤ (s.clk.frame * 72 + 71) / 2457600 * 2457600)

/-- FRAME_SYNC_OUT_PULSE: the pin rises at a grid instant. -/
def execFrameSyncOutPulse (s : State) : Host.Outcome State Fault Refusal :=
  .next (if coreClock s && gridInstant s && !s.pins.syncOut then { s with pins := { s.pins with syncOut := true, syncOutAt := s.time } } else s)

/-- FRAME_SYNC_OUT_PULSE_END: 1.00 µs later it falls. -/
def execFrameSyncOutPulseEnd (s : State) : Host.Outcome State Fault Refusal :=
  .next (if s.pins.syncOut && decide (s.pins.syncOutAt + usUnits ≤ s.time) then { s with pins := { s.pins with syncOut := false } } else s)

end Sys2Proof.Machine
end

