-- ==== Sys2Proof/Machine/Frame.lean ====
section
/-! DEFINITION. Frame.lean: one Reckoner frame (RECKONER_FRAME): what a block boundary brings, the release of the
blocks of the frame before, the blocks of this frame, and the Crossbar's transfer (chs. 1, 3, 5, 6, R161). -/

namespace Sys2Proof.Machine

/-! ### Release of the blocks computed in the last frame (R20, R31, R32, R94, R160) -/

/-- Does a transmit block mute itself (R94)? Opt-out does not reach samples flagged invalid. -/
def blockFlagged (cfg : SMap Nat) (ch : Nat) (xs : List Smp) : Bool :=
  xs.any (·.invalid) || (!cfgBool cfg (sigIdx ch 0) 4 && xs.any (·.settle))

/-- One slot's settling mute: held where its part of the block is flagged for settling. -/
def settleMute (parts : List (Nat × List Smp)) (s : State) (g : Nat) : State :=
  match parts.find? (·.1 == g) with
  | some p => if blockFlagged s.objs (g / 8) p.2 then addMute s (.settling g) (.slot g) else dropMute s (.settling g)
  | none => dropMute s (.settling g)

/-- The settling mutes of a channel's sides follow the blocks that are released now. -/
def settleMutes (s : State) (ch : Nat) : State :=
  forEach (chanSlots ch) s (settleMute (getChan s ch).txParts)

/-- The mute term of TXEN at a block boundary (R32): restored after the first block that no mute zeroed, with the
event 0 sequence where TXEN rises (Table 10.5). -/
def restoreTxen (s : State) (ch : Nat) : State :=
  let clear := mutePermits s ch
  let c := getChan s ch
  let rise := !c.muteTerm && c.outClear && clear
  let high := txen s ch
  let s := modChan s ch fun c => { c with muteTerm := c.muteTerm || rise, outClear := clear }
  let s := if !high && txen s ch then queueEvent s ch 0 else s
  let on := txen s ch && (getChan s ch).radio.st.transmits && !inTransition s ch
  modRadio s ch fun x => { x with highAt := if on then some (x.highAt.getD s.time) else none }

/-- A TDD channel's samples that pass the TX_OUT ball outside the transmit windows of some sides are zero: nothing is
released there (R227, R248). -/
def inWindows (s : State) (ch : Nat) (sides : List Nat) (xs : List Smp) : List Smp :=
  if reqState s.objs ch ≠ 6 then xs
  else
    let ws := if groupTimed s ch then tddWindows s s.objs ch else []
    let delay := txLatency + skewSamples s.objs ch
    xs.zipIdx.map fun (x, i) => if sides.any fun g => sideOpen s ch delay i g ws then x else {}

/-- Do mutes zero a channel's whole output: one of channel, rod or device scope, or one on each of its transmitting
slots (R9, R31, log 35)? -/
def outputMuted (s : State) (ch : Nat) : Bool :=
  let parts := (getChan s ch).txParts
  chanMuted s ch || (!parts.isEmpty && parts.all fun p => slotMuted s p.1)

/-- The block a channel releases (R9, R31, R80, R160) and its saturations in stages 4 and 5: the sum of its unmuted
contributions, each inside its windows, and the LO-leakage offset, as the checks let it pass; of a block that mutes
zero, or a poisoned one, clean zeros, since zero is what is sent. -/
def releasedBlock (s : State) (ch : Nat) : List Smp × Nat :=
  let c := getChan s ch
  if !c.txHeld || c.txPoison || outputMuted s ch then (List.replicate 72 {}, 0)
  else
    let parts := c.txParts.filter fun p => !slotMuted s p.1
    let y := sumLeak { ds := c.txErr } c.cal.loLeak (parts.map fun p => inWindows s ch [p.1] p.2)
    (inWindows s ch (parts.map (·.1)) y.1, y.2.sats)

/-- The channel reference takes the released block (R159, R160). -/
def pushRef (ys : List Smp) (c : Chan) : Chan :=
  if c.ref.isEmpty && ys.all (· == {}) then c else { c with ref := (ys.reverse ++ c.ref).take 4608 }

/-- The words on their way to the rod die (Table 3.6): the rod die checks the whole block as it arrives (R134), puts
zeros in place of one that fails, and its interpolators and DAC take what has crossed the link (log 37). -/
def driveRod (ys : List Smp) (c : Chan) : Chan :=
  if c.txLink.isEmpty && ys.all (· == {}) then c
  else
    let track := trackOf 78 c.txLink ys
    let up := rodInterpolate 6 c.rodUp1 (track.take 72)
    let dac := rodInterpolate 7 c.rodUp2 up.1
    { c with txLink := lineAfter 78 c.txLink ys, rodUp1 := up.2, rodUp2 := dac.2, dac := dac.1.map dacWord }

/-- A channel's block leaves: reference, rod link, exit check. -/
def releaseChannel (inp : FrameInput) (s : State) (ch : Nat) : State :=
  let b := releasedBlock s ch
  let zs := strike inp.txHits ch 0 b.1
  let ok := zs.all residuesOk
  let s := modChan s ch fun c =>
    { driveRod (if ok then zs else List.replicate 72 {}) (pushRef b.1 c) with txSat := sat32 (c.txSat + b.2) }
  if ok then s else { s with exitReports := s.exitReports ++ [(ch, s.clk.frame)] }

/-- Reference samples whose release at the TX_OUT ball fell in the frame that has just passed are zero where TXEN was
low in it (R160): `prev` is the state in which that frame ran. -/
def silenceRef (prev s : State) (ch : Nat) : State :=
  if txen prev ch || (getChan s ch).ref.isEmpty then s
  else
    let d := txLatency + skewSamples prev.objs ch
    modChan s ch fun c => { c with ref := c.ref.zipIdx.map fun (x, i) => if d ≤ i ∧ i < d + 72 then {} else x }

/-- Channels with a transmit stream or anything left of one. -/
def outChannels (s : State) : List Nat :=
  let xs := (txSlots s.objs).map (· / 8)
  (xs ++ s.chans.map (·.1)).foldl (fun l ch => insertNat ch l) []

/-- Transmit sides a route's gain is averaged over (R161). -/
def refMembers (cfg : SMap Nat) (r : Nat) : List Nat :=
  if routeUp cfg r then (if endKind (routeEnd cfg r) = 0 then [endSlot (routeEnd cfg r)] else []) else slotMembers cfg r

/-- The members of a route whose released block is neither muted nor poisoned, with their gain multipliers (R161). -/
def memberGains (s : State) (r : Nat) : List (Nat × Nat) :=
  ((refMembers s.objs r).filter fun g => !slotMuted s g && !(getChan s (g / 8)).txPoison && (replayOf s g).isNone).map
    fun g => (g, (getGain s g).mult)

/-- The routes that some enabled path names as its reference, ascending (R159). -/
def referencedRoutes (cfg : SMap Nat) : List Nat :=
  (cfgRun cfg 0x4000 0x45FF).foldl (fun l e =>
    if e.1 / 256 % 16 = 1 ∧ 1 ≤ e.1 % 256 ∧ e.1 % 256 ≤ 8 ∧ 0x1000 ≤ e.2 ∧ e.2 < 0x2000 ∧ cancOn cfg ((e.1 / 256 - 0x4000) / 16) = true then
      insertNat (e.2 - 0x1000) l
    else l) []

/-- The errors of a route reference's former, as a computation's. -/
def formerAt (inp : FrameInput) (r : Nat) : At :=
  { ds := (inp.former.filter (·.route == r)).map fun d =>
      { ch := 0, slot := 8, stage := 9, sub := d.sub, pos := d.pos, imag := d.imag, first := d.first, flip1 := d.flip1 } }

/-- A reference sample whose former failed its check carries the residue field that fails wherever it is read
(R123, R161). -/
def markFailed (x : Smp × Log) : Smp := if x.2.fails.isEmpty then x.1 else { x.1 with resI := 0xFF }

/-- One sample of a route reference times ḡ, the mean of the multipliers of the `m` members to the nearest 2⁻¹⁶, of
those that radiate (R161, log 15). -/
def scaleRef (a : At) (prev : State) (m : Nat) (x : Smp) (gains : List (Nat × Nat)) : Smp :=
  let on := gains.filter fun e => txen prev (e.1 / 8)
  let mean := roundDiv (sumMap on (·.2)) (max 1 m)
  if x.resI == 0xFF then { x with settle := x.settle && !on.isEmpty, invalid := x.invalid && !on.isEmpty }
  else markFailed (formSmp a 9 16 (pairScale mean (pairOf x)) { settle := x.settle && !on.isEmpty, invalid := x.invalid && !on.isEmpty } 5)

/-- A route reference at a boundary: the samples that passed the ball in slot 0's timing in the frame before, times ḡ
with the TXEN of that frame, join the history; then the next block is released with its members' gains (R161). -/
def releaseRoute (inp : FrameInput) (prev s : State) (r : Nat) (x : RouteRef) : RouteRef :=
  let m := (refMembers s.objs r).length
  let flight := x.air.reverse.flatMap fun b => b.1.map fun y => (y, b.2)
  let fill := List.replicate (216 - flight.length) (({} : Smp), ([] : List (Nat × Nat)))
  let past := ((fill ++ flight).drop (144 - txLatency)).take 72
  let ys := past.zipIdx.map fun (e, i) => scaleRef { formerAt inp r with pos := i } prev m e.1 e.2
  { x with
    hist := (ys.reverse ++ x.hist).take 4608
    air := ((x.hold ++ List.replicate (72 - x.hold.length) ({} : Smp), memberGains s r) :: x.air).take 3
    hold := x.next, next := [] }

/-- Release: settling mutes, TXEN, channel blocks and route references. `prev` is the state of the frame before. -/
def releaseBlocks (inp : FrameInput) (prev s : State) : State :=
  let chs := outChannels s
  let s := forEach chs s (silenceRef prev)
  let s := forEach chs s settleMutes
  let s := forEach chs s restoreTxen
  let s := forEach chs s (releaseChannel inp)
  let refs := referencedRoutes s.objs
  let s := { s with routeRefs := refs.map fun r => (r, releaseRoute inp prev s r (smGet {} s.routeRefs r)) }
  forEach chs s fun s ch => modChan s ch fun c => { c with txParts := [], txHeld := false, txPoison := false, txErr := [] }

/-! ### Parity failures and receive streams (R23, Table 1.7, Table 5.1) -/

/-- A path parity failure of a channel: counted, and its path source set. -/
def pathParity (s : State) (h : ParityHit) (action : Nat) : State := faultEvent (parityFailure s h.region h.offset action) (2 * h.ch + 1)

/-- A slot's detector window in the measurement buffers read with bad parity is discarded; its users keep the value
before (Table 1.7, region 12; log 41). -/
def discardMeasurement (s : State) (h : ParityHit) : State :=
  modSlot s (8 * h.ch + h.slot) fun x => { x with detSum := 0, detCnt := 0, detDone := [] }

/-- A word of a link's egress queue (R314, R315): the samples of the 64-bit word in the item that is sent
next are poisoned, and sent as such. -/
def egressParity (s : State) (h : ParityHit) : State :=
  let l := h.ch % 16
  let first (f : List Smp → List Smp) : List (Nat × List Smp) → List (Nat × List Smp) := fun
    | [] => []
    | e :: rest => (e.1, f e.2) :: rest
  if h.ch < 16 then
    let b := if dnNarrow s.objs l then 3 else 4
    modOut (linkParity s 1 l 0 [h.offset]) (streamCode 1 l h.part) fun o => { o with items := first (poisonWords b [h.word]) o.items }
  else
    let j := h.word % 3
    let k := xlSlotRate s.objs l 2 j
    let c := 72 * (h.word / 108 % 4) + 2 * (h.word % 108 / 3)
    forEach [c, c + 1] (linkParity s 2 l 0 [h.offset]) fun s c =>
      modOut s (streamCode 2 l (j + 3 * (c % 2 ^ k))) fun o => { o with items := first (·.modify (c / 2 ^ k) poisoned) o.items }

/-- The newest word of a delay line poisoned. -/
def poisonHead (xs : List Smp) : List Smp := poisonZero :: xs.tail

/-- The same in one stage of a half-band chain. -/
def poisonStage (chain : List (List Smp)) (i : Nat) : List (List Smp) :=
  (chain ++ List.replicate (i + 1 - chain.length) []).modify i poisonHead

/-- A word of a Reckoner delay line read with bad parity (Table 1.7): the sample is poisoned. -/
def delayParity (s : State) (ch g part : Nat) : State :=
  match part with
  | 2 => modSlot s g fun x => { x with lineA := poisonHead x.lineA }
  | 3 => modSlot s g fun x => { x with lineB := poisonHead x.lineB }
  | 14 => modChan s ch fun c => { c with iqLine := poisonHead c.iqLine }
  | n =>
    if n < 9 then modSlot s g fun x => { x with rxChain := poisonStage x.rxChain (n - 4) }
    else if n < 14 then modSlot s g fun x => { x with txChain := poisonStage x.txChain (n - 9) }
    else modPath s ch (n % 8) fun x => { x with line := poisonHead x.line }

/-- Words of the reference history, the Reckoner regions, the egress queues, the retention and the measurement buffers read with bad
parity. Argument 2 of the record (R361) is 1 for a retention word: DESIGN CHOICE, unsafe, the spec names no action
code for it (log 41). The sample that a word of region 2 poisons is poisoned where the block reads it. -/
def blockParity (s : State) (h : ParityHit) : State :=
  let g := 8 * h.ch + h.slot
  match h.region with
  | 2 =>
    let p := h.part % 8
    if h.part < 8 then modPath (pathParity s h 0) h.ch p fun x => { x with skipOnce := true }
    else modelParity (pathParity s h 0) h.ch p (decide (h.part < 16))
  | 3 =>
    if h.part < 2 then bankParity (pathParity s h 2) g h.part else delayParity (pathParity s h 0) h.ch g h.part
  | 4 => parityFailure s 4 h.offset 1
  | 6 => egressParity s h
  | 12 => discardMeasurement (parityFailure s 12 h.offset 1) h
  | _ => s

/-- Receive stage 3 of a channel over the frame's ADC codes, and the words that have crossed the link (Tables 3.1 and
3.6): the channel with its lines moved on, and the 72 words that arrive, oldest first. -/
def rodBlock (inp : FrameInput) (s : State) (ch : Nat) : Chan × List Smp :=
  let c := getChan s ch
  let codes := match inp.adc.find? (·.1 == ch) with | some e => e.2.take 144 | none => []
  let invalid := !rxValid s ch
  if codes.isEmpty && c.rodLine.isEmpty && c.rxLink.isEmpty then (c, List.replicate 72 { invalid })
  else
    let xs := (codes ++ List.replicate (144 - codes.length) ((0, 0) : Int × Int)).map fun v => codeSmp v invalid
    let r := rodReceive c.rodLine xs
    ({ c with
       rodLine := r.2.1, rxLink := lineAfter 78 c.rxLink r.1
       adcOver := sat32 (c.adcOver + sumMap codes codeOver), rxSat := sat32 (c.rxSat + r.2.2.sats) },
     (trackOf 78 c.rxLink r.1).take 72)

/-- A channel's receive block collected in this frame (R87), with its entry check: a block that fails it is poisoned
(Table 5.1). -/
def collectRx (inp : FrameInput) (s : State) (ch : Nat) : State :=
  if !(getRod s (ch / 16)).powered then
    (if (getChan s ch).rxIn.isEmpty && (getChan s ch).rxLink.isEmpty then s
     else modChan s ch fun c => { c with rxIn := [], rodLine := [], rxLink := [] })
  else
    let r := rodBlock inp s ch
    let xs := strike inp.rxHits ch 0 r.2
    let s := if r.1 = getChan s ch then s else modChan s ch fun _ => r.1
    if !computes s ch then (if (getChan s ch).rxIn.isEmpty then s else modChan s ch fun c => { c with rxIn := [] })
    else if xs.all residuesOk then modChan s ch fun c => { c with rxIn := xs }
    else
      let word := failWord false 8 0x0F
      let s := recordFailure (modNines s ch fun n => { n with entryFail := inc32 n.entryFail }) ch word
      modChan (countPoisoned s ch word) ch fun c => { c with rxIn := xs.map poisoned }

/-! ### The Crossbar (R149–R151, R133, R161, R195, R312) -/

/-- A block of exactly `n` samples. -/
def ofLength (n : Nat) (xs : List Smp) : List Smp := xs.take n ++ List.replicate (n - xs.length) ({} : Smp)

/-- A block with a poisoned sample is poisoned whole (R25). -/
def wholePoison (xs : List Smp) : List Smp := if xs.any (·.poison) then xs.map poisoned else xs

/-- What a receive side gives the Crossbar: its stream of two frames ago, from the state before this frame. -/
def sideBlock (old s : State) (g n : Nat) : List Smp :=
  if rxActive s.objs g then ofLength n (getSlot old g).rxXbar else List.replicate n {}

/-- What an ingress stream gives the Crossbar. -/
def streamBlock (s : State) (code n : Nat) : List Smp := ofLength n (getIn s code).xbar

/-- An ingress stream as an input of an uplink combination: clean zeros while it does not run (R290). -/
def uplinkBlock (s : State) (code n : Nat) : List Smp :=
  if (getIn s code).st = 2 then streamBlock s code n else List.replicate n {}

/-- Samples times weights, summed without rounding, with the residues predicted (R127); flags and poison of every
input (R150). -/
def weighted (n : Nat) (ins : List (Nat × List Smp)) : List Smp :=
  (List.range n).map fun i =>
    let vs := ins.map fun e => (e.1, e.2.getD i {})
    let p := pairSum (vs.map fun e => pairScale e.1 (pairOf e.2))
    { tagsOf (vs.map (·.2)) with re := p.1.val, im := p.2.val, resI := p.1.res, resQ := p.2.res }

/-- A route's samples through its equalisation delay (R312): E samples late, flagged while the line refills. -/
def equalise (s : State) (r : Nat) (xs : List Smp) : List Smp × State :=
  let e := routeEq s.objs r
  if e = 0 then (xs, s)
  else
    let line := smGet [] s.links.eqLine r
    let full := List.replicate (e - line.length) ({} : Smp) ++ line ++ xs
    let fresh := smGet 0 s.links.eqFlag r
    let ys := (full.take xs.length).zipIdx.map fun (y, i) => if i < fresh then { y with settle := true } else y
    (ys, { s with links := { s.links with
      eqLine := smSet [] s.links.eqLine r (full.drop xs.length), eqFlag := smSet 0 s.links.eqFlag r (fresh - xs.length) } })

/-- The channel a combined block goes to, if it is a local one. -/
def combineDest (cfg : SMap Nat) (r : Nat) : Option Nat := if endKind (routeEnd cfg r) = 0 then some (endSlot (routeEnd cfg r)) else none

/-- A combination formed once (R150, R133): rounded with m = 15 from its weighted sums. -/
def combineOnce (inp : FrameInput) (r : Nat) (second : Bool) (sums : List Smp) : List Smp × Log :=
  let ds := (inp.xbar.filter (·.route == r)).map fun d =>
    ({ ch := 0, slot := 8, stage := 0xD, pos := d.pos, imag := d.imag, first := d.first, second := d.second,
       flip1 := d.flip1, flip2 := d.flip2 } : Damage)
  split (sums.zipIdx.map fun (v, i) => formSmp { ds, second, pos := i } 0xD 15 (pairOf v) (joinTags v {}))

/-- A failed combination recorded against its destination channel; a combination that goes to an egress stream has
none, and is counted and recorded nowhere (DESIGN CHOICE, log 40). -/
def combineNote (s : State) (r : Nat) (fails : Bool) : State :=
  match combineDest s.objs r with
  | none => s
  | some g =>
    let ch := g / 8
    let word := failWord false (g % 8) 0x0D
    let s := recordFailure s ch word
    if fails then countLost s ch word fun n => { n with poisonedAfter := inc32 n.poisonedAfter }
    else modNines s ch fun n => { n with xbarRepeat := inc32 n.xbarRepeat }

/-- The check of a combination and its one repeat (R133): the block, poisoned where the repeat fails too, and its
saturations. -/
def combineCheck (inp : FrameInput) (s : State) (r : Nat) (sums : List Smp) : (List Smp × Nat) × State :=
  let a := combineOnce inp r false sums
  if a.2.fails.isEmpty then ((a.1, a.2.sats), s)
  else
    let b := combineOnce inp r true sums
    if b.2.fails.isEmpty then ((b.1, b.2.sats), combineNote s r false) else ((b.1.map poisoned, 0), combineNote s r true)

/-- The words of a region of route `r` read with bad parity in this frame. -/
def routeHits (inp : FrameInput) (region r : Nat) : List ParityHit := inp.parity.filter fun h => h.region == region && h.ch == r

/-- Words of the combining buffers read with bad parity poison the combination; the Nines source is that of the
destination channel's rod, and of an egress stream, which has none, no source (Table 1.7). -/
def combineParity (inp : FrameInput) (s : State) (r : Nat) : Bool × State :=
  let hits := routeHits inp 13 r
  let s := forEach hits s fun s h => parityFailure s 13 h.offset 0
  (!hits.isEmpty, match combineDest s.objs r with
    | some g => if hits.isEmpty then s else ninesEvent s (g / 8)
    | none => s)

/-- Words of the equalisation delay read with bad parity poison the sample for every channel it goes to. -/
def eqParity (inp : FrameInput) (s : State) (r : Nat) (xs : List Smp) : List Smp × State :=
  let hits := routeHits inp 1 r
  if hits.isEmpty || routeEq s.objs r == 0 then (xs, s)
  else
    let chs := (refMembers s.objs r).foldl (fun l g => insertNat (g / 8) l) []
    let s := forEach hits s fun s h => parityFailure s 1 h.offset 0
    (poisonHead xs, forEach chs s fun s ch => faultEvent s (2 * ch + 1))

/-- A block in front of a link's egress check (Table 5.1): words whose residues fail poison it. The failure is recorded
in B+0xE:09 of the channel of the route's slot side, its end or its first member (log 40). -/
def egressCheck (inp : FrameInput) (s : State) (r code : Nat) (xs : List Smp) : List Smp × State :=
  let ys := strike inp.egressHits code 0 xs
  if ys.all residuesOk then (ys, s)
  else
    (ys.map poisoned, match routeSide s.objs r with
      | some e => recordFailure s (e.1 / 8) (failWord false (e.1 % 8) 0x11)
      | none => s)

/-- A route's stream goes to an egress stream; zeros while its loop is muted or oscillates, or its donor path is lost
(Table 1.8; log 44). -/
def toStream (inp : FrameInput) (s : State) (r code : Nat) (xs : List Smp) : State :=
  let e := egressCheck inp s r code (if streamsZeroed s r || (s.life.power == .serve && routeLost s r) then xs.map fun _ => ({} : Smp) else xs)
  pushOut e.2 code (routeK s.objs r) e.1

/-- A route's stream goes to a transmit side. -/
def toSide (s : State) (g : Nat) (xs : List Smp) : State := modSlot s g fun x => { x with txIn := xs }

/-- The route reference's next block: the stream interpolated to CSR, a poisoned sample as a clean zero (R161). -/
def formRef (inp : FrameInput) (s : State) (r : Nat) (xs : List Smp) : State :=
  if s.routeRefs.all (·.1 != r) then s
  else
    let x := smGet {} s.routeRefs r
    let k := routeK s.objs r
    let q := xs.map fun v => if v.poison then ({} : Smp) else v
    let n0 := 72 * (s.clk.frame + 1)
    let out := (List.range 72).foldl (fun (a : List (List Smp) × List Smp × List Smp) i =>
      let o := interpolate { formerAt inp r with pos := i } 9 k k (n0 + i) a.1 a.2.1
      (o.1, o.2.1, markFailed o.2.2 :: a.2.2)) (x.chain, q, [])
    { s with routeRefs := s.routeRefs.map fun e => if e.1 = r then (r, { x with chain := out.1, next := out.2.2.reverse }) else e }

/-- A downlink route: its source fanned out unchanged; the equalisation delay is in front of its transmit sides. -/
def fanOut (inp : FrameInput) (old s : State) (r : Nat) : State :=
  let n := gridCount (routeK s.objs r) s.clk.frame
  let e := routeEnd s.objs r
  let xs := wholePoison (if endKind e = 0 then sideBlock old s (endSlot e) n else streamBlock s e n)
  let d := equalise s r xs
  let p := eqParity inp d.2 r d.1
  let ys := wholePoison p.1
  let s := forEach (slotMembers p.2.objs r) p.2 fun s g => toSide s g ys
  let s := forEach (streamMembers s.objs r) s fun s m => toStream inp s r m.code xs
  formRef inp s r ys

/-- An uplink route: its inputs weighted, combined and rounded with m = 15, slot inputs behind the delay. -/
def fanIn (inp : FrameInput) (old s : State) (r : Nat) : State :=
  let n := gridCount (routeK s.objs r) s.clk.frame
  let slots := (slotMembers s.objs r).map fun g => (rxWeight s.objs g, sideBlock old s g n)
  let d := equalise s r (weighted n slots)
  let p := eqParity inp d.2 r d.1
  let streams := (streamMembers p.2.objs r).map fun m => (m.weight, uplinkBlock p.2 m.code n)
  let sums := weighted n ((1, p.1) :: streams)
  let b := combineParity inp p.2 r
  let c := combineCheck inp b.2 r (wholePoison (if b.1 then sums.map poisoned else sums))
  let s := { c.2 with combSat := sat32 (c.2.combSat + c.1.2) }
  let e := routeEnd s.objs r
  let s := if endKind e = 0 then toSide s (endSlot e) c.1.1 else toStream inp s r e c.1.1
  formRef inp s r c.1.1

/-- Ingress streams with anything in the state, by code. -/
def liveStreams (s : State) : List Nat :=
  s.links.dn.flatMap (fun e => e.2.ins.map fun x => streamCode 1 e.1 x.1) ++
  s.links.xl.flatMap (fun e => e.2.streams.map fun x => streamCode 2 e.1 x.1)

/-- Configured egress streams of no route, with their rates: they carry zeros. -/
def idleEgress (cfg : SMap Nat) : List (Nat × Nat) :=
  let dn := (List.range 16).filter fun l => dnMode cfg l == 1
  let xl := (List.range 16).filter fun l => xlMode cfg l == 1
  let all := dn.flatMap (fun l => (portStreams cfg 1 l 2).map (streamCode 1 l)) ++ xl.flatMap (fun l => (portStreams cfg 2 l 2).map (streamCode 2 l))
  let routed (code : Nat) : Bool :=
    (routesInUse cfg).any fun r => (routeUp cfg r && routeEnd cfg r == code) || (!routeUp cfg r && (streamMembers cfg r).any (·.code == code))
  (all.filter fun c => !routed c && (copiedFrom cfg c).isNone).filterMap fun c => (streamRate cfg c 2).map fun k => (c, k)

/-- A stream's unflagged samples added to a power sum. -/
def powerSum (xs : List Smp) : Nat × Nat :=
  let ys := xs.filter fun x => !x.poison && !x.settle && !x.invalid
  (sumMap ys (fun x => (x.re * x.re + x.im * x.im).toNat), ys.length)

/-- The power of what enters a transmit side (R202). -/
def sumInput (s : State) (g : Nat) : State :=
  let p := powerSum (getSlot s g).txIn
  if p.2 = 0 then s else modGain s g fun x => { x with inSum := x.inSum + p.1, inCnt := x.inCnt + p.2 }

/-- The power of an ingress stream (R224). -/
def sumStream (s : State) (code : Nat) : State :=
  let p := powerSum (getIn s code).xbar
  if p.2 = 0 then s
  else { s with gov := { s.gov with streamSum := smMod (0, 0) s.gov.streamSum code fun x => (x.1 + p.1, x.2 + p.2) } }

/-- An ingress stream's samples of this frame are taken. -/
def takeCode (s : State) (code : Nat) : State :=
  match streamRate s.objs code 1 with | some k => takeStream s code k | none => s

/-- One transfer frame. `old` is the state before this frame's blocks. -/
def crossbar (inp : FrameInput) (old s : State) : State :=
  let codes := liveStreams s
  let s := forEach codes s takeCode
  let s := forEach codes s sumStream
  let s := forEach (txSlots s.objs) s fun s g => toSide s g (List.replicate (gridCount (kOf s.objs g) s.clk.frame) {})
  let s := forEach (routesInUse s.objs) s fun s r => if routeUp s.objs r then fanIn inp old s r else fanOut inp old s r
  let s := forEach (idleEgress s.objs) s fun s e =>
    pushOut s e.1 e.2 (List.replicate (gridCount e.2 s.clk.frame) {})
  let s := forEach (List.range 8) s fun s r => if (getReplay s r).st = 1 then replayFrame s r else s
  forEach (txSlots s.objs) s sumInput

/-! ### The frame -/

/-- Receive streams move on: the block computed last is taken by the Crossbar in the next transfer frame; a slot
that computes no block carries no flagged sample (B+0xB:04). -/
def rotateRx (s : State) : State :=
  forEach ((s.slots.filter fun e => !e.2.rxHold.isEmpty || !e.2.rxXbar.isEmpty || e.2.carriedSettle).map (·.1)) s fun s g =>
    modSlot s g fun x => { x with rxXbar := x.rxHold, rxHold := [], carriedSettle := false }

/-- In SERVE, every donor path lost: the device enters QUIET (R455). -/
def quietOnLoss (s : State) : State := if s.life.power == .serve && donorsLost s then enterQuiet s else s

/-- What a block boundary brings besides the blocks: the supervisor's due stop, the return from SHUTDOWN, QUIET. -/
def boundary (s : State) : State := releaseStreamMutes (donorPathMutes (quietOnLoss (shutdownReturn (dueStops (mismatchTurns (probeLimit (noteLates (rejoinRods s))))))))

/-- The datapath in one frame; `prev` is the state in which the frame before ran. -/
def datapath (inp : FrameInput) (prev s : State) : State :=
  let s := engineLimits (watchFrame (boundaryGains (releaseBlocks inp prev (groupsFrame s))))
  let s := forEach inp.parity s blockParity
  let old := s
  let s := forEach (List.range 6) (idlePaths (spectraFrame (ninesFrame inp (rotateRx s)))) finderWatch
  let s := crossbar inp old s
  let s := forEach (List.range 96) s (collectRx inp)
  captureFrame (ninesPersistence s)

/-- RECKONER_FRAME: a frame begins; the frame count moves on (R22). -/
def execReckonerFrame (inp : FrameInput) (s : State) : Host.Outcome State Fault Refusal :=
  if !coreClock s then .next s
  else
    let t := boundary { s with time := frameUnits + s.time, clk := { s.clk with frame := s.clk.frame + 1 }, resets := [] }
    .next (noteChanges (if coreRuns t then datapath inp s t else t))

end Sys2Proof.Machine
end

