-- ==== Sys2Proof/Machine/Requests.lean ====
section
/-! DEFINITION. Requests.lean: the rows that are one operation of a manager: reads, staged reads, subscribes, and
the writes of single objects, each at its object's address. A row writes only while the supervisor is in charge;
it tests and acts as the same write inside an OLP message does (R38–R40). -/

namespace Sys2Proof.Machine

/-- An index of a numbered run; 0, which no object has, past its end. -/
def idxOf (bound n base step : Nat) : Nat := if n < bound then base + step * n else 0

/-- An index of a channel. -/
def chanIdx (base ch off : Nat) : Nat := if ch < 96 then base + 16 * ch + off else 0

/-- A subindex of a numbered run; 0xFF, which no object has, past its end. -/
def subOf (bound n base : Nat) : Nat := if n < bound then base + n else 0xFF

/-- The index of window `w`. -/
def windowIdx (w : Nat) : Nat := idxOf 5 w 0x6100 256

/-! ### Operations by index and subindex -/

/-- READ (R44). A DOMAIN has a row of its own, WINDOW_DATA_READ. -/
def execRead (m index sub : Nat) (s : State) : Host.Outcome State Fault Refusal :=
  .next (commandRead s m index sub 0)

/-- WRITE (R38). -/
def execWrite (m index sub : Nat) (data : List Byte) (s : State) : Host.Outcome State Fault Refusal :=
  .next (commandWrite s m index sub data)

/-- READ_STAGED (R44). -/
def execReadStaged (m index sub : Nat) (s : State) : Host.Outcome State Fault Refusal :=
  .next (commandStaged s m index sub 0)

/-- SUBSCRIBE (R64). -/
def execSubscribe (m index sub : Nat) (data : List Byte) (origin : Origin) (s : State) : Host.Outcome State Fault Refusal :=
  if !s.life.sup then .next s
  else
    let r := subscribeOp s m index sub data origin
    .next (answer r.2 m 4 index sub r.1 [])

/-! ### Staging and windows -/

/-- STAGING_LOCK (R54): 0x1010:08. -/
def execStagingLock (m v : Nat) (s : State) : Host.Outcome State Fault Refusal :=
  .next (commandValue s m 0x1010 8 v)

/-- COMMIT (R55): 0x01 to 0x1010:01. -/
def execCommit (m : Nat) (s : State) : Host.Outcome State Fault Refusal :=
  .next (commandValue s m 0x1010 1 1)

/-- DISCARD (R55): 0x02 to 0x1010:01. -/
def execDiscard (m : Nat) (s : State) : Host.Outcome State Fault Refusal :=
  .next (commandValue s m 0x1010 1 2)

/-- WINDOW_SELECTOR_WRITE (R62): W:01. -/
def execWindowSelectorWrite (m w v : Nat) (s : State) : Host.Outcome State Fault Refusal :=
  .next (commandValue s m (windowIdx w) 1 v)

/-- WINDOW_CURSOR_WRITE (R62): W:02. -/
def execWindowCursorWrite (m w v : Nat) (s : State) : Host.Outcome State Fault Refusal :=
  .next (commandValue s m (windowIdx w) 2 v)

/-- WINDOW_DATA_WRITE (R62): W:03. -/
def execWindowDataWrite (m w : Nat) (words : List Word) (s : State) : Host.Outcome State Fault Refusal :=
  .next (commandWrite s m (windowIdx w) 3 (bytesOfWords words))

/-- WINDOW_DATA_READ (R62): `n` words of W:03. -/
def execWindowDataRead (m w n : Nat) (s : State) : Host.Outcome State Fault Refusal :=
  .next (commandRead s m (windowIdx w) 3 (4 * n))

/-- WINDOW_CRC_CONFIRM (R63): W:04. -/
def execWindowCrcConfirm (m w : Nat) (crc : BitVec 32) (s : State) : Host.Outcome State Fault Refusal :=
  .next (commandValue s m (windowIdx w) 4 crc.toNat)

/-- BANK_SEAL (R106): W:04 of the coefficient window. -/
def execBankSeal (m : Nat) (crc : BitVec 32) (s : State) : Host.Outcome State Fault Refusal :=
  .next (commandValue s m 0x6100 4 crc.toNat)

/-- TALLY_WINDOW_READ (R374, R376): `parityPage` a ring page of which a word fails its parity check in the read. -/
def execTallyWindowRead (m n : Nat) (parityPage : Option Nat) (s : State) : Host.Outcome State Fault Refusal :=
  if !s.life.sup then .next s
  else .next (commandRead (match parityPage with | some p => excludePage s p | none => s) m 0x6300 3 (4 * n))

/-- A CRC confirm of the image window, with what the environment does to the image. -/
def confirmImage (s : State) (m : Nat) (crc : BitVec 32) (event : Bool) : State :=
  if !s.life.sup then s
  else
    let s := touch s m 0x6500
    match writeTest s m 0x6500 4 (beBytes 4 crc.toNat) with
    | 0 => let r := crcConfirm s m 4 crc event; answer (noteChanges r.2) m 2 0x6500 4 r.1 []
    | st => answer (noteChanges s) m 2 0x6500 4 st []

/-- LICENCE_BURN (R268): W:04 of a licence image; `readBackOk` its read-back equals it. -/
def execLicenceBurn (m : Nat) (crc : BitVec 32) (readBackOk : Bool) (s : State) : Host.Outcome State Fault Refusal :=
  .next (confirmImage s m crc readBackOk)

/-- IMAGE_SEAL (R407): W:04 of a supervisor image; `parityBad` a word of the image staging fails its parity check. -/
def execImageSeal (m : Nat) (crc : BitVec 32) (parityBad : Bool) (s : State) : Host.Outcome State Fault Refusal :=
  .next (confirmImage s m crc !parityBad)

/-! ### Signal path, canceller, governor, protection -/

/-- SLOT_RESET (R91): B+0xB:01. -/
def execSlotReset (m ch v : Nat) (s : State) : Host.Outcome State Fault Refusal :=
  .next (commandValue s m (chanIdx 0x3000 ch 0xB) 1 v)

/-- CHANNEL_RESET (R91): B+0xB:02. -/
def execChannelReset (m ch v : Nat) (s : State) : Host.Outcome State Fault Refusal :=
  .next (commandValue s m (chanIdx 0x3000 ch 0xB) 2 v)

/-- ROD_RESET (R91): B+0xB:03. -/
def execRodReset (m ch v : Nat) (s : State) : Host.Outcome State Fault Refusal :=
  .next (commandValue s m (chanIdx 0x3000 ch 0xB) 3 v)

/-- SWAP_REQUEST (R110): B+0x7:09–10 of a carrier slot. -/
def execSwapRequest (m g v : Nat) (s : State) : Host.Outcome State Fault Refusal :=
  .next (commandValue s m (chanIdx 0x3000 (g / 8) 7) (g % 8 + 9) v)

/-- CHECK_INJECTION (R141): B+0xE:0C. -/
def execCheckInjection (m ch v : Nat) (s : State) : Host.Outcome State Fault Refusal :=
  .next (commandValue s m (chanIdx 0x3000 ch 0xE) 0xC v)

/-- SURVEY_START (R163): a reference code to B+0x6:01. -/
def execSurveyStart (m ch v : Nat) (s : State) : Host.Outcome State Fault Refusal :=
  .next (commandValue s m (chanIdx 0x4000 ch 6) 1 v)

/-- SURVEY_STOP (R163): 0xFFFF to B+0x6:01. -/
def execSurveyStop (m ch : Nat) (s : State) : Host.Outcome State Fault Refusal :=
  .next (commandValue s m (chanIdx 0x4000 ch 6) 1 0xFFFF)

/-- MANUAL_FREEZE (R171): B+0x2:01–08. -/
def execManualFreeze (m ch p v : Nat) (s : State) : Host.Outcome State Fault Refusal :=
  .next (commandValue s m (chanIdx 0x4000 ch 2) (subOf 8 p 1) v)

/-- MODEL_RESET (R177): B+0x2:09–10. -/
def execModelReset (m ch p v : Nat) (s : State) : Host.Outcome State Fault Refusal :=
  .next (commandValue s m (chanIdx 0x4000 ch 2) (subOf 8 p 9) v)

/-- MODEL_SNAPSHOT (R180): B+0x7:01. -/
def execModelSnapshot (m ch v : Nat) (s : State) : Host.Outcome State Fault Refusal :=
  .next (commandValue s m (chanIdx 0x4000 ch 7) 1 v)

/-- LOOP_RELEASE (R196): 0x7010:0C. -/
def execLoopRelease (m v : Nat) (s : State) : Host.Outcome State Fault Refusal :=
  .next (commandValue s m 0x7010 0xC v)

/-- LEDGER_PIN (R215): 0x7082:03. -/
def execLedgerPin (m v : Nat) (s : State) : Host.Outcome State Fault Refusal :=
  .next (commandValue s m 0x7082 3 v)

/-- LEDGER_UNPIN (R215): 0x7082:04. -/
def execLedgerUnpin (m v : Nat) (s : State) : Host.Outcome State Fault Refusal :=
  .next (commandValue s m 0x7082 4 v)

/-- LEDGER_CLEAR (R215): 0x7082:05. -/
def execLedgerClear (m v : Nat) (s : State) : Host.Outcome State Fault Refusal :=
  .next (commandValue s m 0x7082 5 v)

/-! ### Radio, Sentinel, links, capture -/

/-- TUNER_STATE_WRITE (R259): B+0x4:05. -/
def execTunerStateWrite (m ch v : Nat) (s : State) : Host.Outcome State Fault Refusal :=
  .next (commandValue s m (chanIdx 0x2000 ch 4) 5 v)

/-- ROD_CALIBRATION_REQUEST (R260): 0x01 to B+0x8:01. -/
def execRodCalibrationRequest (m ch : Nat) (s : State) : Host.Outcome State Fault Refusal :=
  .next (commandValue s m (chanIdx 0x2000 ch 8) 1 1)

/-- TUNER_SEARCH_REQUEST (R261): 0x02 to B+0x8:01. -/
def execTunerSearchRequest (m ch : Nat) (s : State) : Host.Outcome State Fault Refusal :=
  .next (commandValue s m (chanIdx 0x2000 ch 8) 1 2)

/-- GATE_RELEASE (R279): a channel to 0x1310:01. -/
def execGateRelease (m v : Nat) (s : State) : Host.Outcome State Fault Refusal :=
  .next (commandValue s m 0x1310 1 v)

/-- DELAY_REQUEST (R299): D+5:01. -/
def execDelayRequest (m port v : Nat) (s : State) : Host.Outcome State Fault Refusal :=
  .next (commandValue s m (idxOf 16 port 0x1905 8) 1 v)

/-- CAPTURE_START (R327): 0x01 to 0x1800:01. -/
def execCaptureStart (m v : Nat) (s : State) : Host.Outcome State Fault Refusal :=
  .next (commandValue s m 0x1800 1 v)

/-- CAPTURE_STOP (R327): 0x02 to 0x1800:01. -/
def execCaptureStop (m v : Nat) (s : State) : Host.Outcome State Fault Refusal :=
  .next (commandValue s m 0x1800 1 v)

/-- MARK_WRITE (R330): 0x1820 + m:01. -/
def execMarkWrite (m mark v : Nat) (s : State) : Host.Outcome State Fault Refusal :=
  .next (commandValue s m (idxOf 16 mark 0x1820 1) 1 v)

/-- MANUAL_TRIGGER (R330): 0x1820 + m:09. -/
def execManualTrigger (m mark v : Nat) (s : State) : Host.Outcome State Fault Refusal :=
  .next (commandValue s m (idxOf 16 mark 0x1820 1) 9 v)

/-- EXPORT_SELECT (R335): 0x1840 + l:01. -/
def execExportSelect (m port v : Nat) (s : State) : Host.Outcome State Fault Refusal :=
  .next (commandValue s m (idxOf 16 port 0x1840 1) 1 v)

/-- REPLAY_START (R336): 0x01 to 0x1830 + r:01. -/
def execReplayStart (m rep v : Nat) (s : State) : Host.Outcome State Fault Refusal :=
  .next (commandValue s m (idxOf 8 rep 0x1830 1) 1 v)

/-- REPLAY_STOP (R337): 0x02 to 0x1830 + r:01. -/
def execReplayStop (m rep v : Nat) (s : State) : Host.Outcome State Fault Refusal :=
  .next (commandValue s m (idxOf 8 rep 0x1830 1) 1 v)

/-! ### Faults, Tally, heat, power, images, restarts -/

/-- FAULT_N_DRIVE (R355): 0x1600:0A. -/
def execFaultNDrive (m v : Nat) (s : State) : Host.Outcome State Fault Refusal :=
  .next (commandValue s m 0x1600 0xA v)

/-- CLEAR_MASK (R356): 0x1602:01. -/
def execClearMask (m : Nat) (mask : BitVec 320) (s : State) : Host.Outcome State Fault Refusal :=
  .next (commandWrite s m 0x1602 1 (beBytes 40 (natOfMask mask)))

/-- REACTION_WRITE (R347): the reaction of a source. -/
def execReactionWrite (m src v : Nat) (s : State) : Host.Outcome State Fault Refusal :=
  .next (commandValue s m (idxOf 20 (src / 16) 0x1610 1) (src % 16 + 1) v)

/-- WALL_TIME_SET (R365): 0x1700:03. -/
def execWallTimeSet (m v : Nat) (s : State) : Host.Outcome State Fault Refusal :=
  .next (commandValue s m 0x1700 3 v)

/-- LAST_RESORT_CLEAR (R375): 0x1700:0C. -/
def execLastResortClear (m v : Nat) (s : State) : Host.Outcome State Fault Refusal :=
  .next (commandValue s m 0x1700 0xC v)

/-- SNAPSHOT_ENTRY_WRITE (R367): entry 1–16 of 0x1711. -/
def execSnapshotEntryWrite (m entry v : Nat) (s : State) : Host.Outcome State Fault Refusal :=
  .next (commandValue s m 0x1711 (if 1 ≤ entry ∧ entry ≤ 16 then entry else 0xFF) v)

/-- LEAVE_SHUTDOWN (R393): 0x1500:07. -/
def execLeaveShutdown (m v : Nat) (s : State) : Host.Outcome State Fault Refusal :=
  .next (commandValue s m 0x1500 7 v)

/-- REQUEST_HOLD (R410): 1 to 0x1200:01. -/
def execRequestHold (m : Nat) (s : State) : Host.Outcome State Fault Refusal :=
  .next (commandValue s m 0x1200 1 1)

/-- REQUEST_SERVE (R410): 2 to 0x1200:01. -/
def execRequestServe (m : Nat) (s : State) : Host.Outcome State Fault Refusal :=
  .next (commandValue s m 0x1200 1 2)

/-- REQUEST_QUIET (R410): 3 to 0x1200:01. -/
def execRequestQuiet (m : Nat) (s : State) : Host.Outcome State Fault Refusal :=
  .next (commandValue s m 0x1200 1 3)

/-- ACTIVATE (R425): 0x1210:06. -/
def execActivate (m v : Nat) (s : State) : Host.Outcome State Fault Refusal :=
  .next (commandValue s m 0x1210 6 v)

/-- CONFIRM (R426): 0x1210:07. -/
def execConfirm (m v : Nat) (s : State) : Host.Outcome State Fault Refusal :=
  .next (commandValue s m 0x1210 7 v)

/-- SUPERVISOR_RESTART (R422): 0x1220:07. -/
def execSupervisorRestart (m v : Nat) (s : State) : Host.Outcome State Fault Refusal :=
  .next (commandValue s m 0x1220 7 v)

/-- A block restart request (R433): kind and number to 0x1240:01. -/
def commandRestart (s : State) (m kind num : Nat) : State := commandValue s m 0x1240 1 (256 * kind + min num 255)

/-- ROD_RESTART (R434). -/
def execRodRestart (m r : Nat) (s : State) : Host.Outcome State Fault Refusal :=
  .next (commandRestart s m 1 r)

/-- DN_PORT_RESTART (R433). -/
def execDnPortRestart (m port : Nat) (s : State) : Host.Outcome State Fault Refusal :=
  .next (commandRestart s m 2 port)

/-- XL_LANE_RESTART (R433). -/
def execXlLaneRestart (m lane : Nat) (s : State) : Host.Outcome State Fault Refusal :=
  .next (commandRestart s m 3 lane)

/-- CAPTURE_CONTROLLER_RESTART (R339). -/
def execCaptureControllerRestart (m : Nat) (s : State) : Host.Outcome State Fault Refusal :=
  .next (commandRestart s m 4 0)

/-- TALLY_RESTART (R433). -/
def execTallyRestart (m : Nat) (s : State) : Host.Outcome State Fault Refusal :=
  .next (commandRestart s m 5 0)

/-- CELL_FINDER_RESTART (R231). -/
def execCellFinderRestart (m r : Nat) (s : State) : Host.Outcome State Fault Refusal :=
  .next (commandRestart s m 6 r)

end Sys2Proof.Machine
end

