-- ==== Sys2Proof/Machine/Dispatch.lean ====
section
/-! DEFINITION. Dispatch.lean: one arm per command. `exec c s` is the command's effect on everything but
the queue of waiting commands. -/

namespace Sys2Proof.Machine

def exec (i : Instr) (s : State) : Host.Outcome State Fault Refusal :=
  match i with
  | .reckonerFrame inp => Sys2Proof.Machine.execReckonerFrame inp s
  | .rodDieExitFailure ch frame => Sys2Proof.Machine.execRodDieExitFailure ch frame s
  | .dieLinkAlignmentLoss r sentinelLanes => Sys2Proof.Machine.execDieLinkAlignmentLoss r sentinelLanes s
  | .dieLinkErrorFreeExpiry r => Sys2Proof.Machine.execDieLinkErrorFreeExpiry r s
  | .refclkLoss => Sys2Proof.Machine.execRefclkLoss s
  | .refclkReturn => Sys2Proof.Machine.execRefclkReturn s
  | .corePllUnlock => Sys2Proof.Machine.execCorePllUnlock s
  | .coreClockReturn => Sys2Proof.Machine.execCoreClockReturn s
  | .supclkLoss => Sys2Proof.Machine.execSupclkLoss s
  | .supclkReturn => Sys2Proof.Machine.execSupclkReturn s
  | .streamDonorPathLost code => Sys2Proof.Machine.execStreamDonorPathLost code s
  | .olpMessage origin bytes => Sys2Proof.Machine.execOlpMessage origin bytes s
  | .read m index sub => Sys2Proof.Machine.execRead m index sub s
  | .write m index sub data => Sys2Proof.Machine.execWrite m index sub data s
  | .readStaged m index sub => Sys2Proof.Machine.execReadStaged m index sub s
  | .subscribe m index sub data origin => Sys2Proof.Machine.execSubscribe m index sub data origin s
  | .notify m => Sys2Proof.Machine.execNotify m s
  | .subscriptionLeaseExpiry m index sub => Sys2Proof.Machine.execSubscriptionLeaseExpiry m index sub s
  | .stagingLock m v => Sys2Proof.Machine.execStagingLock m v s
  | .stagingLockTimeout => Sys2Proof.Machine.execStagingLockTimeout s
  | .commit m => Sys2Proof.Machine.execCommit m s
  | .discard m => Sys2Proof.Machine.execDiscard m s
  | .commitChecksDone => Sys2Proof.Machine.execCommitChecksDone s
  | .commitApply => Sys2Proof.Machine.execCommitApply s
  | .windowSelectorWrite m w v => Sys2Proof.Machine.execWindowSelectorWrite m w v s
  | .windowCursorWrite m w v => Sys2Proof.Machine.execWindowCursorWrite m w v s
  | .windowDataWrite m w words => Sys2Proof.Machine.execWindowDataWrite m w words s
  | .windowDataRead m w n => Sys2Proof.Machine.execWindowDataRead m w n s
  | .windowCrcConfirm m w crc => Sys2Proof.Machine.execWindowCrcConfirm m w crc s
  | .windowClaimTimeout w => Sys2Proof.Machine.execWindowClaimTimeout w s
  | .bankSeal m crc => Sys2Proof.Machine.execBankSeal m crc s
  | .tallyWindowRead m n parityPage => Sys2Proof.Machine.execTallyWindowRead m n parityPage s
  | .relayResponseReturn lane bytes => Sys2Proof.Machine.execRelayResponseReturn lane bytes s
  | .relayResponseTimeout => Sys2Proof.Machine.execRelayResponseTimeout s
  | .slotReset m ch v => Sys2Proof.Machine.execSlotReset m ch v s
  | .channelReset m ch v => Sys2Proof.Machine.execChannelReset m ch v s
  | .rodReset m ch v => Sys2Proof.Machine.execRodReset m ch v s
  | .swapRequest m g v => Sys2Proof.Machine.execSwapRequest m g v s
  | .crossFadeEnd g => Sys2Proof.Machine.execCrossFadeEnd g s
  | .powerDetectorWindow g => Sys2Proof.Machine.execPowerDetectorWindow g s
  | .checkInjection m ch v => Sys2Proof.Machine.execCheckInjection m ch v s
  | .cancellerUpdatePeriod ch bad => Sys2Proof.Machine.execCancellerUpdatePeriod ch bad s
  | .cancellerModelApply ch => Sys2Proof.Machine.execCancellerModelApply ch s
  | .trainingTimeout ch p => Sys2Proof.Machine.execTrainingTimeout ch p s
  | .pathStale ch p => Sys2Proof.Machine.execPathStale ch p s
  | .surveyStart m ch v => Sys2Proof.Machine.execSurveyStart m ch v s
  | .surveyStop m ch => Sys2Proof.Machine.execSurveyStop m ch s
  | .surveyComplete ch badDelay badGain => Sys2Proof.Machine.execSurveyComplete ch badDelay badGain s
  | .surveyAbandon ch => Sys2Proof.Machine.execSurveyAbandon ch s
  | .manualFreeze m ch p v => Sys2Proof.Machine.execManualFreeze m ch p v s
  | .modelReset m ch p v => Sys2Proof.Machine.execModelReset m ch p v s
  | .modelSnapshot m ch v => Sys2Proof.Machine.execModelSnapshot m ch v s
  | .governorTick bad => Sys2Proof.Machine.execGovernorTick bad s
  | .loopRelease m v => Sys2Proof.Machine.execLoopRelease m v s
  | .searchDwellComplete r g dwell => Sys2Proof.Machine.execSearchDwellComplete r g dwell s
  | .trackingMeasurement entry meas parity => Sys2Proof.Machine.execTrackingMeasurement entry meas parity s
  | .ledgerPin m v => Sys2Proof.Machine.execLedgerPin m v s
  | .ledgerUnpin m v => Sys2Proof.Machine.execLedgerUnpin m v s
  | .ledgerClear m v => Sys2Proof.Machine.execLedgerClear m v s
  | .donorLossEntry g => Sys2Proof.Machine.execDonorLossEntry g s
  | .donorLossRelease g => Sys2Proof.Machine.execDonorLossRelease g s
  | .identityTest => Sys2Proof.Machine.execIdentityTest s
  | .cellFinderFailure r => Sys2Proof.Machine.execCellFinderFailure r s
  | .frameSyncInEdge highNs pos => Sys2Proof.Machine.execFrameSyncInEdge highNs pos s
  | .ppsInEdge highNs pos => Sys2Proof.Machine.execPpsInEdge highNs pos s
  | .tddEpochMissing grp => Sys2Proof.Machine.execTddEpochMissing grp s
  | .holdoverLimitExpiry grp => Sys2Proof.Machine.execHoldoverLimitExpiry grp s
  | .radioTransitionEnd ch => Sys2Proof.Machine.execRadioTransitionEnd ch s
  | .tddTxWindowStart ch => Sys2Proof.Machine.execTddTxWindowStart ch s
  | .tddTxWindowEnd ch => Sys2Proof.Machine.execTddTxWindowEnd ch s
  | .synthLockLoss r n => Sys2Proof.Machine.execSynthLockLoss r n s
  | .synthLock r n => Sys2Proof.Machine.execSynthLock r n s
  | .txCommandReject ch => Sys2Proof.Machine.execTxCommandReject ch s
  | .reliefHandover r => Sys2Proof.Machine.execReliefHandover r s
  | .rffeTransactionComplete bus power => Sys2Proof.Machine.execRffeTransactionComplete bus power s
  | .reflectedWindowLengthEnd ch power => Sys2Proof.Machine.execReflectedWindowLengthEnd ch power s
  | .mismatchMeasurement ch power => Sys2Proof.Machine.execMismatchMeasurement ch power s
  | .mismatchProbe ch => Sys2Proof.Machine.execMismatchProbe ch s
  | .tunerSearchStep ch => Sys2Proof.Machine.execTunerSearchStep ch s
  | .tunerStateWrite m ch v => Sys2Proof.Machine.execTunerStateWrite m ch v s
  | .rodCalibrationRequest m ch => Sys2Proof.Machine.execRodCalibrationRequest m ch s
  | .tunerSearchRequest m ch => Sys2Proof.Machine.execTunerSearchRequest m ch s
  | .rodCalibrationComplete r failStep values => Sys2Proof.Machine.execRodCalibrationComplete r failStep values s
  | .licenceBurn m crc readBackOk => Sys2Proof.Machine.execLicenceBurn m crc readBackOk s
  | .licenceGenerationActivate => Sys2Proof.Machine.execLicenceGenerationActivate s
  | .licenceShadowCompare shadowOk => Sys2Proof.Machine.execLicenceShadowCompare shadowOk s
  | .sentinelFuseRead lost => Sys2Proof.Machine.execSentinelFuseRead lost s
  | .sentinelOverpowerInterval ch fb => Sys2Proof.Machine.execSentinelOverpowerInterval ch fb s
  | .sentinelSpectralWindow ch bins => Sys2Proof.Machine.execSentinelSpectralWindow ch bins s
  | .gateRelease m v => Sys2Proof.Machine.execGateRelease m v s
  | .sentinelSelfTest failed => Sys2Proof.Machine.execSentinelSelfTest failed s
  | .sentinelSelfCheckFailure kind => Sys2Proof.Machine.execSentinelSelfCheckFailure kind s
  | .muteNAssert lowNs => Sys2Proof.Machine.execMuteNAssert lowNs s
  | .muteNRelease => Sys2Proof.Machine.execMuteNRelease s
  | .portRestartComplete port => Sys2Proof.Machine.execPortRestartComplete port s
  | .dnFrameDiscard port frame => Sys2Proof.Machine.execDnFrameDiscard port frame s
  | .ecpriIqMessage port frame => Sys2Proof.Machine.execEcpriIqMessage port frame s
  | .ecpriDelayRequest port frame => Sys2Proof.Machine.execEcpriDelayRequest port frame s
  | .ecpriRemoteDelayRequest port frame => Sys2Proof.Machine.execEcpriRemoteDelayRequest port frame s
  | .ecpriDelayResponse port frame => Sys2Proof.Machine.execEcpriDelayResponse port frame s
  | .delayRequest m port v => Sys2Proof.Machine.execDelayRequest m port v s
  | .delayResponseTimeout port => Sys2Proof.Machine.execDelayResponseTimeout port s
  | .streamLossTimeout port str => Sys2Proof.Machine.execStreamLossTimeout port str s
  | .streamMuteRelease code => Sys2Proof.Machine.execStreamMuteRelease code s
  | .ecpriEgressMessage port str => Sys2Proof.Machine.execEcpriEgressMessage port str s
  | .exportPageSend port => Sys2Proof.Machine.execExportPageSend port s
  | .superframeReceive lane sf drift => Sys2Proof.Machine.execSuperframeReceive lane sf drift s
  | .laneBlockLockLoss lane => Sys2Proof.Machine.execLaneBlockLockLoss lane s
  | .superframeTransmit lane => Sys2Proof.Machine.execSuperframeTransmit lane s
  | .throughRepeat lane sf => Sys2Proof.Machine.execThroughRepeat lane sf s
  | .relayMessageReceive lane blocks bad => Sys2Proof.Machine.execRelayMessageReceive lane blocks bad s
  | .helloSend => Sys2Proof.Machine.execHelloSend s
  | .relayAddressAgeOut addr => Sys2Proof.Machine.execRelayAddressAgeOut addr s
  | .cableDelayMeasurement lane roundTrip turnaround => Sys2Proof.Machine.execCableDelayMeasurement lane roundTrip turnaround s
  | .queueFlush queue num => Sys2Proof.Machine.execQueueFlush queue num s
  | .captureStart m v => Sys2Proof.Machine.execCaptureStart m v s
  | .captureStop m v => Sys2Proof.Machine.execCaptureStop m v s
  | .capturePageWrite entry parity overflow => Sys2Proof.Machine.execCapturePageWrite entry parity overflow s
  | .markWrite m mark v => Sys2Proof.Machine.execMarkWrite m mark v s
  | .manualTrigger m mark v => Sys2Proof.Machine.execManualTrigger m mark v s
  | .exportSelect m port v => Sys2Proof.Machine.execExportSelect m port v s
  | .replayStart m rep v => Sys2Proof.Machine.execReplayStart m rep v s
  | .replayStop m rep v => Sys2Proof.Machine.execReplayStop m rep v s
  | .replayEnd rep => Sys2Proof.Machine.execReplayEnd rep s
  | .ddrChannelFailure n trainingOrPhy => Sys2Proof.Machine.execDdrChannelFailure n trainingOrPhy s
  | .collectorCycle inp => Sys2Proof.Machine.execCollectorCycle inp s
  | .faultNPulseEnd => Sys2Proof.Machine.execFaultNPulseEnd s
  | .faultNDrive m v => Sys2Proof.Machine.execFaultNDrive m v s
  | .clearMask m mask => Sys2Proof.Machine.execClearMask m mask s
  | .reactionWrite m src v => Sys2Proof.Machine.execReactionWrite m src v s
  | .restartWithheldExpiry src => Sys2Proof.Machine.execRestartWithheldExpiry src s
  | .recordForm => Sys2Proof.Machine.execRecordForm s
  | .summaryRecord code => Sys2Proof.Machine.execSummaryRecord code s
  | .tokenRefill code => Sys2Proof.Machine.execTokenRefill code s
  | .persistentWrite ok => Sys2Proof.Machine.execPersistentWrite ok s
  | .operatingTimeSave => Sys2Proof.Machine.execOperatingTimeSave s
  | .ringScan parity => Sys2Proof.Machine.execRingScan parity s
  | .wallTimeSet m v => Sys2Proof.Machine.execWallTimeSet m v s
  | .lastResortClear m v => Sys2Proof.Machine.execLastResortClear m v s
  | .snapshotEntryWrite m entry v => Sys2Proof.Machine.execSnapshotEntryWrite m entry v s
  | .thermalDemand => Sys2Proof.Machine.execThermalDemand s
  | .thermalReading results => Sys2Proof.Machine.execThermalReading results s
  | .throttleFreezeEnd z => Sys2Proof.Machine.execThrottleFreezeEnd z s
  | .leaveShutdown m v => Sys2Proof.Machine.execLeaveShutdown m v s
  | .automaticResume z => Sys2Proof.Machine.execAutomaticResume z s
  | .junctionComparatorTrip z => Sys2Proof.Machine.execJunctionComparatorTrip z s
  | .junctionComparatorReset z => Sys2Proof.Machine.execJunctionComparatorReset z s
  | .requestHold m => Sys2Proof.Machine.execRequestHold m s
  | .requestServe m => Sys2Proof.Machine.execRequestServe m s
  | .requestQuiet m => Sys2Proof.Machine.execRequestQuiet m s
  | .monitorChallenge level => Sys2Proof.Machine.execMonitorChallenge level s
  | .monitorUnlock level response => Sys2Proof.Machine.execMonitorUnlock level response s
  | .monitorLock => Sys2Proof.Machine.execMonitorLock s
  | .monitorLevel => Sys2Proof.Machine.execMonitorLevel s
  | .monitorRd index sub n => Sys2Proof.Machine.execMonitorRd index sub n s
  | .monitorWr index sub data => Sys2Proof.Machine.execMonitorWr index sub data s
  | .monitorMkey level key => Sys2Proof.Machine.execMonitorMkey level key s
  | .monitorOkey slot key => Sys2Proof.Machine.execMonitorOkey slot key s
  | .monitorLifecycle target token => Sys2Proof.Machine.execMonitorLifecycle target token s
  | .monitorScanOn => Sys2Proof.Machine.execMonitorScanOn s
  | .monitorScanOff => Sys2Proof.Machine.execMonitorScanOff s
  | .monitorRecover image => Sys2Proof.Machine.execMonitorRecover image s
  | .monitorIdleTimeout => Sys2Proof.Machine.execMonitorIdleTimeout s
  | .unlockLockoutEnd => Sys2Proof.Machine.execUnlockLockoutEnd s
  | .imageSeal m crc parityBad => Sys2Proof.Machine.execImageSeal m crc parityBad s
  | .imageProgrammingComplete => Sys2Proof.Machine.execImageProgrammingComplete s
  | .activate m v => Sys2Proof.Machine.execActivate m v s
  | .confirm m v => Sys2Proof.Machine.execConfirm m v s
  | .trialLimitExpiry => Sys2Proof.Machine.execTrialLimitExpiry s
  | .supervisorRestart m v => Sys2Proof.Machine.execSupervisorRestart m v s
  | .lockstepMismatch => Sys2Proof.Machine.execLockstepMismatch s
  | .supervisorWatchdogMiss => Sys2Proof.Machine.execSupervisorWatchdogMiss s
  | .supervisorStart => Sys2Proof.Machine.execSupervisorStart s
  | .autonomyLimitExpiry => Sys2Proof.Machine.execAutonomyLimitExpiry s
  | .autonomyWatchdogReset => Sys2Proof.Machine.execAutonomyWatchdogReset s
  | .resetNAssert lowNs => Sys2Proof.Machine.execResetNAssert lowNs s
  | .supplyMonitorReset => Sys2Proof.Machine.execSupplyMonitorReset s
  | .resetNRelease flash => Sys2Proof.Machine.execResetNRelease flash s
  | .bootComplete => Sys2Proof.Machine.execBootComplete s
  | .rodRestart m r => Sys2Proof.Machine.execRodRestart m r s
  | .dnPortRestart m port => Sys2Proof.Machine.execDnPortRestart m port s
  | .xlLaneRestart m lane => Sys2Proof.Machine.execXlLaneRestart m lane s
  | .captureControllerRestart m => Sys2Proof.Machine.execCaptureControllerRestart m s
  | .tallyRestart m => Sys2Proof.Machine.execTallyRestart m s
  | .cellFinderRestart m r => Sys2Proof.Machine.execCellFinderRestart m r s
  | .rodRestartComplete r => Sys2Proof.Machine.execRodRestartComplete r s
  | .blockRestartComplete kind num => Sys2Proof.Machine.execBlockRestartComplete kind num s
  | .frameSyncOutPulse => Sys2Proof.Machine.execFrameSyncOutPulse s
  | .eventNPulseEnd => Sys2Proof.Machine.execEventNPulseEnd s
  | .supervisorMemoryParity => Sys2Proof.Machine.execSupervisorMemoryParity s
  | .dnPortDown port => Sys2Proof.Machine.execDnPortDown port s
  | .dnPortUp port => Sys2Proof.Machine.execDnPortUp port s
  | .frameSyncOutPulseEnd => Sys2Proof.Machine.execFrameSyncOutPulseEnd s
  | .class1SequenceIssue ch event => Sys2Proof.Machine.execClass1SequenceIssue ch event s

end Sys2Proof.Machine
end

