-- ==== Sys2Proof/Machine/Balls.lean ====
section
/-! DEFINITION. Balls.lean: where the signals lie in the ball array (R438–R441), the supplies' monitor thresholds
(R442), and what each output shows at its ball (R355, R448, R450–R452). -/

namespace Sys2Proof.Machine

/-! ### Levels at the output balls (Table 19.10) -/

/-- What an output ball shows: driven low, driven high, an open drain released, or high impedance. -/
inductive BallLevel where
  | low | high | released | highZ
  deriving DecidableEq, Repr

/-- The column of Table 19.10 that is in force: supplies absent, RESET_N low, or from BOOT onward (log 36). -/
inductive PinPhase where
  | unpowered | reset | running
  deriving DecidableEq, Repr

/-- The column in force. -/
def pinPhase (s : State) : PinPhase :=
  if !s.pins.supplies then .unpowered else if !s.pins.resetN || s.life.power == .off then .reset else .running

/-- THERM_TRIP_N is asserted: in SHUTDOWN, and while a frame-die comparator trip is latched (R451). -/
def thermTrip (s : State) : Bool := s.life.power == .shutdown || (getZone s 0).latched

/-- An open-drain output that is pulled low where `pull` holds. -/
def openDrain (pull : Bool) : BallLevel := if pull then .low else .released

/-- A push-pull output: `rest` in RESET_N low, `lvl` from BOOT onward. -/
def pushPull (s : State) (rest lvl : Bool) : BallLevel :=
  let drive (b : Bool) : BallLevel := if b then .high else .low
  match pinPhase s with
  | .unpowered => .highZ
  | .reset => drive rest
  | .running => drive lvl

/-- TXENn: its term of R13; without supplies the pull-down holds it low. -/
def txenBall (s : State) (ch : Nat) : BallLevel := if txen s ch then .high else .low

/-- FAULT_N (R355, R408). -/
def faultNBall (s : State) : BallLevel := openDrain (!faultN s && pinPhase s == .running)

/-- EVENT_N (R450). -/
def eventNBall (s : State) : BallLevel := openDrain (s.tally.event && pinPhase s == .running)

/-- THERM_TRIP_N (R451). -/
def thermTripNBall (s : State) : BallLevel := openDrain (thermTrip s && pinPhase s == .running)

/-- FRAME_SYNC_OUT (R448). -/
def frameSyncOutBall (s : State) : BallLevel := pushPull s false s.pins.syncOut

/-- MON_TX between the bytes it sends: idle high. -/
def monTxBall (s : State) : BallLevel := pushPull s true true

/-- SCLK and SDATA of an RFFE bus between transactions: parked low. -/
def rffeBall (s : State) : BallLevel := pushPull s false false

/-- Does the device drive the QSPI balls? -/
def qspiDriven (s : State) : Bool := pinPhase s == .running

/-! ### The ball map (R440, R441, Table 19.3) -/

/-- The signals that the ball map places, by channel, bus, port, lane or number. -/
inductive Signal where
  | txOut (ch : Nat) | rxIn (ch : Nat) | fbIn (ch : Nat) | txen (ch : Nat)
  | rffeSclk (b : Nat) | rffeSdata (b : Nat)
  /-- a DN port's pair: `rx`, and `neg` for the N ball -/
  | dn (l : Nat) (rx neg : Bool)
  | xl (l : Nat) (rx neg : Bool)
  | mp (l : Nat) (rx neg : Bool)
  | refclk (neg : Bool) | supclkXi | supclkXo
  | muteN | faultN | eventN | thermTripN | resetN
  | frameSyncIn | frameSyncOut | ppsIn
  | qspiSclk | qspiCsN | qspiIo (i : Nat)
  | monTx | monRx
  | tck | tms | tdi | tdo | trstN | testEn
  | ddrZq (i : Nat) | serRext (i : Nat) | rsv (i : Nat)
  /-- the DDR5 balls whose places Table 19.3 gives: DQ0 of channel 0, CK_t and CK_c of channel 3 -/
  | ddr0Dq0 | ddr3Ck (neg : Bool)
  deriving DecidableEq, Repr

/-- Row of a channel's balls. -/
def chanRow (ch : Nat) : Nat := 20 * (ch / 16 % 3) + 2 + 2 * (ch % 16 / 2)

/-- Column `c` of a left-hand rod; a right-hand rod, 3 to 5, mirrors it. -/
def rodCol (r c : Nat) : Nat := if r < 3 then c else 61 - c

/-- A channel's RF ball, `c` its left-hand column in an even slot. -/
def rfPos (ch c : Nat) : Nat × Nat := (chanRow ch, rodCol (ch / 16) (c + 6 * (ch % 2)))

/-- An RFFE bus's ball in left-hand column `c`. -/
def rffePos (b c : Nat) : Nat × Nat := (20 * (b / 4 % 3) + 3 + 4 * (b % 4), rodCol (b / 4) c)

/-- A DN port's ball. -/
def dnPos (l : Nat) (rx neg : Bool) : Nat × Nat := (16 + 2 * (l / 4) + rx.toNat, 18 + 3 * (l % 4) + neg.toNat)

/-- Row and column of a signal's ball. -/
def Signal.pos : Signal → Nat × Nat
  | .txOut ch => rfPos ch 2
  | .rxIn ch => rfPos ch 4
  | .fbIn ch => rfPos ch 6
  | .txen ch => (chanRow ch, rodCol (ch / 16) (15 + ch % 2))
  | .rffeSclk b => rffePos b 14
  | .rffeSdata b => rffePos b 17
  | .dn l rx neg => dnPos l rx neg
  | .xl l rx neg => ((dnPos l rx neg).1, 61 - (dnPos l rx neg).2)
  | .mp l rx neg => (38 + rx.toNat, 20 + 20 * l + neg.toNat)
  | .refclk neg => (30, 30 + neg.toNat)
  | .supclkXi => (33, 30)
  | .supclkXo => (33, 31)
  | .muteN => (28, 26)
  | .faultN => (28, 27)
  | .eventN => (28, 28)
  | .thermTripN => (28, 29)
  | .resetN => (28, 32)
  | .frameSyncIn => (29, 26)
  | .frameSyncOut => (29, 27)
  | .ppsIn => (29, 28)
  | .qspiSclk => (35, 26)
  | .qspiCsN => (35, 27)
  | .qspiIo i => (35, 28 + i)
  | .monTx => (36, 26)
  | .monRx => (36, 27)
  | .tck => (36, 33)
  | .tms => (36, 34)
  | .tdi => (36, 35)
  | .tdo => (36, 36)
  | .trstN => (36, 37)
  | .testEn => (36, 38)
  | .ddrZq i => (if i < 2 then 15 else 46, if i % 2 = 0 then 24 else 37)
  | .serRext i => (24, if i = 0 then 24 else 37)
  | .rsv i => (37, 26 + i)
  | .ddr0Dq0 => (1, 18)
  | .ddr3Ck neg => (53, 37 + neg.toNat)

/-- Is a position one of the RF fields, columns 01–13 and 48–60? -/
def inRfField (p : Nat × Nat) : Bool :=
  1 ≤ p.1 && p.1 ≤ 60 && (1 ≤ p.2 && p.2 ≤ 13 || 48 ≤ p.2 && p.2 ≤ 60)

/-- The channel RF balls of Table 19.2. -/
def rfSignals : List Signal := (List.range 96).flatMap fun ch => [.txOut ch, .rxIn ch, .fbIn ch]

/-- Is a position ground of an RF field: every ball there that is no RF signal (R440)? -/
def rfGround (p : Nat × Nat) : Bool := inRfField p && !rfSignals.any fun g => g.pos == p

/-- Is a position ground of the DN and XL regions, rows 16–23 (Table 19.3)? -/
def linkGround (p : Nat × Nat) : Bool := decide (16 ≤ p.1) && decide (p.1 ≤ 23) && [20, 23, 26, 29, 32, 35, 38, 41].contains p.2

/-- Is a position one of the DDR5 regions? -/
def inDdrRegion (p : Nat × Nat) : Bool :=
  decide (18 ≤ p.2) && decide (p.2 ≤ 43) && ((decide (1 ≤ p.1) && decide (p.1 ≤ 14)) || (decide (47 ≤ p.1) && decide (p.1 ≤ 60)))

/-- The groups of Table 19.2. -/
inductive BallGroup where
  | rf | rfGround | txen | rffe | vddRf | vddaRf | rodGround | dn | xl | mp | ddr | vddq | control | qspi | mon | test | cal | rsv
  | vddCore | vddSram | vddSer09 | vddSer12 | vddIo | centreGround
  deriving DecidableEq, Repr

/-- Every group. -/
def BallGroup.all : List BallGroup :=
  [.rf, .rfGround, .txen, .rffe, .vddRf, .vddaRf, .rodGround, .dn, .xl, .mp, .ddr, .vddq, .control, .qspi, .mon, .test, .cal, .rsv,
   .vddCore, .vddSram, .vddSer09, .vddSer12, .vddIo, .centreGround]

/-- Balls of a group. -/
def BallGroup.balls : BallGroup → Nat
  | .rf => 288 | .rfGround => 1272 | .txen => 96 | .rffe => 48 | .vddRf => 120 | .vddaRf => 96 | .rodGround => 120
  | .dn => 64 | .xl => 64 | .mp => 8 | .ddr => 432 | .vddq => 72 | .control => 12 | .qspi => 6 | .mon => 2 | .test => 6 | .cal => 6 | .rsv => 10
  | .vddCore => 400 | .vddSram => 60 | .vddSer09 => 48 | .vddSer12 => 24 | .vddIo => 24 | .centreGround => 322

/-- The group of a signal. -/
def Signal.group : Signal → BallGroup
  | .txOut _ | .rxIn _ | .fbIn _ => .rf
  | .txen _ => .txen
  | .rffeSclk _ | .rffeSdata _ => .rffe
  | .dn _ _ _ => .dn
  | .xl _ _ _ => .xl
  | .mp _ _ _ => .mp
  | .refclk _ | .supclkXi | .supclkXo | .muteN | .faultN | .eventN | .thermTripN | .resetN | .frameSyncIn | .frameSyncOut | .ppsIn => .control
  | .qspiSclk | .qspiCsN | .qspiIo _ => .qspi
  | .monTx | .monRx => .mon
  | .tck | .tms | .tdi | .tdo | .trstN | .testEn => .test
  | .ddrZq _ | .serRext _ => .cal
  | .rsv _ => .rsv
  | .ddr0Dq0 | .ddr3Ck _ => .ddr

/-! ### Boundary scan (R421) -/

/-- The TAP is held in reset but while scan is enabled. -/
def tapHeld (s : State) : Bool := !s.life.scan

/-- A ball's boundary cell: none on the RF balls; those of TXEN and MUTE_N observe only. -/
inductive Cell where
  | none | observe | full
  deriving DecidableEq, Repr

/-- The cell of a signal. Supplies, test and calibration balls have none, and which of the others have one the spec does not
say: all of them (DESIGN CHOICE, log 36). -/
def Signal.cell : Signal → Cell
  | .txen _ | .muteN => .observe
  | g => if g.group == .rf || g.group == .test || g.group == .cal || g.group == .rsv then .none else .full

/-! ### Supplies (R442) -/

/-- The rails of Table 19.4. -/
inductive Rail where
  | vddCore | vddSram | vddSer09 | vddSer12 | vddIo | vddq | vddRf | vddaRf
  deriving DecidableEq, Repr

/-- Balls of a rail; its least, typical and greatest voltage and its monitor threshold, in mV. -/
def Rail.table : Rail → Nat × Nat × Nat × Nat × Nat
  | .vddCore => (400, 728, 750, 772, 675)
  | .vddSram => (60, 825, 850, 875, 765)
  | .vddSer09 => (48, 873, 900, 927, 810)
  | .vddSer12 => (24, 1164, 1200, 1236, 1080)
  | .vddIo => (24, 1746, 1800, 1854, 1620)
  | .vddq => (72, 1067, 1100, 1133, 990)
  | .vddRf => (120, 970, 1000, 1030, 900)
  | .vddaRf => (96, 1746, 1800, 1854, 1620)

/-- A rail at `mv` mV is below its monitor threshold: SUPPLY_MONITOR_RESET is what follows (R429, R442). -/
def Rail.trips (r : Rail) (mv : Nat) : Bool := decide (mv < r.table.2.2.2.2)

end Sys2Proof.Machine
end

