-- ==== Sys2Proof/Safety.lean ====
section
/-! DEFINITION. Safety.lean: the terms in which the claims speak: who may write, what an answer is, and the
invariants of a run. -/

namespace Sys2Proof.Machine

/-! ### Requests -/

/-- The power states in which managers may write every writable object (R419). -/
def openPower (p : Power) : Bool := p == .hold || p == .serve || p == .quiet || p == .safe

/-- May OLP manager `m` write objects now (R39 tests 4 and 5, R404, R419, R423)? -/
def mayWrite (s : State) (m : Nat) : Bool :=
  s.life.sup && decide (m < 8) && s.nv.lifecycle != 3 && openPower s.life.power

/-- Is the staging lock free or held by `m` (R54)? -/
def lockFree (s : State) (m : Nat) : Bool := s.commit.lock == none || s.commit.lock == some m

/-- Is window `w` free or claimed by `m` (R61)? -/
def windowFree (s : State) (m w : Nat) : Bool := (getWindow s w).claim == none || (getWindow s w).claim == some m

/-- The last thing to leave the device is the answer to manager `m`'s write of index:sub (Table 2.5). -/
def answered (t : State) (m idx sub status : Nat) : Prop :=
  t.out.getLast? = some (.reply m { opcode := 2, status, index := idx, sub })

/-- The last thing to leave the device is the answer to manager `m`'s read of index:sub. -/
def readBack (t : State) (m idx sub : Nat) (data : List Byte) : Prop :=
  t.out.getLast? = some (.reply m { opcode := 1, status := 0, index := idx, sub, data })

/-- A subscription but for what it has noted of its object's value. -/
def Subscription.bare (x : Subscription) : Subscription := { x with seen := [], changed := false }

/-- OLP's part of the state but for what its subscriptions have noted, which every write carried out brings up to
date (R65, log 46). -/
def OnlyNotes (s t : State) : Prop :=
  t.olp = { s.olp with subs := t.olp.subs } ∧ t.olp.subs.map Subscription.bare = s.olp.subs.map Subscription.bare

/-- The objects are as they were, but for the bank selects of carrier slots with a pending swap (R115, Table 4.4). -/
def OnlySelects (s t : State) : Prop :=
  ∀ k, (∀ g, (getSlot s g).pendSwap.isSome = true → k ≠ key (0x3000 + 16 * (g / 8) + 7) (g % 8 + 1)) →
    smGet (dfltOf k) t.objs k = smGet (dfltOf k) s.objs k

/-- Is a mute of an owner active at a scope? -/
def muteAt (s : State) (o : Owner) (sc : Scope) : Prop := (⟨o, sc⟩ : Mute) ∈ s.mutes

/-! ### RFFE -/

/-- Bus `b` takes transactions `ts` (R252): they stand behind what waits; a bus with none in progress issues at once the one
that goes first. What leaves the device after that is `more`. -/
def BusTakes (s t : State) (b : Nat) (ts : List Txn) (more : List Emission) : Prop :=
  let q := (getBus s b).queue ++ ts.map fun x => { x with at_ := s.time }
  (∀ c, c ≠ b → getBus t c = getBus s c) ∧
  (ts = [] → getBus t b = getBus s b ∧ t.out = s.out ++ more) ∧
  (ts ≠ [] → (getBus s b).busy ≠ none → getBus t b = { getBus s b with queue := q } ∧ t.out = s.out ++ more) ∧
  (ts ≠ [] → (getBus s b).busy = none → ∀ v rest, pickTxn q = some (v, rest) →
    getBus t b = { getBus s b with queue := rest, busy := some v } ∧ t.out = s.out ++ [.rffe b v.usid v.cmd v.addr v.data] ++ more)

/-- The write of tuner state `st` (R259): the table's entry as a class 3 Extended Register Write; none without a tuner. -/
def tunerTxns (cfg : SMap Nat) (ch st : Nat) : List Txn :=
  let w := cfgNat cfg (radIdx ch 3) (st + 1)
  if cfgNat cfg (radIdx ch 4) 1 = 0 then []
  else [{ cls := 3, ch, event := 8, usid := cfgNat cfg (radIdx ch 4) 1, cmd := 2, addr := cfgNat cfg (radIdx ch 4) 2, last := true,
          data := (List.range (cfgNat cfg (radIdx ch 4) 3)).map fun i => bits w (31 - 8 * i) (24 - 8 * i) }]

/-! ### Synchronising resets -/

/-- A carrier slot after a synchronising reset: its filters' histories empty, its phases at their offsets, its settling
counts those of the widest scope reset at this boundary, and its detector window begun anew (R91–R93, R118). -/
def afterReset (s : State) (g : Nat) (chanScope : Bool) : SlotPath :=
  let x := getSlot s g
  let k := kOf s.objs g
  let wide := chanScope || (x.resetWide && x.resetAt == s.clk.frame + 1)
  { x with
    rxChain := [], lineA := [], lineB := [], txChain := [], rxPhase := phaseOffset s.objs g 2, txPhase := phaseOffset s.objs g 3,
    rxSettle := settleC k wide + slotLen x - 1, txSettle := settleT k,
    detSum := 0, detCnt := 0, resetAt := s.clk.frame + 1, resetWide := wide }

/-- A channel after a reset of channel scope: each of its slots reset, the IQ correction's line empty and its 38 samples
of settling begun, the canceller's tap lines empty, the boundary kept (R91–R94). -/
def ChannelIsReset (s t : State) (ch : Nat) : Prop :=
  (∀ g, g / 8 = ch → getSlot t g = afterReset s g true) ∧ (∀ p, getPath t ch p = { getPath s ch p with line := [] }) ∧
  getChan t ch = { getChan s ch with
    iqLine := [], csrSettle := 38, lastReset := s.clk.frame + 1
    canc := { (getChan s ch).canc with paths := (getChan t ch).canc.paths } }

/-! ### Invariants -/

/-- The staging area and the snapshot of the commit under way hold at most 8,192 entries together (R53, R55),
and the lock's holder is a manager (R54, R418). -/
def StagingInv (s : State) : Prop := stagedTotal s.commit ≤ 8192 ∧ ∀ h, s.commit.lock = some h → h ≤ 8

/-- A mute is listed once (R30). -/
def MutesInv (s : State) : Prop := s.mutes.Nodup

/-- A channel under a mute of channel, rod or device scope has its mute term low (R31, R32). -/
def MuteTermInv (s : State) : Prop := ∀ ch, chanMuted s ch = true → (getChan s ch).muteTerm = false

/-- QUIET, SAFE and SHUTDOWN carry their device-scope mute (R392, R412). -/
def PowerMuteInv (s : State) : Prop :=
  s.life.power = .quiet ∨ s.life.power = .safe ∨ s.life.power = .shutdown → muteAt s .power .device

/-- Between two states fuses only burn: a consumed licence generation keeps its content, and the burned lifecycle
and the security version never go back (R266, R268, R403, R408). -/
def FusesKept (s t : State) : Prop :=
  s.nv.burned ≤ t.nv.burned ∧ s.nv.secVersion ≤ t.nv.secVersion ∧
  ∀ g, (smGet {} s.nv.gens g).consumed = true → smGet {} t.nv.gens g = smGet {} s.nv.gens g

end Sys2Proof.Machine
end

