-- ==== Sys2Proof/Certificates/Slice0/Obligations.lean ====
section
/-! DEFINITION. Obligations.lean: the statements for the provers. Each says what a command or the machine does, from
the rules of the spec; times are in the model's clock, 1/32 ns (32,000,000 to the millisecond). A frame is written as
an equation: `t = { s with … := t.…, … }` says that every other field of State is as it was. -/

open Sys2Proof Sys2Proof.Machine

/-! ### The machine: queue, reset, completion, whole-machine rules -/

/-- A step runs the command at the front of the queue with the queue's rest. A step on an empty queue lets one frame
time pass and changes nothing else (the model's choice, log 1). -/
def Obligations.StepRunsFrontCommand : Prop :=
  (
  ∀ (c : Instr) (rest : List Instr) (s : State), s.pending = c :: rest → step s = exec c { s with pending := rest }) ∧
  (
  ∀ s : State, s.pending = [] → step s = .next { s with time := s.time + 9375 })

/-- What reset leaves, where the spec says it: BOOT, the frame count, objects at their defaults, pass-through sealed
in bank A and bank B unsealed, every channel in SLEEP with TXEN low, no sequence used, nothing staged. The
invariants of a run hold after reset. Where the spec leaves a reading open the model takes that of log 2. -/
def Obligations.ResetStateAndInvariants : Prop :=
  (
  let s := State.reset
  s.life.power = .boot ∧ s.clk.frame = 0 ∧ s.tally.next = 0 ∧ s.commit.staged = [] ∧ s.commit.lock = none ∧
  (∀ ch, (getChan s ch).radio.st = .sleep ∧ txen s ch = false) ∧
  (∀ g, (getSlot s g).bankA.sealed = true ∧ (getSlot s g).bankB.sealed = false ∧
    (getSlot s g).bankA.header = 0x02000001#32 ∧ (getSlot s g).holds = 0) ∧
  (∀ idx sub o, sub < 256 → dictObj idx sub = some o → cfgRaw s.objs idx sub = o.dflt) ∧ s.pending = []) ∧
  (
  StagingInv State.reset ∧ MutesInv State.reset ∧ MuteTermInv State.reset ∧ PowerMuteInv State.reset)

/-- Every command is answered with a next state, in every state and for every operand. No command touches the queue
of waiting commands. -/
def Obligations.CommandsCompleteAndKeepQueue : Prop :=
  ∀ (c : Instr) (s : State), ∃ t, exec c s = .next t ∧ t.pending = s.pending

/-- Every step keeps the bound of the staging area and the lock's holder a manager. Every step keeps each mute
listed once. -/
def Obligations.StepKeepsStagingAndMutesInv : Prop :=
  (
  ∀ s t : State, StagingInv s → step s = .next t → StagingInv t) ∧
  (
  ∀ s t : State, MutesInv s → step s = .next t → MutesInv t)

/-- Every step keeps the mute term of a muted channel low. -/
def Obligations.StepKeepsMuteTermInv : Prop :=
  ∀ s t : State, MuteTermInv s → step s = .next t → MuteTermInv t

/-- Every step keeps the device-scope mute of QUIET, SAFE and SHUTDOWN. -/
def Obligations.StepKeepsPowerMuteInv : Prop :=
  ∀ s t : State, PowerMuteInv s → step s = .next t → PowerMuteInv t

/-- Fuses only burn, whatever is commanded. -/
def Obligations.StepKeepsFuses : Prop :=
  ∀ s t : State, step s = .next t → FusesKept s t

/-- In a state that keeps the two invariants of the mutes no channel's TXEN is high in QUIET, SAFE or SHUTDOWN, nor
is a channel's under a mute of channel, rod or device scope, nor any while MUTE_N is low. -/
def Obligations.MutedChannelsAreSilent : Prop :=
  ∀ (s : State) (ch : Nat), MuteTermInv s → PowerMuteInv s →
    (chanMuted s ch = true ∨ s.life.power = .quiet ∨ s.life.power = .safe ∨ s.life.power = .shutdown ∨ s.pins.muteN = false) →
    txen s ch = false

/-! ### Chapter 2: objects, staging, commits, windows, messages -/

/-- WRITE: a write of a staged entry that passes the tests of R39 puts its value into the staging area, answers
status 0x00, and changes nothing else; where the staging area would then hold more than 8,192 entries it is refused
with 0x09, and where another manager holds the lock with 0x08, and either leaves the staging area as it is. A write
of OLP's port or served IP versions (RWH) in HOLD or QUIET takes effect at once, in another state it is refused with
0x06. -/
def Obligations.StagedWrites : Prop :=
  ∀ (s : State) (m idx sub : Nat) (data : List Byte), mayWrite s m = true →
    let kept : Commit := { s.commit with lockAt := if s.commit.lock = some m then s.time else s.commit.lockAt }
    (∀ o, lookup idx sub = (0, some o) → o.acc = .rws → o.typ ≠ .dom → data.length = o.typ.len →
      o.ok (o.typ.toInt (ofBytes data)) = true →
      let k := key (canonIdx idx) sub
      let staged := putEntries s.commit.staged [(k, ofBytes data)]
      (lockFree s m = true → stagedTotal { s.commit with staged } ≤ 8192 →
        ∃ t, exec (.write m idx sub data) s = .next t ∧ t.commit = { kept with staged } ∧
          staged.find? (·.1 == k) = some (k, ofBytes data) ∧ (∀ e, e.1 ≠ k → (e ∈ staged ↔ e ∈ s.commit.staged)) ∧
          answered t m idx sub 0 ∧ t = { s with commit := t.commit, olp := t.olp, out := t.out } ∧ OnlyNotes s t) ∧
      (lockFree s m = true → 8192 < stagedTotal { s.commit with staged } →
        ∃ t, exec (.write m idx sub data) s = .next t ∧ t.commit = kept ∧ answered t m idx sub 0x09 ∧
          t = { s with commit := t.commit, olp := t.olp, out := t.out } ∧ OnlyNotes s t) ∧
      (lockFree s m = false →
        ∃ t, exec (.write m idx sub data) s = .next t ∧ answered t m idx sub 0x08 ∧ t = { s with olp := t.olp, out := t.out } ∧ OnlyNotes s t)) ∧
    (sub = 1 ∨ sub = 2 → ∀ o, lookup 0x1101 sub = (0, some o) → data.length = o.typ.len →
      (s.life.power = .hold ∨ s.life.power = .quiet → o.ok (o.typ.toInt (ofBytes data)) = true →
        ∃ t, exec (.write m 0x1101 sub data) s = .next t ∧ answered t m 0x1101 sub 0 ∧
          t.objs = cfgSet s.objs (key 0x1101 sub) (ofBytes data) ∧ t.commit = kept ∧
          t = { s with objs := t.objs, commit := t.commit, olp := t.olp, out := t.out } ∧ OnlyNotes s t) ∧
      (s.life.power ≠ .hold → s.life.power ≠ .quiet →
        ∃ t, exec (.write m 0x1101 sub data) s = .next t ∧ answered t m 0x1101 sub 0x06 ∧ t.commit = kept ∧
          t = { s with commit := t.commit, olp := t.olp, out := t.out } ∧ OnlyNotes s t))

/-- WRITE refused: the answer is the status of the first test of R39 that fails — index 0x01, subindex 0x02, length
0x04, access 0x03, the matrix 0x07, an RWH entry in SERVE or SAFE 0x06, a value out of range 0x05 — and no object
changes. -/
def Obligations.WriteRefusals : Prop :=
  ∀ (s : State) (m idx sub : Nat) (data : List Byte), s.life.sup = true → m < 8 →
    let refused (status : Nat) : Prop :=
      ∃ t, exec (.write m idx sub data) s = .next t ∧ answered t m idx sub status ∧
        t.commit = { s.commit with lockAt := t.commit.lockAt } ∧ t = { s with commit := t.commit, windows := t.windows, olp := t.olp, out := t.out } ∧ OnlyNotes s t
    (dictIndex idx = none → refused 0x01) ∧
    (∀ f, dictIndex idx = some f → f sub = none → refused 0x02) ∧
    (∀ o, lookup idx sub = (0, some o) →
      (lengthOk o data.length = false → refused 0x04) ∧
      (lengthOk o data.length = true →
        (o.acc = .ro ∨ o.acc = .lk → refused 0x03) ∧
        (o.acc ≠ .ro → o.acc ≠ .lk →
          (s.life.power = .off ∨ s.life.power = .boot ∨ s.nv.lifecycle = 3 ∨
              (s.life.power = .shutdown ∧ shutdownWrites.contains (idx, sub) = false) → refused 0x07) ∧
          (s.nv.lifecycle ≠ 3 → o.acc = .rwh → s.life.power = .serve ∨ s.life.power = .safe → refused 0x06) ∧
          (mayWrite s m = true → (o.acc = .rwh → s.life.power = .hold ∨ s.life.power = .quiet) →
            o.typ ≠ .dom → o.ok (o.typ.toInt (ofBytes data)) = false → refused 0x05))))

/-- STAGING_LOCK, COMMIT, DISCARD: the lock taken and released; a commit request takes the staging area as its
snapshot and is not answered yet; a discard empties the staging area and releases the lock. STAGING_LOCK_TIMEOUT:
the lock is released once its holder has sent no operation for 0x1010:09 seconds, and not before. -/
def Obligations.StagingLockAndCommitRequests : Prop :=
  (
  ∀ (s : State) (m : Nat), mayWrite s m = true → lockFree s m = true →
    (∃ t, exec (.stagingLock m m) s = .next t ∧ t.commit.lock = some m ∧ t.commit.lockAt = s.time ∧ answered t m 0x1010 8 0 ∧
      t = { s with commit := t.commit, olp := t.olp, out := t.out } ∧ OnlyNotes s t) ∧
    (∃ t, exec (.stagingLock m 0xFF) s = .next t ∧ t.commit.lock = none ∧ answered t m 0x1010 8 0 ∧
      t = { s with commit := t.commit, olp := t.olp, out := t.out } ∧ OnlyNotes s t) ∧
    (s.commit.st ≠ 1 → s.commit.held = false →
      (∃ t, exec (.commit m) s = .next t ∧ t.commit.st = 1 ∧ t.commit.snapshot = s.commit.staged ∧ t.commit.staged = [] ∧
        t.commit.lock = s.commit.lock ∧ t.olp.commitBy = some m ∧ t = { s with commit := t.commit, olp := t.olp }) ∧
      (∃ t, exec (.discard m) s = .next t ∧ t.commit.staged = [] ∧ t.commit.lock = none ∧ answered t m 0x1010 1 0 ∧
        t = { s with commit := t.commit, olp := t.olp, out := t.out } ∧ OnlyNotes s t))) ∧
  (
  ∀ (s : State) (h : Nat), s.commit.lock = some h →
    exec .stagingLockTimeout s =
      .next (if s.commit.lockAt + 1000 * cfgNat s.objs 0x1010 9 * 32000000 ≤ s.time then { s with commit := { s.commit with lock := none } } else s))

/-- COMMIT_CHECKS_DONE: a configuration without a failure awaits its boundary; a failure gives state 4, the first
failing check's reason and object, and the snapshot back to the staging area; its write is answered 0x0A.
COMMIT_APPLY: the snapshot becomes the active configuration at the next boundary, whose number is the commit frame,
but for the bank select of a slot whose pending swap is dropped there; the commit count moves on, the lock is
released, and the write is answered 0x00. Where the spec leaves a reading open the model takes that of log 31. -/
def Obligations.CommitsEnd : Prop :=
  (
  ∀ (s : State) (m : Nat), s.life.sup = true → s.commit.st = 1 → m < 8 → s.olp.commitBy = some m →
    (commitChecks s (cfgMerge s.objs s.commit.snapshot) = none →
      exec .commitChecksDone s = .next { s with commit := { s.commit with st := 2, held := true } }) ∧
    (∀ reason object, commitChecks s (cfgMerge s.objs s.commit.snapshot) = some (reason, object) → s.commit.snapshot ≠ [] →
      ∃ t, exec .commitChecksDone s = .next t ∧ t.commit.st = 4 ∧ t.commit.reason = reason ∧ t.commit.object = object ∧
        t.commit.staged = putEntries s.commit.snapshot s.commit.staged ∧ t.commit.snapshot = [] ∧ t.commit.count = s.commit.count ∧
        answered t m 0x1010 1 0x0A ∧ t = { s with commit := t.commit, olp := t.olp, out := t.out })) ∧
  (
  ∀ (s : State) (m : Nat), coreClock s = true → s.commit.held = true → m < 8 → s.olp.commitBy = some m →
    ∃ t, exec .commitApply s = .next t ∧ ((∀ g, (getSlot s g).pendSwap = none) → t.objs = cfgMerge s.objs s.commit.snapshot) ∧
      (∀ idx sub, sub < 256 → idx % 16 ≠ 7 → cfgRaw t.objs idx sub = cfgRaw (cfgMerge s.objs s.commit.snapshot) idx sub) ∧ t.commit.st = 3 ∧ t.commit.held = false ∧
      t.commit.reason = 0 ∧ t.commit.object = 0 ∧ t.commit.frame = s.clk.frame + 1 ∧
      t.commit.count = (s.commit.count + 1) % 2 ^ 32 ∧ t.commit.snapshot = [] ∧ t.commit.staged = s.commit.staged ∧
      t.commit.lock = none ∧ answered t m 0x1010 1 0 ∧
      t.clk = s.clk ∧ t.life = s.life ∧ t.nv = s.nv ∧ t.pins = s.pins ∧ t.lic = s.lic ∧ t.sent = s.sent ∧ t.flt = s.flt ∧
      t.therm = s.therm ∧ t.windows = s.windows ∧ t.time = s.time)

/-- A commit request or a discard is refused with 0x0C while the checks run or a checked commit awaits its boundary;
a commit of an empty staging area is applied with no other effect and still counts. -/
def Obligations.BusyAndEmptyCommits : Prop :=
  ∀ (s : State) (m : Nat), mayWrite s m = true → lockFree s m = true →
    (s.commit.st = 1 ∨ s.commit.held = true →
      (∃ t, exec (.commit m) s = .next t ∧ answered t m 0x1010 1 0x0C ∧
        t = { s with commit := { s.commit with lockAt := t.commit.lockAt }, olp := t.olp, out := t.out } ∧ OnlyNotes s t) ∧
      (∃ t, exec (.discard m) s = .next t ∧ answered t m 0x1010 1 0x0C ∧
        t = { s with commit := { s.commit with lockAt := t.commit.lockAt }, olp := t.olp, out := t.out } ∧ OnlyNotes s t)) ∧
    (s.commit.st ≠ 1 → s.commit.held = false → s.commit.staged = [] → coreClock s = true →
      ∃ t₁ t₂ t₃, exec (.commit m) s = .next t₁ ∧ exec .commitChecksDone t₁ = .next t₂ ∧ exec .commitApply t₂ = .next t₃ ∧
        t₃.commit.count = (s.commit.count + 1) % 2 ^ 32 ∧ t₃.commit.st = 3 ∧ t₃.commit.frame = s.clk.frame + 1 ∧
        answered t₃ m 0x1010 1 0 ∧ t₃ = { s with commit := t₃.commit, olp := t₃.olp, out := t₃.out })

/-- WINDOW_SELECTOR_WRITE, WINDOW_CURSOR_WRITE, WINDOW_CLAIM_TIMEOUT: the window is claimed, the transfer begins
anew with the running CRC at its start value; five seconds without an operation of the holder release it.
WINDOW_DATA_WRITE, WINDOW_DATA_READ on the coefficient window: words written take their places from the cursor on
and unseal the bank; words read are the bank's; either way the cursor moves on and the words enter the CRC. Where
the spec leaves a reading open the model takes that of log 30. -/
def Obligations.WindowTransfers : Prop :=
  (
  ∀ (s : State) (m w v : Nat), w < 5 →
    (mayWrite s m = true → windowFree s m w = true → v < 2 ^ 32 → (v = 0xFFFFFFFF ∨ selectorOk s w v = true) →
      ∃ t, exec (.windowSelectorWrite m w v) s = .next t ∧ answered t m (0x6100 + 256 * w) 1 0 ∧
        (getWindow t w).sel = v ∧ (getWindow t w).cursor = 0 ∧ (getWindow t w).claim = some m ∧
        (getWindow t w).crc = 0xFFFFFFFF#32 ∧ (getWindow t w).moved = 0 ∧ (getWindow t w).st = 0 ∧
        (∀ w', w' ≠ w → getWindow t w' = getWindow s w') ∧
        t = { s with windows := t.windows, commit := t.commit, olp := t.olp, out := t.out } ∧ OnlyNotes s t) ∧
    (mayWrite s m = true → windowFree s m w = true → v < 2 ^ 64 →
      ∃ t, exec (.windowCursorWrite m w v) s = .next t ∧ answered t m (0x6100 + 256 * w) 2 0 ∧
        (getWindow t w).cursor = v ∧ (getWindow t w).sel = (getWindow s w).sel ∧
        (getWindow t w).claim = (if (getWindow s w).sel = 0xFFFFFFFF then none else some m) ∧
        (getWindow t w).crc = 0xFFFFFFFF#32 ∧ (getWindow t w).moved = 0 ∧ (getWindow t w).st = 0 ∧
        (∀ w', w' ≠ w → getWindow t w' = getWindow s w') ∧
        t = { s with windows := t.windows, commit := t.commit, olp := t.olp, out := t.out } ∧ OnlyNotes s t) ∧
    ((getWindow s w).claim ≠ none → (getWindow s w).claimAt + 5000 * 32000000 ≤ s.time →
      ∃ t, exec (.windowClaimTimeout w) s = .next t ∧ getWindow t w = { getWindow s w with claim := none } ∧
        (∀ w', w' ≠ w → getWindow t w' = getWindow s w') ∧ t = { s with windows := t.windows })) ∧
  (
  ∀ (s : State) (m : Nat) (ws : List Word) (n : Nat),
    let x := getWindow s 0
    let g := x.sel / 2
    let b := x.sel % 2
    mayWrite s m = true → windowFree s m 0 = true → x.sel < 1536 →
    (1 ≤ ws.length → ws.length ≤ 256 → bankHeld (getSlot s g) b = false → x.cursor + ws.length ≤ windowLength s 0 →
      ∃ t, exec (.windowDataWrite m 0 ws) s = .next t ∧ answered t m 0x6100 3 0 ∧
        (∀ i, i < ws.length → smGet 0 (bankOf (getSlot t g) b).words (x.cursor + i) = ws.getD i 0) ∧
        (∀ i, i < x.cursor ∨ x.cursor + ws.length ≤ i →
          smGet 0 (bankOf (getSlot t g) b).words i = smGet 0 (bankOf (getSlot s g) b).words i) ∧
        (bankOf (getSlot t g) b).sealed = false ∧ bankOf (getSlot t g) (1 - b) = bankOf (getSlot s g) (1 - b) ∧
        (∀ g', g' ≠ g → getSlot t g' = getSlot s g') ∧
        (getWindow t 0).cursor = x.cursor + ws.length ∧ (getWindow t 0).crc = crcWords x.crc ws ∧ (getWindow t 0).st = 1 ∧
        t = { s with windows := t.windows, slots := t.slots, commit := t.commit, olp := t.olp, out := t.out } ∧ OnlyNotes s t) ∧
    (1 ≤ n → n ≤ 256 → x.cursor + n ≤ windowLength s 0 →
      let rs := (List.range n).map fun i => smGet 0 (bankOf (getSlot s g) b).words (x.cursor + i)
      ∃ t, exec (.windowDataRead m 0 n) s = .next t ∧ readBack t m 0x6100 3 (bytesOfWords rs) ∧
        (getWindow t 0).cursor = x.cursor + n ∧ (getWindow t 0).crc = crcWords x.crc rs ∧ (getWindow t 0).st = 1 ∧
        t = { s with windows := t.windows, commit := t.commit, out := t.out }))

/-- WINDOW_CRC_CONFIRM and BANK_SEAL: a bank written whole whose CRC matches is sealed under its header; a CRC that
does not match is refused with 0x0B, window status 3, and the bank stays as it was. Where the spec leaves a reading
open the model takes that of log 30 and 39. -/
def Obligations.BankSeals : Prop :=
  ∀ (s : State) (m : Nat) (crc : BitVec 32),
    let x := getWindow s 0
    let g := x.sel / 2
    let b := x.sel % 2
    mayWrite s m = true → windowFree s m 0 = true → x.sel < 1536 → bankSealable x (bankOf (getSlot s g) b) = true →
    (exec (.windowCrcConfirm m 0 crc) s = exec (.bankSeal m crc) s) ∧
    (crcOut x.crc = crc →
      ∃ t, exec (.bankSeal m crc) s = .next t ∧ exec (.windowCrcConfirm m 0 crc) s = .next t ∧ answered t m 0x6100 4 0 ∧ (getWindow t 0).st = 2 ∧
        bankOf (getSlot t g) b = { bankOf (getSlot s g) b with header := smGet 0 (bankOf (getSlot s g) b).words 0, sealed := true } ∧
        (∀ g', g' ≠ g → getSlot t g' = getSlot s g') ∧
        t = { s with windows := t.windows, slots := t.slots, commit := t.commit, olp := t.olp, out := t.out } ∧ OnlyNotes s t) ∧
    (crcOut x.crc ≠ crc →
      ∃ t, exec (.bankSeal m crc) s = .next t ∧ exec (.windowCrcConfirm m 0 crc) s = .next t ∧ answered t m 0x6100 4 0x0B ∧ (getWindow t 0).st = 3 ∧
        t = { s with windows := t.windows, commit := t.commit, olp := t.olp, out := t.out } ∧ OnlyNotes s t)

/-- READ, READ_STAGED: an entry of the Dictionary that no block drives reads as what it holds, staged or not; a
staged read answers the staged value of an entry where there is one, and otherwise its active value with status
0x0D. An entry a block drives reads as the block has it (of 0x1601 and 0x7010–0x7011 a snapshot is read, R207,
R350); so the frame count and the vendor identity are answered. A read that a test of R39 fails is answered with
that status and no data. A read changes no more than the lock's and the window claim's time. SUBSCRIBE,
SUBSCRIPTION_LEASE_EXPIRY: a subscription with a lease replaces the manager's earlier one of the object and stands
last; a lease of 0 removes it; one of the selector, the cursor or the CRC of a window another manager claims is
refused with 0x0C; a lease that has run out removes it, and no other goes. Where the spec leaves a reading open the
model takes that of log 32 and 46. -/
def Obligations.ReadsAndSubscriptions : Prop :=
  (
  ∀ (s : State) (m idx sub : Nat), mayWrite s m = true →
    let keeps (t : State) : Prop := t = { s with commit := t.commit, windows := t.windows, out := t.out } ∧
      t.commit = { s.commit with lockAt := t.commit.lockAt } ∧ ∀ w, getWindow t w = { getWindow s w with claimAt := (getWindow t w).claimAt }
    let gives (t : State) (opcode status : Nat) (data : List Byte) : Prop := t.out.getLast? = some (.reply m { opcode, status, index := idx, sub, data })
    (∀ o, lookup idx sub = (0, some o) → o.acc.reads = true → o.typ ≠ .dom → windowShut s m idx sub = false →
      (idx ≠ 0x1601 → idx ≠ 0x7010 → idx ≠ 0x7011 →
        ∃ t, exec (.read m idx sub) s = .next t ∧ gives t 1 0 (valueBytes o.typ (objValue (touch (dropSnapshots s) m idx) idx sub)) ∧ keeps t) ∧
      ((∀ x, blockValue x idx sub = none) →
        let v := valueBytes o.typ (cfgRaw s.objs (canonIdx idx) sub)
        (∃ t, exec (.read m idx sub) s = .next t ∧ gives t 1 0 v ∧ keeps t) ∧
        (∀ e, s.commit.staged.find? (·.1 == key (canonIdx idx) sub) = some e →
          ∃ t, exec (.readStaged m idx sub) s = .next t ∧ gives t 3 0 (valueBytes o.typ e.2) ∧ keeps t) ∧
        (s.commit.staged.find? (·.1 == key (canonIdx idx) sub) = none →
          ∃ t, exec (.readStaged m idx sub) s = .next t ∧ gives t 3 0x0D v ∧ keeps t))) ∧
    (readTest s m idx sub 0 ≠ 0 →
      (∃ t, exec (.read m idx sub) s = .next t ∧ gives t 1 (readTest s m idx sub 0) [] ∧ keeps t) ∧
      (∃ t, exec (.readStaged m idx sub) s = .next t ∧ gives t 3 (readTest s m idx sub 0) [] ∧ keeps t)) ∧
    (∃ t, exec (.read m 0x1012 1) s = .next t ∧ readBack t m 0x1012 1 (beBytes 8 s.clk.frame) ∧ keeps t) ∧
    (∃ t, exec (.read m 0x1000 1) s = .next t ∧ readBack t m 0x1000 1 [0x52#8, 0x41#8, 0x4E#8, 0x4C#8] ∧ keeps t)) ∧
  (
  ∀ (s : State) (m idx sub : Nat) (data : List Byte) (origin : Origin),
    let rest := s.olp.subs.filter fun x => !(x.m == m && x.index == idx && x.sub == sub)
    (s.life.sup = true → m < 8 → subscribeTest s m idx sub data = 0 → windowShut s m idx sub = false → fieldAt data 4 2 ≠ 0 → rest.length < 512 →
      (rest.filter (·.m == m)).length < 128 →
      ∃ t x, exec (.subscribe m idx sub data origin) s = .next t ∧ t.olp.subs = rest ++ [x] ∧ x.m = m ∧ x.index = idx ∧ x.sub = sub ∧
        x.mode = fieldAt data 0 1 ∧ x.interval = fieldAt data 2 2 ∧ x.lease = fieldAt data 4 2 ∧ x.since = s.time ∧ x.origin = origin ∧
        t.out.getLast? = some (.reply m { opcode := 4, status := 0, index := idx, sub }) ∧
        t = { s with olp := { s.olp with subs := t.olp.subs }, commit := t.commit, windows := t.windows, out := t.out }) ∧
    (s.life.sup = true → m < 8 → subscribeTest s m idx sub data = 0 → windowShut s m idx sub = true →
      ∃ t, exec (.subscribe m idx sub data origin) s = .next t ∧ t.out.getLast? = some (.reply m { opcode := 4, status := 0x0C, index := idx, sub }) ∧
        t = { s with commit := t.commit, windows := t.windows, out := t.out }) ∧
    (s.life.sup = true → m < 8 → subscribeTest s m idx sub data = 0 → windowShut s m idx sub = false → fieldAt data 4 2 = 0 →
      ∃ t, exec (.subscribe m idx sub data origin) s = .next t ∧ t.olp.subs = rest ∧
        t = { s with olp := { s.olp with subs := rest }, commit := t.commit, windows := t.windows, out := t.out }) ∧
    (∃ t, exec (.subscriptionLeaseExpiry m idx sub) s = .next t ∧
      (∀ x, x ∈ t.olp.subs ↔ x ∈ s.olp.subs ∧ ¬ (x.m = m ∧ x.index = idx ∧ x.sub = sub ∧ x.since + 1000 * x.lease * 32000000 ≤ s.time)) ∧
      t = { s with olp := { s.olp with subs := t.olp.subs } }))

/-- NOTIFY: the manager's due subscriptions that share the first one's origin leave in one signed message, the first
of them that fit, at most 64: each operation has opcode 0x81, status 0x00 and its object's value; the message
carries the supervisor's start count as its session and the manager's notification counter, which moves on; what was
sent is no longer a change, and no object changes. With nothing due nothing leaves. RELAY_RESPONSE_RETURN,
RELAY_RESPONSE_TIMEOUT: a response that a relayed request waits for goes to its manager and the wait ends, any other
is discarded; after 500 ms, and not before, the oldest wait ends and is counted as a drop. Where the spec leaves a
reading open the model takes that of log 32 and 46. -/
def Obligations.NotificationsAndRelayedRequests : Prop :=
  (
  ∀ (s : State) (m : Nat),
    ((s.olp.subs.filter fun x => x.m == m && subDue s x) = [] → exec (.notify m) s = .next s) ∧
    (∀ x xs, (s.olp.subs.filter fun x => x.m == m && subDue s x) = x :: xs → s.life.sup = true → olpKey s m ≠ [] →
      let due := fitReplies s 64 32 (x :: xs.filter (·.origin == x.origin))
      let ops : List Reply := due.map fun y => { opcode := 0x81, status := 0, index := y.index, sub := y.sub, data := subscribedValue s y.index y.sub }
      let device := if x.origin.port < 2 then 0xFFFF else ownAddr s
      let seq := (getSession s m).notifySeq
      let bytes := olpMessage (olpKey s m) 0x40 seq s.life.starts m device ops
      let subs := s.olp.subs.map fun y =>
        if due.contains y then { y with lastSent := some s.time, seen := watchedValue s y.index y.sub, changed := false } else y
      let sessions := smMod {} s.olp.sessions m fun x => { x with notifySeq := (seq + 1) % 65536 }
      let u : State := { s with olp := { s.olp with subs, sessions } }
      due.length ≤ 64 ∧ (∀ y, y ∈ due → y ∈ s.olp.subs ∧ y.m = m ∧ subDue s y = true ∧ y.origin = x.origin) ∧
      ((replyBytes (subReply s x)).length ≤ 1420 → x ∈ due) ∧
      exec (.notify m) s = .next (sendTo u x.origin bytes) ∧
      (x.origin.port < 2 → exec (.notify m) s = .next { u with out := s.out ++ [.olp x.origin bytes] }) ∧
      olpTag bytes = tagOf (olpKey s m) (olpBody bytes) ∧ (olpHeader bytes).flags = 0x40 ∧ (olpHeader bytes).seq = seq % 65536 ∧
      (olpHeader bytes).session = s.life.starts % 2 ^ 32 ∧ (olpHeader bytes).m = m ∧ (olpHeader bytes).count = due.length)) ∧
  (
  ∀ (s : State),
    (∀ lane bs, (lanesUp s).contains lane = true →
      let h := olpHeader bs
      let waits (w : Relayed) : Bool := w.device == h.device && w.m == h.m && w.session == h.session && w.seq == h.seq
      (∀ w, s.olp.waiting.find? waits = some w → w.origin.port < 2 →
        exec (.relayResponseReturn lane bs) s =
          .next { s with olp := { s.olp with waiting := s.olp.waiting.erase w }, out := s.out ++ [.olp w.origin bs] }) ∧
      (s.olp.waiting.find? waits = none → exec (.relayResponseReturn lane bs) s = .next s)) ∧
    (∀ w ws, s.olp.waiting = w :: ws →
      (w.since + 500 * 32000000 ≤ s.time →
        exec .relayResponseTimeout s = .next { s with olp := { s.olp with waiting := ws, relayDrops := inc32 s.olp.relayDrops } }) ∧
      (s.time < w.since + 500 * 32000000 → exec .relayResponseTimeout s = .next s)))

/-- OLP_MESSAGE: a message damaged on its way only counts as malformed, one whose tag does not verify only as such,
and one with a good tag that the window rejects only as replayed; one accepted is counted, its session and sequence
are noted, and its operations run in their order; a request whose structure is wrong (R47) runs none, counts as
malformed and is answered with flags 0xA0; an exact repeat (R52) is answered with the stored response and changes
nothing. Operations that fit one response are each carried out on what the ones before left, and the response
carries their statuses and data in order; a lone WRITE is answered with its status. Where the spec leaves a reading
open the model takes that of log 32 and 46. -/
def Obligations.MessageAcceptance : Prop :=
  ∀ (s : State) (origin : Origin) (bs : List Byte),
    let h := olpHeader bs
    s.life.sup = true → s.life.power ≠ .off → s.nv.lifecycle ≠ 3 → origin.port < 2 → olpServed s origin = true → 32 ≤ bs.length → bs.length ≤ 1452 → h.version = 1 →
    h.device = 0xFFFF → s.olp.rxq = [] → s.olp.busy = none →
    let bad := tagOf (olpKey s h.m) (olpBody bs) ≠ olpTag bs
    let p : InProgress := { m := h.m, session := h.session, seq := h.seq, device := h.device, tag := olpTag bs, origin, rest := [], done := [] }
    (origin.bad = true →
      exec (.olpMessage origin bs) s = .next { s with olp := { s.olp with malformed := inc32 s.olp.malformed } }) ∧
    (origin.bad = false → olpKey s h.m = [] ∨ bad →
      exec (.olpMessage origin bs) s = .next { s with olp := { s.olp with tagFail := inc32 s.olp.tagFail } }) ∧
    (origin.bad = false → olpKey s h.m ≠ [] → ¬ bad → exactRepeat s h (olpTag bs) = true → ∀ r, (getSession s h.m).response = some r →
      exec (.olpMessage origin bs) s = .next { s with out := s.out ++ [.olp origin r] }) ∧
    (origin.bad = false → olpKey s h.m ≠ [] → ¬ bad → exactRepeat s h (olpTag bs) = false →
      (windowTest (storedSession s h.m) (getSession s h.m) h.session h.seq = none →
        exec (.olpMessage origin bs) s = .next { s with olp := { s.olp with replay := inc32 s.olp.replay } }) ∧
      (∀ x, windowTest (storedSession s h.m) (getSession s h.m) h.session h.seq = some x →
        let s₁ : State := { s with
          olp := { s.olp with accepted := inc32 s.olp.accepted,
                              sessions := smSet {} s.olp.sessions h.m { x with lastTag := olpTag bs, lastSeq := h.seq, response := none } }
          nv := { s.nv with sessions := smSet 0 s.nv.sessions h.m h.session }, flt := { s.flt with snap := none }, govSnap := [] }
        (requestOps bs = none →
          exec (.olpMessage origin bs) s =
            .next (finish { s₁ with olp := { s₁.olp with malformed := inc32 s.olp.malformed } } p 0xA0)) ∧
        (∀ ops, requestOps bs = some ops → exec (.olpMessage origin bs) s = .next (runOps ops false s₁ p) ∧
          ((∀ op, op ∈ ops → ¬ (op.opcode = 2 ∧ op.index = 0x1010 ∧ op.sub = 1)) →
            32 + sumMap ops (fun op => 8 + expected op) ≤ 1452 →
            let r := ops.foldl (fun (a : State × List Reply) op =>
              let x := execOp a.1 p op
              (x.2.2, a.2 ++ [{ opcode := op.opcode, status := x.1, index := op.index, sub := op.sub, data := x.2.1 }])) (s₁, [])
            exec (.olpMessage origin bs) s = .next (finish r.1 { p with done := r.2 } 0x80))) ∧
        (∀ op, requestOps bs = some [op] → op.opcode = 2 → ¬ (op.index = 0x1010 ∧ op.sub = 1) →
          let r := writeObject s₁ h.m op.index op.sub op.data
          exec (.olpMessage origin bs) s = .next (finish (noteChanges r.2)
            { p with done := [{ opcode := 2, status := r.1, index := op.index, sub := op.sub }] } 0x80))))

/-! ### Chapters 1, 14, 16: clocks, die-to-die links, the fault collector -/

/-- REFCLK_LOSS, CORE_PLL_UNLOCK, SUPCLK_LOSS: the loss of REFCLK or of the core PLL sets its latch, pulses FAULT_N,
holds the raw lines as they stand and mutes all TX, and REFCLK's takes the device to SAFE with cause 276; the loss
of SUPCLK stops the supervisor, Tally and the thermal manager. REFCLK_RETURN, CORE_CLOCK_RETURN, SUPCLK_RETURN: the
mutes of the loss end; every powered rod owes a calibration; the collector's first cycle takes its latches in as
sources 276 and 277; Tally's queue begins with code 0x0006. Where the spec leaves a reading open the model takes
that of log 28. -/
def Obligations.ClockLossesAndReturns : Prop :=
  (
  ∀ s : State, s.life.power ≠ .off →
    (s.clk.refclk = true → MuteTermInv s →
      ∃ t, exec .refclkLoss s = .next t ∧ t.clk = { s.clk with refclk := false, core := false } ∧
        t.flt = { s.flt with latch276 := true, pulse := true, pulseAt := s.time, held := if coreClock s then rawView s else s.flt.held } ∧ muteAt t .refclk .device ∧
        (∀ ch, txen t ch = false) ∧
        (s.life.power = .hold ∨ s.life.power = .serve ∨ s.life.power = .quiet → t.life.power = .safe ∧ t.life.safeCause = 276) ∧
        t = { s with clk := t.clk, flt := t.flt, chans := t.chans, buses := t.buses, mutes := t.mutes, out := t.out,
                     cap := t.cap, tally := t.tally, life := t.life }) ∧
    (s.flt.latch277 = false → MuteTermInv s →
      ∃ t, exec .corePllUnlock s = .next t ∧ t.clk = { s.clk with core := false } ∧
        t.flt = { s.flt with latch277 := true, pulse := true, pulseAt := s.time, held := if coreClock s then rawView s else s.flt.held } ∧ muteAt t .corePll .device ∧
        (∀ ch, txen t ch = false) ∧
        t = { s with clk := t.clk, flt := t.flt, chans := t.chans, buses := t.buses, mutes := t.mutes, out := t.out }) ∧
    (s.clk.supclk = true →
      ∃ t, exec .supclkLoss s = .next t ∧ t.clk = { s.clk with supclk := false } ∧ t.tally.gap = some s.clk.frame ∧
        t.tally.queue = s.tally.queue ∧ t.therm = { s.therm with demanded := false } ∧
        (s.life.sup = true → t.life.sup = false ∧ t.life.autonomy = true ∧ t.life.autoSince = s.time ∧
          t.life.autoCause = if trialRuns s then 2 else 6) ∧
        t.mutes = s.mutes ∧ t.chans = s.chans ∧ t.objs = s.objs)) ∧
  (
  ∀ s : State, s.life.power ≠ .off →
    (s.clk.refclk = false →
      ∃ t, exec .refclkReturn s = .next t ∧ t.clk = { s.clk with refclk := true } ∧ hasMute t .refclk = false ∧
        (∀ r, r < 6 → (getRod s r).powered = true → (getRod t r).cal = 1 ∧ (getRod t r).calPending = true ∧ muteAt t (.rodCal r) (.rod r)) ∧
        (∀ r, (getRod s r).powered = false → getRod t r = getRod s r) ∧
        t = { s with clk := t.clk, chans := t.chans, rods := t.rods, buses := t.buses, mutes := t.mutes, out := t.out }) ∧
    (s.clk.core = false → s.clk.refclk = true →
      ∃ t, exec .coreClockReturn s = .next t ∧ t.clk.core = true ∧ t.flt.latch276 = false ∧ t.flt.latch277 = false ∧
        hasMute t .corePll = false ∧ t.flt.held = 0 ∧
        (s.flt.latch276 = true → t.flt.sticky.getLsbD 276 = true) ∧ (s.flt.latch277 = true → t.flt.sticky.getLsbD 277 = true) ∧
        OnlySelects s t ∧ t.nv = s.nv ∧ t.commit = s.commit ∧ t.olp = s.olp) ∧
    (s.clk.supclk = false →
      ∃ t, exec .supclkReturn s = .next t ∧ t.clk = { s.clk with supclk := true } ∧
        (t.tally.queue.head?.map fun o => (o.code, o.args)) = some (0x0006, [s.clk.frame / 2 ^ 32, s.clk.frame % 2 ^ 32]) ∧
        t.tally.gap = none ∧ (∀ z, z < 7 → (getZone t z).unrecorded = none) ∧
        t = { s with clk := t.clk, tally := t.tally, therm := t.therm }))

/-- DIE_LINK_ALIGNMENT_LOSS, DIE_LINK_ERROR_FREE_EXPIRY: a failed link mutes its rod, whose TXEN lines drop at once;
10 ms without error release that mute and no other. -/
def Obligations.DieLinks : Prop :=
  ∀ (s : State) (r : Nat), s.life.power ≠ .off → r < 6 →
    (∀ lanes, (getRod s r).powered = true → MuteTermInv s →
      ∃ t, exec (.dieLinkAlignmentLoss r lanes) s = .next t ∧ muteAt t (.dieLink r) (.rod r) ∧
        (lanes = false → (getRod t r).linkOk = false) ∧ (lanes = true → (getRod t r).lanesOk = false) ∧
        (getRod t r).linkSince = s.time ∧ (∀ r', r' ≠ r → getRod t r' = getRod s r') ∧
        (∀ ch, ch / 16 = r → txen t ch = false) ∧
        t = { s with rods := t.rods, chans := t.chans, buses := t.buses, mutes := t.mutes, out := t.out,
                     cap := t.cap, tally := t.tally, life := t.life }) ∧
    ((getRod s r).linkOk = false ∨ (getRod s r).lanesOk = false → (getRod s r).linkSince + 10 * 32000000 ≤ s.time →
      ∃ t, exec (.dieLinkErrorFreeExpiry r) s = .next t ∧ (getRod t r).linkOk = true ∧ (getRod t r).lanesOk = true ∧
        (∀ m, m ∈ t.mutes ↔ m ∈ s.mutes ∧ m.owner ≠ .dieLink r) ∧ t = { s with rods := t.rods, mutes := t.mutes })

/-- COLLECTOR_CYCLE, CLEAR_MASK: a cycle sets the sticky bits of the active raw lines and clears none; a clear
clears the bits of its mask whose lines are inactive, keeps those whose lines are active, reports these, and answers
0x05 where there is one. A measurement of REFCLK that comes with a cycle is kept, and nothing else of the clocks
changes. Where the spec leaves a reading open the model takes that of log 28. -/
def Obligations.StickyBits : Prop :=
  ∀ s : State, coreClock s = true →
    (∃ t, exec (.collectorCycle {}) s = .next t ∧
      (∀ n, n < 320 → t.flt.sticky.getLsbD n = (s.flt.sticky.getLsbD n || rawLine s n)) ∧ t.flt.refused = s.flt.refused ∧
      OnlySelects s t ∧ t.nv = s.nv ∧ t.commit = s.commit ∧ t.olp = s.olp) ∧
    (∀ v, ∃ t, exec (.collectorCycle { refOffset := some v }) s = .next t ∧ t.clk = { s.clk with refRaw := v }) ∧
    (∀ m mask, mayWrite s m = true → (∀ n, reservedSrc n = true → mask.getLsbD n = false) →
      ∃ t, exec (.clearMask m mask) s = .next t ∧
        (∀ n, n < 320 → t.flt.sticky.getLsbD n = ((s.flt.sticky.getLsbD n || rawLine s n) && !(mask.getLsbD n && !rawLine s n))) ∧
        (∀ n, n < 320 → t.flt.refused.getLsbD n = (mask.getLsbD n && rawLine s n)) ∧
        answered t m 0x1602 1 (if t.flt.refused = 0 then 0 else 0x05) ∧
        OnlySelects s t ∧ t.nv = s.nv ∧ OnlyNotes s t)

/-- Sources 300–319 are reserved: their raw lines are inactive in every state, no step sets their sticky bits, and a
clear mask that addresses them does what the mask without them does. -/
def Obligations.ReservedSources : Prop :=
  (∀ (s : State) n, 300 ≤ n → n < 320 → rawLine s n = false) ∧
  (∀ s t : State, step s = .next t → (∀ n, 300 ≤ n → n < 320 → s.flt.sticky.getLsbD n = false) →
    ∀ n, 300 ≤ n → n < 320 → t.flt.sticky.getLsbD n = false) ∧
  (∀ (s : State) m (mask mask' : BitVec 320), (∀ n, n < 300 → mask.getLsbD n = mask'.getLsbD n) → exec (.clearMask m mask) s = exec (.clearMask m mask') s)

/-- FAULT_N_DRIVE, FAULT_N_PULSE_END, REACTION_WRITE, RESTART_WITHHELD_EXPIRY: a held FAULT_N is low; a pulse ends
after 10 µs; a source takes a permitted reaction; a withheld restart is free again at its time. Where the spec
leaves a reading open the model takes that of log 28. -/
def Obligations.FaultControls : Prop :=
  ∀ s : State,
    (∀ m v, mayWrite s m = true → v ≤ 1 →
      ∃ t, exec (.faultNDrive m v) s = .next t ∧ cfgNat t.objs 0x1600 0xA = v ∧ (v = 1 → faultN t = false) ∧
        (v = 0 → s.flt.pulse = false → s.life.noImage = false → faultN t = true) ∧ answered t m 0x1600 0xA 0 ∧
        t = { s with objs := t.objs, commit := t.commit, olp := t.olp, out := t.out } ∧ OnlyNotes s t) ∧
    (s.flt.pulse = true → s.flt.pulseAt + 10 * 32000 ≤ s.time →
      exec .faultNPulseEnd s = .next { s with flt := { s.flt with pulse := false } }) ∧
    (∀ m src v, mayWrite s m = true → src < 300 → v < 256 → (srcRow src).permitted.contains v = true →
      ∃ t, exec (.reactionWrite m src v) s = .next t ∧ reactionOf t src = v ∧ (∀ n, n < 320 → n ≠ src → reactionOf t n = reactionOf s n) ∧
        answered t m (0x1610 + src / 16) (src % 16 + 1) 0 ∧ t = { s with objs := t.objs, commit := t.commit, olp := t.olp, out := t.out } ∧ OnlyNotes s t) ∧
    (∀ src, smGet 0 s.flt.withheld src ≠ 0 → smGet 0 s.flt.withheld src ≤ s.time →
      ∃ t, exec (.restartWithheldExpiry src) s = .next t ∧ smGet 0 t.flt.withheld src = 0 ∧
        (∀ n, n ≠ src → smGet 0 t.flt.withheld n = smGet 0 s.flt.withheld n) ∧
        t = { s with flt := { s.flt with withheld := t.flt.withheld } })

/-! ### Chapter 15: Tally -/

/-- RECORD_FORM: the oldest occurrence takes the next sequence, at its own frame, from its bucket; a persistent one
waits for its write and pulls EVENT_N low; one without a token counts as suppressed. SUMMARY_RECORD, TOKEN_REFILL,
EVENT_N_PULSE_END: the last refused occurrence of a code forms a summary record; a bucket regains one token after
its refill period; EVENT_N rises 2.0 µs after the latest persistent record. Where the spec leaves a reading open the
model takes that of log 27. -/
def Obligations.RecordsAndTokens : Prop :=
  (
  ∀ s : State, ∀ o rest, s.tally.queue = o :: rest → tallyRuns s = true → s.tally.excluded = [] →
    s.tally.slot < 32768 →
    (unlimitedCodes.contains o.code = true ∨ 0 < tokensOf s o.code →
      ∃ t, exec .recordForm s = .next t ∧ t.tally.queue = rest ∧ t.tally.next = (s.tally.next + 1) % 2 ^ 48 ∧
        let r := smGet {} t.tally.ring s.tally.slot
        r.seq = s.tally.next ∧ r.code = o.code ∧ r.source = o.source ∧ r.frame = o.frame ∧
        r.args = o.args.take 4 ∧ r.pcc = s.tally.pcc ∧ r.suppressed = (getCode s o.code).pending ∧
        (getCode t o.code).pending = 0 ∧ t.tally.slot = (s.tally.slot + 1) % 32768 ∧
        (persistentCodes.contains o.code = true → t.tally.toWrite = s.tally.toWrite ++ [r] ∧ t.tally.event = true ∧ t.tally.eventAt = s.time) ∧
        t = { s with tally := t.tally, flt := t.flt }) ∧
    (unlimitedCodes.contains o.code = false → tokensOf s o.code = 0 →
      ∃ t, exec .recordForm s = .next t ∧ t.tally.queue = rest ∧ t.tally.next = s.tally.next ∧
        t.tally.suppressed = inc32 s.tally.suppressed ∧ (getCode t o.code).pending = min 65535 ((getCode s o.code).pending + 1) ∧
        t = { s with tally := t.tally })) ∧
  (
  ∀ (s : State) (code : Nat),
    (∀ o, (getCode s code).last = some o → o.code = code → tallyRuns s = true → (getCode s code).pending ≠ 0 → s.tally.excluded = [] →
      s.tally.slot < 32768 → (unlimitedCodes.contains code = true ∨ 0 < tokensOf s code) → (getCode s code).lastAt + 1000 * 32000000 ≤ s.time →
      ∃ t, exec (.summaryRecord code) s = .next t ∧ t.tally.next = (s.tally.next + 1) % 2 ^ 48 ∧
        t.tally.summaries = inc32 s.tally.summaries ∧ (getCode t code).last = none ∧ (getCode t code).pending = 0 ∧
        (smGet {} t.tally.ring s.tally.slot).summary = true ∧ (smGet {} t.tally.ring s.tally.slot).suppressed = (getCode s code).pending ∧
        t = { s with tally := t.tally, flt := t.flt }) ∧
    (tokensOf s code < burstOf s code → (getCode s code).refillAt + refillOf s code * 32000000 ≤ s.time →
      ∃ t, exec (.tokenRefill code) s = .next t ∧ tokensOf t code = tokensOf s code + 1 ∧ (getCode t code).refillAt = (getCode s code).refillAt + refillOf s code * 32000000 ∧
        (∀ c, c ≠ code → getCode t c = getCode s c) ∧ t = { s with tally := { s.tally with codes := t.tally.codes } }) ∧
    (s.tally.event = true → s.tally.eventAt + 2 * 32000 ≤ s.time →
      exec .eventNPulseEnd s = .next { s with tally := { s.tally with event := false } }))

/-- PERSISTENT_WRITE, OPERATING_TIME_SAVE: the oldest waiting record joins the log, or is counted as withheld past
64 writes in a second, or as a failure that forms code 0x0004; the operating time is saved with the power-cycle
counter, as the newest of the saved pairs, at each multiple of a minute and not twice. RING_SCAN, WALL_TIME_SET,
LAST_RESORT_CLEAR, SNAPSHOT_ENTRY_WRITE, TALLY_WINDOW_READ: a page with a parity failure is excluded and its records
are lost; the wall time is set and recorded; the last-resort slots are emptied; a snapshot list takes a removed
entry; a read of the last-resort store's records answers their words. Where the spec leaves a reading open the model
takes that of log 27. -/
def Obligations.PersistentTierAndControls : Prop :=
  (
  ∀ s : State, tallyRuns s = true →
    (∀ r rest, s.tally.toWrite = r :: rest →
      let recent := s.tally.writes.filter fun t => decide (s.time < t + 1000 * 32000000)
      (recent.length < 64 → ∃ t, exec (.persistentWrite true) s = .next t ∧ t.nv.log = logAppend s.nv.log r ∧
        t.tally.toWrite = rest ∧ t.tally.written = inc32 s.tally.written ∧ t = { s with tally := t.tally, nv := { s.nv with log := t.nv.log } }) ∧
      (64 ≤ recent.length → ∃ t, exec (.persistentWrite true) s = .next t ∧ t.tally.toWrite = rest ∧
        t.tally.withheld = inc32 s.tally.withheld ∧ t = { s with tally := t.tally }) ∧
      (recent.length < 64 → ∃ t, exec (.persistentWrite false) s = .next t ∧ t.tally.toWrite = rest ∧
        t.tally.failures = inc32 s.tally.failures ∧
        t.tally.queue.getLast?.map (fun o => o.code) = some 0x0004 ∧
        t = { s with tally := t.tally, flt := t.flt })) ∧
    (savedTime s < opMs s / 60000 * 60000 →
      ∃ t, exec .operatingTimeSave s = .next t ∧ t.nv.counters = saveCounters s.nv.counters (s.tally.pcc, opMs s / 60000 * 60000) ∧
        t.nv.counters.head? = some (s.tally.pcc, opMs s / 60000 * 60000) ∧ savedTime t = opMs s / 60000 * 60000 ∧
        (s.nv.counters.length ≤ 4096 → t.nv.counters.length ≤ 4096) ∧ t = { s with nv := { s.nv with counters := t.nv.counters } }) ∧
    (opMs s / 60000 * 60000 ≤ savedTime s → exec .operatingTimeSave s = .next s)) ∧
  (
  ∀ s : State,
    (tallyRuns s = true → s.tally.scan < 1024 → s.tally.excluded.contains s.tally.scan = false →
      (∃ t, exec (.ringScan false) s = .next t ∧ t = { s with tally := { s.tally with scan := (s.tally.scan + 1) % 1024 } }) ∧
      (∃ t, exec (.ringScan true) s = .next t ∧ t.tally.excluded.contains s.tally.scan = true ∧
        (∀ e, e ∈ t.tally.ring ↔ e ∈ s.tally.ring ∧ e.1 / 32 ≠ s.tally.scan) ∧ smGet 0 t.flt.parity 8 = inc32 (smGet 0 s.flt.parity 8) ∧
        t = { s with tally := t.tally, flt := t.flt, free := t.free })) ∧
    (∀ m v, mayWrite s m = true → v < 2 ^ 64 → v % 2 ^ 32 ≤ 999999999 → s.clk.supclk = true → s.tally.restarting = false →
      ∃ t, exec (.wallTimeSet m v) s = .next t ∧ t.tally.wallSet = true ∧ wallWord t = v ∧
        (t.tally.queue.getLast?.map fun o => (o.code, o.source, o.args)) =
          some (0x0002, 11 * 4096 + m, [wallWord s / 2 ^ 32, wallWord s % 2 ^ 32, v / 2 ^ 32, v % 2 ^ 32]) ∧
        answered t m 0x1700 3 0 ∧ t = { s with tally := t.tally, commit := t.commit, olp := t.olp, out := t.out } ∧ OnlyNotes s t) ∧
    (∀ m, mayWrite s m = true →
      ∃ t, exec (.lastResortClear m 1) s = .next t ∧ t.tally = { s.tally with lastResort := [] } ∧ answered t m 0x1700 0xC 0 ∧
        t = { s with tally := t.tally, commit := t.commit, olp := t.olp, out := t.out } ∧ OnlyNotes s t) ∧
    (∀ m entry, mayWrite s m = true → 1 ≤ entry → entry ≤ 16 → cfgNat s.objs 0x1710 0 ≠ 0x0100 →
      ∃ t, exec (.snapshotEntryWrite m entry 0) s = .next t ∧
        (∃ l, (getCode t (cfgNat s.objs 0x1710 0)).list = some l ∧ l.length = 16 ∧ l.getD (entry - 1) 1 = 0) ∧
        answered t m 0x1711 entry 0 ∧ t = { s with tally := t.tally, commit := t.commit, olp := t.olp, out := t.out } ∧ OnlyNotes s t) ∧
    (∀ m, mayWrite s m = true → windowFree s m 2 = true → (getWindow s 2).sel = 2 → (getWindow s 2).cursor = 0 →
      (getWindow s 2).offset = 0 → ∀ r, s.tally.lastResort.head? = some r →
      ∃ t, exec (.tallyWindowRead m 32 none) s = .next t ∧ readBack t m 0x6300 3 (bytesOfWords (recordWords r)) ∧
        (getWindow t 2).cursor = 1 ∧ t = { s with windows := t.windows, commit := t.commit, out := t.out }))

/-! ### Chapters 17 and 18: power states, images, the supervisor, reset and boot, restarts -/

/-- REQUEST_HOLD, REQUEST_SERVE, REQUEST_QUIET: a request that nothing refuses changes the power state, notes the
state left and the frame of the entry at the next block boundary, and clears the reason; one that is refused changes
nothing but its reason, which is the first of 5, 4, 3, 1, 2 that applies. QUIET brings its device-scope mute, HOLD
and SERVE end it. SERVE is refused for reason 5 while the lifecycle's fuses differ from the lifecycle in force,
reason 4 while boundary scan is enabled, reason 3 from SAFE while a calibration of R399 is owed, reason 1 without
the parts of R26, and reason 2 while a device-scope source of R27 is sticky, the first of these that holds. Where
the spec leaves a reading open the model takes that of log 26. -/
def Obligations.PowerRequests : Prop :=
  (
  ∀ (s : State) (m : Nat), mayWrite s m = true →
    let granted (c : Instr) (p : Power) := refusalReason s p = 0 → s.life.power ≠ p →
      ∃ t, exec c s = .next t ∧ t.life.power = p ∧ t.life.prev = s.life.power ∧ t.life.entryFrame = s.clk.frame + 1 ∧
        t.life.refusal = 0 ∧ hasMute t .power = (p == .quiet) ∧ answered t m 0x1200 1 0 ∧ t.objs = cfgSet s.objs (key 0x1200 1) (if p = .serve then 2 else if p = .quiet then 3 else 1) ∧ OnlyNotes s t ∧
        t = { s with objs := t.objs, commit := t.commit, olp := t.olp, chans := t.chans, buses := t.buses, mutes := t.mutes,
                     cap := t.cap, tally := t.tally, life := t.life, out := t.out }
    let denied (c : Instr) (p : Power) := refusalReason s p ≠ 0 → s.life.power ≠ p →
      ∃ t, exec c s = .next t ∧ t.life = { s.life with refusal := refusalReason s p } ∧ answered t m 0x1200 1 0x05 ∧ OnlyNotes s t ∧
        t = { s with commit := t.commit, olp := t.olp, life := t.life, out := t.out }
    granted (.requestHold m) .hold ∧ granted (.requestServe m) .serve ∧ granted (.requestQuiet m) .quiet ∧
    denied (.requestHold m) .hold ∧ denied (.requestServe m) .serve ∧ denied (.requestQuiet m) .quiet) ∧
  (
  ∀ s : State, s.nv.lifecycle ≠ 3 →
    (s.nv.burned ≠ s.nv.lifecycle → refusalReason s .serve = 5) ∧
    (s.nv.burned = s.nv.lifecycle → s.life.scan = true → refusalReason s .serve = 4) ∧
    (s.nv.burned = s.nv.lifecycle → s.life.scan = false →
      (s.life.power = .safe → (∃ r, r < 6 ∧ (getRod s r).powered = true ∧ (getRod s r).calPending = true) → refusalReason s .serve = 3) ∧
      ((s.life.power ≠ .safe ∨ ∀ r, r < 6 → (getRod s r).powered = false ∨ (getRod s r).calPending = false) →
        (partsPresent s = false → refusalReason s .serve = 1) ∧
        (partsPresent s = true → (∃ n, n ∈ [268, 269, 270, 271, 273, 274, 276, 277, 278, 279, 284, 292, 295] ∧ s.flt.sticky.getLsbD n = true) →
          refusalReason s .serve = 2) ∧
        (partsPresent s = true → (∀ n, n ∈ [268, 269, 270, 271, 273, 274, 276, 277, 278, 279, 284, 292, 295] → s.flt.sticky.getLsbD n = false) →
          refusalReason s .serve = 0))))

/-- LOCKSTEP_MISMATCH, SUPERVISOR_WATCHDOG_MISS, SUPERVISOR_MEMORY_PARITY, TRIAL_LIMIT_EXPIRY: the supervisor stops
and autonomy begins under the stop's cause; staging, lock, claims and subscriptions are lost; the datapath goes on.
A trial whose limit passes is reverted under cause 2, be the supervisor absent already. SUPERVISOR_START,
AUTONOMY_LIMIT_EXPIRY, AUTONOMY_WATCHDOG_RESET: a restarted supervisor ends autonomy and is counted; the limit takes
SERVE to QUIET; 600 s beyond it the frame die resets with cause 2 and boots. Where the spec leaves a reading open
the model takes that of log 29. -/
def Obligations.SupervisorStopsAndAutonomy : Prop :=
  (
  ∀ s : State, s.life.power ≠ .off →
    (s.life.sup = true →
      let stopped (c : Instr) (cause : Nat) :=
        ∃ t, exec c s = .next t ∧ t.life.sup = false ∧ t.life.autonomy = true ∧ t.life.autoSince = s.time ∧
          t.life.autoCause = cause ∧ t.life.lastCause = cause ∧ t.life.autoEntries = inc32 s.life.autoEntries ∧
          t.commit.staged = [] ∧ t.commit.lock = none ∧ t.olp.subs = [] ∧ t.olp.sessions = s.olp.sessions ∧
          (∀ w, (getWindow t w).claim = none) ∧
          t = { s with life := t.life, nv := t.nv, commit := t.commit, windows := t.windows, olp := t.olp, flt := t.flt,
                       govSnap := t.govSnap, tally := t.tally, free := t.free }
      (trialRuns s = false → stopped .lockstepMismatch 3 ∧ stopped .supervisorMemoryParity 4 ∧ stopped .supervisorWatchdogMiss 5) ∧
      (trialRuns s = true → stopped .lockstepMismatch 2 ∧ stopped .supervisorMemoryParity 2 ∧ stopped .supervisorWatchdogMiss 2 ∧
        (s.life.trialSince + 1000 * cfgNat s.objs 0x1210 8 * 32000000 ≤ s.time → stopped .trialLimitExpiry 2))) ∧
    (trialRuns s = true → s.life.trialSince + 1000 * cfgNat s.objs 0x1210 8 * 32000000 ≤ s.time →
      ∃ t, exec .trialLimitExpiry s = .next t ∧ t.nv.trial = none ∧ t.life.trialSt = 2 ∧ t.life.startSlot = s.nv.bootSlot ∧
        t.life.autoCause = 2 ∧ t.life.lastCause = 2 ∧ t.life.sup = false)) ∧
  (
  ∀ s : State, s.life.autonomy = true → s.life.power ≠ .off →
    (s.life.sup = false → s.clk.supclk = true → s.life.held = false → s.life.autoCause ≠ 1 →
      ∃ t, exec .supervisorStart s = .next t ∧ t.life.sup = true ∧ t.life.autonomy = false ∧ t.life.limitPassed = false ∧
        t.life.starts = (s.life.starts + 1) % 2 ^ 32 ∧ t.life.restarts = inc32 s.life.restarts ∧ t.life.running = s.life.startSlot ∧
        t.commit = { s.commit with st := 0, count := 0 } ∧ t = { s with life := t.life, commit := t.commit, tally := t.tally }) ∧
    (s.life.limitPassed = false → s.life.autoSince + 1000 * cfgNat s.objs 0x1220 1 * 32000000 ≤ s.time →
      ∃ t, exec .autonomyLimitExpiry s = .next t ∧ t.life.limitPassed = true ∧
        t.life.power = (if s.life.power = .serve then .quiet else s.life.power) ∧
        (s.life.power = .serve → muteAt t .power .device) ∧ rawLine t 271 = true ∧
        t = { s with chans := t.chans, buses := t.buses, mutes := t.mutes, cap := t.cap, tally := t.tally, life := t.life, out := t.out }) ∧
    (s.life.limitPassed = true → cfgBool s.objs 0x1220 3 = true → s.clk.supclk = true →
      s.life.autoSince + (1000 * cfgNat s.objs 0x1220 1 + 600000) * 32000000 ≤ s.time →
      ∃ t, exec .autonomyWatchdogReset s = .next t ∧ t.life.power = .boot ∧ t.life.resetCause = 2 ∧ t.life.autonomy = false ∧
        t.life.booting = true ∧ t.clk.frame = 0 ∧ t.objs = [] ∧ t.commit = {} ∧ t.olp = {} ∧ t.slots = [] ∧ t.rods = [] ∧ t.gains = [] ∧
        t.gov = State.reset.gov ∧ t.prot = State.reset.prot ∧ t.links = State.reset.links ∧ t.windows = [] ∧
        t.flt = { lines := s.flt.lines.filter fun e => e.1 == 275 } ∧ t.nv.lifecycle = s.nv.burned ∧ t.pending = s.pending))

/-- IMAGE_SEAL, IMAGE_PROGRAMMING_COMPLETE: a whole, signed image written in one transfer from its start is taken
for programming and its slot is invalid until the programming ends; then the slot holds it. One that fails is
refused with 0x05 and load state 4. ACTIVATE, CONFIRM, SUPERVISOR_RESTART: an activation of the loaded slot and a
restart request await their boundary; a confirmed trial makes its slot the boot slot and raises the security
version, never lowers it. Where the spec leaves a reading open the model takes that of log 29. -/
def Obligations.ImagesAndActivation : Prop :=
  (
  ∀ s : State,
    (∀ m crc, let x := getWindow s 4
      mayWrite s m = true → windowFree s m 4 = true → x.sel ≤ 1 → s.life.running ≠ x.sel → crcOut x.crc = crc →
      (imageSealable s x = true →
        ∃ t, exec (.imageSeal m crc false) s = .next t ∧ answered t m 0x6500 4 0 ∧ t.life = { s.life with load := 2 } ∧
          slotImage t x.sel = [] ∧ slotImage t (1 - x.sel) = slotImage s (1 - x.sel) ∧ (getWindow t 4).st = 2 ∧
          t = { s with life := t.life, nv := t.nv, windows := t.windows, commit := t.commit, free := t.free, olp := t.olp, out := t.out } ∧ OnlyNotes s t) ∧
      (imageSealable s x = false →
        ∃ t, exec (.imageSeal m crc false) s = .next t ∧ answered t m 0x6500 4 0x05 ∧ t.life = { s.life with load := 4 } ∧
          eventActive t 272 = true ∧ OnlyNotes s t ∧
          t = { s with life := t.life, windows := t.windows, flt := t.flt, commit := t.commit, free := t.free, olp := t.olp, out := t.out })) ∧
    (s.life.load = 2 → s.life.loadSlot ≤ 1 → s.life.power ≠ .off →
      ∃ t, exec .imageProgrammingComplete s = .next t ∧ t.life = { s.life with load := 3 } ∧
        slotImage t s.life.loadSlot = (List.range (smGet 0 s.life.image 3).toNat).map (smGet 0 s.life.image) ∧
        slotImage t (1 - s.life.loadSlot) = slotImage s (1 - s.life.loadSlot) ∧ t = { s with life := t.life, nv := t.nv })) ∧
  (
  ∀ (s : State) (m : Nat), mayWrite s m = true →
    (∀ v, v ≤ 1 → s.commit.st ≠ 1 → s.commit.held = false → s.life.load = 3 → s.life.loadSlot = v → s.life.running ≠ v →
      ∃ t, exec (.activate m v) s = .next t ∧ t.life = { s.life with activateDue := some v } ∧ answered t m 0x1210 6 0 ∧
        t = { s with life := t.life, commit := t.commit, olp := t.olp, out := t.out } ∧ OnlyNotes s t) ∧
    (trialRuns s = true →
      ∃ t, exec (.confirm m 1) s = .next t ∧ t.nv.bootSlot = s.life.running ∧ t.nv.trial = none ∧ t.life = { s.life with trialSt := 0 } ∧
        t.nv.secVersion = max s.nv.secVersion (imageSecurity (slotImage s s.life.running)) ∧ answered t m 0x1210 7 0 ∧
        t = { s with life := t.life, nv := t.nv, commit := t.commit, olp := t.olp, out := t.out } ∧ OnlyNotes s t) ∧
    (trialRuns s = false → ∃ t, exec (.confirm m 1) s = .next t ∧ answered t m 0x1210 7 0x05 ∧
      t = { s with commit := t.commit, olp := t.olp, out := t.out } ∧ OnlyNotes s t) ∧
    (∃ t, exec (.supervisorRestart m 1) s = .next t ∧ t.life = { s.life with restartDue := true } ∧ answered t m 0x1220 7 0 ∧
      t = { s with life := t.life, commit := t.commit, olp := t.olp, out := t.out } ∧ OnlyNotes s t))

/-- RESET_N_ASSERT, SUPPLY_MONITOR_RESET, RESET_N_RELEASE, BOOT_COMPLETE: a reset of the frame die keeps fuses,
flash, keys, the oscillators, the input pins, the comparators' trips, source 275's line and what the memory showed
of its size, and returns everything else to reset, its output balls as Table 19.10 has them. Its release begins the
boot in BOOT, with the lifecycle that the fuses hold: Tally restores and saves its counters and forms 0x0001 and the
change to BOOT, the pages that fail their test are excluded, and the image that the loader chooses starts. The end
of the boot enters HOLD, SAFE where a cause is held, or SHUTDOWN where the frame die reads above its release level.
Where the spec leaves a reading open the model takes that of log 29. -/
def Obligations.ResetAndBoot : Prop :=
  ∀ s : State,
    let asReset (t : State) (pins : Pins) (cause : Nat) : Prop :=
      t = { State.reset with
        time := s.time, out := s.out, free := s.free, pending := s.pending, pins, nv := s.nv,
        clk := { refclk := s.clk.refclk, supclk := s.clk.supclk, core := s.clk.refclk },
        flt := { lines := s.flt.lines.filter fun e => e.1 == 275 },
        cap := { fitted := s.cap.fitted, ranks := s.cap.ranks, ddrFailed := s.cap.ddrFailed },
        therm := t.therm, life := { power := .off, prev := .off, resetCause := cause } } ∧
      t.therm = { zones := t.therm.zones } ∧
      ((s.therm.zones.map (·.1)).Nodup → ∀ z, getZone t z = { tripped := (getZone s z).tripped })
    (∀ lowNs, 1000 ≤ lowNs →
      ∃ t, exec (.resetNAssert lowNs) s = .next t ∧ asReset t { s.pins with resetN := false, syncOut := false } 1 ∧
        (∀ ch, txenBall t ch = .low) ∧ (s.pins.supplies = true → frameSyncOutBall t = .low ∧ rffeBall t = .low ∧ monTxBall t = .high) ∧
        faultNBall t = .released ∧ eventNBall t = .released ∧ thermTripNBall t = .released ∧ qspiDriven t = false) ∧
    (∀ lowNs, lowNs < 200 → exec (.resetNAssert lowNs) s = .next s) ∧
    (∃ t, exec .supplyMonitorReset s = .next t ∧ asReset t { s.pins with supplies := false, syncOut := false } 0 ∧
      (∀ ch, txenBall t ch = .low) ∧ frameSyncOutBall t = .highZ ∧ faultNBall t = .released ∧ thermTripNBall t = .released) ∧
    (∀ flash, s.life.power = .off →
      let pcc := min 16777215 ((restoredCounters s flash).1 + 1)
      ∃ t, exec (.resetNRelease flash) s = .next t ∧ t.life.power = .boot ∧ t.life.booting = true ∧ t.nv.lifecycle = s.nv.burned ∧
        t.pins = { s.pins with resetN := true, supplies := true } ∧ (bootChoice s = none → t.life.noImage = true ∧ t.life.sup = s.life.sup) ∧
        (∀ slot, bootChoice s = some slot → t.life.sup = true ∧ t.life.running = slot ∧ t.life.starts = (s.life.starts + 1) % 2 ^ 32) ∧
        t.tally.pcc = pcc ∧ t.tally.opBase = (restoredCounters s flash).2.1 ∧ (∀ p, p ∈ t.tally.excluded ↔ p ∈ flash.badPages) ∧
        t.nv.counters = (if flash.answers then saveCounters s.nv.counters (pcc, t.tally.opBase) else s.nv.counters) ∧
        (s.clk.supclk = true → s.tally.restarting = false → (t.tally.queue.take 2).map (fun o => o.code) = [0x0001, 0x0C00]) ∧
        t = { s with life := t.life, nv := t.nv, pins := t.pins, tally := t.tally, lic := t.lic, sent := t.sent, mutes := t.mutes,
                     chans := t.chans, buses := t.buses, cap := t.cap, out := t.out, free := t.free }) ∧
    (s.life.power = .boot → s.life.booting = true → s.life.sup = true → coreRuns s = true → zoneRead s 0 = true →
      (∀ r, r < 6 → (getRod s r).powered = false ∨ (getRod s r).cal ≠ 1) → (getZone s 0).shut = false →
      ((getZone s 0).temp ≤ releaseLevel s.objs 0 →
        ∃ t, exec .bootComplete s = .next t ∧ t.life.booting = false ∧
          (s.life.heldSafe = none → t.life.power = .hold ∧ t.life.prev = .boot) ∧
          (∀ c, s.life.heldSafe = some c → t.life.power = .safe ∧ t.life.safeCause = c ∧ muteAt t .power .device)) ∧
      (releaseLevel s.objs 0 < (getZone s 0).temp →
        ∃ t, exec .bootComplete s = .next t ∧ t.life.booting = false ∧ t.life.power = .shutdown ∧ muteAt t .power .device))

/-- ROD_RESTART, ROD_RESTART_COMPLETE, ROD_CALIBRATION_REQUEST and ROD_CALIBRATION_COMPLETE: a restarting rod is
muted and calibrates, its counters start again and its die-to-die queues are to be flushed; with its calibration
ended, its PLL, link and synthesisers locked and its channels risen it has its synchronising reset and returns, its
restart mute ending at the next block boundary; a passed calibration ends the calibration mute and unlocks the
Sentinel's gates, a failed one leaves it. DN_PORT_RESTART, XL_LANE_RESTART, CAPTURE_CONTROLLER_RESTART,
TALLY_RESTART, CELL_FINDER_RESTART and BLOCK_RESTART_COMPLETE: a block that runs begins to restart, is counted and
answered 0x00; one that restarts is answered 0x0C; at its end it runs again. Where the spec leaves a reading open
the model takes that of log 28. -/
def Obligations.RestartsOfRodsAndBlocks : Prop :=
  (
  ∀ (s : State) (r : Nat), r < 6 →
    (∀ m, mayWrite s m = true → (getRod s r).powered = true → (getRod s r).restarting = false → MuteTermInv s →
      ∃ t, exec (.rodRestart m r) s = .next t ∧ (getRod t r).restarting = true ∧ (getRod t r).cal = 1 ∧ (getRod t r).recals = 0 ∧
        muteAt t (.rodRestart r) (.rod r) ∧ muteAt t (.rodCal r) (.rod r) ∧ t.life.restarts = inc32 s.life.restarts ∧
        (∀ ch, ch / 16 = r → txen t ch = false ∧ (getChan t ch).adcOver = 0 ∧ (getChan t ch).nines.recomputed = 0 ∧
          (getChan t ch).notchRe = 0 ∧ (getChan t ch).notchIm = 0) ∧
        flushPending t 0 r = true ∧ flushPending t 1 r = true ∧ t.links = { s.links with flushing := t.links.flushing } ∧
        (∀ r', r' ≠ r → getRod t r' = getRod s r') ∧ answered t m 0x1240 1 0 ∧ OnlySelects s t ∧ OnlyNotes s t ∧
        t = { s with objs := t.objs, slots := t.slots, chans := t.chans, rods := t.rods, buses := t.buses, mutes := t.mutes, links := t.links,
                     prot := t.prot, cap := t.cap, tally := t.tally, life := t.life, commit := t.commit, olp := t.olp, out := t.out }) ∧
    (∀ m ch, ch < 96 → ch / 16 = r → mayWrite s m = true → (s.life.power = .hold ∨ s.life.power = .quiet) →
      (getRod s r).powered = true → (getRod s r).cal ≠ 1 → (getRod s r).restarting = false →
      ∃ t, exec (.rodCalibrationRequest m ch) s = .next t ∧ (getRod t r).cal = 1 ∧ muteAt t (.rodCal r) (.rod r) ∧
        (∀ r', r' ≠ r → getRod t r' = getRod s r') ∧ answered t m (0x2000 + 16 * ch + 8) 1 0 ∧ OnlyNotes s t ∧
        t = { s with chans := t.chans, rods := t.rods, buses := t.buses, mutes := t.mutes, commit := t.commit, olp := t.olp, out := t.out }) ∧
    ((getRod s r).restarting = true →
      (rodReady s r = false → exec (.rodRestartComplete r) s = .next s) ∧
      ((getRod s r).cal = 1 ∨ (getRod s r).linkOk = false ∨ (getRod s r).pll = false ∨ coreRuns s = false ∨
        (∃ ch, ch ∈ rodChannels r ∧ (getChan s ch).radio.trans ≠ none) → rodReady s r = false) ∧
      (rodReady s r = true →
        ∃ t, exec (.rodRestartComplete r) s = .next t ∧ (getRod t r).restarting = false ∧ (getRod t r).rejoin = true ∧
          t.mutes = s.mutes ∧ flushPending t 0 r = false ∧ flushPending t 1 r = false ∧
          (∀ ch, ch / 16 = r → (getChan t ch).lastReset = s.clk.frame + 1) ∧
          (∀ r', r' ≠ r → getRod t r' = getRod s r') ∧
          t = { s with slots := t.slots, chans := t.chans, rods := t.rods, olp := t.olp, links := t.links })) ∧
    ((getRod s r).rejoin = true → hasMute (rejoinRods s) (.rodRestart r) = false ∧ (getRod (rejoinRods s) r).rejoin = false ∧
      rejoinRods s = { s with rods := (rejoinRods s).rods, mutes := (rejoinRods s).mutes } ∧
      ∀ m, m ∈ (rejoinRods s).mutes → m ∈ s.mutes) ∧
    ((getRod s r).cal = 1 → (getRod s r).powered = true → coreRuns s = true →
      (∃ t, exec (.rodCalibrationComplete r 0 []) s = .next t ∧ (getRod t r).cal = 2 ∧ (getRod t r).calStep = 0 ∧
        (getRod t r).calPending = false ∧ (getRod t r).refTrim = 0 ∧ hasMute t (.rodCal r) = false ∧
        (∀ ch, ch / 16 = r → (getChan t ch).sent.locked = false ∧ (getChan t ch).cal.frame = s.clk.frame) ∧
        (∀ r', r' ≠ r → getRod t r' = getRod s r') ∧
        t = { s with chans := t.chans, rods := t.rods, buses := t.buses, mutes := t.mutes, nv := t.nv, out := t.out }) ∧
      (∀ step, 1 ≤ step → step ≤ 15 → ∃ t, exec (.rodCalibrationComplete r step []) s = .next t ∧ (getRod t r).cal = 3 ∧
        (getRod t r).calStep = step ∧ hasMute t (.rodCal r) = hasMute s (.rodCal r) ∧ rawLine t (197 + 6 * r) = true ∧
        (∀ r', r' ≠ r → getRod t r' = getRod s r') ∧
        t = { s with chans := t.chans, rods := t.rods, buses := t.buses, mutes := t.mutes, cap := t.cap, tally := t.tally, life := t.life, nv := t.nv, out := t.out }))) ∧
  (
  ∀ s : State,
    (∀ m n, mayWrite s m = true → n < 16 → (getDn s n).restarting = false →
      ∃ t, exec (.dnPortRestart m n) s = .next t ∧ (getDn t n).restarting = true ∧ t.life = { s.life with restarts := inc32 s.life.restarts } ∧ answered t m 0x1240 1 0 ∧
        (∀ k, k ≠ n → getDn t k = getDn s k) ∧ OnlyNotes s t ∧
        t = { s with links := t.links, chans := t.chans, buses := t.buses, mutes := t.mutes, tally := t.tally, life := t.life, commit := t.commit, olp := t.olp, out := t.out }) ∧
    (∀ m n, mayWrite s m = true → n < 16 → (getXl s n).restarting = false →
      ∃ t, exec (.xlLaneRestart m n) s = .next t ∧ (getXl t n).restarting = true ∧ t.life = { s.life with restarts := inc32 s.life.restarts } ∧ answered t m 0x1240 1 0 ∧
        OnlyNotes s t ∧
        t = { s with links := t.links, chans := t.chans, buses := t.buses, mutes := t.mutes, tally := t.tally, life := t.life, commit := t.commit, olp := t.olp, out := t.out }) ∧
    (∀ m, mayWrite s m = true → s.cap.restarting = false →
      ∃ t, exec (.captureControllerRestart m) s = .next t ∧ t.cap.restarting = true ∧ t.cap.st = 3 ∧ (∀ k, getMark t k = { firings := (getMark s k).firings }) ∧
        (∀ i, i < 8 → (smGet {} t.cap.replays i).st ≠ 1) ∧ t.life = { s.life with restarts := inc32 s.life.restarts } ∧ answered t m 0x1240 1 0 ∧ OnlyNotes s t ∧
        t = { s with cap := t.cap, tally := t.tally, life := t.life, commit := t.commit, olp := t.olp, out := t.out }) ∧
    (∀ m, mayWrite s m = true → s.tally.restarting = false →
      ∃ t, exec (.tallyRestart m) s = .next t ∧ t.tally = { s.tally with restarting := true } ∧ t.life.restarts = inc32 s.life.restarts ∧
        answered t m 0x1240 1 0 ∧ t = { s with tally := t.tally, life := t.life, commit := t.commit, olp := t.olp, out := t.out } ∧ OnlyNotes s t) ∧
    (∀ m n, mayWrite s m = true →
      let refused (c : Instr) : Prop := ∃ t, exec c s = .next t ∧ answered t m 0x1240 1 0x0C ∧
        t = { s with commit := t.commit, olp := t.olp, out := t.out } ∧ OnlyNotes s t
      (n < 6 → (getRod s n).restarting = true → refused (.rodRestart m n)) ∧
      (n < 16 → (getDn s n).restarting = true → refused (.dnPortRestart m n)) ∧
      (n < 16 → (getXl s n).restarting = true → refused (.xlLaneRestart m n)) ∧
      (s.cap.restarting = true → refused (.captureControllerRestart m)) ∧
      (s.tally.restarting = true → refused (.tallyRestart m)) ∧
      (n < 6 → (getRod s n).finder = 2 → refused (.cellFinderRestart m n))) ∧
    (∀ m r, mayWrite s m = true → r < 6 → (getRod s r).finder ≠ 2 →
      ∃ t, exec (.cellFinderRestart m r) s = .next t ∧ (getRod t r).finder = 2 ∧ (getRod t r).fallback = true ∧ (getRod t r).visited = [] ∧
        t.life = { s.life with restarts := inc32 s.life.restarts } ∧ answered t m 0x1240 1 0 ∧ (∀ r', r' ≠ r → getRod t r' = getRod s r') ∧ OnlyNotes s t ∧
        t = { s with gains := t.gains, chans := t.chans, rods := t.rods, buses := t.buses, mutes := t.mutes, prot := t.prot, tally := t.tally, life := t.life,
                     commit := t.commit, olp := t.olp, out := t.out }) ∧
    (s.life.power ≠ .off →
      (∀ n, n < 16 → (getDn s n).restarting = true → ∃ t, exec (.blockRestartComplete 2 n) s = .next t ∧ (getDn t n).restarting = false ∧
        (∀ k, k ≠ n → getDn t k = getDn s k) ∧
        t = { s with chans := t.chans, buses := t.buses, mutes := t.mutes, olp := t.olp, links := t.links, tally := t.tally, out := t.out }) ∧
      (∀ n, n < 16 → (getXl s n).restarting = true → ∃ t, exec (.blockRestartComplete 3 n) s = .next t ∧ (getXl t n).restarting = false ∧
        (∀ k, k ≠ n → getXl t k = getXl s k) ∧ t = { s with olp := t.olp, links := t.links, tally := t.tally }) ∧
      (s.cap.restarting = true → ∃ t, exec (.blockRestartComplete 4 0) s = .next t ∧ t.cap.restarting = false ∧ t = { s with cap := t.cap, free := t.free }) ∧
      (s.tally.restarting = true → exec (.blockRestartComplete 5 0) s = .next { s with tally := { s.tally with restarting := false, scan := 0 } }) ∧
      (∀ r, r < 6 → (getRod s r).finder = 2 → ∃ t, exec (.blockRestartComplete 6 r) s = .next t ∧ (getRod t r).finder ≤ 1 ∧
        (getRod t r).visited = [] ∧ (∀ r', r' ≠ r → getRod t r' = getRod s r') ∧ t = { s with rods := t.rods })))

/-! ### Chapter 10: radio control, RFFE, mismatch and tuner -/

/-- RADIO_TRANSITION_END, CLASS_1_SEQUENCE_ISSUE, TX_COMMAND_REJECT: a transition that runs ends in its state once
its synthesisers are locked, and not before it has started nor, where it leads up, before they are; one known in
advance whose start has come with class 1 transactions still to complete waits for them and is counted; the sequence
of a coming event is issued ahead once, its transactions put on the channel's bus, and noted; a held command past
its wait is rejected and counted, and the front-end source's event is active. TDD_TX_WINDOW_START,
TDD_TX_WINDOW_END: a window that this frame meets opens for a channel under TDD control in a locked or held group,
with its transition planned 1.0 µs ahead of it; it ends when no window runs, the transition out planned for the
window's end, and one whose command is still held then is skipped and counted. Where the spec leaves a reading open
the model takes that of log 43. -/
def Obligations.RadioTransitionsAndWindows : Prop :=
  (
  ∀ (s : State) (ch : Nat),
    ((getChan s ch).radio.known = false ∨ class1Pending s ch = false →
      (∀ goal, (getChan s ch).radio.trans = some goal → inTransition s ch = true → goal.rank < 2 ∨ bothLocked s ch = true →
        ∃ t, exec (.radioTransitionEnd ch) s = .next t ∧ (getChan t ch).radio.st = goal ∧
          (∀ c, c ≠ ch → (getChan t c).radio.st = (getChan s c).radio.st) ∧
          t = { s with chans := t.chans, rods := t.rods, buses := t.buses, out := t.out }) ∧
      (∀ goal, (getChan s ch).radio.trans = some goal → 2 ≤ goal.rank → (getChan s ch).radio.st.rank < goal.rank → bothLocked s ch = false →
        exec (.radioTransitionEnd ch) s = .next s)) ∧
    ((getChan s ch).radio.known = true → class1Pending s ch = true → inTransition s ch = true →
      ∃ t, exec (.radioTransitionEnd ch) s = .next t ∧ (getChan t ch).radio = { (getChan s ch).radio with go := none } ∧
        getBus t (ch / 4) = { getBus s (ch / 4) with late := inc32 (getBus s (ch / 4)).late } ∧ (∀ c, c ≠ ch → getChan t c = getChan s c) ∧
        t = { s with chans := t.chans, buses := t.buses }) ∧
    (inTransition s ch = false → exec (.radioTransitionEnd ch) s = .next s) ∧
    (∀ event, event ∈ comingEvents s ch → event ∉ (getChan s ch).radio.issued →
      ∃ t, exec (.class1SequenceIssue ch event) s = .next t ∧
        (getChan t ch).radio = { (getChan s ch).radio with issued := insertNat event (getChan s ch).radio.issued } ∧
        BusTakes s t (ch / 4) (sequenceTxns s.objs ch event 1) [] ∧
        (∀ c, c ≠ ch → getChan t c = getChan s c) ∧ t = { s with chans := t.chans, buses := t.buses, out := t.out }) ∧
    (∀ since, (getChan s ch).radio.held = some since → txSynthLocked s ch = false →
      since + cfgNat s.objs (radIdx ch 0) 3 * 32000 ≤ s.time →
      ∃ t, exec (.txCommandReject ch) s = .next t ∧ (getChan t ch).radio.held = none ∧ (getChan t ch).radio.lastCmd = 3 ∧ (getChan t ch).radio.rejected = true ∧
        (getChan t ch).radio.rejections = inc32 (getChan s ch).radio.rejections ∧ eventActive t (2 * ch) = true ∧
        (∀ c, c ≠ ch → getChan t c = getChan s c) ∧ t = { s with chans := t.chans, flt := t.flt, tally := t.tally })) ∧
  (
  ∀ (s : State) (ch : Nat),
    (∀ d, coreRuns s = true → reqState s.objs ch = 6 → groupTimed s ch = true → (getChan s ch).radio.inWindow = false →
      windowStart s ch = some d →
      ∃ t, exec (.tddTxWindowStart ch) s = .next t ∧ (getChan t ch).radio.inWindow = true ∧ (getChan t ch).radio.rejected = false ∧
        ((getChan s ch).radio.trans = none → (getChan t ch).radio.plan = s.time + d) ∧
        (∀ c, c ≠ ch → getChan t c = getChan s c) ∧ t = { s with chans := t.chans, buses := t.buses, out := t.out }) ∧
    ((getChan s ch).radio.inWindow = true → reqState s.objs ch ≠ 6 ∨ groupTimed s ch = false ∨ windowRuns s ch = false →
      ∃ t, exec (.tddTxWindowEnd ch) s = .next t ∧ (getChan t ch).radio.inWindow = false ∧
        (∀ since, reqState s.objs ch = 6 → (getChan s ch).radio.held = some since →
          (getChan t ch).radio.rejections = inc32 (getChan s ch).radio.rejections ∧ (getChan t ch).radio.lastCmd = 4) ∧
        ((getChan s ch).radio.held = none → (getChan t ch).radio.rejections = (getChan s ch).radio.rejections) ∧
        ((getChan s ch).radio.trans = none → (getChan t ch).radio.plan =
          if reqState s.objs ch = 6 ∧ groupTimed s ch = true then s.time + windowStop s ch else 0) ∧
        (∀ c, c ≠ ch → getChan t c = getChan s c) ∧ t = { s with chans := t.chans, buses := t.buses, tally := t.tally, out := t.out }))

/-- SYNTH_LOCK, SYNTH_LOCK_LOSS, RELIEF_HANDOVER: a synthesiser locks; one that loses lock drops the transmit enable
of each channel that uses it and is above SYNTH, or on its way there, and raises the front-end sources of them all;
the relief, locked, takes a due synthesiser's channels, which go on toward their targets, and the due one becomes
the relief. -/
def Obligations.Synthesisers : Prop :=
  ∀ (s : State) (r n : Nat), r < 6 → n < 8 →
    ((getRod s r).powered = true → (getSynth s r n).st = 1 ∨ (getSynth s r n).st = 2 ∨ (getSynth s r n).st = 6 →
      ∃ t, exec (.synthLock r n) s = .next t ∧ (getSynth t r n).st = 3 ∧ (getSynth t r n).lo = (getSynth s r n).lo ∧
        (∀ k, k ≠ n → getSynth t r k = getSynth s r k) ∧ (∀ r', r' ≠ r → getRod t r' = getRod s r') ∧
        t = { s with chans := t.chans, rods := t.rods, buses := t.buses, nv := t.nv, out := t.out }) ∧
    (synthLocked s r n = true →
      ∃ t, exec (.synthLockLoss r n) s = .next t ∧ (getSynth t r n).st = 6 ∧
        (∀ ch, ch ∈ synthUsers s r n → eventActive t (2 * ch) = true ∧
          (raised s ch = true → (getChan t ch).radio.txEnable = false ∧ txen t ch = false)) ∧
        (∀ ch, ch ∉ synthUsers s r n → getChan t ch = getChan s ch) ∧
        t = { s with chans := t.chans, rods := t.rods, buses := t.buses, flt := t.flt, out := t.out }) ∧
    (∀ b, (getRod s r).handover = some (n, b) → b ≠ n → (getSynth s r b).st = 3 → (∀ k, k < 8 → k ≠ n → (getSynth s r k).st ≠ 5) →
      coreRuns s = true → (getRod s r).powered = true →
      ∃ t, exec (.reliefHandover r) s = .next t ∧ getSynth t r n = { st := 4 } ∧ (∀ k, k ≠ n → getSynth t r k = getSynth s r k) ∧
        (getRod t r).handover = none ∧ (getRod t r).recals = inc32 (getRod s r).recals ∧
        (∀ ch, ch / 16 = r → (getChan t ch).radio.txSynth = if (getChan s ch).radio.txSynth = some n then some b else (getChan s ch).radio.txSynth) ∧
        (∀ ch, ch / 16 = r → (getChan t ch).radio.rxSynth = if (getChan s ch).radio.rxSynth = some n then some b else (getChan s ch).radio.rxSynth) ∧
        (∀ ch, ch / 16 = r → (getChan s ch).radio.txSynth = some n → (getChan s ch).radio.rxSynth = some n → (getChan s ch).radio.trans = none →
          (getChan s ch).radio.st = .synth → radioTarget s ch = .receive → (getChan t ch).radio.trans = some .receive) ∧
        t = { s with chans := t.chans, rods := t.rods, buses := t.buses, tally := t.tally, out := t.out })

/-- RFFE_TRANSACTION_COMPLETE: the bus counts the transaction and issues the next: a closing event 7 sequence first,
then the lowest class, within it the oldest, and of one instant the lowest channel's; the last write of an event 6
sequence opens the reflected window, and that of a tuner state starts its settle time. -/
def Obligations.RffeBus : Prop :=
  ∀ (s : State) (b : Nat) (u : Txn), (getBus s b).busy = some u → ∀ power : Option Int,
    (u.event ≠ 6 → u.event ≠ 7 →
      (pickTxn (getBus s b).queue = none →
        ∃ t, exec (.rffeTransactionComplete b power) s = .next t ∧ (getBus t b).busy = none ∧
          (getBus t b).count = inc32 (getBus s b).count ∧ (∀ c, c ≠ b → getBus t c = getBus s c) ∧
          (u.event = 8 → u.last = true → (getMis t u.ch).stepAt = some s.time) ∧ (u.event ≠ 8 → u.cls ≠ 1 → t.chans = s.chans) ∧
          (∀ c, c ≠ u.ch → getChan t c = getChan s c) ∧ t = { s with chans := t.chans, buses := t.buses }) ∧
      (∀ v rest, pickTxn (getBus s b).queue = some (v, rest) →
        ∃ t, exec (.rffeTransactionComplete b power) s = .next t ∧ (getBus t b).busy = some v ∧ (getBus t b).queue = rest ∧
          (getBus t b).count = inc32 (getBus s b).count ∧ t.out = s.out ++ [.rffe b v.usid v.cmd v.addr v.data] ∧
          (∀ c, c ≠ b → getBus t c = getBus s c) ∧
          (u.event = 8 → u.last = true → (getMis t u.ch).stepAt = some s.time) ∧ (u.event ≠ 8 → u.cls ≠ 1 → t.chans = s.chans) ∧
          (∀ c, c ≠ u.ch → getChan t c = getChan s c) ∧ t = { s with chans := t.chans, buses := t.buses, out := t.out })) ∧
    (u.event = 6 → u.last = true → (getMis s u.ch).win = 1 →
      ∃ t, exec (.rffeTransactionComplete b power) s = .next t ∧ (getMis t u.ch).win = 2 ∧ (getMis t u.ch).winAt = some s.time ∧
        (∀ c, c ≠ u.ch → getChan t c = getChan s c) ∧ t = { s with chans := t.chans, buses := t.buses, out := t.out }) ∧
    (∀ v rest, pickTxn (getBus s b).queue = some (v, rest) →
      v ∈ (getBus s b).queue ∧ rest = (getBus s b).queue.erase v ∧
      ((∃ x, x ∈ (getBus s b).queue ∧ x.closing = true) → v.closing = true) ∧
      ((∀ x, x ∈ (getBus s b).queue → x.closing = false) → ∀ x, x ∈ (getBus s b).queue → x.cls < 4 →
        v.cls < x.cls ∨ (v.cls = x.cls ∧ (v.at_ < x.at_ ∨ (v.at_ = x.at_ ∧ v.ch ≤ x.ch)))))

/-- MISMATCH_MEASUREMENT, REFLECTED_WINDOW_LENGTH_END, MISMATCH_PROBE: a measurement opens its window where R254
allows one and is counted as skipped where not; the window's length ended, its power referred to the ball stands,
and the window closes with event 7, at once where that has no entry, when a measurement that TXEN stood through
gives its return loss and calls for the state of Table 10.6, entered at the next block boundary: Capped below 6.00
dB with caps 3.00 dB below E, Muted below 3.50 dB under its mute, a probe that reads 4.50 dB Capped and any other
muted again; a probe lowers the tuner cap by 6.00 dB and ends the mismatch mute. Where the spec leaves a reading
open the model takes that of log 21 and 43. -/
def Obligations.MismatchMeasurements : Prop :=
  ∀ (s : State) (ch : Nat),
    (coreRuns s = true →
      (∀ p, measurementDue s ch = true → (getMis s ch).win = 0 → windowAllowed s ch (forwardAtBall s ch p) = true →
        ∃ t, exec (.mismatchMeasurement ch (some p)) s = .next t ∧ (getMis t ch).winPf = forwardAtBall s ch p ∧ (getMis t ch).winOk = true ∧
          (getMis t ch).lastMeas = s.time ∧
          (getMis t ch).win = (if sequenceTxns s.objs ch 6 2 = [] then 2 else 1) ∧ BusTakes s t (ch / 4) (sequenceTxns s.objs ch 6 2) [] ∧
          (∀ c, c ≠ ch → getChan t c = getChan s c) ∧ t = { s with chans := t.chans, buses := t.buses, out := t.out }) ∧
      (measurementDue s ch = true → (getMis s ch).win = 0 →
        ∃ t, exec (.mismatchMeasurement ch none) s = .next t ∧
          getMis t ch = { getMis s ch with
            skipped := inc32 (getMis s ch).skipped, lastMeas := s.time, due := if (getMis s ch).probing then some 3 else (getMis s ch).due } ∧
          (∀ c, c ≠ ch → getChan t c = getChan s c) ∧ t = { s with chans := t.chans }) ∧
      ((getMis s ch).st = 2 → (getMis s ch).probing = false → (getMis s ch).lastProbe + cfgNat s.objs (radIdx ch 5) 7 * 32000000 ≤ s.time →
        ∃ t, exec (.mismatchProbe ch) s = .next t ∧ (getMis t ch).probing = true ∧ (getMis t ch).lastProbe = s.time ∧
          hasMute t (.mismatch ch) = false ∧
          (∀ g, g ∈ chanTx s ch → (getGain t g).tunerKept = some (getGain s g).tunerCap ∧
            ((getGain s g).tunerCap ≠ 32767 → (getGain t g).tunerCap = clip16 ((getGain s g).tunerCap - 600))) ∧
          (∀ g, g ∉ chanTx s ch → getGain t g = getGain s g) ∧ (∀ c, c ≠ ch → getChan t c = getChan s c) ∧
          (cfgBool s.objs (radIdx ch 4) 6 = true → tunerStates s.objs ch ≠ 0 → (getMis t ch).search = true ∧ (getMis t ch).testing = true) ∧
          (cfgBool s.objs (radIdx ch 4) 6 = false → t.buses = s.buses ∧ t.out = s.out) ∧
          t = { s with gains := t.gains, chans := t.chans, buses := t.buses, mutes := t.mutes, out := t.out })) ∧
    (∀ p since, (getMis s ch).winAt = some since → (getMis s ch).win = 2 → since + cfgNat s.objs (radIdx ch 5) 1 * 32000 ≤ s.time →
      (sequenceTxns s.objs ch 7 0 ≠ [] →
        ∃ t, exec (.reflectedWindowLengthEnd ch p) s = .next t ∧ (getMis t ch).win = 3 ∧ (getMis t ch).winPr = reflectedAtBall s ch p ∧
          BusTakes s t (ch / 4) ((sequenceTxns s.objs ch 7 0).map fun x => { x with closing := true }) [] ∧
          (∀ c, c ≠ ch → getChan t c = getChan s c) ∧ t = { s with chans := t.chans, buses := t.buses, out := t.out }) ∧
      (sequenceTxns s.objs ch 7 0 = [] →
        let rl := clip16 ((getMis s ch).winPf - reflectedAtBall s ch p)
        let ok := (getMis s ch).winOk && txen s ch && (getChan s ch).radio.st.transmits && !inTransition s ch
        ∃ t, exec (.reflectedWindowLengthEnd ch p) s = .next t ∧ (getMis t ch).win = 4 ∧ (getMis t ch).winPr = reflectedAtBall s ch p ∧
          (ok = true → (getMis t ch).rl = rl ∧ (getMis t ch).pf = clip16 (getMis s ch).winPf ∧ (getMis t ch).pr = clip16 (reflectedAtBall s ch p) ∧
            ((getMis s ch).st = 0 → (getMis t ch).due = if rl < 350 then some 2 else if rl < 600 then some 1 else (getMis s ch).due) ∧
            ((getMis s ch).st = 1 → rl < 350 → (getMis t ch).due = some 2) ∧
            ((getMis s ch).st = 2 → (getMis s ch).probing = true → (getMis t ch).due = some (if 450 ≤ rl then 1 else 3))) ∧
          (ok = false → (getMis t ch).skipped = inc32 (getMis s ch).skipped ∧ (getMis t ch).rl = (getMis s ch).rl) ∧
          (∀ c, c ≠ ch → getChan t c = getChan s c) ∧
          t = { s with chans := t.chans, buses := t.buses, tally := t.tally, out := t.out })) ∧
    (∀ t, mismatchTurn s ch = t →
      ((getMis s ch).due = some 2 → (getMis t ch).st = 2 ∧ muteAt t (.mismatch ch) (.chan ch) ∧ (getMis t ch).mutes = inc32 (getMis s ch).mutes) ∧
      ((getMis s ch).due = some 1 → (getMis t ch).st = 1 ∧ hasMute t (.mismatch ch) = false ∧
        ∀ g, g ∈ chanTx s ch → ∀ e, (getGain s g).eff = some e → (getGain t g).tunerCap = clip16 (effDb e - 300)) ∧
      ((getMis s ch).due = some 0 → (getMis t ch).st = 0 ∧ ∀ g, g ∈ chanSlots ch → (getGain t g).tunerCap = 32767) ∧
      ((getMis s ch).due = some 3 → (getMis s ch).probing = true → (getMis t ch).probing = false ∧ muteAt t (.mismatch ch) (.chan ch) ∧
        ∀ g, g ∈ chanSlots ch → ∀ c, (getGain s g).tunerKept = some c → (getGain t g).tunerCap = c))

/-- TUNER_STATE_WRITE, TUNER_SEARCH_REQUEST, TUNER_SEARCH_STEP: a state is applied, its write put on the bus, or
refused with 0x0C during a search; a search begins with nothing tested, the state in use best where the last return
loss was measured in it; each step, 10 ms after the one before, writes the next state in turn and awaits its
measurement; a search without a state to test ends. When the last state's return loss is taken the best state is
written and the search ends. Where the spec leaves a reading open the model takes that of log 21. -/
def Obligations.Tuners : Prop :=
  ∀ (s : State) (ch : Nat), ch < 96 →
    (∀ m v, mayWrite s m = true → v < 64 → (getMis s ch).search = false →
      ∃ t, exec (.tunerStateWrite m ch v) s = .next t ∧ getMis t ch = { getMis s ch with tuner := v } ∧ answered t m (0x2000 + 16 * ch + 4) 5 0 ∧
        BusTakes s t (ch / 4) (tunerTxns s.objs ch v) [.reply m { opcode := 2, status := 0, index := 0x2000 + 16 * ch + 4, sub := 5 }] ∧
        (∀ c, c ≠ ch → getChan t c = getChan s c) ∧ t = { s with chans := t.chans, buses := t.buses, commit := t.commit, olp := t.olp, out := t.out } ∧ OnlyNotes s t) ∧
    (∀ m v, mayWrite s m = true → v < 64 → (getMis s ch).search = true →
      ∃ t, exec (.tunerStateWrite m ch v) s = .next t ∧ answered t m (0x2000 + 16 * ch + 4) 5 0x0C ∧ t = { s with commit := t.commit, olp := t.olp, out := t.out } ∧ OnlyNotes s t) ∧
    (∀ m, mayWrite s m = true → tunerStates s.objs ch ≠ 0 → (getMis s ch).search = false →
      let known := (getMis s ch).rlOf == some (getMis s ch).tuner
      ∃ t, exec (.tunerSearchRequest m ch) s = .next t ∧
        getMis t ch = { getMis s ch with
          search := true, testing := false, tested := 0, searchAt := s.time, usedKnown := known
          best := if known then some ((getMis s ch).tuner, (getMis s ch).rl) else none } ∧
        answered t m (0x2000 + 16 * ch + 8) 1 0 ∧ (∀ c, c ≠ ch → getChan t c = getChan s c) ∧
        t = { s with chans := t.chans, commit := t.commit, olp := t.olp, out := t.out } ∧ OnlyNotes s t) ∧
    (coreRuns s = true → (getMis s ch).search = true → (getMis s ch).testing = false → (getMis s ch).st ≠ 2 →
      (getMis s ch).searchAt + 10 * 32000000 ≤ s.time →
      (b2n (getMis s ch).usedKnown < tunerStates s.objs ch →
        let next := ((getMis s ch).tuner + 1 + (getMis s ch).tested) % tunerStates s.objs ch
        ∃ t, exec (.tunerSearchStep ch) s = .next t ∧ getMis t ch = { getMis s ch with testing := true, stepAt := none, searchAt := s.time } ∧
          BusTakes s t (ch / 4) (tunerTxns s.objs ch next) [] ∧
          (∀ c, c ≠ ch → getChan t c = getChan s c) ∧ t = { s with chans := t.chans, buses := t.buses, out := t.out }) ∧
      (tunerStates s.objs ch ≤ b2n (getMis s ch).usedKnown →
        ∃ t, exec (.tunerSearchStep ch) s = .next t ∧ getMis t ch = { getMis s ch with search := false } ∧
          (∀ c, c ≠ ch → getChan t c = getChan s c) ∧ t = { s with chans := t.chans })) ∧
    (∀ rl, (getMis s ch).search = true → (getMis s ch).testing = true →
      let now := (searchState s ch, rl)
      let best := match (getMis s ch).best with | some b => if b.2 < rl then now else b | none => now
      let t := searchResult s ch rl
      (tunerStates s.objs ch ≤ (getMis s ch).tested + 1 + b2n (getMis s ch).usedKnown →
        (getMis t ch).search = false ∧ (getMis t ch).tuner = best.1 ∧ BusTakes s t (ch / 4) (tunerTxns s.objs ch best.1) []) ∧
      ((getMis s ch).tested + 1 + b2n (getMis s ch).usedKnown < tunerStates s.objs ch →
        t = modMis s ch fun m => { m with testing := false, tested := m.tested + 1, best := some best }))

/-! ### Chapter 17: the monitor -/

/-- MONITOR_CHALLENGE, MONITOR_UNLOCK, UNLOCK_LOCKOUT_END: a nonce is issued; the right response to it, once, within
60 s, unlocks its level; a wrong one counts, the third in a row locks unlocking out for 60 s, when 0x0C is answered.
Where the spec leaves a reading open the model takes that of log 33. -/
def Obligations.MonitorUnlocks : Prop :=
  ∀ (s : State) (level : Nat), monitorServed s = true → 1 ≤ level → level ≤ 3 →
    (∃ t, exec (.monitorChallenge level) s = .next t ∧ t.life = { s.life with nonce := some (level, Config.nonce s.free, s.time), lastCmd := s.time } ∧
      t.out = s.out ++ [.monitor 0 (Config.nonce s.free)] ∧ t = { s with life := t.life, free := s.free + 1, out := t.out }) ∧
    (∀ n since, s.life.nonce = some (level, n, since) → s.time < since + 60000 * 32000000 → levelKey s level ≠ [] → s.life.lockUntil ≤ s.time →
      ∃ t, exec (.monitorUnlock level ((hmac (levelKey s level) (n ++ s.nv.serial ++ beBytes 1 level)).take 16)) s = .next t ∧
        t.life = { s.life with level := max s.life.level level, fails := 0, nonce := none, lastCmd := s.time } ∧
        t.out = s.out ++ [.monitor 0 []] ∧ t = { s with life := t.life, tally := t.tally, out := t.out }) ∧
    (∀ response, unlockOk s level response = false → s.life.lockUntil ≤ s.time →
      ∃ t, exec (.monitorUnlock level response) s = .next t ∧ t.life.level = s.life.level ∧ t.life.nonce = none ∧
        t.life.fails = s.life.fails + 1 ∧ t.life.unlockFails = inc32 s.life.unlockFails ∧
        (s.life.fails < 2 → t.life.lockUntil = s.life.lockUntil) ∧
        (s.life.fails = 2 → t.life.lockUntil = s.time + 60 * 1000 * 32000000) ∧
        t.out = s.out ++ [.monitor 0x07 []] ∧ t = { s with life := t.life, out := t.out }) ∧
    (∀ response, s.time < s.life.lockUntil →
      ∃ t, exec (.monitorUnlock level response) s = .next t ∧ t.out = s.out ++ [.monitor 0x0C []] ∧
        t = { s with life := { s.life with lastCmd := s.time }, out := t.out }) ∧
    (s.life.lockUntil ≠ 0 → s.life.lockUntil ≤ s.time →
      exec .unlockLockoutEnd s = .next { s with life := { s.life with lockUntil := 0 } })

/-- Failed unlocks: the third in a row locks unlocking out for 60 s and each further one for twice as long, up to
3,600 s, when the answer is 0x0C and nothing is counted; each failure counts in 0x1230:04; a successful unlock
resets the run; the count and the lock-out outlive every restart of the supervisor. -/
def Obligations.FailedUnlocks : Prop :=
  ∀ (s : State) (level : Nat) (response : List Byte), monitorServed s = true → 1 ≤ level → level ≤ 3 →
    let n := s.life.fails + 1
    (s.time < s.life.lockUntil →
      ∃ t, exec (.monitorUnlock level response) s = .next t ∧ t.out = s.out ++ [.monitor 0x0C []] ∧
        t = { s with life := { s.life with lastCmd := s.time }, out := t.out }) ∧
    (s.life.lockUntil ≤ s.time → unlockOk s level response = false →
      ∃ t, exec (.monitorUnlock level response) s = .next t ∧ t.life.fails = n ∧ t.life.level = s.life.level ∧
        t.life.unlockFails = inc32 s.life.unlockFails ∧
        (1 ≤ s.life.level → openPower s.life.power = true → (readObject t 8 0x1230 4 0).2.1 = beBytes 4 t.life.unlockFails) ∧
        (n < 3 → t.life.lockUntil = s.life.lockUntil) ∧
        (3 ≤ n → t.life.lockUntil = s.time + min 3600 (60 * 2 ^ (n - 3)) * 1000 * 32000000)) ∧
    (s.life.lockUntil ≤ s.time → unlockOk s level response = true →
      ∃ t, exec (.monitorUnlock level response) s = .next t ∧ t.life.fails = 0 ∧ level ≤ t.life.level) ∧
    (∀ c, c ∈ [.supervisorStart, .lockstepMismatch, .supervisorWatchdogMiss, .supervisorMemoryParity] →
      ∃ t, exec c s = .next t ∧ t.life.fails = s.life.fails ∧ t.life.lockUntil = s.life.lockUntil)

/-- MONITOR_LOCK, MONITOR_LEVEL, MONITOR_IDLE_TIMEOUT, MONITOR_SCAN_ON, MONITOR_SCAN_OFF: the session closes by
command or when it has idled for 0x1230:02 minutes, and boundary scan with it; its level and the lifecycle are
answered; scan needs level FACTORY, and is enabled only in lifecycle FACTORY in HOLD. MONITOR_MKEY, MONITOR_OKEY: a
monitor key or a manager's key is installed; a manager's new key takes its stored session counter and its session
with it. Where the spec leaves a reading open the model takes that of log 33. -/
def Obligations.MonitorSessionAndKeys : Prop :=
  (
  ∀ s : State, monitorServed s = true →
    (s.life.power ≠ .boot →
      (∃ t, exec .monitorLock s = .next t ∧ t.life = { s.life with level := 0, scan := false, lastCmd := s.time } ∧
        t.out = s.out ++ [.monitor 0 []] ∧ t = { s with life := t.life, tally := t.tally, out := t.out }) ∧
      exec .monitorLevel s = .next { s with
        life := { s.life with lastCmd := s.time },
        out := s.out ++ [.monitor 0 (beBytes 1 s.life.level ++ beBytes 1 s.nv.lifecycle)] } ∧
      (s.life.level = 3 → s.nv.lifecycle = 0 → s.life.power = .hold →
        exec .monitorScanOn s = .next { s with life := { s.life with scan := true, lastCmd := s.time }, out := s.out ++ [.monitor 0 []] }) ∧
      (s.life.level < 3 ∨ s.nv.lifecycle ≠ 0 ∨ s.life.power ≠ .hold →
        exec .monitorScanOn s = .next { s with life := { s.life with lastCmd := s.time }, out := s.out ++ [.monitor 0x07 []] }) ∧
      (s.life.level = 3 →
        exec .monitorScanOff s = .next { s with life := { s.life with scan := false, lastCmd := s.time }, out := s.out ++ [.monitor 0 []] })) ∧
    (s.life.level ≠ 0 → s.life.lastCmd + 60000 * cfgNat s.objs 0x1230 2 * 32000000 ≤ s.time →
      ∃ t, exec .monitorIdleTimeout s = .next t ∧ t.life = { s.life with level := 0, scan := false } ∧ t = { s with life := t.life, tally := t.tally })) ∧
  (
  ∀ (s : State) (k : List Byte), s.life.sup = true → openPower s.life.power = true → keysPermitted s = true → k.length = 32 →
    exec (.monitorMkey 1 k) s = .next { s with nv := { s.nv with obsKey := k }, life := { s.life with lastCmd := s.time }, out := s.out ++ [.monitor 0 []] } ∧
    exec (.monitorMkey 2 k) s = .next { s with nv := { s.nv with svcKey := k }, life := { s.life with lastCmd := s.time }, out := s.out ++ [.monitor 0 []] } ∧
    (∀ slot, slot < 8 →
      ∃ t, exec (.monitorOkey slot k) s = .next t ∧ olpKey t slot = k ∧ storedSession t slot = 0 ∧ (getSession t slot).isOpen = false ∧
        (∀ m, m ≠ slot → olpKey t m = olpKey s m ∧ storedSession t m = storedSession s m ∧ getSession t m = getSession s m) ∧
        t.out = s.out ++ [.monitor 0 []] ∧ t = { s with nv := t.nv, olp := t.olp, life := { s.life with lastCmd := s.time }, out := t.out }) ∧
    (∀ slot, slot < 8 → ∃ t, exec (.monitorOkey slot []) s = .next t ∧ olpKey t slot = [] ∧ storedSession t slot = 0))

/-- MONITOR_RD, MONITOR_WR: an object is read from level OBSERVE on, and written from level SERVICE on, as manager
8: a monitor read or write is the read or write of that manager, answered on the monitor; so a readable object is
answered with its value, and a write of a staged entry puts its value into the staging area. MONITOR_LIFECYCLE,
MONITOR_RECOVER: a transition whose level, power state and preconditions are met burns its fuse and leaves the
lifecycle in force until the next reset; the ROM takes an image into slot A and the frame die resets. Where the spec
leaves a reading open the model takes that of log 33. -/
def Obligations.MonitorObjectsAndLifecycle : Prop :=
  (
  ∀ s : State, s.life.sup = true → openPower s.life.power = true →
    let u : State := { s with life := { s.life with lastCmd := s.time } }
    (1 ≤ s.life.level → ∃ t, exec (.monitorRd 0x1012 1 0) s = .next t ∧ t.out = s.out ++ [.monitor 0 (beBytes 8 s.clk.frame)] ∧
      t = { s with life := { s.life with lastCmd := s.time }, commit := t.commit, out := t.out }) ∧
    (s.life.level = 0 → ∃ t, exec (.monitorRd 0x1012 1 0) s = .next t ∧ t.out = s.out ++ [.monitor 0x07 []] ∧
      t = { s with life := { s.life with lastCmd := s.time }, commit := t.commit, out := t.out }) ∧
    (∀ v, 1 ≤ v → v ≤ 60 → 2 ≤ s.life.level →
      ∃ t, exec (.monitorWr 0x1230 2 [BitVec.ofNat 8 v]) s = .next t ∧ cfgNat t.objs 0x1230 2 = v ∧ t.out = s.out ++ [.monitor 0 []] ∧
        t = { s with objs := t.objs, life := { s.life with lastCmd := s.time }, commit := t.commit, olp := t.olp, out := t.out } ∧ OnlyNotes s t) ∧
    (∀ data, data.length = 1 → s.life.level < 2 →
      ∃ t, exec (.monitorWr 0x1230 2 data) s = .next t ∧ t.out = s.out ++ [.monitor 0x07 []] ∧
        t = { s with life := { s.life with lastCmd := s.time }, commit := t.commit, olp := t.olp, out := t.out } ∧ OnlyNotes s t) ∧
    (∀ idx sub, exec (.monitorRd idx sub 0) s = exec (.read 8 idx sub) u) ∧
    (∀ idx sub o, lookup idx sub = (0, some o) → o.acc.reads = true → o.typ ≠ .dom → windowShut s 8 idx sub = false → 1 ≤ s.life.level →
      idx ≠ 0x1601 → idx ≠ 0x7010 → idx ≠ 0x7011 →
      ∃ t, exec (.monitorRd idx sub 0) s = .next t ∧
        t.out = s.out ++ [.monitor 0 (valueBytes o.typ (objValue (touch (dropSnapshots u) 8 idx) idx sub))] ∧
        t = { s with life := u.life, commit := t.commit, windows := t.windows, out := t.out }) ∧
    (∀ idx sub data, exec (.monitorWr idx sub data) s = exec (.write 8 idx sub data) u) ∧
    (∀ idx sub data o, lookup idx sub = (0, some o) → o.acc = .rws → o.typ ≠ .dom → data.length = o.typ.len →
      o.ok (o.typ.toInt (ofBytes data)) = true → 2 ≤ s.life.level → lockFree s 8 = true →
      let staged := putEntries s.commit.staged [(key (canonIdx idx) sub, ofBytes data)]
      stagedTotal { s.commit with staged } ≤ 8192 →
      ∃ t, exec (.monitorWr idx sub data) s = .next t ∧ t.out = s.out ++ [.monitor 0 []] ∧
        t = { s with life := u.life, commit := { s.commit with staged, lockAt := t.commit.lockAt }, olp := t.olp, out := t.out } ∧ OnlyNotes s t)) ∧
  (
  ∀ s : State, monitorServed s = true →
    (∀ target token l, transitionLevel s target = some l → l ≤ s.life.level → s.life.power = .hold → transitionReady s target token = true →
      ∃ t, exec (.monitorLifecycle target token) s = .next t ∧ t.nv = { s.nv with burned := target } ∧ s.nv.burned < target ∧
        t.out = s.out ++ [.monitor 0 []] ∧ t = { s with nv := t.nv, life := { s.life with lastCmd := s.time }, tally := t.tally, out := t.out }) ∧
    (∀ image, romServes s = true → 2 ≤ s.life.level → image ≠ [] → image.length ≤ 1048576 →
      ∃ t, exec (.monitorRecover image) s = .next t ∧ t.nv.imgA = image ∧ t.nv.imgB = s.nv.imgB ∧ t.life.power = .boot ∧ t.life.booting = true ∧
        t.objs = [] ∧ t.pending = s.pending ∧ t.out = s.out ++ [.monitor 0 []]))

/-! ### Chapter 11: the Output Sentinel and the licence -/

/-- SENTINEL_OVERPOWER_INTERVAL, SENTINEL_SPECTRAL_WINDOW: an interval 6.00 dB over the ceiling, or the second in a
row over it, trips overpower: the gate closes, the channel is muted and TXEN drops, source 293 and the trip count
follow; power over −30 dBm with TXEN low for two intervals mutes the rod; a bin over its limit in two windows in a
row trips spectral. GATE_RELEASE: a manager opens a gate that is not locked, its trip bits clear, and the Sentinel's
mutes of the channel and of its rod end; a locked one, or one of a rod with a locked trip of its TXEN-low test, is
refused with 0x05. Where the spec leaves a reading open the model takes that of log 23. -/
def Obligations.SentinelTripsAndReleases : Prop :=
  (
  ∀ (s : State) (ch : Nat), s.life.power ≠ .off → ch < 96 →
    let x := (getChan s ch).sent
    (∀ fb, reflected s ch = false → txen s ch = true → x.overpower = false →
      (ceiling s ch + 600 ≤ ballPower s ch fb ∨ (ceiling s ch < ballPower s ch fb ∧ 1 ≤ x.overRun)) →
      ∃ t, exec (.sentinelOverpowerInterval ch fb) s = .next t ∧ (getChan t ch).sent.closed = true ∧ (getChan t ch).sent.overpower = true ∧
        txen t ch = false ∧ muteAt t (.sentinel ch) (.chan ch) ∧ t.sent.trips = inc32 s.sent.trips ∧ eventActive t 293 = true ∧
        t = { s with chans := t.chans, buses := t.buses, mutes := t.mutes, sent := t.sent, cap := t.cap, flt := t.flt, tally := t.tally, out := t.out }) ∧
    (∀ fb, reflected s ch = false → txen s ch = true → ceiling s ch < ballPower s ch fb → ballPower s ch fb < ceiling s ch + 600 → x.overRun = 0 →
      ∃ t, exec (.sentinelOverpowerInterval ch fb) s = .next t ∧ (getChan t ch).sent = { x with overRun := 1, lowRun := 0 } ∧ t = { s with chans := t.chans }) ∧
    (∀ fb, reflected s ch = false → txen s ch = false → -3000 < ballPower s ch fb → 1 ≤ x.lowRun → rodTripped s (ch / 16) = false →
      ∃ t, exec (.sentinelOverpowerInterval ch fb) s = .next t ∧ (getChan t ch).sent.txLow = true ∧
        muteAt t (.sentinelRod (ch / 16)) (.rod (ch / 16)) ∧ t.sent.trips = inc32 s.sent.trips ∧ eventActive t 293 = true ∧
        t = { s with chans := t.chans, buses := t.buses, mutes := t.mutes, sent := t.sent, cap := t.cap, flt := t.flt, tally := t.tally, out := t.out }) ∧
    (∀ bins b, txen s ch = true → b < 64 → ∀ v, bins[b]? = some v → ∀ l, binLimit s ch b = some l → l < ballPower s ch v → x.spectral = false →
      (b ∈ x.binsOver → ∃ t, exec (.sentinelSpectralWindow ch bins) s = .next t ∧ (getChan t ch).sent.closed = true ∧
        (getChan t ch).sent.spectral = true ∧ txen t ch = false ∧ muteAt t (.sentinel ch) (.chan ch) ∧ eventActive t 294 = true ∧
        t = { s with chans := t.chans, buses := t.buses, mutes := t.mutes, sent := t.sent, cap := t.cap, flt := t.flt, tally := t.tally, out := t.out }) ∧
      (x.binsOver = [] → ∃ t, exec (.sentinelSpectralWindow ch bins) s = .next t ∧ b ∈ (getChan t ch).sent.binsOver ∧
        (getChan t ch).sent = { x with binsOver := (getChan t ch).sent.binsOver } ∧ t = { s with chans := t.chans }))) ∧
  (
  ∀ (s : State) (m ch : Nat), mayWrite s m = true → ch < 96 →
    ((getChan s ch).sent.locked = false → (∀ c, c / 16 = ch / 16 → (getChan s c).sent.locked = false ∨ (getChan s c).sent.txLow = false) →
      ∃ t, exec (.gateRelease m ch) s = .next t ∧ (getChan t ch).sent.closed = false ∧ (getChan t ch).sent.overpower = false ∧
        (getChan t ch).sent.spectral = false ∧ (∀ c, c / 16 = ch / 16 → (getChan t c).sent.txLow = false) ∧
        (∀ u, u ∈ t.mutes ↔ u ∈ s.mutes ∧ u.owner ≠ .sentinel ch ∧ u.owner ≠ .sentinelRod (ch / 16)) ∧ answered t m 0x1310 1 0 ∧
        t = { s with chans := t.chans, mutes := t.mutes, tally := t.tally, commit := t.commit, olp := t.olp, out := t.out } ∧ OnlyNotes s t) ∧
    ((getChan s ch).sent.locked = true ∨ (∃ c, c / 16 = ch / 16 ∧ (getChan s c).sent.locked = true ∧ (getChan s c).sent.txLow = true) →
      ∃ t, exec (.gateRelease m ch) s = .next t ∧ answered t m 0x1310 1 0x05 ∧ t = { s with commit := t.commit, olp := t.olp, out := t.out } ∧ OnlyNotes s t))

/-- SENTINEL_SELF_TEST, SENTINEL_SELF_CHECK_FAILURE, SENTINEL_FUSE_READ: a round without failure counts 96 tests; a
failure closes every gate; a completed read of the fuses makes the copy the sealed generation's, and a parity
failure adds to the records lost. MUTE_N_ASSERT, MUTE_N_RELEASE: a low level of 200 ns or more drops every TXEN and
mutes the device; below 50 ns nothing happens; 10 ms after it has risen the mute ends. Where the spec leaves a
reading open the model takes that of log 23. -/
def Obligations.SentinelSelfAndMuteN : Prop :=
  (
  ∀ (s : State), s.life.power ≠ .off →
    (∃ t, exec (.sentinelSelfTest []) s = .next t ∧ t.sent = { s.sent with failed := false, selfTests := min (2 ^ 64 - 1) (s.sent.selfTests + 96) } ∧
      hasMute t .sentinelSelf = false ∧ t = { s with sent := t.sent, mutes := t.mutes }) ∧
    (∀ failed ch, ch < 96 → ch ∈ failed → ∃ t, exec (.sentinelSelfTest failed) s = .next t ∧ t.sent.failed = true ∧ (∀ c, txen t c = false) ∧
      t = { s with sent := t.sent, chans := t.chans, buses := t.buses, mutes := t.mutes, out := t.out }) ∧
    (∀ kind, kind < 2 → s.sent.failed = false →
      ∃ t, exec (.sentinelSelfCheckFailure kind) s = .next t ∧ t.sent = { s.sent with failed := true } ∧ muteAt t .sentinelSelf .device ∧
        (∀ ch, txen t ch = false) ∧ t = { s with sent := t.sent, chans := t.chans, buses := t.buses, mutes := t.mutes, out := t.out }) ∧
    (exec (.sentinelFuseRead []) s =
      .next { s with sent := { s.sent with copy := genRecords s (sealedGen s), copyGen := sealedGen s, lost := [] } }) ∧
    (∀ r, r < 64 → ∃ t, exec (.sentinelFuseRead [r]) s = .next t ∧ (∀ x, x ∈ t.sent.lost ↔ x = r ∨ x ∈ s.sent.lost) ∧
      t = { s with sent := { s.sent with lost := t.sent.lost } })) ∧
  (
  ∀ (s : State), s.life.power ≠ .off →
    (∀ lowNs, 200 ≤ lowNs →
      ∃ t, exec (.muteNAssert lowNs) s = .next t ∧ t.pins = { s.pins with muteN := false, muteNRose := s.time + lowNs * 32 } ∧
        muteAt t .muteN .device ∧ (∀ ch, txen t ch = false) ∧
        t = { s with pins := t.pins, chans := t.chans, buses := t.buses, mutes := t.mutes, tally := t.tally, out := t.out }) ∧
    (∀ lowNs, lowNs < 50 → exec (.muteNAssert lowNs) s = .next s) ∧
    (s.pins.muteN = false → s.pins.muteNRose + 10 * 32000000 ≤ s.time → coreClock s = true →
      ∃ t, exec .muteNRelease s = .next t ∧ t.pins = { s.pins with muteN := true } ∧ (∀ u, u ∈ t.mutes ↔ u ∈ s.mutes ∧ u.owner ≠ .muteN) ∧
        t = { s with pins := t.pins, mutes := t.mutes, tally := t.tally }))

/-- LICENCE_BURN: the next generation is consumed with the image's records; sealed where the read-back equals the
image, and then due to become active; refused with 0x05 and reason 5 where it does not. LICENCE_GENERATION_ACTIVATE,
LICENCE_SHADOW_COMPARE: at a boundary the shadow becomes the sealed generation's, with the records that changed
marked by its number; a shadow that does not match is loaded again and source 292 set. Where the spec leaves a
reading open the model takes that of log 23. -/
def Obligations.Licences : Prop :=
  (
  ∀ (s : State) (m g : Nat) (crc : BitVec 32),
    let img := transferImage s
    mayWrite s m = true → windowFree s m 4 = true → (getWindow s 4).sel = 0x100 + g → nextGen s = some g → crcOut (getWindow s 4).crc = crc →
    s.nv.lifecycle = 1 → (s.life.power = .hold ∨ s.life.power = .quiet) →
    Config.signatureOk 1 ((List.range 2836).map (imageWord img)) = true →
    firstField (fun r => if bit (recWord (imageRecord img r) 0) 31 then recordBreach (imageRecord img r) else none) = none →
    (sealedGen s = 0 ∨ firstField (fun r => relaxed (smGet [] (genRecords s (sealedGen s)) r) (imageRecord img r)) = none) →
    (∃ t, exec (.licenceBurn m crc true) s = .next t ∧
      getGen t g = { consumed := true, integrator := (imageWord img 1).toNat, sealed := true, records := imageRecords img } ∧
      (∀ k, k ≠ g → getGen t k = getGen s k) ∧ t.lic = { s.lic with burn := 3, reason := 0, field := 0, due := some g } ∧
      (getWindow t 4).st = 2 ∧ answered t m 0x6500 4 0 ∧
      t = { s with nv := { s.nv with gens := t.nv.gens }, lic := t.lic, windows := t.windows, commit := t.commit, free := t.free, olp := t.olp, out := t.out } ∧ OnlyNotes s t) ∧
    (∃ t, exec (.licenceBurn m crc false) s = .next t ∧ (getGen t g).consumed = true ∧ (getGen t g).sealed = false ∧
      (∀ k, k ≠ g → getGen t k = getGen s k) ∧ t.lic = { s.lic with burn := 4, reason := 5, field := 0 } ∧ answered t m 0x6500 4 0x05 ∧ OnlyNotes s t ∧
      t = { s with nv := { s.nv with gens := t.nv.gens }, lic := t.lic, windows := t.windows, commit := t.commit, free := t.free, olp := t.olp,
                   tally := t.tally, out := t.out })) ∧
  (
  ∀ (s : State),
    (∀ g, s.lic.due = some g → coreClock s = true →
      ∃ t, exec .licenceGenerationActivate s = .next t ∧ t.lic.active = sealedGen s ∧ t.lic.shadow = genRecords s (sealedGen s) ∧ t.lic.due = none ∧
        (∀ r, r < 64 → smGet 0 t.lic.setBy r =
          if smGet [] (genRecords s (sealedGen s)) r ≠ smGet [] s.lic.shadow r then sealedGen s else smGet 0 s.lic.setBy r) ∧
        t = { s with lic := t.lic, chans := t.chans, buses := t.buses, mutes := t.mutes, cap := t.cap, tally := t.tally, out := t.out }) ∧
    (s.life.power ≠ .off → s.lic.due = none →
      (∃ t, exec (.licenceShadowCompare false) s = .next t ∧ t.lic.shadow = genRecords s (sealedGen s) ∧ eventActive t 292 = true ∧
        t = { s with lic := t.lic, chans := t.chans, buses := t.buses, mutes := t.mutes, flt := t.flt, out := t.out }) ∧
      exec (.licenceShadowCompare true) s = .next s))

/-! ### Chapter 16: heat -/

/-- THERMAL_DEMAND, THERMAL_READING: a demand leaves each period; its reading stores the 40 results and flags those
out of −50.00 to 175.00 °C or more than 20.00 °C from the median of the others of their zone, a flag clearing after
ten good readings in a row; a zone takes its highest valid result, 5.00 °C more while a sensor it lost in throttling
stays flagged and no freeze lasts; without a valid sensor it holds its states at full reduction. The hottest sensor
of a throttling zone, once flagged, begins a freeze, which holds the reduction; a third reading in a row at the
shut-down threshold shuts the zone down. Where the spec leaves a reading open the model takes that of log 25. -/
def Obligations.ThermalReadings : Prop :=
  ∀ (s : State), thermalRuns s = true →
    (s.therm.demanded = false → s.therm.lastDemand + demandPeriod s * 32000000 ≤ s.time →
      exec .thermalDemand s = .next { s with therm := { s.therm with demanded := true, lastDemand := s.time, period := cfgNat s.objs 0x1500 1 }, out := s.out ++ [.thermalDemand] }) ∧
    (∀ results : List Int, results.length = 40 → s.therm.demanded = true →
      ∃ t, exec (.thermalReading results) s = .next t ∧ t.therm.demanded = false ∧
        (∀ n, n < 40 →
          let v := results.getD n 0
          let bad := !(decide (-5000 ≤ v) && decide (v ≤ 17500)) || medianFails (fun k => results.getD k (-32768)) n
          (getSensor t n).value = clip16 v ∧ (getSensor t n).rangeBad = !(decide (-5000 ≤ v) && decide (v ≤ 17500)) ∧
          (getSensor t n).medianBad = medianFails (fun k => results.getD k (-32768)) n ∧
          (getSensor t n).flagged = (bad || ((getSensor s n).flagged && decide ((getSensor s n).okRun + 1 < 10)))) ∧
        (∀ z, z < 7 →
          let good := (zoneSensors z).filter fun n => !(getSensor t n).flagged
          let lost := (getZone s z).throttle = true ∧ (getZone s z).hottest ∈ List.range 40 ∧
            (getSensor s (getZone s z).hottest).flagged = false ∧ (getSensor t (getZone s z).hottest).flagged = true
          (good = [] → (getZone t z).noValid = true ∧ (getZone t z).valid = 0 ∧ (getZone t z).temp = -32768 ∧ (getZone t z).red = 1200 ∧
            (getZone t z).warn = (getZone s z).warn ∧ (getZone t z).throttle = (getZone s z).throttle ∧ (getZone t z).shut = (getZone s z).shut) ∧
          (good ≠ [] → (getZone t z).noValid = false ∧ (getZone t z).valid = good.length ∧ (getZone t z).hottest ∈ good ∧
            (∀ m, m ∈ good → (getSensor t m).value ≤ (getSensor t (getZone t z).hottest).value) ∧
            (getZone t z).temp = (getSensor t (getZone t z).hottest).value +
              (if (getZone t z).frozen.isNone && !(getZone t z).lost.isEmpty then 500 else 0) ∧
            ((getZone t z).frozen ≠ none → (getZone s z).noValid = false → (getZone s z).kept = none → (getZone t z).red = (getZone s z).red) ∧
            ((getZone t z).frozen = none → (getZone s z).inRun.getD 2 0 = 2 → threshold s.objs z 2 ≤ (getZone t z).temp → (getZone t z).shut = true)) ∧
          (lost → (getZone t z).frozen = some s.time ∧ (getZone s z).hottest ∈ (getZone t z).lost) ∧
          (¬ lost → (getZone t z).frozen = (getZone s z).frozen)) ∧
        OnlySelects s t ∧
        t = { s with objs := t.objs, clk := t.clk, slots := t.slots, chans := t.chans, rods := t.rods, buses := t.buses, mutes := t.mutes,
                     cap := t.cap, tally := t.tally, therm := t.therm, life := t.life, nv := t.nv, out := t.out, free := t.free }) ∧
    (∀ results : List Int, results.length = 40 → (∀ v, v ∈ results → v = 2500) → s.therm.demanded = true →
      (∀ n, n < 40 → (getSensor s n).flagged = false) → (∀ z, z < 7 → (getZone s z).frozen = none ∧ (getZone s z).lost = []) →
      ∃ t, exec (.thermalReading results) s = .next t ∧
        (∀ z, z < 7 → (getZone t z).temp = 2500 ∧ (getZone t z).noValid = false ∧ (getZone t z).valid = if z = 0 then 16 else 4))

/-- THROTTLE_FREEZE_END, LEAVE_SHUTDOWN, AUTOMATIC_RESUME: the freeze ends after 10 s; zones that read at or below
their release level leave shut-down at a manager's word, each or none: the gates that no trip of a zone still holds
open, and their rods are powered up, the frame die's leaving taking the device to HOLD; where one of them does not,
the write is refused with 0x05 and none leaves. A zone resumes by itself where it may. JUNCTION_COMPARATOR_TRIP,
JUNCTION_COMPARATOR_RESET: a trip closes the gates of its rod, or of all channels for the frame die, takes its zone
into shut-down, and for the frame die asserts THERM_TRIP_N; once reset, a gate stays closed as long as its zone, or
the frame die's, has yet to leave shut-down or is tripped, and opens when neither holds it. Where the spec leaves a
reading open the model takes that of log 25. -/
def Obligations.ShutdownAndJunctionLimit : Prop :=
  (
  ∀ (s : State), thermalRuns s = true →
    let gates (t : State) : Prop := ∀ ch, ch < 96 → (getChan t ch).sent.thermClosed =
      ((getZone t 0).latched || (getZone t 0).tripped || (getZone t (ch / 16 + 1)).latched || (getZone t (ch / 16 + 1)).tripped)
    let ready (z : Nat) : Prop := (getZone s z).shut = true ∧ (getZone s z).noValid = false ∧ (getZone s z).temp ≤ releaseLevel s.objs z
    (∀ z, z < 7 → ∀ since, (getZone s z).frozen = some since → since + 10000 * 32000000 ≤ s.time →
      ∃ t, exec (.throttleFreezeEnd z) s = .next t ∧ getZone t z = { getZone s z with frozen := none } ∧
        (∀ k, k ≠ z → getZone t k = getZone s k) ∧ t = { s with therm := t.therm }) ∧
    (∀ m v, mayWrite s m = true ∨ (s.life.sup = true ∧ m < 8 ∧ s.nv.lifecycle ≠ 3 ∧ s.life.power = .shutdown) → 1 ≤ v → v < 128 →
      ((∀ z, z < 7 → bit v z = true → ready z) →
        ∃ t, exec (.leaveShutdown m v) s = .next t ∧
          (∀ z, z < 7 → bit v z = true → (getZone t z).shut = false ∧ (getZone t z).latched = false) ∧
          (∀ z, bit v z = false ∨ 7 ≤ z → getZone t z = getZone s z) ∧ gates t ∧
          (bit v 0 = true → s.life.power = .shutdown → t.life.power = .hold ∧ t.life.prev = .shutdown ∧ thermTrip t = false) ∧
          (bit v 0 = false ∨ s.life.power ≠ .shutdown → t.life.power = s.life.power) ∧
          (∀ r, r < 6 → t.life.power ≠ .shutdown → bit v (r + 1) = true ∨ (bit v 0 = true ∧ (getZone t (r + 1)).shut = false ∧ (getZone t (r + 1)).tripped = false) →
            (getRod t r).powered = true) ∧
          answered t m 0x1500 7 0 ∧ OnlyNotes s t ∧ OnlySelects s t ∧
          t = { s with objs := t.objs, slots := t.slots, chans := t.chans, rods := t.rods, buses := t.buses, mutes := t.mutes, cap := t.cap,
                       tally := t.tally, therm := t.therm, life := t.life, commit := t.commit, olp := t.olp, out := t.out }) ∧
      (∀ z, z < 7 → bit v z = true → ¬ ready z →
        ∃ t, exec (.leaveShutdown m v) s = .next t ∧ answered t m 0x1500 7 0x05 ∧ t = { s with commit := t.commit, olp := t.olp, out := t.out } ∧ OnlyNotes s t)) ∧
    (∀ z, z < 7 → ∀ since, (getZone s z).leftAt = some since → cfgBool s.objs 0x1500 3 = true → (getZone s z).shut = true →
      since + 1000 * cfgNat s.objs 0x1500 4 * 32000000 ≤ s.time →
      ((recentExits s).length < 3 →
        ∃ t, exec (.automaticResume z) s = .next t ∧ (getZone t z).shut = false ∧ (getZone t z).latched = false ∧ t.therm.exits = opMs s :: recentExits s ∧
          gates t ∧ (∀ k, k ≠ z → getZone t k = getZone s k) ∧ OnlySelects s t ∧
          t = { s with objs := t.objs, slots := t.slots, chans := t.chans, rods := t.rods, buses := t.buses, mutes := t.mutes, cap := t.cap,
                       tally := t.tally, therm := t.therm, life := t.life, out := t.out }) ∧
      (3 ≤ (recentExits s).length → exec (.automaticResume z) s = .next s))) ∧
  (
  ∀ (s : State) (z : Nat), z < 7 → s.life.power ≠ .off →
    let gates (t : State) : Prop := ∀ ch, ch < 96 → (getChan t ch).sent.thermClosed =
      ((getZone t 0).latched || (getZone t 0).tripped || (getZone t (ch / 16 + 1)).latched || (getZone t (ch / 16 + 1)).tripped)
    ((getZone s z).tripped = false →
      ∃ t, exec (.junctionComparatorTrip z) s = .next t ∧ (getZone t z).tripped = true ∧ (getZone t z).latched = true ∧ (getZone t z).shut = true ∧
        (∀ ch, ch < 96 → z = 0 ∨ z = ch / 16 + 1 → (getChan t ch).sent.thermClosed = true ∧ txen t ch = false) ∧
        (z = 0 → thermTrip t = true) ∧ gates t ∧ (∀ k, k ≠ z → getZone t k = getZone s k) ∧
        (z = 0 → (getZone s z).shut = false → s.life.power ≠ .shutdown → t.life.power = .shutdown ∧ muteAt t .power .device) ∧
        (1 ≤ z → (getZone s z).shut = false → (getRod t (z - 1)).powered = false) ∧
        t = { s with chans := t.chans, rods := t.rods, buses := t.buses, mutes := t.mutes, cap := t.cap, tally := t.tally, therm := t.therm,
                     life := t.life, out := t.out }) ∧
    ((getZone s z).tripped = true →
      ∃ t, exec (.junctionComparatorReset z) s = .next t ∧ getZone t z = { getZone s z with tripped := false } ∧
        (∀ k, k ≠ z → getZone t k = getZone s k) ∧ gates t ∧
        t = { s with therm := t.therm, chans := t.chans, buses := t.buses, out := t.out }))

/-! ### Chapter 12: donor links, chain links, relay -/

/-- DN_PORT_DOWN, DN_PORT_UP, PORT_RESTART_COMPLETE, QUEUE_FLUSH: a port that goes down loses its ingress streams
and mutes what they feed; one that comes up, or ends its restart with a link, lets those lost acquire; after a
restart a DN port numbers its egress messages from 0 again and a lane's learned relay addresses are lost; a flush
requested discards the items its queue holds and the one being filled, and a relay message partly sent counts as
dropped. STREAM_LOSS_TIMEOUT, STREAM_MUTE_RELEASE, STREAM_DONOR_PATH_LOST: a stream without a message for 1 ms is
lost and mutes the sides it feeds; one that has run for 10 ms releases them; one not running for 100 ms is lost as a
donor path. Where the spec leaves a reading open the model takes that of log 24 and 45. -/
def Obligations.PortsAndStreams : Prop :=
  (
  ∀ (s : State) (l : Nat), l < 16 →
    ((getDn s l).link = true →
      ∃ t, exec (.dnPortDown l) s = .next t ∧ (getDn t l).link = false ∧
        (∀ n, n ∈ portStreams s.objs 1 l 1 → (getIn t (streamCode 1 l n)).st = 3 ∧
          ((getIn s (streamCode 1 l n)).st ≠ 3 → ∀ g, g ∈ sidesFed s.objs (streamCode 1 l n) → muteAt t (.stream g) (.slot g))) ∧
        (∀ k, k ≠ l → getDn t k = getDn s k) ∧
        t = { s with chans := t.chans, buses := t.buses, mutes := t.mutes, links := t.links, tally := t.tally, out := t.out }) ∧
    ((getDn s l).link = false →
      ∃ t, exec (.dnPortUp l) s = .next t ∧ (getDn t l).link = true ∧
        (∀ n, n ∈ portStreams s.objs 1 l 1 → (getIn t (streamCode 1 l n)).st =
          if (getIn s (streamCode 1 l n)).st = 3 ∧ (getDn s l).restarting = false then 1 else (getIn s (streamCode 1 l n)).st) ∧
        (∀ k, k ≠ l → getDn t k = getDn s k) ∧
        t = { s with chans := t.chans, buses := t.buses, mutes := t.mutes, links := t.links, tally := t.tally, out := t.out }) ∧
    (s.life.power ≠ .off →
      ((getDn s l).restarting = true →
        ∃ t, exec (.portRestartComplete l) s = .next t ∧ (getDn t l).restarting = false ∧
          ((getDn s l).link = true → ∀ n, n ∈ portStreams s.objs 1 l 1 → (getIn s (streamCode 1 l n)).st = 3 → (getIn t (streamCode 1 l n)).st = 1) ∧
          (∀ n, n ∈ portStreams s.objs 1 l 2 → (getOut t (streamCode 1 l n)).seq = 0) ∧
          (∀ k, k ≠ l → getDn t k = getDn s k) ∧ t.links.xl = s.links.xl ∧
          t = { s with chans := t.chans, buses := t.buses, mutes := t.mutes, links := t.links, tally := t.tally, out := t.out }) ∧
      ((getXl s l).restarting = true →
        ∃ t, exec (.portRestartComplete (16 + l)) s = .next t ∧ (getXl t l).restarting = false ∧
          ((∀ q, flushPending s q l = false) → getXl t l = { getXl s l with restarting := false }) ∧
          (∀ e, e ∈ t.links.learned ↔ e ∈ s.links.learned ∧ e.2.1 ≠ l) ∧
          (∀ k, k ≠ l → getXl t k = getXl s k) ∧ t = { s with links := t.links, tally := t.tally })) ∧
    (∀ queue, s.links.flushing.contains (queue * 256 + l) = true →
      ∃ t, exec (.queueFlush queue l) s = .next t ∧ (∀ x, x ∈ t.links.flushing ↔ x ∈ s.links.flushing ∧ x ≠ queue * 256 + l) ∧
        (queue = 3 → ∀ n, n ∈ portStreams s.objs 1 l 2 → getOut t (streamCode 1 l n) =
          { getOut s (streamCode 1 l n) with items := [], drop := (getOut s (streamCode 1 l n)).drop || !(getOut s (streamCode 1 l n)).queue.isEmpty }) ∧
        (queue = 5 → ∀ n, n ∈ portStreams s.objs 2 l 2 → getOut t (streamCode 2 l n) =
          { getOut s (streamCode 2 l n) with items := [], drop := (getOut s (streamCode 2 l n)).drop || !(getOut s (streamCode 2 l n)).queue.isEmpty }) ∧
        (queue ≠ 3 → t.links.dn = s.links.dn) ∧ (queue ≠ 5 → queue ≠ 7 → t.links.xl = s.links.xl) ∧
        (∀ k, k ≠ l → getDn t k = getDn s k ∧ getXl t k = getXl s k) ∧
        (queue ≠ 3 → queue ≠ 5 → queue ≠ 7 → t.links = { s.links with flushing := t.links.flushing }) ∧
        (queue = 7 → getXl t l = { getXl s l with
          relayQ := [], relayAt := 0, dropped := if (getXl s l).relayAt = 0 then (getXl s l).dropped else inc32 (getXl s l).dropped }) ∧
        (queue = 8 → t.olp = { s.olp with rxq := [] }) ∧ (queue ≠ 8 → t.olp = s.olp) ∧ t = { s with links := t.links, olp := t.olp })) ∧
  (
  ∀ (s : State) (l n : Nat), l < 16 → n < 96 →
    let code := streamCode 1 l n
    ((streamRate s.objs code 1).isSome = true → (getIn s code).st = 1 ∨ (getIn s code).st = 2 → (getIn s code).lastAt + 32000000 ≤ s.time →
      ∃ t, exec (.streamLossTimeout l n) s = .next t ∧ (getIn t code).st = 3 ∧ (∀ g, g ∈ sidesFed s.objs code → muteAt t (.stream g) (.slot g)) ∧
        (∀ c, c ≠ l → getDn t c = getDn s c) ∧ t.links.xl = s.links.xl ∧
        t = { s with chans := t.chans, buses := t.buses, mutes := t.mutes, links := t.links, tally := t.tally, out := t.out }) ∧
    (coreRuns s = true → (getIn s code).st = 2 → (getIn s code).runSince + 10 * 32000000 ≤ s.time →
      ∃ t, exec (.streamMuteRelease code) s = .next t ∧ getIn t code = { getIn s code with pathLost := false } ∧
        (∀ u, u ∈ t.mutes ↔ u ∈ s.mutes ∧ ∀ g, g ∈ sidesFed s.objs code → u.owner ≠ .stream g) ∧
        t = { s with links := t.links, mutes := t.mutes }) ∧
    ((getIn s code).st = 1 ∨ (getIn s code).st = 3 → (getIn s code).badSince + 100 * 32000000 ≤ s.time → routesFrom s.objs code ≠ [] →
      ∃ t, exec (.streamDonorPathLost code) s = .next t ∧ getIn t code = { getIn s code with pathLost := true } ∧ t = { s with links := t.links }))

/-- DN_FRAME_DISCARD, ECPRI_IQ_MESSAGE, ECPRI_EGRESS_MESSAGE: a frame that fails a test of R295 is discarded and
counted; the first accepted message of a stream fixes its release boundary; one in order joins the stream's samples;
d missing ones are counted before it; a late one is only counted; one that a flush of its queue ends is only counted
as accepted; the oldest complete message of an egress stream leaves with its number. Where the spec leaves a reading
open the model takes that of log 24 and 45. -/
def Obligations.DonorMessages : Prop :=
  ∀ (s : State) (l : Nat) (f : DnFrame), l < 16 → coreRuns s = true → dnUp s l = true →
    (dnAccepts s l f = false →
      ∃ t, exec (.dnFrameDiscard l f) s = .next t ∧
        getDn t l = { getDn s l with discarded := inc32 (getDn s l).discarded, fcs := if f.fcsOk then (getDn s l).fcs else inc32 (getDn s l).fcs } ∧
        (∀ k, k ≠ l → getDn t k = getDn s k) ∧ t = { s with links := { s.links with dn := t.links.dn } }) ∧
    (dnAccepts s l f = true → f.msgType = 0 → flushPending s 2 l = true →
      ∃ t, exec (.ecpriIqMessage l f) s = .next t ∧ getDn t l = { getDn s l with accepted := inc32 (getDn s l).accepted } ∧
        (∀ x, x ∈ t.links.flushing ↔ x ∈ s.links.flushing ∧ x ≠ 512 + l) ∧ t = { s with links := t.links }) ∧
    (∀ n, dnAccepts s l f = true → f.msgType = 0 → flushPending s 2 l = false → pcidStream s.objs l f.pcid = some n →
      let code := streamCode 1 l n
      let x := getIn s code
      let k := bits (dnStreamWord s.objs l 1 n) 18 16
      let xs := messageSamples s.objs l f
      let d := (f.seq + 256 - x.expected) % 256
      (x.st ≠ 2 →
        ∃ t, exec (.ecpriIqMessage l f) s = .next t ∧ (getIn t code).st = 2 ∧ (getIn t code).expected = (f.seq + 1) % 256 ∧
          (getIn t code).release = s.clk.frame + (rxDelay s.objs l + playoutDepth s.objs l + 9374) / 9375 ∧
          (getIn t code).sched = (getIn t code).release + 4 * 2 ^ k ∧ (getIn t code).queue = xs ∧
          (getDn t l).accepted = inc32 (getDn s l).accepted ∧ (∀ c, c ≠ l → getDn t c = getDn s c) ∧
          t = { s with links := t.links, flt := t.flt, tally := t.tally }) ∧
      (x.st = 2 → d = 0 → s.clk.frame * 9375 + rxDelay s.objs l ≤ x.sched * 9375 →
        (x.sched - s.clk.frame) * 9375 ≤ 2 * playoutDepth s.objs l + 4 * 2 ^ k * 9375 →
        ∃ t, exec (.ecpriIqMessage l f) s = .next t ∧
          getIn t code = { x with expected := (f.seq + 1) % 256, lastAt := s.time, queue := x.queue ++ xs, sched := x.sched + 4 * 2 ^ k } ∧
          (getDn t l).accepted = inc32 (getDn s l).accepted ∧ (∀ c, c ≠ l → getDn t c = getDn s c) ∧
          t = { s with links := t.links, flt := t.flt, tally := t.tally }) ∧
      (x.st = 2 → 1 ≤ d → d ≤ 127 →
        ∃ t, exec (.ecpriIqMessage l f) s = .next t ∧ (getIn t code).expected = (f.seq + 1) % 256 ∧
          (getDn t l).missing = sat32 ((getDn s l).missing + d) ∧
          (getDn t l).accepted = inc32 (getDn s l).accepted ∧ (∀ c, c ≠ l → getDn t c = getDn s c) ∧
          t = { s with links := t.links, chans := t.chans, buses := t.buses, mutes := t.mutes, flt := t.flt, tally := t.tally, out := t.out }) ∧
      (x.st = 2 → 128 ≤ d →
        ∃ t, exec (.ecpriIqMessage l f) s = .next t ∧ getIn t code = { x with lastAt := s.time } ∧ (getDn t l).late = inc32 (getDn s l).late ∧
          (getDn t l).accepted = inc32 (getDn s l).accepted ∧ t = { s with links := t.links, flt := t.flt, tally := t.tally })) ∧
    (∀ n, n < 96 → (streamRate s.objs (streamCode 1 l n) 2).isSome = true → ∀ seq xs rest, (getOut s (streamCode 1 l n)).items = (seq, xs) :: rest →
      ∃ t, exec (.ecpriEgressMessage l n) s = .next t ∧ t.out = s.out ++ [.dnFrame l (iqFrame s l n seq xs)] ∧
        getOut t (streamCode 1 l n) = { getOut s (streamCode 1 l n) with items := rest } ∧
        (∀ k, k ≠ l → getDn t k = getDn s k) ∧ t = { s with links := t.links, out := t.out })

/-- ECPRI_DELAY_REQUEST, ECPRI_REMOTE_DELAY_REQUEST, ECPRI_DELAY_RESPONSE, DELAY_REQUEST, DELAY_RESPONSE_TIMEOUT: a
Request is answered with a Response at the time of type 5 messages, a Remote Request with a Request; the manager's
measurement sends a Request, its Response gives t2 − t1 + compensation, and without one it times out after 100 ms; a
message with a word of bad parity is counted and discarded. Where the spec leaves a reading open the model takes
that of log 24 and 45. -/
def Obligations.DelayMeasurements : Prop :=
  ∀ (s : State) (l : Nat), l < 16 →
    let p := getDn s l
    (∀ f, coreRuns s = true → dnUp s l = true → dnAccepts s l f = true → f.msgType = 5 → flushPending s 2 l = false → f.bad = [] →
      (f.action = 0 → ∃ t, exec (.ecpriDelayRequest l f) s = .next t ∧ t.out = s.out ++ [.dnFrame l (delayFrame s l f.measId 2 (stampNow s))] ∧
        getDn t l = { p with accepted := inc32 p.accepted } ∧ t = { s with links := t.links, out := t.out }) ∧
      (f.action = 3 → ∃ t, exec (.ecpriRemoteDelayRequest l f) s = .next t ∧ t.out = s.out ++ [.dnFrame l (delayFrame s l f.measId 0 (stampNow s))] ∧
        getDn t l = { p with accepted := inc32 p.accepted, measId := f.measId % 256 } ∧ t = { s with links := t.links, out := t.out }) ∧
      (f.action = 2 → p.delaySt = 1 → p.reqId = f.measId →
        ∃ t, exec (.ecpriDelayResponse l f) s = .next t ∧
          getDn t l = { p with accepted := inc32 p.accepted, delaySt := 2, delay := satSigned 32 ((f.stamp : Int) - p.reqStamp + f.comp) } ∧
          (∀ k, k ≠ l → getDn t k = getDn s k) ∧ t = { s with links := t.links, tally := t.tally })) ∧
    (∀ f c, c ∈ [Instr.ecpriDelayRequest l f, .ecpriRemoteDelayRequest l f, .ecpriDelayResponse l f] → coreRuns s = true → dnUp s l = true → dnAccepts s l f = true →
      f.msgType = 5 → flushPending s 2 l = false → f.bad ≠ [] →
      ∃ t, exec c s = .next t ∧ (getDn t l).accepted = inc32 p.accepted ∧ (getDn t l).discarded = inc32 p.discarded ∧
        (getDn t l).delaySt = p.delaySt ∧ (∀ k, k ≠ l → getDn t k = getDn s k) ∧ t = { s with links := t.links, flt := t.flt, tally := t.tally }) ∧
    (∀ m, mayWrite s m = true → coreRuns s = true → dnUp s l = true → dnMode s.objs l = 1 →
      ∃ t, exec (.delayRequest m l 1) s = .next t ∧
        getDn t l = { p with measId := (p.measId + 1) % 256, reqId := (p.measId + 1) % 256, delaySt := 1, reqStamp := stampNow s, reqAt := s.time } ∧
        t.out = s.out ++ [.dnFrame l (delayFrame s l ((p.measId + 1) % 256) 0 (stampNow s)), .reply m { opcode := 2, status := 0, index := 0x1905 + 8 * l, sub := 1 }] ∧
        t = { s with links := t.links, commit := t.commit, olp := t.olp, out := t.out } ∧ OnlyNotes s t) ∧
    (∀ m, mayWrite s m = true → dnUp s l = false ∨ dnMode s.objs l ≠ 1 →
      ∃ t, exec (.delayRequest m l 1) s = .next t ∧ answered t m (0x1905 + 8 * l) 1 0 ∧ t = { s with commit := t.commit, olp := t.olp, out := t.out } ∧ OnlyNotes s t) ∧
    (p.delaySt = 1 → p.reqAt + 100 * 32000000 ≤ s.time →
      ∃ t, exec (.delayResponseTimeout l) s = .next t ∧ getDn t l = { p with delaySt := 3 } ∧ (∀ k, k ≠ l → getDn t k = getDn s k) ∧
        t = { s with links := t.links, tally := t.tally })

/-- SUPERFRAME_RECEIVE, LANE_BLOCK_LOCK_LOSS, SUPERFRAME_TRANSMIT, THROUGH_REPEAT, CABLE_DELAY_MEASUREMENT on a lane
without a ring partner: the fourth good superframe in sequence brings a lane up and lets its lost streams acquire;
one in sequence on an up lane of no bond carries its streams; the sixteenth failure in a row, and a loss of block
lock, return it to aligning and lose its streams. What a lane sends is a good superframe laid out as Table 12.4: its
IQ blocks carry the oldest item of each stream as R302 places it, its trailer the quarters' flags, its relay blocks
what waits of the lane's messages. A through output only adds a hop and its own relay traffic, and drops one with a
poisoned trailer word. A cable delay exchange sends its timing message, and the delay is the mean of the last
sixteen. Where the spec leaves a reading open the model takes that of log 24 and 45. -/
def Obligations.ChainLanes : Prop :=
  ∀ (s : State) (l : Nat) (sf : Superframe) (drift : Int), l < 16 → coreRuns s = true → xlMode s.objs l = 1 → (getXl s l).restarting = false →
    let x := getXl s l
    let seq := bits sf.trailer.toNat 55 52
    let drain := relayDrain x.relayQ x.relayAt 23
    let relays (t : State) (y : Superframe) : Prop :=
      ((getXl t l).relayQ, (getXl t l).relayAt) = drain.2 ∧ (getXl t l).sent = sat32 (x.sent + drain.1.length) ∧
      ∀ i, i < 23 → (y.block (114 * (i / 6) + 108 + i % 6)).truncate 64 = (relaySlots x).getD i 0
    (superframeGood sf = true → seq = (x.rxSeq + 1) % 16 → x.up = false → x.good = 3 →
      ∃ t, exec (.superframeReceive l sf drift) s = .next t ∧ (getXl t l).up = true ∧ (getXl t l).locked = true ∧ (getXl t l).rxSeq = seq ∧
        (getXl t l).hops = bits sf.trailer.toNat 23 16 ∧
        (∀ n, n ∈ portStreams s.objs 2 l 1 → (getIn t (streamCode 2 l n)).st =
          if (getIn s (streamCode 2 l n)).st = 3 then 1 else (getIn s (streamCode 2 l n)).st) ∧
        (ringPartner s l = none → ∀ k, k ≠ l → getXl t k = getXl s k) ∧
        t = { s with links := t.links, chans := t.chans, buses := t.buses, mutes := t.mutes, tally := t.tally, out := t.out, free := t.free }) ∧
    (superframeGood sf = true → flushPending s 4 l = false → seq = (x.rxSeq + 1) % 16 → x.up = true → x.bad < 16 → ringPartner s l = none →
      drift = x.driftBase → x.phase ≤ 29297 → cfgNat s.objs (xlObj l 0) 2 = 0xFF → x.done = 0 ∨ x.done = x.rxIdx →
      ∃ t, exec (.superframeReceive l sf drift) s = .next t ∧ (getXl t l).rxSeq = seq ∧ (getXl t l).crcFail = x.crcFail ∧ (getXl t l).bad = 0 ∧
        (∀ n, n ∈ portStreams s.objs 2 l 1 → (getIn t (streamCode 2 l n)).st = 2 ∧
          ((getIn s (streamCode 2 l n)).st = 2 → s.clk.frame ≤ (getIn s (streamCode 2 l n)).sched →
            (getIn t (streamCode 2 l n)).queue = (getIn s (streamCode 2 l n)).queue ++
              streamOfQuarters (usableQuarters sf true) (trailerFlags sf true) (xlSlotRate s.objs l 1 (n % 3)) n)) ∧
        (∀ k, k ≠ l → getXl t k = getXl s k) ∧ t = { s with links := t.links, flt := t.flt, tally := t.tally }) ∧
    (superframeGood sf = false → x.up = true → x.bad = 15 → ringPartner s l = none →
      ∃ t, exec (.superframeReceive l sf drift) s = .next t ∧ (getXl t l).up = false ∧ (getXl t l).crcFail = inc32 x.crcFail ∧ xlState t l = 2 ∧
        (∀ n, n ∈ portStreams s.objs 2 l 1 → (getIn t (streamCode 2 l n)).st = 3) ∧ (∀ k, k ≠ l → getXl t k = getXl s k) ∧
        t = { s with chans := t.chans, buses := t.buses, mutes := t.mutes, links := t.links, tally := t.tally, out := t.out }) ∧
    (x.up = true → ringPartner s l = none →
      ∃ t, exec (.laneBlockLockLoss l) s = .next t ∧ (getXl t l).up = false ∧ (getXl t l).locked = x.locked ∧ (x.locked = true → xlState t l = 2) ∧
        (∀ n, n ∈ portStreams s.objs 2 l 1 → (getIn t (streamCode 2 l n)).st = 3) ∧ (∀ k, k ≠ l → getXl t k = getXl s k) ∧
        t = { s with chans := t.chans, buses := t.buses, mutes := t.mutes, links := t.links, tally := t.tally, out := t.out }) ∧
    (16 ≤ cfgNat s.objs (xlObj l 0) 3 → x.txDone < (s.clk.frame + 1) / 4 →
      ∃ t blocks, exec (.superframeTransmit l) s = .next t ∧ t.out = s.out ++ [.superframe l blocks] ∧
        (let y : Superframe := { blocks };
          superframeGood y = true ∧ blocks.length = 456 + idleBlocks ((s.clk.frame + 1) / 4) ∧ relays t y ∧
          (∀ j c, j < 3 → c < 288 → xlSlotRate s.objs l 2 j ≤ 5 →
            let k := xlSlotRate s.objs l 2 j;
            let half := 32 * (1 - c % 2);
            bits (y.iq.getD (108 * (c / 72) + 3 * (c % 72 / 2) + j) 0).toNat (half + 31) half =
              positionWord ((egressShare s (streamCode 2 l (j + 3 * (c % 2 ^ k)))).getD (c / 2 ^ k) {})) ∧
          (∀ n, n < 12 → let part := ((slotPositions s l (n % 3)).drop (72 * (n / 3))).take 72;
            bit y.trailer.toNat (47 - 2 * n) = part.any (·.poison) ∧
            bit y.trailer.toNat (46 - 2 * n) = part.any (fun p => p.settle || p.invalid)) ∧
          bits y.trailer.toNat 55 52 = x.txSeq % 16 ∧ bits y.trailer.toNat 23 16 = 0) ∧
        (getXl t l).txSeq = (x.txSeq + 1) % 16 ∧ (getXl t l).txDone = (s.clk.frame + 1) / 4 ∧
        (∀ n, n ∈ portStreams s.objs 2 l 2 → (getOut t (streamCode 2 l n)).items = (getOut s (streamCode 2 l n)).items.tail) ∧
        (∀ k, k ≠ l → getXl t k = getXl s k) ∧ t = { s with links := t.links, out := t.out }) ∧
    (cfgNat s.objs (xlObj l 0) 3 < 16 → xlMode s.objs (cfgNat s.objs (xlObj l 0) 3) = 1 → flushPending s 6 l = false →
      (∃ o, (432, o) ∈ sf.bad) →
      ∃ t, exec (.throughRepeat l sf) s = .next t ∧ t.out = s.out ∧ ((getXl t l).relayQ, (getXl t l).relayAt) = drain.2 ∧
        (getXl t l).sent = sat32 (x.sent + drain.1.length) ∧
        (∀ k, k ≠ l → getXl t k = getXl s k) ∧ t = { s with links := t.links, flt := t.flt, tally := t.tally }) ∧
    (cfgNat s.objs (xlObj l 0) 3 < 16 → xlMode s.objs (cfgNat s.objs (xlObj l 0) 3) = 1 → flushPending s 6 l = false → sf.bad = [] →
      ∃ t blocks, exec (.throughRepeat l sf) s = .next t ∧ t.out = s.out ++ [.superframe l blocks] ∧
        (let y : Superframe := { blocks };
          y.iq = sf.iq ∧ y.formed = true ∧ relays t y ∧
          bits y.trailer.toNat 23 16 = min 255 (bits sf.trailer.toNat 23 16 + 1) ∧ bits y.trailer.toNat 55 24 = bits sf.trailer.toNat 55 24 ∧
          bits y.trailer.toNat 15 0 = bits sf.trailer.toNat 15 0) ∧
        (∀ k, k ≠ l → getXl t k = getXl s k) ∧ t = { s with links := t.links, out := t.out }) ∧
    (∀ roundTrip turnaround, x.up = true →
      let msg : RelayMsg := { dst := x.neighbour, src := ownAddr s, hop := cfgNat s.objs 0x1A80 2, typ := 1, ident := s.links.nextId,
                              payload := Config.timingPayload s.time }
      let xs := ((roundTrip - turnaround) / 2 :: x.exchanges).take 16
      ∃ t, exec (.cableDelayMeasurement l roundTrip turnaround) s = .next t ∧
        getXl t l = { relayPut x msg with cable := min 0xFFFFFFFF (sumMap xs id / xs.length), exchanges := xs } ∧
        (∀ k, k ≠ l → getXl t k = getXl s k) ∧ t = { s with links := t.links })

/-- RELAY_MESSAGE_RECEIVE, HELLO_SEND, RELAY_ADDRESS_AGE_OUT: the blocks that a message is sent in spell it; blocks
that spell none, and a bad or repeated message, are dropped; one accepted is remembered and its source's lane
learned; a hello names the neighbour; a timing message that calls for an answer has it; a response to this device
goes to the manager that waits for it; a message for another device goes on, its hop limit lowered, into the queue
of the learned lane or of every other path, or is dropped where a queue is full; one whose hop limit ends is
dropped. Each up lane is given its hello; an address unseen for 60 s is forgotten. Where the spec leaves a reading
open the model takes that of log 34. -/
def Obligations.Relay : Prop :=
  ∀ (s : State),
    (∀ msg : RelayMsg, msg.dst < 65536 → msg.src < 65536 → msg.hop < 256 → msg.typ < 256 → msg.ident < 65536 → msg.payload.length < 65536 →
      relayParse (relayWords msg) = some msg) ∧
    (∀ lane blocks, lane ∈ lanesUp s →
      (∀ offset,
        ∃ t, exec (.relayMessageReceive lane blocks (some offset)) s = .next t ∧
          getXl t lane = { getXl s lane with dropped := inc32 (getXl s lane).dropped, parityUntil := 32000000 + s.time } ∧
          smGet 0 t.flt.parity 6 = inc32 (smGet 0 s.flt.parity 6) ∧ (∀ k, k ≠ lane → getXl t k = getXl s k) ∧
          t = { s with links := t.links, flt := t.flt, tally := t.tally }) ∧
      (relayParse blocks = none →
        ∃ t, exec (.relayMessageReceive lane blocks none) s = .next t ∧ getXl t lane = { getXl s lane with dropped := inc32 (getXl s lane).dropped } ∧
          (∀ k, k ≠ lane → getXl t k = getXl s k) ∧ t = { s with links := { s.links with xl := t.links.xl } }) ∧
      (∀ msg, relayParse blocks = some msg →
        (msg.crc ≠ relayCrc msg ∨ (msg.src, msg.ident) ∈ s.links.recent →
          ∃ t, exec (.relayMessageReceive lane blocks none) s = .next t ∧ getXl t lane = { getXl s lane with dropped := inc32 (getXl s lane).dropped } ∧
            (∀ k, k ≠ lane → getXl t k = getXl s k) ∧ t = { s with links := { s.links with xl := t.links.xl } }) ∧
        (msg.crc = relayCrc msg → (msg.src, msg.ident) ∉ s.links.recent → s.links.learned.length < 256 →
          (msg.typ = 2 →
            ∃ t, exec (.relayMessageReceive lane blocks none) s = .next t ∧ learnedAt t msg.src = (lane, s.time) ∧
              getXl t lane = { getXl s lane with neighbour := fieldAt msg.payload 0 2, neighLane := fieldAt msg.payload 2 1 } ∧
              (∀ k, k ≠ lane → getXl t k = getXl s k) ∧ t.links.recent = ((msg.src, msg.ident) :: s.links.recent).take 64 ∧ t = { s with links := t.links }) ∧
          (msg.typ = 1 →
            ∃ t, exec (.relayMessageReceive lane blocks none) s = .next t ∧ learnedAt t msg.src = (lane, s.time) ∧
              (Config.timingAnswer msg.payload = none → t.links.xl = s.links.xl) ∧
              (∀ bytes, Config.timingAnswer msg.payload = some bytes → getXl t lane = relayPut (getXl s lane)
                { dst := msg.src, src := ownAddr s, hop := cfgNat s.objs 0x1A80 2, typ := 1, ident := s.links.nextId, payload := bytes }) ∧
              (∀ k, k ≠ lane → getXl t k = getXl s k) ∧ t = { s with links := t.links }) ∧
          (msg.typ = 0 → isOwnAddr s msg.dst = true → bit (olpHeader msg.payload).flags 7 = true →
            let h := olpHeader msg.payload
            ∀ w, (s.olp.waiting.find? fun w => w.device == h.device && w.m == h.m && w.session == h.session && w.seq == h.seq) = some w → w.origin.port < 2 →
              ∃ t, exec (.relayMessageReceive lane blocks none) s = .next t ∧ learnedAt t msg.src = (lane, s.time) ∧ t.links.xl = s.links.xl ∧
                t = { s with links := t.links, olp := { s.olp with waiting := s.olp.waiting.erase w }, out := s.out ++ [.olp w.origin msg.payload] }) ∧
          (msg.typ = 0 → isOwnAddr s msg.dst = false → msg.dst ≠ msg.src →
            let lanes := relayLanes s msg.dst (some lane)
            let next : RelayMsg := { msg with hop := msg.hop - 1 }
            (1 < msg.hop →
              ∃ t, exec (.relayMessageReceive lane blocks none) s = .next t ∧ learnedAt t msg.src = (lane, s.time) ∧
                (∀ k, k ∈ lanes → getXl t k = relayPut (getXl s k) next ∧
                  ((getXl s k).relayQ = [] → (getXl t k).relayQ = [{ next with crc := relayCrc next }])) ∧
                (∀ k, k ∉ lanes → getXl t k = getXl s k) ∧ t = { s with links := t.links }) ∧
            (msg.hop ≤ 1 →
              ∃ t, exec (.relayMessageReceive lane blocks none) s = .next t ∧ (getXl t lane).dropped = inc32 (getXl s lane).dropped ∧
                (∀ k, k ≠ lane → getXl t k = getXl s k) ∧ t = { s with links := t.links }))))) ∧
    (∃ t, exec .helloSend s = .next t ∧
      (∀ k, k ∈ lanesUp s →
        let i := (lanesUp s).idxOf k
        let msg : RelayMsg := { dst := 0xFFFF, src := ownAddr s, hop := cfgNat s.objs 0x1A80 2, typ := 2, payload := beBytes 2 (ownAddr s) ++ beBytes 1 k,
                                ident := if i = 0 then s.links.nextId else (s.links.nextId + i) % 65536 }
        getXl t k = relayPut (getXl s k) msg ∧ ((getXl s k).relayQ = [] → (getXl t k).relayQ = [{ msg with crc := relayCrc msg }])) ∧
      (∀ k, k ∉ lanesUp s → getXl t k = getXl s k) ∧ t = { s with links := t.links }) ∧
    (∀ addr, (learnedAt s addr).1 < 16 → (learnedAt s addr).2 + 60000 * 32000000 ≤ s.time →
      ∃ t, exec (.relayAddressAgeOut addr) s = .next t ∧ learnedAt t addr = (255, 0) ∧ (∀ a, a ≠ addr → learnedAt t a = learnedAt s a) ∧
        t = { s with links := t.links })

/-! ### Chapter 13: capture, marks, export, replay; chapter 19: FRAME_SYNC_OUT -/

/-- CAPTURE_START, CAPTURE_STOP, CAPTURE_PAGE_WRITE: a run starts with every active source at the next boundary, is
refused with 0x05 without sources and with 0x0C while the store is unavailable; a stop closes every source; a
completed page is written at the write pointer under its page sequence with a CRC that holds, or dropped and counted
on overflow. Where the spec leaves a reading open the model takes that of log 20 and 41. -/
def Obligations.CaptureRuns : Prop :=
  ∀ (s : State),
    (∀ m, mayWrite s m = true → capEntries s.objs ≠ [] → (sumMap (capEntries s.objs) fun e => srcUnits s.objs e.2) ≤ admittedLimit s →
      s.cap.restarting = false →
      (s.cap.st = 0 ∨ s.cap.st = 2 →
        ∃ t, exec (.captureStart m 1) s = .next t ∧ t.cap = { s.cap with st := 1, run := (s.cap.run + 1) % 2 ^ 32, srcs := t.cap.srcs, fitLimit := admittedLimit s, fitCosts := t.cap.fitCosts } ∧
          (∀ e, e ∈ capEntries s.objs → srcActive s.objs e.2 = true →
            (getSrc t e.1).on = true ∧ (getSrc t e.1).startFrame = s.clk.frame + 1 ∧ (getSrc t e.1).count = 0 ∧ (getSrc t e.1).buf = []) ∧
          answered t m 0x1800 1 0 ∧ t = { s with cap := t.cap, commit := t.commit, olp := t.olp, out := t.out } ∧ OnlyNotes s t) ∧
      (s.cap.st = 3 → ∃ t, exec (.captureStart m 1) s = .next t ∧ answered t m 0x1800 1 0x0C ∧ t = { s with commit := t.commit, olp := t.olp, out := t.out } ∧ OnlyNotes s t)) ∧
    (∀ m, mayWrite s m = true → capEntries s.objs = [] →
      ∃ t, exec (.captureStart m 1) s = .next t ∧ answered t m 0x1800 1 0x05 ∧ t = { s with commit := t.commit, olp := t.olp, out := t.out } ∧ OnlyNotes s t) ∧
    (∀ m, mayWrite s m = true → s.cap.st = 1 →
      ∃ t, exec (.captureStop m 2) s = .next t ∧ t.cap = { s.cap with st := 0, srcs := t.cap.srcs, ready := t.cap.ready } ∧
        (∀ x, x ∈ s.cap.ready → x ∈ t.cap.ready) ∧
        (∀ e, e ∈ capEntries s.objs → (getSrc t e.1).on = false ∧
          ((getSrc s e.1).on = true → (getSrc s e.1).buf ≠ [] → ∃ p, (e.1, p) ∈ t.cap.ready)) ∧
        answered t m 0x1800 1 0 ∧ t = { s with cap := t.cap, commit := t.commit, olp := t.olp, out := t.out } ∧ OnlyNotes s t) ∧
    (∀ e p rest, s.cap.ready = (e, p) :: rest → coreRuns s = true → s.cap.st < 2 → s.cap.restarting = false →
      (∃ t, exec (.capturePageWrite e false true) s = .next t ∧ t.cap = { s.cap with ready := rest, dropped := inc32 s.cap.dropped } ∧
        eventActive t 265 = true ∧ t = { s with cap := t.cap, flt := t.flt }) ∧
      (p.length = 1024 → s.cap.marks = [] → s.cap.pageSeq < 2 ^ 64 →
        ∃ t q, exec (.capturePageWrite e false false) s = .next t ∧ smGet [] t.cap.ring s.cap.wptr = q ∧ pageCrcOk q = true ∧
          pageSeqOf q = s.cap.pageSeq ∧ q.drop 16 = p.drop 16 ∧ (∀ i, i ≠ s.cap.wptr → smGet [] t.cap.ring i = smGet [] s.cap.ring i) ∧
          t = { s with cap := { s.cap with ready := rest, ring := t.cap.ring, wptr := (s.cap.wptr + 1) % max 1 (ringPages s),
                                           pageSeq := s.cap.pageSeq + 1, written := s.cap.written + 1 } }))

/-- MARK_WRITE, MANUAL_TRIGGER, EXPORT_SELECT, EXPORT_PAGE_SEND: a mark is replaced; a plain one is complete at once
in a run; a manual trigger fires an armed mark at this frame; a live export begins at the next page; a port sends
its next page as four frames of 256 words, each behind the export header, live or from the region of a complete
mark. Where the spec leaves a reading open the model takes that of log 20. -/
def Obligations.MarksAndExport : Prop :=
  ∀ (s : State) (m : Nat), mayWrite s m = true →
    (∀ k, k < 16 →
      (∃ t, exec (.markWrite m k 0) s = .next t ∧ getMark t k = { firings := (getMark s k).firings } ∧ answered t m (0x1820 + k) 1 0 ∧
        (∀ j, j ≠ k → getMark t j = getMark s j) ∧ t = { s with objs := t.objs, cap := t.cap, commit := t.commit, olp := t.olp, out := t.out } ∧ OnlyNotes s t) ∧
      (s.cap.st = 1 → ∃ t, exec (.markWrite m k 0x40000000) s = .next t ∧
        getMark t k = { st := 3, guard := s.cap.wptr, firings := (getMark s k).firings } ∧ answered t m (0x1820 + k) 1 0) ∧
      (∃ t, exec (.markWrite m k 0x80000000) s = .next t ∧ getMark t k = { st := 1, firings := (getMark s k).firings } ∧ answered t m (0x1820 + k) 1 0 ∧
        (s.cap.st = 1 → markArmed t 0 k = true)) ∧
      (markArmed s 0 k = true →
        ∃ t, exec (.manualTrigger m k 1) s = .next t ∧ (getMark t k).st = 2 ∧ (getMark t k).trigger = s.clk.frame ∧
          (getMark t k).guard = guardPage s s.clk.frame (cfgNat s.objs (0x1820 + k) 2) ∧ (getMark t k).firings = inc32 (getMark s k).firings ∧
          (∀ j, j ≠ k → getMark t j = getMark s j) ∧ answered t m (0x1820 + k) 9 0 ∧
          t = { s with cap := t.cap, tally := t.tally, commit := t.commit, olp := t.olp, out := t.out } ∧ OnlyNotes s t) ∧
      (markArmed s 0 k = false → ∃ t, exec (.manualTrigger m k 1) s = .next t ∧ answered t m (0x1820 + k) 9 0 ∧
        t = { s with commit := t.commit, olp := t.olp, out := t.out } ∧ OnlyNotes s t)) ∧
    (∀ l, l < 16 →
      (∃ t, exec (.exportSelect m l 0) s = .next t ∧ getExport t l = { getExport s l with st := 1, next := s.cap.pageSeq } ∧
        cfgNat t.objs (0x1840 + l) 1 = 0 ∧ answered t m (0x1840 + l) 1 0 ∧ t = { s with objs := t.objs, cap := t.cap, commit := t.commit, olp := t.olp, out := t.out } ∧ OnlyNotes s t) ∧
      (∃ t, exec (.exportSelect m l 0xFFFFFFFF) s = .next t ∧ getExport t l = { getExport s l with st := 0 } ∧ answered t m (0x1840 + l) 1 0) ∧
      (∀ p, smGet [] s.cap.ring ((getExport s l).next % max 1 (ringPages s)) = p → p ≠ [] →
        coreRuns s = true → dnUp s l = true → dnMode s.objs l = 2 → s.cap.st ≠ 3 → s.cap.restarting = false →
        (getExport s l).st = 1 → (getExport s l).next < s.cap.pageSeq → s.cap.pageSeq ≤ (getExport s l).next + ringPages s →
        ∃ t, exec (.exportPageSend l) s = .next t ∧
          t.out = s.out ++ (List.range 4).map (fun f => .dnFrame l (ethFrame s l 0x88B5 (beBytes 4 (pageWord p 2) ++ beBytes 1 f ++ [0, 0, 0] ++
            ((p.drop (256 * f)).take 256).flatMap fun w => beBytes 4 w.toNat))) ∧
          getExport t l = { getExport s l with next := (getExport s l).next + 1, sent := inc32 (getExport s l).sent } ∧
          (∀ j, j ≠ l → getExport t j = getExport s j) ∧ t = { s with cap := { s.cap with exports := t.cap.exports }, out := t.out }) ∧
      (∀ p, smGet [] s.cap.ring (((getMark s (getExport s l).mark).guard + (getExport s l).next) % max 1 (ringPages s)) = p → p ≠ [] →
        coreRuns s = true → dnUp s l = true → dnMode s.objs l = 2 → s.cap.st ≠ 3 → s.cap.restarting = false →
        (getExport s l).st = 2 → (getExport s l).last = 0 → (getMark s (getExport s l).mark).st = 3 ∨ (getMark s (getExport s l).mark).st = 5 →
        (getExport s l).next < (getMark s (getExport s l).mark).region →
        let final := (getExport s l).next + 1 == (getMark s (getExport s l).mark).region
        ∃ t, exec (.exportPageSend l) s = .next t ∧
          t.out = s.out ++ (List.range 4).map (fun f => .dnFrame l (ethFrame s l 0x88B5 (beBytes 4 (pageWord p 2) ++ beBytes 1 f ++ beBytes 1 (b2n final) ++ [0, 0] ++
            ((p.drop (256 * f)).take 256).flatMap fun w => beBytes 4 w.toNat))) ∧
          getExport t l = { getExport s l with
            next := (getExport s l).next + 1, sent := inc32 (getExport s l).sent, last := (getMark s (getExport s l).mark).region
            st := if final then 3 else 2 } ∧
          (∀ j, j ≠ l → getExport t j = getExport s j) ∧ t = { s with cap := { s.cap with exports := t.cap.exports }, out := t.out }))

/-- REPLAY_START, REPLAY_STOP, REPLAY_END: in QUIET a recording of a complete mark is replayed into an active side
of its own rate from its first sample; a stop ends it in state 3, its last sample in state 2. DDR_CHANNEL_FAILURE,
FRAME_SYNC_OUT_PULSE, FRAME_SYNC_OUT_PULSE_END: a failed channel makes the store unavailable, a read-back failure is
counted and raises its source; the pin rises at an instant of the 10 ms grid and falls 1 µs on. Where the spec
leaves a reading open the model takes that of log 20. -/
def Obligations.ReplaysAndStoreFailure : Prop :=
  (
  ∀ (s : State) (r : Nat), r < 8 →
    let ctl := cfgNat s.objs (0x1830 + r) 3
    let g := cfgNat s.objs (0x1830 + r) 2
    let k := bits ctl 31 24
    let pages := (regionRing s k).filter fun p => pageCode p.2 == bits ctl 15 0
    (∀ m, mayWrite s m = true → s.life.power = .quiet → ctl ≠ 0xFFFFFFFF → (getMark s k).st = 3 ∨ (getMark s k).st = 5 →
      srcKind (bits ctl 15 0) = 4 ∨ srcKind (bits ctl 15 0) = 5 → srcNum (bits ctl 15 0) < 768 → g < 768 → ∀ p rest, pages = p :: rest →
      bits (pageWord p.2 7) 31 24 = kOf s.objs g → txActive s.objs g = true →
      ddrTraffic s + 99864 / 2 ^ kOf s.objs g ≤ 4000000 * ddrCount s →
      ∃ t, exec (.replayStart m r 1) s = .next t ∧ (getReplay t r).st = 1 ∧ (getReplay t r).mode = 0 ∧ (getReplay t r).target = g ∧
        (getReplay t r).mark = k ∧ (getReplay t r).rest = pages.flatMap (fun p => pageSamples p.2) ∧ (getReplay t r).all = (getReplay t r).rest ∧
        (∀ j, j ≠ r → getReplay t j = getReplay s j) ∧ answered t m (0x1830 + r) 1 0 ∧ t.cap = { s.cap with replays := t.cap.replays, crcFails := t.cap.crcFails } ∧
        ((∀ q, q ∈ pages → pageCrcOk q.2 = true) → t.cap.crcFails = s.cap.crcFails ∧ t.flt = s.flt) ∧
        (∀ q, q ∈ pages → pageCrcOk q.2 = false → eventActive t (260 + pageChannel s q.1) = true) ∧
        t = { s with cap := t.cap, flt := t.flt, tally := t.tally, commit := t.commit, olp := t.olp, out := t.out } ∧ OnlyNotes s t) ∧
    ((getReplay s r).st = 1 →
      (∀ m, mayWrite s m = true →
        ∃ t, exec (.replayStop m r 2) s = .next t ∧ getReplay t r = { getReplay s r with st := 3, rest := [], all := [] } ∧
          (∀ j, j ≠ r → getReplay t j = getReplay s j) ∧ answered t m (0x1830 + r) 1 0 ∧
          t = { s with cap := t.cap, tally := t.tally, commit := t.commit, olp := t.olp, out := t.out } ∧ OnlyNotes s t) ∧
      ((getReplay s r).rest = [] → replayLoops s r = false →
        ∃ t, exec (.replayEnd r) s = .next t ∧ getReplay t r = { getReplay s r with st := 2, rest := [], all := [] } ∧
          (∀ j, j ≠ r → getReplay t j = getReplay s j) ∧ t = { s with cap := t.cap, tally := t.tally }))) ∧
  (
  ∀ (s : State),
    (∀ n, s.life.power ≠ .off → bit s.cap.channels n = true →
      (∃ t, exec (.ddrChannelFailure n true) s = .next t ∧ t.cap.st = 3 ∧ t.cap.ready = [] ∧ n ∈ t.cap.ddrFailed ∧ (∀ k, getMark t k = { firings := (getMark s k).firings }) ∧
        (∀ r, r < 8 → (getReplay t r).st ≠ 1) ∧ t.cap.ring = s.cap.ring ∧ t = { s with cap := t.cap, tally := t.tally }) ∧
      (∃ t, exec (.ddrChannelFailure n false) s = .next t ∧ t.cap = { s.cap with crcFails := inc32 s.cap.crcFails, ring := t.cap.ring } ∧
        (∀ i, pageChannel s i ≠ n → smGet [] t.cap.ring i = smGet [] s.cap.ring i) ∧
        eventActive t (260 + n) = true ∧ t = { s with cap := t.cap, flt := t.flt, free := t.free })) ∧
    (coreClock s = true → (∃ i, s.clk.frame * 72 ≤ i * 2457600 ∧ i * 2457600 < (s.clk.frame + 1) * 72) → s.pins.syncOut = false →
      exec .frameSyncOutPulse s = .next { s with pins := { s.pins with syncOut := true, syncOutAt := s.time } }) ∧
    ((¬ ∃ i, s.clk.frame * 72 ≤ i * 2457600 ∧ i * 2457600 < (s.clk.frame + 1) * 72) → exec .frameSyncOutPulse s = .next s) ∧
    (s.pins.syncOut = true → s.pins.syncOutAt + 32000 ≤ s.time →
      exec .frameSyncOutPulseEnd s = .next { s with pins := { s.pins with syncOut := false } }))

/-! ### Chapters 1, 3, 4, 5 and 7: frames, resets, filters, Nines, the canceller -/

/-- The arithmetic of every stage: the quotient is the accumulator over 2^m rounded to the nearest, halves up, and
the output is that quotient saturated to 16 bits; it goes with the residue 127 where it saturated, else with the
quotient's. The check passes on undamaged arithmetic; an error in the accumulator is missed exactly where it is a
multiple of 255, and an inverted saturation indicator never is. A sample computed from a poisoned one is a poisoned
zero. Where the spec leaves a reading open the model takes that of log 6 and 37. -/
def Obligations.StageArithmetic : Prop :=
  ∀ (m : Nat) (acc : Int), m ≤ 32 →
    (1 ≤ m → roundQ m acc * 2 ^ m ≤ acc + 2 ^ (m - 1) ∧ acc + 2 ^ (m - 1) < (roundQ m acc + 1) * 2 ^ m) ∧ (m = 0 → roundQ m acc = acc) ∧
    -32768 ≤ sat16 (roundQ m acc) ∧ sat16 (roundQ m acc) ≤ 32767 ∧
    (-32768 ≤ roundQ m acc → roundQ m acc ≤ 32767 → sat16 (roundQ m acc) = roundQ m acc) ∧
    (let out := decide (roundQ m acc > 32767 ∨ roundQ m acc < -32768)
     formPart m { val := acc, res := residue acc } {} =
       { out := sat16 (roundQ m acc), res := if out then 127 else residue (roundQ m acc), sat := out, ok := true }) ∧
    (∀ err, (formPart m { val := acc, res := residue acc } { err }).ok = true ↔ (255 : Int) ∣ err) ∧
    (∀ err, (formPart m { val := acc, res := residue acc } { err, flip := true }).ok = false) ∧
    (∀ a stage p tags sub, tags.poison = true → formSmp a stage m p tags sub = (poisoned tags, {}))

/-- RECKONER_FRAME: a frame of 9,375 time units passes and the frame count moves on; configuration, licence, the
Sentinel's and the thermal unit's state and the pins stay. While the core runs the receive block computed last moves
on to the Crossbar, and the routes that some path names keep a reference; in SHUTDOWN the datapath stands still;
with the core clock absent nothing moves. POWER_DETECTOR_WINDOW, CHECK_INJECTION, ROD_DIE_EXIT_FAILURE: the oldest
completed window's power is published and sets or clears the high and the low state by threshold and hysteresis; a
check injection is stored for the next block; a block whose failed exit check is reported is counted, recorded with
stage 0x0E, and becomes zeros in the channel reference. Where the spec leaves a reading open the model takes that of
log 35, 40 and 41. -/
def Obligations.FramesAndChecks : Prop :=
  (
  ∀ (s : State) (inp : FrameInput),
    (coreClock s = true →
      ∃ t, exec (.reckonerFrame inp) s = .next t ∧ t.time = s.time + 9375 ∧ t.clk = { s.clk with frame := s.clk.frame + 1 } ∧
        t.objs = s.objs ∧ t.lic = s.lic ∧ t.pins = s.pins ∧ t.therm = s.therm ∧ t.sent = s.sent ∧ t.resets = [] ∧
        (s.life.power ≠ .shutdown → t.routeRefs.map (·.1) = referencedRoutes s.objs ∧
          ((s.slots.map (·.1)).Nodup → ∀ g, (getSlot t g).rxXbar = (getSlot s g).rxHold)) ∧
        (s.life.power = .shutdown → t.slots = s.slots ∧ t.rods = s.rods ∧ t.routeRefs = s.routeRefs ∧ t.combSat = s.combSat ∧
          t.links = s.links ∧ t.prot = s.prot ∧ t.gov = s.gov)) ∧
    (coreClock s = false → exec (.reckonerFrame inp) s = .next s)) ∧
  (
  ∀ (s : State) (ch : Nat), ch < 96 →
    (∀ g, g / 8 = ch → ∀ sum a rest, (getSlot s g).detDone = (sum, a) :: rest → rxActive s.objs g = true →
      let p := carrierPower sum a
      let set (i : Nat) : Int := cfgVal s.objs (0x3000 + 16 * ch + 0xA) (g % 8 + i)
      ∃ t, exec (.powerDetectorWindow g) s = .next t ∧
        getSlot t g = { getSlot s g with
          detDone := rest, power := p
          high := if set 1 = -32768 then false else if set 1 ≤ p then true else if p ≤ set 1 - set 9 then false else (getSlot s g).high
          low := if set 0x11 = -32768 then false else if p ≤ set 0x11 then true else if set 0x11 + set 0x19 ≤ p then false else (getSlot s g).low } ∧
        (∀ g', g' ≠ g → getSlot t g' = getSlot s g') ∧ t = { s with slots := t.slots, cap := t.cap, tally := t.tally }) ∧
    (∀ m v, mayWrite s m = true → s.life.power = .hold ∨ s.life.power = .quiet → 1 ≤ v / 256 → v / 256 ≤ 0x0C → v % 256 ≤ 2 →
      ∃ t, exec (.checkInjection m ch v) s = .next t ∧ (getChan t ch).nines = { (getChan s ch).nines with inject := v } ∧
        answered t m (0x3000 + 16 * ch + 0xE) 0xC 0 ∧ (∀ c, c ≠ ch → getChan t c = getChan s c) ∧
        t = { s with chans := t.chans, commit := t.commit, olp := t.olp, out := t.out } ∧ OnlyNotes s t) ∧
    (∀ frame, (ch, frame) ∈ s.exitReports →
      let pos := 72 * (s.clk.frame - frame)
      ∃ t, exec (.rodDieExitFailure ch frame) s = .next t ∧
        (getChan t ch).nines = { (getChan s ch).nines with exitFail := inc32 (getChan s ch).nines.exitFail, lastFail := 0xFF0E, lastFrame := frame } ∧
        eventActive t (192 + 6 * (ch / 16)) = true ∧ t.exitReports = s.exitReports.erase (ch, frame) ∧
        (∀ i, pos ≤ i → i < pos + 72 → (getChan t ch).ref.getD i {} = {}) ∧
        (∀ i, i < pos ∨ pos + 72 ≤ i → (getChan t ch).ref.getD i {} = (getChan s ch).ref.getD i {}) ∧
        (∀ c, c ≠ ch → getChan t c = getChan s c) ∧
        t = { s with chans := t.chans, rods := t.rods, exitReports := t.exitReports, flt := t.flt, tally := t.tally }))

/-- SLOT_RESET, CHANNEL_RESET, ROD_RESET: the slots that a reset names lose their filter histories, take their
phases from their offsets and their settling counts from the scope, and begin a new detector window; a reset of a
channel or a rod also empties the IQ correction's line and the canceller's tap lines; the boundary is kept as the
channel's last reset. SWAP_REQUEST, CROSS_FADE_END: a swap waits for no commit and is refused while one is under
way; it names the bank carried, or one without a seal, or one for another rate, or one too long, which refuse it; it
waits for a running cross-fade, starts one, or switches at once; at the fade's end the slot holds the target, and a
pending swap starts, or is dropped with 0x14. Where the spec leaves a reading open the model takes that of log 35
and 39. -/
def Obligations.ResetsAndSwaps : Prop :=
  ∀ (s : State) (m g : Nat), g < 768 →
    let ch := g / 8
    (mayWrite s m = true →
      (∀ v, v < 256 →
        ∃ t, exec (.slotReset m ch v) s = .next t ∧
          (∀ g', getSlot t g' = if g' / 8 = ch ∧ bit v (g' % 8) = true then afterReset s g' false else getSlot s g') ∧
          getChan t ch = { getChan s ch with lastReset := if v = 0 then (getChan s ch).lastReset else s.clk.frame + 1 } ∧
          (∀ c, c ≠ ch → getChan t c = getChan s c) ∧ t.resets = s.resets ++ [(ch, 1, v)] ∧ answered t m (0x3000 + 16 * ch + 0xB) 1 0 ∧
          t = { s with slots := t.slots, chans := t.chans, resets := t.resets, commit := t.commit, olp := t.olp, out := t.out } ∧ OnlyNotes s t) ∧
      (∃ t, exec (.channelReset m ch 1) s = .next t ∧ ChannelIsReset s t ch ∧
        (∀ c, c ≠ ch → getChan t c = getChan s c) ∧ (∀ g', g' / 8 ≠ ch → getSlot t g' = getSlot s g') ∧
        t.resets = s.resets ++ [(ch, 2, 1)] ∧ answered t m (0x3000 + 16 * ch + 0xB) 2 0 ∧
        t = { s with slots := t.slots, chans := t.chans, resets := t.resets, commit := t.commit, olp := t.olp, out := t.out } ∧ OnlyNotes s t) ∧
      (∃ t, exec (.rodReset m ch 1) s = .next t ∧ (∀ c, c / 16 = ch / 16 → ChannelIsReset s t c) ∧
        (∀ c, c / 16 ≠ ch / 16 → getChan t c = getChan s c) ∧ (∀ g', g' / 128 ≠ g / 128 → getSlot t g' = getSlot s g') ∧
        t.resets = s.resets ++ [(ch, 3, 1)] ∧ answered t m (0x3000 + 16 * ch + 0xB) 3 0 ∧
        t = { s with slots := t.slots, chans := t.chans, resets := t.resets, commit := t.commit, olp := t.olp, out := t.out } ∧ OnlyNotes s t) ∧
      (∀ b, b < 2 →
        let x := getSlot s g
        let bar := bankBar x b (kOf s.objs g)
        let selected := cfgSet s.objs (key (0x3000 + 16 * ch + 7) (g % 8 + 1)) b
        let fades := rxActive s.objs g && (bankOf x x.holds).sealed
        let fits := decide ((if fades then budgetUse s ch (some g) else switchedUse s g b) ≤ 256)
        let swapped (status : Nat) (y : SlotPath) (objs : SMap Nat) : Prop :=
          ∃ t, exec (.swapRequest m g b) s = .next t ∧ getSlot t g = y ∧ (∀ g', g' ≠ g → getSlot t g' = getSlot s g') ∧ t.objs = objs ∧
            answered t m (0x3000 + 16 * ch + 7) (g % 8 + 9) status ∧ OnlyNotes s t ∧
            t = { s with objs, slots := t.slots, chans := t.chans, buses := t.buses, mutes := t.mutes, commit := t.commit, olp := t.olp, out := t.out }
        (s.commit.st = 1 ∨ s.commit.held = true → swapped 0x0C { x with swapResult := 0x13 } s.objs) ∧
        (s.commit.st ≠ 1 → s.commit.held = false →
          (∀ f, x.xf = some f → bar = 0 → b = f.target → swapped 0 { x with pendSwap := none, swapResult := 0x03 } selected) ∧
          (∀ f, x.xf = some f → bar = 0 → b ≠ f.target → swapped 0 { x with pendSwap := some b, swapResult := 0x02 } selected) ∧
          (∀ f, x.xf = some f → bar ≠ 0 → swapped 0x05 { x with swapResult := bar } s.objs) ∧
          (x.xf = none →
            (b = x.holds → swapped 0 { x with swapResult := 0x05 } s.objs) ∧
            (b ≠ x.holds → bar ≠ 0 → swapped 0x05 { x with swapResult := bar } s.objs) ∧
            (b ≠ x.holds → bar = 0 → fits = false → swapped 0x05 { x with swapResult := 0x12 } s.objs) ∧
            (b ≠ x.holds → bar = 0 → fits = true → fades = true →
              swapped 0 { x with xf := some { target := b, len := fadeLen s g }, pendSwap := none, swapResult := 0x01 } selected) ∧
            (b ≠ x.holds → bar = 0 → fits = true → fades = false →
              swapped 0 { x with holds := b, xf := none, pendSwap := none, swapResult := 0x04 } selected))))) ∧
    (∀ f, (getSlot s g).xf = some f → f.len ≤ f.done →
      let x := getSlot s g
      let ended (y : SlotPath) (objs : SMap Nat) : Prop :=
        ∃ t, exec (.crossFadeEnd g) s = .next t ∧ getSlot t g = y ∧ (∀ g', g' ≠ g → getSlot t g' = getSlot s g') ∧ t.objs = objs ∧
          t = { s with objs, slots := t.slots, chans := t.chans, buses := t.buses, mutes := t.mutes, tally := t.tally, out := t.out }
      (x.pendSwap = none → ended { x with holds := f.target, xf := none } s.objs) ∧
      (∀ b, x.pendSwap = some b → (bankOf x b).sealed = true → (bankOf x f.target).sealed = true → rxActive s.objs g = true →
        ended { x with holds := f.target, xf := some { target := b, len := fadeLen s g }, pendSwap := none, swapResult := 0x01 } s.objs) ∧
      (∀ b, x.pendSwap = some b → (bankOf x b).sealed = false →
        ended { x with holds := f.target, xf := none, pendSwap := none, swapResult := 0x14 }
          (cfgSet s.objs (key (0x3000 + 16 * ch + 7) (g % 8 + 1)) f.target)))

/-- CANCELLER_UPDATE_PERIOD, CANCELLER_MODEL_APPLY, TRAINING_TIMEOUT, PATH_STALE: the first clean window of a period
is worked: its paths are measured, those not frozen get a new model that is due within 0.25 ms, the others are held,
and a survey takes its span; one with a measurement word of bad parity, and a period that ends without a window, are
counted and the tracking paths held, but for the periods that throttling skips; the new models of a channel come
into force together, and the replaced ones are kept; a path 200 ms in training tracks; a held path past the hold
limit has depth 0 and is stale. SURVEY_START, SURVEY_STOP, SURVEY_COMPLETE, SURVEY_ABANDON, MANUAL_FREEZE,
MODEL_RESET, MODEL_SNAPSHOT: a survey starts at its reference, stops, completes after span 127 with the strongest
coupling, or is abandoned below the floor; result words of bad parity leave the figures as they were; a freeze is
stored; a reset zeroes a path's taps; a snapshot latches a path's model, or none. Where the spec leaves a reading
open the model takes that of log 22 and 41. -/
def Obligations.Canceller : Prop :=
  (
  ∀ (s : State) (ch : Nat), ch < 96 →
    let c := (getChan s ch).canc
    (coreRuns s = true → (getRod s (ch / 16)).powered = true → (getRod s (ch / 16)).restarting = false → cancOn s.objs ch = true → ∀ bad,
      let skips := decide (c.skip + 1 < throttleDivisor s)
      let hold (x : CPath) : CPath := { x with st := if x.st = 3 then 4 else x.st }
      (skips = false → ∀ w, c.cand = some w →
        let worked (t : State) : Prop := (getChan t ch).canc.win = none ∧
          (getChan t ch).canc.cand = none ∧ (getChan t ch).canc.worked = true ∧ (getChan t ch).canc.skip = 0 ∧
          (getChan t ch).canc.periodAt = c.periodAt ∧ (∀ k, k ≠ ch → getChan t k = getChan s k) ∧
          t = { s with chans := t.chans, flt := t.flt, tally := t.tally }
        (bad ≠ none → ∃ t, exec (.cancellerUpdatePeriod ch bad) s = .next t ∧ worked t ∧ (getChan t ch).canc.noUpdate = inc32 c.noUpdate ∧ ∀ p, p < 8 → getPath t ch p = hold (getPath s ch p)) ∧
        (bad = none → c.lastCr = none → (w.paths.map (·.path)).Nodup →
          ∃ t, exec (.cancellerUpdatePeriod ch bad) s = .next t ∧ worked t ∧ (getChan t ch).canc.noUpdate = c.noUpdate ∧
            (∀ x, x ∈ measurable s ch w.n w →
              let old := getPath s ch x.path
              let y := measurePath s ch w.n w.pe x old
              let m := updateModel (stepExponent s ch old.st) x y
              (frozen s ch x.path = true → getPath t ch x.path = y) ∧
              (frozen s ch x.path = false →
                getPath t ch x.path = { y with newModel := some m.1, clipped := decide (0 < m.2), reverted := false } ∧
                (getChan t ch).canc.applyBy = w.last + 250 * 32000)) ∧
            (∀ p, p < 8 → (∀ x, x ∈ w.paths → x.path ≠ p) → getPath t ch p = hold (getPath s ch p)) ∧
            (c.survState = 1 → ∀ x, w.survey = some x → x.clean = true →
              (belowFloor w.n x = true → (getChan t ch).canc.survBelow = c.survBelow + 1) ∧
              (belowFloor w.n x = false → (getChan t ch).canc.survBelow = 0 ∧ (getChan t ch).canc.survProgress = min 128 (c.survProgress + 1))))) ∧
      (skips = true ∨ c.cand = none →
        (c.periodAt + updatePeriod s ch * 3200000 ≤ s.time →
          ∃ t, exec (.cancellerUpdatePeriod ch bad) s = .next t ∧ (getChan t ch).canc.win = none ∧ (getChan t ch).canc.cand = none ∧
            (getChan t ch).canc.worked = false ∧ (getChan t ch).canc.periodAt = s.time ∧
            (getChan t ch).canc.skip = (if skips then c.skip + 1 else 0) ∧
            (getChan t ch).canc.noUpdate = (if skips = true ∨ c.worked = true then c.noUpdate else inc32 c.noUpdate) ∧
            (∀ p, p < 8 → getPath t ch p = { (if c.worked then getPath s ch p else hold (getPath s ch p)) with skipOnce := false }) ∧
            (∀ k, k ≠ ch → getChan t k = getChan s k) ∧ t = { s with chans := t.chans }) ∧
        (s.time < c.periodAt + updatePeriod s ch * 3200000 → exec (.cancellerUpdatePeriod ch bad) s = .next s))) ∧
    (coreRuns s = true → (∃ p, p < 8 ∧ (getPath s ch p).newModel ≠ none) →
      ∃ t, exec (.cancellerModelApply ch) s = .next t ∧ (getChan t ch).canc.updates = inc32 c.updates ∧ (getChan t ch).canc.win = none ∧
        (∀ p, p < 8 → ∀ m, (getPath s ch p).newModel = some m →
          getPath t ch p = { getPath s ch p with
            taps := m.1, e := m.2, newModel := none, oldLost := false, oldModel := some ((getPath s ch p).taps, (getPath s ch p).e) }) ∧
        (∀ p, p < 8 → (getPath s ch p).newModel = none → getPath t ch p = { getPath s ch p with oldModel := none, oldLost := false }) ∧
        (∀ c, c ≠ ch → getChan t c = getChan s c) ∧ t = { s with chans := t.chans }) ∧
    (∀ p, (getPath s ch p).st = 2 → (getPath s ch p).trainSince + 200 * 32000000 ≤ s.time →
      ∃ t, exec (.trainingTimeout ch p) s = .next t ∧ getPath t ch p = { getPath s ch p with st := 3, okRun := 0 } ∧
        ((getPath s ch p).depth < (cfgNat s.objs (0x4000 + 16 * ch) 8 : Int) → eventActive t (2 * ch + 1) = true) ∧
        (∀ q, q ≠ p → getPath t ch q = getPath s ch q) ∧ t = { s with chans := t.chans, flt := t.flt, tally := t.tally }) ∧
    (∀ p, (getPath s ch p).st = 4 → (getPath s ch p).lastMeas + cfgNat s.objs (0x4000 + 16 * ch) 7 * 32000000 < s.time →
      ∃ t, exec (.pathStale ch p) s = .next t ∧ getPath t ch p = { getPath s ch p with st := 5, depth := 0 } ∧
        (∀ q, q ≠ p → getPath t ch q = getPath s ch q) ∧ t = { s with chans := t.chans, tally := t.tally })) ∧
  (
  ∀ (s : State) (ch : Nat), ch < 96 →
    let c := (getChan s ch).canc
    (∀ m, mayWrite s m = true →
      (∀ v, v < 96 ∨ (0x1000 ≤ v ∧ v < 0x2000) →
        ∃ t, exec (.surveyStart m ch v) s = .next t ∧
          (getChan t ch).canc = { c with survRef := v, survState := 1, survProgress := 0, survBelow := 0, survBest := (0, 0), survAt := 0,
                                           win := (getChan t ch).canc.win, cand := (getChan t ch).canc.cand } ∧
          (∀ w, (getChan t ch).canc.win = some w → ∀ x, w.survey = some x → x.clean = false) ∧
          (∀ w, (getChan t ch).canc.cand = some w → ∀ x, w.survey = some x → x.clean = false) ∧
          answered t m (0x4000 + 16 * ch + 6) 1 0 ∧ (∀ k, k ≠ ch → getChan t k = getChan s k) ∧ t = { s with chans := t.chans, commit := t.commit, olp := t.olp, out := t.out } ∧ OnlyNotes s t) ∧
      (∃ t, exec (.surveyStop m ch) s = .next t ∧
        (getChan t ch).canc = { c with survRef := 0xFFFF, survState := if c.survState = 1 then 0 else c.survState } ∧
        answered t m (0x4000 + 16 * ch + 6) 1 0 ∧ (∀ k, k ≠ ch → getChan t k = getChan s k) ∧ t = { s with chans := t.chans, commit := t.commit, olp := t.olp, out := t.out } ∧ OnlyNotes s t) ∧
      (∀ p, p < 8 →
        (∀ v, v < 2 →
          ∃ t, exec (.manualFreeze m ch p v) s = .next t ∧ frozen t ch p = decide (v = 1) ∧
            getPath t ch p = (if v = 1 then { getPath s ch p with newModel := none } else getPath s ch p) ∧ (∀ q, q ≠ p → getPath t ch q = getPath s ch q) ∧
            answered t m (0x4000 + 16 * ch + 2) (p + 1) 0 ∧ t = { s with objs := t.objs, chans := t.chans, commit := t.commit, olp := t.olp, out := t.out } ∧ OnlyNotes s t) ∧
        (∃ t, exec (.modelReset m ch p 1) s = .next t ∧ (getPath t ch p).taps = [] ∧ (getPath t ch p).e = 3 ∧ (getPath t ch p).depth = 0 ∧
          (getPath t ch p).st = restState s.objs ch p ∧ (∀ q, q ≠ p → getPath t ch q = getPath s ch q) ∧
          answered t m (0x4000 + 16 * ch + 2) (p + 9) 0 ∧ t = { s with chans := t.chans, commit := t.commit, olp := t.olp, out := t.out } ∧ OnlyNotes s t) ∧
        (∃ t, exec (.modelSnapshot m ch p) s = .next t ∧
          (getChan t ch).canc = { c with snapPath := p, snapFrame := s.clk.frame + 1, snapExp := (getPath s ch p).e, snapTaps := (getPath s ch p).taps } ∧
          answered t m (0x4000 + 16 * ch + 7) 1 0 ∧ t = { s with chans := t.chans, commit := t.commit, olp := t.olp, out := t.out } ∧ OnlyNotes s t)) ∧
      (∃ t, exec (.modelSnapshot m ch 0xFF) s = .next t ∧
        (getChan t ch).canc = { c with snapPath := 0xFF, snapFrame := 0, snapExp := 3, snapTaps := [] } ∧
        answered t m (0x4000 + 16 * ch + 7) 1 0 ∧ t = { s with chans := t.chans, commit := t.commit, olp := t.olp, out := t.out } ∧ OnlyNotes s t)) ∧
    (c.survState = 1 → c.survProgress = 128 →
      (∃ t, exec (.surveyComplete ch none none) s = .next t ∧
        (getChan t ch).canc = { c with survState := 2, survDelay := c.survAt, survGain := clip16 (dbOf c.survBest.1 c.survBest.2) } ∧
        (∀ k, k ≠ ch → getChan t k = getChan s k) ∧ t = { s with chans := t.chans, tally := t.tally }) ∧
      (∀ a b, a ≠ none ∨ b ≠ none →
        ∃ t, exec (.surveyComplete ch a b) s = .next t ∧ (getChan t ch).canc = { c with survState := 2 } ∧
          (∀ k, k ≠ ch → getChan t k = getChan s k) ∧ t = { s with chans := t.chans, flt := t.flt, tally := t.tally })) ∧
    (c.survState = 1 → 128 ≤ c.survBelow →
      ∃ t, exec (.surveyAbandon ch) s = .next t ∧ (getChan t ch).canc = { c with survState := 3 } ∧
        (∀ k, k ≠ ch → getChan t k = getChan s k) ∧ t = { s with chans := t.chans, tally := t.tally }))

/-! ### Chapters 8 and 9: the gain governor and network protection -/

/-- GOVERNOR_TICK, LOOP_RELEASE: a tick falls on the boundary ⌈j · 10,240/3⌉ and only there; it takes the interval's
spectra and stream powers, and with no loop in use none is below target; a lock-out ends at a manager's word with
its mute. GOVERNOR_TICK for the loops in use (Table 8.1): an oscillation flag, or a margin below 3.00 dB where no
other mute covers every side, mutes the loop at its restart gain, and the third mute within 60 s locks it out; where
others hold it, its cap falls to the restart gain; below the target by more than 6.00 dB the cap steps to 6.00 dB
under the loop gain, below the target it slews down from there, and after 1,000 ms of comfort it slews up to its
ceiling; otherwise it is held, or released where no side's other caps are above it. A loop mute ends 1,000 ms after
it was set, without an oscillation flag; a lock-out stands. GOVERNOR_TICK and RECKONER_FRAME: a tick sets the
licence cap of each active transmit side of a record from the record's gain and output limits and the measured
input, less the channel's excess (R202). At each block boundary a loop's cap slews by its step (R194), and each
active transmit side's gain is the least of its six caps at once where that is lower, or where the side is new or
comes out of a mute, and rises by 0.01 dB per ms otherwise; the binding cap is the highest code that has that value
(R203, R204). Where the spec leaves a reading open the model takes that of log 17 and 42. -/
def Obligations.GovernorTicks : Prop :=
  (
  ∀ (s : State) (bad : List (Nat × Nat)), coreRuns s = true →
    (tickFrame (3 * s.clk.frame / 10240) ≠ s.clk.frame → exec (.governorTick bad) s = .next s) ∧
    (∀ j, s.clk.frame = (10240 * j + 2) / 3 → s.gov.tick ≤ j →
      ∃ t, exec (.governorTick bad) s = .next t ∧ t.gov.tick = j + 1 ∧ t.gov.streamSum = [] ∧
        (∀ g, g ∈ watchedSides s.objs → (getSlot t g).spec = {}) ∧ (s.gov.inUse = [] → t.gov.below = 0 ∧ t.gov.loops = s.gov.loops) ∧
        t = { s with slots := t.slots, gains := t.gains, chans := t.chans, buses := t.buses, mutes := t.mutes, gov := t.gov, prot := t.prot,
                     cap := t.cap, flt := t.flt, tally := t.tally, out := t.out }) ∧
    (∀ m, mayWrite s m = true → let r := cfgNat s.objs 0x7010 1
      r ∈ s.gov.inUse → (getLoop s r).locked = true →
      ∃ t, exec (.loopRelease m 1) s = .next t ∧ (getLoop t r).locked = false ∧ (getLoop t r).mutedAt = none ∧ (getLoop t r).st = 1 ∧
        (∀ u, u ∈ t.mutes ↔ u ∈ s.mutes ∧ u.owner ≠ .loop r) ∧ (∀ k, k ≠ r → getLoop t k = getLoop s k) ∧ answered t m 0x7010 0xC 0 ∧
        t = { s with gov := t.gov, mutes := t.mutes, tally := t.tally, commit := t.commit, olp := t.olp, out := t.out } ∧ OnlyNotes s t)) ∧
  (
  ∀ (s : State) (j : Nat), coreRuns s = true → s.clk.frame = (10240 * j + 2) / 3 → s.gov.tick ≤ j → s.gov.inUse.Nodup →
    ∃ t, exec (.governorTick []) s = .next t ∧
      ∀ r, r ∈ s.gov.inUse →
        let e := evalLoop s r
        let old := getLoop s r
        let new := getLoop t r
        let osc := (loopRx s.objs r).any (oscFlag t)
        let held := heldByOthers t r
        let recent := old.mutes.filter fun a => decide (j < a + 60000)
        let muted : Prop := new.gov = some (e.restart * 10240) ∧ new.mutedAt = some j ∧ new.slew = 0 ∧ new.comfort = none ∧
          new.mutes = j :: recent ∧ new.locked = decide (2 ≤ recent.length) ∧ new.st = (if 2 ≤ recent.length then 6 else 5) ∧
          ∀ g, g ∈ loopTx s.objs r → muteAt t (.loop r) (.slot g)
        new.margin = clip16 (e.m.getD (-32768)) ∧ new.target = e.mt.toNat ∧ new.dcr = clip16 e.cr.dcr ∧
        (old.locked = true → new.locked = true ∧ new.gov = old.gov ∧ new.mutedAt = old.mutedAt) ∧
        (old.locked = false → old.mutedAt = none →
          (osc = true → muted) ∧
          (osc = false → e.m = none → new = { old with margin := new.margin, target := new.target, dcr := new.dcr, mutes := recent,
                                                       comfort := none, slew := 0, st := 1 }) ∧
          (∀ m, osc = false → e.m = some m →
            (held = true → new.mutedAt = none ∧ new.slew = 0 ∧
              new.gov = some (match old.gov with | some v => min v (e.restart * 10240) | none => e.restart * 10240)) ∧
            (held = false → m < 300 → muted) ∧
            (held = false → 300 ≤ m → m < e.mt - 600 →
              new.gov = e.gl.map (fun v => v - 600 * 10240) ∧ new.slew = 0 ∧ new.st = 3 ∧ new.mutedAt = none) ∧
            (held = false → 300 ≤ m → e.mt - 600 ≤ m → m < e.mt →
              new.slew < 0 ∧ new.mutedAt = none ∧ (old.slew < 0 → new.gov = old.gov) ∧ (0 ≤ old.slew → new.gov = e.gl ∧ new.st = 2)) ∧
            (held = false → 300 ≤ m → e.mt + 200 ≤ m → ∀ c, old.comfort = some c → c + 1000 ≤ j → ∀ v, old.gov = some v →
              new.gov = some v ∧ new.slew = 1 ∧ new.slewTo = e.ceil * 10240 ∧ new.comfort = some c ∧ new.st = 4) ∧
            (held = false → 300 ≤ m → e.mt ≤ m → m < e.mt + 200 ∨ old.comfort = none →
              new.slew = 0 ∧ new.st = 1 ∧ new.mutedAt = none ∧ new.comfort = (if e.mt + 200 ≤ m then some j else none) ∧
              ∀ v, old.gov = some v → new.gov = if (loopTx s.objs r).all (fun g => decide (otherCaps t g ≤ v)) then none else some v))) ∧
        (old.locked = false → ∀ a, old.mutedAt = some a →
          (j < a + 1000 ∨ osc = true → new.mutedAt = some a ∧ new.gov = old.gov ∧ new.locked = false) ∧
          (a + 1000 ≤ j → osc = false → (∀ m, e.m = some m → 300 ≤ m ∧ e.mt ≤ m) →
            new.mutedAt = none ∧ hasMute t (.loop r) = false ∧ new.st = 1 ∧ new.slew = 0 ∧
            (new.gov = some (e.restart * 10240) ∨ (new.gov = none ∧ ∀ g, g ∈ loopTx s.objs r → otherCaps t g ≤ e.restart * 10240))))) ∧
  (
  ∀ (s : State), coreRuns s = true →
    (∀ j, s.clk.frame = (10240 * j + 2) / 3 → s.gov.tick ≤ j →
      ∃ t, exec (.governorTick []) s = .next t ∧
        ∀ ch, ch < 96 →
          let sides := (chanSlots ch).filter (txActive s.objs)
          let limits := sides.filterMap fun g => (boundRecord s s.objs g).map recMaxTotal
          let total := sumMap sides fun g => match inputLevel t g, (getGain s g).eff with | some p, some e => powRatio (p + effDb e) | _, _ => 0
          let excess : Int := if total = 0 then 0 else max 0 (dbOfPow total - (limits.foldl min 32767 - 50))
          ∀ g, g ∈ sides →
            (∀ rec, boundRecord s s.objs g = some rec →
              (∀ p, inputLevel t g = some p → (getGain t g).licCap = clip16 (min (recMaxGain rec) (recMaxCarrier rec - p - 50) - excess)) ∧
              (inputLevel t g = none → (getGain t g).licCap = clip16 (recMaxGain rec - excess))) ∧
            (boundRecord s s.objs g = none → (getGain t g).licCap = 32767)) ∧
    (∀ inp,
      ∃ t, exec (.reckonerFrame inp) s = .next t ∧
        (s.gov.inUse.Nodup → ∀ r, r ∈ s.gov.inUse → ∀ v, (getLoop s r).gov = some v →
          ((getLoop s r).slew < 0 → (getLoop t r).gov = some (v - 300)) ∧ ((getLoop s r).slew = 0 → (getLoop t r).gov = some v) ∧
          (0 < (getLoop s r).slew → (getLoop t r).gov = some (max v (min (getLoop s r).slewTo (v + 3))))) ∧
        ∀ g, g < 768 → txActive s.objs g = true →
          let old := getGain s g
          let new := getGain t g
          let caps := capsOf t g
          let c := caps.foldl min (32767 * 10240)
          let free := old.eff = none ∨ (old.wasMuted = true ∧ new.wasMuted = false)
          (new.unreachable = false →
            (free → new.eff = some c) ∧
            (∀ e, ¬ free → old.eff = some e → new.eff = some (if c ≤ e then c else min c (e + 3)) ∧ new.slewLimited = decide (e + 3 < c))) ∧
          caps[new.bind - 1]? = some c ∧ ∀ i, new.bind ≤ i → i < 6 → caps[i]? ≠ some c))

/-- SEARCH_DWELL_COMPLETE, TRACKING_MEASUREMENT, LEDGER_PIN, LEDGER_UNPIN, LEDGER_CLEAR, CELL_FINDER_FAILURE: a
search ends after 40 ms and goes on to its rod's next side, or is repeated on bad parity; a cell that it detects
moves its entry's filtered RSRP by a quarter of the difference, or is created at the lowest free index, or replaces
the entry longest unseen that is neither pinned nor serving; a tracked cell's measurement moves its filtered RSRP
the same way, and an occasion without one, or without a usable sample, is noted; a word with bad parity discards the
entry; pins are set, up to 4,096, and removed, and a clear keeps pinned and serving entries; a failed Cell Finder
falls back. Where the spec leaves a reading open the model takes that of log 18. -/
def Obligations.CellLedger : Prop :=
  ∀ (s : State),
    (∀ r g cells, r < 6 → finderOn s r = true → nextSide (rodSides s.objs r) (getRod s r).lastSearched = some g →
      (getRod s r).dwellAt + 40 * 32000000 ≤ s.time →
      (∃ t, exec (.searchDwellComplete r g { cells }) s = .next t ∧ (getRod t r).lastSearched = some g ∧ (getRod t r).finder = 1 ∧
        (getRod t r).dwellAt = s.time ∧ (cells = [] ∨ (getRod s r).dwellUsable = false → t.prot = s.prot) ∧ (∀ r', r' ≠ r → getRod t r' = getRod s r') ∧
        t = { s with rods := t.rods, gains := t.gains, prot := t.prot, tally := t.tally }) ∧
      ((getRod s r).dwellUsable = true → (s.prot.ledger.map (·.1)).Pairwise (· < ·) → ∀ c, cells.filter (detectable s g) = [c] →
        let key (e : LedgerEntry) : Bool := e.valid && e.ch == g / 8 && e.rat == c.rat && e.pci == c.pci && e.freq == c.freq
        let m := measuredRsrp s g c.level
        let seen (t : State) (i : Nat) (e : LedgerEntry) : Prop :=
          (getEntry t i).sinr = clip16 c.sinr ∧ (getEntry t i).timing = timingOffset s g c.arrival ∧ (getEntry t i).last = opMs s ∧
          (getEntry t i).ssb = (if c.rat = 0 then 0 else c.ssb % 256) ∧ (getEntry t i).tdd = (c.rat == 0 && c.tdd) ∧
          (getEntry t i).raw = m ∧ (getEntry t i).rawAt = s.time ∧ key (getEntry t i) = true ∧ (getEntry t i).pinned = e.pinned ∧
          (∀ k, k ≠ i → getEntry t k = getEntry s k) ∧ t = { s with rods := t.rods, gains := t.gains, prot := t.prot, tally := t.tally }
        let fresh (t : State) (i : Nat) : Prop :=
          seen t i {} ∧ (getEntry t i).rsrp = m ∧ (getEntry t i).first = opMs s ∧ (getEntry t i).detections = 1
        (∀ i, key (getEntry s i) = true → (∀ x, x ∈ s.prot.ledger → key x.2 = true → x.1 = i) →
          ∃ t, exec (.searchDwellComplete r g { cells }) s = .next t ∧ seen t i (getEntry s i) ∧
            (getEntry t i).rsrp = filterRsrp (getEntry s i).rsrp m ∧ (getEntry t i).first = (getEntry s i).first ∧
            (getEntry t i).detections = min 65535 ((getEntry s i).detections + 1) ∧ t.prot.replaced = s.prot.replaced) ∧
        ((∀ x, x ∈ s.prot.ledger → key x.2 = false) →
          (∀ i, i < 65536 → (getEntry s i).valid = false → (∀ k, k < i → (getEntry s k).valid = true) →
            ∃ t, exec (.searchDwellComplete r g { cells }) s = .next t ∧ fresh t i ∧ t.prot.replaced = s.prot.replaced) ∧
          (∀ i, (∀ k, k < 65536 → (getEntry s k).valid = true) → i < 65536 → (∀ x, x ∈ s.prot.ledger → x.1 < 65536) →
            (getEntry s i).pinned = false → i ∉ servingEntries s →
            (∀ x, x ∈ s.prot.ledger → x.2.pinned = false → x.1 ∉ servingEntries s →
              (getEntry s i).last < x.2.last ∨ ((getEntry s i).last = x.2.last ∧ i ≤ x.1)) →
            ∃ t, exec (.searchDwellComplete r g { cells }) s = .next t ∧ fresh t i ∧ t.prot.replaced = inc32 s.prot.replaced))) ∧
      (∀ offset,
        ∃ t, exec (.searchDwellComplete r g { cells, bad := some offset }) s = .next t ∧
          getRod t r = { getRod s r with dwellAt := s.time, dwellUsable := false } ∧ (∀ r', r' ≠ r → getRod t r' = getRod s r') ∧
          smGet 0 t.flt.parity 9 = inc32 (smGet 0 s.flt.parity 9) ∧ t = { s with rods := t.rods, flt := t.flt, tally := t.tally })) ∧
    (∀ i c, let e := getEntry s i
      finderOn s (e.ch / 16) = true → e.valid = true → i ∈ trackedCells s (e.ch / 16) → e.occAt = 0 ∨ e.occAt + 20 * 32000000 ≤ s.time →
      (∃ t, exec (.trackingMeasurement i none true) s = .next t ∧ getEntry t i = {} ∧ t.prot.parityDiscards = inc32 s.prot.parityDiscards ∧
        (∀ k, k ≠ i → getEntry t k = getEntry s k) ∧ smGet 0 t.flt.parity 7 = inc32 (smGet 0 s.flt.parity 7) ∧
        t = { s with gains := t.gains, prot := t.prot, flt := t.flt, tally := t.tally }) ∧
      (∀ meas, meas = none ∨ hearingSide s e = none ∨ rxValid s e.ch = false ∨ (∀ g, hearingSide s e = some g → hasUsable s g = false) →
        ∃ t, exec (.trackingMeasurement i meas false) s = .next t ∧
        getEntry t i = { e with occGap := if e.occAt = 0 then 0 else s.time - e.occAt, occAt := s.time, occs := (s.time :: e.occs).take 3 } ∧
        (∀ k, k ≠ i → getEntry t k = getEntry s k) ∧ t = { s with gains := t.gains, prot := t.prot, tally := t.tally }) ∧
      (∀ g, hearingSide s e = some g → rxValid s e.ch = true → hasUsable s g = true →
        (∀ x, x ∈ s.prot.ledger → x.2.valid = true → x.2.ch = e.ch → x.2.rat = e.rat → x.2.pci = e.pci → x.2.freq = e.freq → x.1 = i) →
        ∃ t, exec (.trackingMeasurement i (some c) false) s = .next t ∧ (getEntry t i).rsrp = filterRsrp e.rsrp (measuredRsrp s g c.level) ∧
          (getEntry t i).sinr = clip16 c.sinr ∧ (getEntry t i).timing = timingOffset s g c.arrival ∧ (getEntry t i).last = opMs s ∧
          (getEntry t i).detections = min 65535 (e.detections + 1) ∧ (getEntry t i).freq = e.freq ∧ (getEntry t i).pinned = e.pinned ∧
          (∀ k, k ≠ i → getEntry t k = getEntry s k) ∧
          t = { s with gains := t.gains, chans := t.chans, buses := t.buses, mutes := t.mutes, prot := t.prot, tally := t.tally, out := t.out })) ∧
    (∀ m i, mayWrite s m = true → i < 65536 →
      ((getEntry s i).valid = true → (pinnedEntries s).length < 4096 →
        ∃ t, exec (.ledgerPin m i) s = .next t ∧ getEntry t i = { getEntry s i with pinned := true } ∧ (∀ k, k ≠ i → getEntry t k = getEntry s k) ∧
          answered t m 0x7082 3 0 ∧ t = { s with prot := { s.prot with ledger := t.prot.ledger }, commit := t.commit, olp := t.olp, out := t.out } ∧ OnlyNotes s t) ∧
      ((getEntry s i).valid = true → (getEntry s i).pinned = false → 4096 ≤ (pinnedEntries s).length →
        ∃ t, exec (.ledgerPin m i) s = .next t ∧ answered t m 0x7082 3 0x05 ∧ t = { s with commit := t.commit, olp := t.olp, out := t.out } ∧ OnlyNotes s t) ∧
      ((getEntry s i).valid = false → ∃ t, exec (.ledgerPin m i) s = .next t ∧ answered t m 0x7082 3 0x05 ∧ t = { s with commit := t.commit, olp := t.olp, out := t.out } ∧ OnlyNotes s t) ∧
      (∃ t, exec (.ledgerUnpin m i) s = .next t ∧ (getEntry t i).pinned = ((getEntry s i).pinned && !(getEntry s i).valid) ∧
        (∀ k, k ≠ i → getEntry t k = getEntry s k) ∧ answered t m 0x7082 4 0 ∧
        t = { s with prot := { s.prot with ledger := t.prot.ledger }, commit := t.commit, olp := t.olp, out := t.out } ∧ OnlyNotes s t) ∧
      (∃ t, exec (.ledgerClear m 1) s = .next t ∧ (∀ x, x ∈ t.prot.ledger ↔ x ∈ s.prot.ledger ∧ (x.2.pinned = true ∨ x.1 ∈ servingEntries s)) ∧
        answered t m 0x7082 5 0 ∧ t = { s with prot := { s.prot with ledger := t.prot.ledger }, commit := t.commit, olp := t.olp, out := t.out } ∧ OnlyNotes s t)) ∧
    (∀ r, r < 6 → s.life.power ≠ .off → (getRod s r).finder ≠ 3 →
      ∃ t, exec (.cellFinderFailure r) s = .next t ∧ (getRod t r).finder = 3 ∧ (getRod t r).fallback = true ∧
        (∀ g, g ∈ uplinkDonors s.objs → servingSide s.objs g / 128 = r → lastKnown s (servingSide s.objs g) = false →
          (getGain t g).donorLoss = true ∧ hasMute t (.donorLoss g) = true) ∧
        (∀ r', r' ≠ r → getRod t r' = getRod s r') ∧
        t = { s with rods := t.rods, gains := t.gains, chans := t.chans, buses := t.buses, mutes := t.mutes, prot := t.prot, tally := t.tally, out := t.out })

/-- DONOR_LOSS_ENTRY, DONOR_LOSS_RELEASE, IDENTITY_TEST: an uplink donor side whose serving cell is gone is muted
and counted; it is released once the cell has been good for the hold time, or where the rule no longer covers it; at
a test instant every side the identity rule covers is muted unless its donor cell is identified, and between test
instants nothing is tested. Where the spec leaves a reading open the model takes that of log 18. -/
def Obligations.DonorProtection : Prop :=
  ∀ (s : State) (g : Nat), coreRuns s = true →
    (g ∈ uplinkDonors s.objs → (getGain s g).donorLoss = false → donorFallback s g = false ∨ lastKnown s (servingSide s.objs g) = false →
      lossDue s g = true → hasMute s (.donorLoss g) = false →
      ∃ t, exec (.donorLossEntry g) s = .next t ∧ (getGain t g).donorLoss = true ∧ muteAt t (.donorLoss g) (.slot g) ∧
        t.prot = { s.prot with lossMutes := inc32 s.prot.lossMutes } ∧ (∀ k, k ≠ g → getGain t k = getGain s k) ∧
        t = { s with gains := t.gains, chans := t.chans, buses := t.buses, mutes := t.mutes, prot := t.prot, tally := t.tally, out := t.out }) ∧
    (∀ i since, (getGain s g).donorLoss = true →
      g ∉ uplinkDonors s.objs ∨ ((getGain s (servingSide s.objs g)).serving = some i ∧ (getGain s g).goodSince = some since ∧
        since + cfgNat s.objs 0x7080 3 * 32000000 ≤ s.time ∧ lossDue s g = false ∧ donorFallback s g = false) →
      ∃ t, exec (.donorLossRelease g) s = .next t ∧ (getGain t g).donorLoss = false ∧ (∀ u, u ∈ t.mutes ↔ u ∈ s.mutes ∧ u.owner ≠ .donorLoss g) ∧
        (∀ k, k ≠ g → getGain t k = getGain s k) ∧ t = { s with gains := t.gains, mutes := t.mutes, tally := t.tally }) ∧
    (s.clk.frame % 341333 ≠ 0 → exec .identityTest s = .next s) ∧
    (s.clk.frame % 341333 = 0 → (∀ r, (getRod s r).fallback = false) →
      ∃ t, exec .identityTest s = .next t ∧
        (∀ k d, identitySide s k = some d → k ∈ txSlots s.objs → (getGain t k).unidentified = !identified s d ∧
          (identified s d = false → hasMute t (.identity k) = true) ∧ (identified s d = true → hasMute t (.identity k) = false)) ∧
        t = { s with gains := t.gains, chans := t.chans, buses := t.buses, mutes := t.mutes, prot := t.prot, tally := t.tally, out := t.out })

/-- FRAME_SYNC_IN_EDGE, PPS_IN_EDGE, TDD_EPOCH_MISSING, HOLDOVER_LIMIT_EXPIRY: an edge of 100 ns or more is an epoch
of the groups that use its pin, and a shorter one is none; the fifth that agrees locks an acquiring group and ends
its mutes; a missing epoch puts a locked group in holdover, and a holdover past its limit mutes its channels as
lost. Where the spec leaves a reading open the model takes that of log 19. -/
def Obligations.TddGroups : Prop :=
  ∀ (s : State) (i : Nat), coreRuns s = true → i < 8 →
    (∀ highNs pos, 100 ≤ highNs →
      (∃ t, exec (.frameSyncInEdge highNs pos) s = .next t ∧
        (∀ k, k < 8 → groupSource s.objs k = 2 → (getGroup t k).lastEpoch = some (pos % 14745600) ∧ (getGroup t k).epochAt = s.time) ∧
        t = { s with prot := t.prot, chans := t.chans, buses := t.buses, mutes := t.mutes, tally := t.tally, out := t.out }) ∧
      (∃ t, exec (.ppsInEdge highNs pos) s = .next t ∧
        (∀ k, k < 8 → groupSource s.objs k = 3 → (getGroup t k).lastEpoch = some (pos % 14745600) ∧ (getGroup t k).pps = some (s.time, pos % 14745600, 0)) ∧
        (∀ k, k < 8 → groupSource s.objs k = 3 → t.links = { s.links with ppsRef := t.links.ppsRef } ∧ (t.links.ppsRef.map (·.1)) = some s.time) ∧
        t = { s with links := t.links, prot := t.prot, chans := t.chans, buses := t.buses, mutes := t.mutes, tally := t.tally, out := t.out })) ∧
    (∀ highNs pos p, 100 ≤ highNs → pos < 14745600 → (getGroup s i).st = 1 → (getGroup s i).agree = 4 → (getGroup s i).lastEpoch = some p →
      (gridDiff pos p).natAbs ≤ 732 →
      (groupSource s.objs i = 2 → s.time ≤ (getGroup s i).epochAt + 320064000 → ∃ t, exec (.frameSyncInEdge highNs pos) s = .next t ∧ (getGroup t i).st = 2 ∧ (getGroup t i).applied = some pos ∧
        (getGroup t i).lastEpoch = some pos ∧ hasMute t (.tdd i) = false ∧ (∀ k, groupSource s.objs k ≠ 2 → getGroup t k = getGroup s k)) ∧
      (groupSource s.objs i = 3 → ∃ t, exec (.ppsInEdge highNs pos) s = .next t ∧ (getGroup t i).st = 2 ∧ (getGroup t i).applied = some pos ∧
        (getGroup t i).lastEpoch = some pos ∧ hasMute t (.tdd i) = false ∧ (∀ k, groupSource s.objs k ≠ 3 → getGroup t k = getGroup s k))) ∧
    (∀ highNs pos a, 100 ≤ highNs → pos < 14745600 → (getGroup s i).st = 2 → (getGroup s i).applied = some a → groupSource s.objs i = 2 →
      (gridDiff pos a).natAbs ≤ 2952 →
      ∃ t, exec (.frameSyncInEdge highNs pos) s = .next t ∧ getGroup t i =
        { getGroup s i with lastEpoch := some pos, epochAt := s.time, diff := gridDiff pos a, steps := 0, target := some pos }) ∧
    (∀ highNs pos, highNs < 100 → exec (.frameSyncInEdge highNs pos) s = .next s ∧ exec (.ppsInEdge highNs pos) s = .next s) ∧
    ((getGroup s i).st = 2 → epochMissing s i = true →
      ∃ t, exec (.tddEpochMissing i) s = .next t ∧ getGroup t i = { getGroup s i with st := 3, heldAt := s.time } ∧
        (∀ k, k ≠ i → getGroup t k = getGroup s k) ∧ t = { s with prot := t.prot, mutes := t.mutes, tally := t.tally }) ∧
    ((getGroup s i).st = 3 → (getGroup s i).heldAt + cfgNat s.objs (0x7088 + i) 0xE * 32000000 ≤ s.time →
      ∃ t, exec (.holdoverLimitExpiry i) s = .next t ∧ getGroup t i = { getGroup s i with st := 4 } ∧
        (∀ ch, ch < 96 → tddGroupOf s.objs ch = i → muteAt t (.tdd i) (.chan ch)) ∧ (∀ k, k ≠ i → getGroup t k = getGroup s k) ∧
        t = { s with prot := t.prot, chans := t.chans, buses := t.buses, mutes := t.mutes, tally := t.tally, out := t.out })
end

