-- ==== Sys2Proof/Laws/Arith.lean ====
section
/-! SUPPORT. Arith.lean: the arithmetic of the stages (R73, R127): what rounding and saturation give, and that the
verdict of a check depends on the error alone. -/

namespace Sys2Proof.Machine

/-- Saturation answers a 16-bit value, and leaves one alone. -/
theorem sat16_range (q : Int) : -32768 ≤ sat16 q ∧ sat16 q ≤ 32767 := by
  unfold sat16; split_ifs <;> omega

theorem sat16_of_range {q : Int} (h : -32768 ≤ q) (h' : q ≤ 32767) : sat16 q = q := by
  unfold sat16; split_ifs <;> omega

/-- The quotient and the remainder of a rounding make up the accumulator and its half (R73). -/
theorem roundQ_roundT {m : Nat} (hm : m ≠ 0) (acc : Int) : roundQ m acc * 2 ^ m + roundT m acc = acc + 2 ^ (m - 1) := by
  rw [roundQ, roundT, if_neg hm, if_neg hm]; exact Int.ediv_mul_add_emod _ _

theorem roundT_range {m : Nat} (hm : m ≠ 0) (acc : Int) : 0 ≤ roundT m acc ∧ roundT m acc < 2 ^ m := by
  rw [roundT, if_neg hm]
  exact ⟨Int.emod_nonneg _ (by positivity), Int.emod_lt_of_pos _ (by positivity)⟩

theorem residue_cast (v : Int) : (residue v : Int) = v % 255 := Int.toNat_of_nonneg (Int.emod_nonneg _ (by decide))

theorem residue_lt (v : Int) : residue v < 255 := by
  have := Int.emod_lt_of_pos v (show (0 : Int) < 255 by decide)
  have := residue_cast v; omega

/-- 2^8 is 1 modulo 255, so a shift by m works as one by m mod 8. -/
theorem two_pow_mod_255 (m : Nat) : (2 : Int) ^ m ≡ 2 ^ (m % 8) [ZMOD 255] := by
  conv_lhs => rw [← Nat.div_add_mod m 8, pow_add, pow_mul]
  have h : ((2 : Int) ^ 8) ^ (m / 8) ≡ 1 ^ (m / 8) [ZMOD 255] := Int.ModEq.pow _ (by decide)
  simpa using h.mul_right (2 ^ (m % 8))

theorem residue_modEq (v : Int) : (residue v : Int) ≡ v [ZMOD 255] := by
  rw [residue_cast]; exact Int.mod_modEq v 255

/-- The stage rule in integers: predicted residue and half against quotient and remainder, modulo 255 (R127). -/
theorem stageRule_iff {m : Nat} (hm : m ≠ 0) (p : Nat) (q t : Int) :
    stageRule m p q t = true ↔ (p : Int) + 2 ^ (m - 1) ≡ q * 2 ^ m + t [ZMOD 255] := by
  rw [stageRule, if_neg hm, beq_iff_eq, ← Nat.ModEq, ← Int.natCast_modEq_iff]
  push_cast
  have l : (p : Int) + residue (2 ^ (m - 1)) ≡ p + 2 ^ (m - 1) [ZMOD 255] := (residue_modEq _).add_left _
  have r : (residue q : Int) * 2 ^ (m % 8) + residue t ≡ q * 2 ^ m + t [ZMOD 255] :=
    ((residue_modEq q).mul (two_pow_mod_255 m).symm).add (residue_modEq t)
  exact ⟨fun h => l.symm.trans (h.trans r), fun h => l.trans (h.trans r.symm)⟩

/-- An error `d` added to an accumulator passes the stage rule exactly where it is 0 modulo 255, whatever the
accumulator (R127). -/
theorem stageRule_error {m : Nat} (hm : m ≠ 0) (acc d : Int) :
    stageRule m (residue acc) (roundQ m (acc + d)) (roundT m (acc + d)) = true ↔ d ≡ 0 [ZMOD 255] := by
  rw [stageRule_iff hm, roundQ_roundT hm]
  have l : (residue acc : Int) + 2 ^ (m - 1) ≡ acc + 2 ^ (m - 1) [ZMOD 255] := (residue_modEq acc).add_right _
  have e : acc + d + 2 ^ (m - 1) = acc + 2 ^ (m - 1) + d := by ring
  rw [e]
  constructor
  · intro h
    simpa using ((l.symm.trans h).sub_right (acc + 2 ^ (m - 1))).symm
  · intro h
    exact l.trans (by simpa using (h.symm.add_left (acc + 2 ^ (m - 1))))

/-- What a stage puts out does not depend on the residue predicted beside its accumulator. -/
@[simp] theorem formPart_out (m : Nat) (a : Accu) (h : Hit) : (formPart m a h).out = sat16 (roundQ m (a.val + h.err)) := rfl

end Sys2Proof.Machine
end

