-- ==== Sys2Proof/Laws/Map.lean ====
section
/-! SUPPORT. Map.lean: the laws of the tables of State: a read after a write, and the canonical form, which every
operation on a table keeps. -/

namespace Sys2Proof.Machine

variable {α : Type} (d : α) (m : SMap α) (k k' : Nat) (v : α)

@[simp] theorem smGet_nil : smGet d ([] : SMap α) k = d := rfl

@[simp] theorem smGet_smInsert_self : smGet d (smInsert k v (m.filter fun e => e.1 != k)) k = v := by
  induction m with
  | nil => simp [smInsert, smGet]
  | cons e m ih =>
    by_cases h : e.1 = k
    · simpa [h] using ih
    · rw [List.filter_cons_of_pos (by simpa using h), smInsert]
      split
      · simp [smGet]
      · simpa [smGet, h] using ih

theorem smGet_smInsert_ne (h : k' ≠ k) : smGet d (smInsert k v m) k' = smGet d m k' := by
  induction m with
  | nil => simp [smInsert, smGet, h.symm]
  | cons e m ih =>
    rw [smInsert]
    split
    · simp [smGet, h.symm]
    · simp [smGet, ih]

theorem smGet_filter_self : smGet d (m.filter fun e => e.1 != k) k = d := by
  induction m with
  | nil => rfl
  | cons e m ih =>
    by_cases h : e.1 = k
    · simpa [h] using ih
    · simpa [h, smGet] using ih

theorem smGet_filter_ne (h : k' ≠ k) : smGet d (m.filter fun e => e.1 != k) k' = smGet d m k' := by
  induction m with
  | nil => rfl
  | cons e m ih =>
    by_cases he : e.1 = k
    · have hk : ¬ k = k' := fun h' => h h'.symm
      simpa [he, smGet, hk] using ih
    · simp [he, smGet, ih]

variable [DecidableEq α]

/-- What is written is read back. -/
@[simp] theorem smGet_smSet_self : smGet d (smSet d m k v) k = v := by
  unfold smSet
  split
  · next h => rw [h]; exact smGet_filter_self d m k
  · exact smGet_smInsert_self d m k v

/-- A write leaves every other number as it was. -/
theorem smGet_smSet_ne (h : k' ≠ k) : smGet d (smSet d m k v) k' = smGet d m k' := by
  unfold smSet
  split
  · exact smGet_filter_ne d m k k' h
  · rw [smGet_smInsert_ne d _ k k' v h, smGet_filter_ne d m k k' h]

theorem smGet_smSet : smGet d (smSet d m k v) k' = if k' = k then v else smGet d m k' := by
  split
  · next h => rw [h, smGet_smSet_self]
  · next h => exact smGet_smSet_ne d m k k' v h

theorem smGet_smMod (f : α → α) : smGet d (smMod d m k f) k' = if k' = k then f (smGet d m k) else smGet d m k' :=
  smGet_smSet d m k k' _

@[simp] theorem smGet_smMod_self (f : α → α) : smGet d (smMod d m k f) k = f (smGet d m k) :=
  smGet_smSet_self d m k _

theorem smGet_smMod_ne (f : α → α) (h : k' ≠ k) : smGet d (smMod d m k f) k' = smGet d m k' :=
  smGet_smSet_ne d m k k' _ h

/-! ### The canonical form -/

/-- A table in canonical form: its numbers rise strictly, and no entry reads as an unlisted number does. -/
theorem smWf_iff (d : Nat → α) (m : SMap α) :
    smWf d m = true ↔ m.Pairwise (fun a b => a.1 < b.1) ∧ ∀ e ∈ m, e.2 ≠ d e.1 := by
  have hs : ∀ l : SMap α, smSorted l = true ↔ l.Pairwise fun a b => a.1 < b.1 := by
    intro l
    induction l with
    | nil => simp [smSorted]
    | cons a l ih =>
      cases l with
      | nil => simp [smSorted]
      | cons b l =>
        simp only [smSorted, Bool.and_eq_true, decide_eq_true_eq, ih, List.pairwise_cons]
        constructor
        · rintro ⟨hab, hb, hl⟩
          exact ⟨fun x hx => (List.mem_cons.1 hx).elim (fun h => h ▸ hab) (fun h => hab.trans (hb x h)), hb, hl⟩
        · rintro ⟨ha, hl⟩
          exact ⟨ha b List.mem_cons_self, hl⟩
  simp [smWf, hs]

omit [DecidableEq α] in
theorem mem_smInsert {k : Nat} {v : α} {m : SMap α} {e : Nat × α} (h : e ∈ smInsert k v m) : e = (k, v) ∨ e ∈ m := by
  induction m with
  | nil => exact .inl (by simpa [smInsert] using h)
  | cons a m ih =>
    rw [smInsert] at h
    split at h
    · simpa using h
    · rcases List.mem_cons.1 h with h | h
      · exact .inr (h ▸ List.mem_cons_self)
      · exact (ih h).imp id (List.mem_cons_of_mem a)

omit [DecidableEq α] in
theorem pairwise_smInsert {k : Nat} (v : α) {m : SMap α} (hm : m.Pairwise fun a b => a.1 < b.1) (hk : ∀ e ∈ m, e.1 ≠ k) :
    (smInsert k v m).Pairwise fun a b => a.1 < b.1 := by
  induction m with
  | nil => simp [smInsert]
  | cons a m ih =>
    rw [List.pairwise_cons] at hm
    rw [smInsert]
    split
    · next h =>
      exact List.pairwise_cons.2 ⟨fun x hx => (List.mem_cons.1 hx).elim (fun e => e ▸ h) (fun e => h.trans (hm.1 x e)),
        List.pairwise_cons.2 hm⟩
    · next h =>
      have ha : a.1 < k := Nat.lt_of_le_of_ne (Nat.not_lt.1 h) (hk a List.mem_cons_self)
      refine List.pairwise_cons.2 ⟨fun x hx => ?_, ih hm.2 fun e he => hk e (List.mem_cons_of_mem a he)⟩
      rcases mem_smInsert hx with hx | hx
      · rw [hx]; exact ha
      · exact hm.1 x hx

/-- A write keeps the canonical form. -/
theorem smWf_smSet (d : Nat → α) {m : SMap α} (k : Nat) (v : α) (h : smWf d m = true) : smWf d (smSet (d k) m k v) = true := by
  rw [smWf_iff] at h ⊢
  have hf := h.1.filter fun e => e.1 != k
  have hn : ∀ e ∈ m.filter (fun e => e.1 != k), e.1 ≠ k ∧ e.2 ≠ d e.1 := fun e he =>
    ⟨by simpa using (List.mem_filter.1 he).2, h.2 e (List.mem_filter.1 he).1⟩
  unfold smSet
  split
  · exact ⟨hf, fun e he => (hn e he).2⟩
  · next hv =>
    refine ⟨pairwise_smInsert v hf fun e he => (hn e he).1, fun e he => ?_⟩
    rcases mem_smInsert he with he | he
    · rw [he]; exact hv
    · exact (hn e he).2

theorem smWf_smMod (d : α) {m : SMap α} (k : Nat) (f : α → α) (h : smWf (fun _ => d) m = true) :
    smWf (fun _ => d) (smMod d m k f) = true := smWf_smSet (fun _ => d) k _ h

/-- A write of an object keeps the canonical form of the objects. -/
theorem smWf_cfgSet {o : SMap Nat} (k v : Nat) (h : smWf dfltOf o = true) : smWf dfltOf (cfgSet o k v) = true :=
  smWf_smSet dfltOf k v h

/-- So does the merge of a staging area. -/
theorem smWf_cfgMerge {o : SMap Nat} (news : SMap Nat) (h : smWf dfltOf o = true) : smWf dfltOf (cfgMerge o news) = true := by
  unfold cfgMerge
  induction news generalizing o with
  | nil => exact h
  | cons e news ih => exact ih (smWf_cfgSet e.1 e.2 h)

/-! ### Loops over a list -/

/-- What each step of a loop keeps, the loop keeps. -/
theorem forEach_keep {σ β γ : Type} (P : σ → β) (xs : List γ) (f : σ → γ → σ) (h : ∀ u x, P (f u x) = P u) (s : σ) :
    P (forEach xs s f) = P s := by
  unfold forEach
  induction xs generalizing s with
  | nil => rfl
  | cons x xs ih => rw [List.foldl_cons, ih, h]

/-- An invariant of each step is one of the loop. -/
theorem forEach_inv {σ γ : Type} (I : σ → Prop) (xs : List γ) (f : σ → γ → σ) (h : ∀ u x, I u → I (f u x)) (s : σ) (hs : I s) :
    I (forEach xs s f) := by
  unfold forEach
  induction xs generalizing s with
  | nil => exact hs
  | cons x xs ih => exact ih _ (h s x hs)

end Sys2Proof.Machine
end

