-- ==== Sys2Proof/Laws/State.lean ====
section
/-! SUPPORT. State.lean: the fields of State under each access of Ops.lean: what an access to one channel, slot, rod,
bus, zone, port, lane, loop or window leaves as it was, and what it reads back. -/

namespace Sys2Proof.Machine

/-! ### modChan -/

section

variable (s : State) (ch k : Nat) (f : Chan → Chan)

@[simp] theorem modChan_time : (modChan s ch f).time = s.time := (rfl)
@[simp] theorem modChan_objs : (modChan s ch f).objs = s.objs := (rfl)
@[simp] theorem modChan_clk : (modChan s ch f).clk = s.clk := (rfl)
@[simp] theorem modChan_slots : (modChan s ch f).slots = s.slots := (rfl)
@[simp] theorem modChan_gains : (modChan s ch f).gains = s.gains := (rfl)
@[simp] theorem modChan_rods : (modChan s ch f).rods = s.rods := (rfl)
@[simp] theorem modChan_buses : (modChan s ch f).buses = s.buses := (rfl)
@[simp] theorem modChan_routeRefs : (modChan s ch f).routeRefs = s.routeRefs := (rfl)
@[simp] theorem modChan_resets : (modChan s ch f).resets = s.resets := (rfl)
@[simp] theorem modChan_exitReports : (modChan s ch f).exitReports = s.exitReports := (rfl)
@[simp] theorem modChan_combSat : (modChan s ch f).combSat = s.combSat := (rfl)
@[simp] theorem modChan_mutes : (modChan s ch f).mutes = s.mutes := (rfl)
@[simp] theorem modChan_olp : (modChan s ch f).olp = s.olp := (rfl)
@[simp] theorem modChan_commit : (modChan s ch f).commit = s.commit := (rfl)
@[simp] theorem modChan_windows : (modChan s ch f).windows = s.windows := (rfl)
@[simp] theorem modChan_gov : (modChan s ch f).gov = s.gov := (rfl)
@[simp] theorem modChan_govSnap : (modChan s ch f).govSnap = s.govSnap := (rfl)
@[simp] theorem modChan_prot : (modChan s ch f).prot = s.prot := (rfl)
@[simp] theorem modChan_lic : (modChan s ch f).lic = s.lic := (rfl)
@[simp] theorem modChan_sent : (modChan s ch f).sent = s.sent := (rfl)
@[simp] theorem modChan_links : (modChan s ch f).links = s.links := (rfl)
@[simp] theorem modChan_cap : (modChan s ch f).cap = s.cap := (rfl)
@[simp] theorem modChan_flt : (modChan s ch f).flt = s.flt := (rfl)
@[simp] theorem modChan_tally : (modChan s ch f).tally = s.tally := (rfl)
@[simp] theorem modChan_therm : (modChan s ch f).therm = s.therm := (rfl)
@[simp] theorem modChan_life : (modChan s ch f).life = s.life := (rfl)
@[simp] theorem modChan_pins : (modChan s ch f).pins = s.pins := (rfl)
@[simp] theorem modChan_nv : (modChan s ch f).nv = s.nv := (rfl)
@[simp] theorem modChan_out : (modChan s ch f).out = s.out := (rfl)
@[simp] theorem modChan_free : (modChan s ch f).free = s.free := (rfl)
@[simp] theorem modChan_pending : (modChan s ch f).pending = s.pending := (rfl)

@[simp] theorem getChan_modChan : getChan (modChan s ch f) ch = f (getChan s ch) := by simp [modChan, getChan]
theorem getChan_modChan_ne (h : k ≠ ch) : getChan (modChan s ch f) k = getChan s k := by
  simp [modChan, getChan, smGet_smMod_ne _ _ _ _ _ h]

end

/-! ### modSlot -/

section

variable (s : State) (g k : Nat) (f : SlotPath → SlotPath)

@[simp] theorem modSlot_time : (modSlot s g f).time = s.time := (rfl)
@[simp] theorem modSlot_objs : (modSlot s g f).objs = s.objs := (rfl)
@[simp] theorem modSlot_clk : (modSlot s g f).clk = s.clk := (rfl)
@[simp] theorem modSlot_gains : (modSlot s g f).gains = s.gains := (rfl)
@[simp] theorem modSlot_chans : (modSlot s g f).chans = s.chans := (rfl)
@[simp] theorem modSlot_rods : (modSlot s g f).rods = s.rods := (rfl)
@[simp] theorem modSlot_buses : (modSlot s g f).buses = s.buses := (rfl)
@[simp] theorem modSlot_routeRefs : (modSlot s g f).routeRefs = s.routeRefs := (rfl)
@[simp] theorem modSlot_resets : (modSlot s g f).resets = s.resets := (rfl)
@[simp] theorem modSlot_exitReports : (modSlot s g f).exitReports = s.exitReports := (rfl)
@[simp] theorem modSlot_combSat : (modSlot s g f).combSat = s.combSat := (rfl)
@[simp] theorem modSlot_mutes : (modSlot s g f).mutes = s.mutes := (rfl)
@[simp] theorem modSlot_olp : (modSlot s g f).olp = s.olp := (rfl)
@[simp] theorem modSlot_commit : (modSlot s g f).commit = s.commit := (rfl)
@[simp] theorem modSlot_windows : (modSlot s g f).windows = s.windows := (rfl)
@[simp] theorem modSlot_gov : (modSlot s g f).gov = s.gov := (rfl)
@[simp] theorem modSlot_govSnap : (modSlot s g f).govSnap = s.govSnap := (rfl)
@[simp] theorem modSlot_prot : (modSlot s g f).prot = s.prot := (rfl)
@[simp] theorem modSlot_lic : (modSlot s g f).lic = s.lic := (rfl)
@[simp] theorem modSlot_sent : (modSlot s g f).sent = s.sent := (rfl)
@[simp] theorem modSlot_links : (modSlot s g f).links = s.links := (rfl)
@[simp] theorem modSlot_cap : (modSlot s g f).cap = s.cap := (rfl)
@[simp] theorem modSlot_flt : (modSlot s g f).flt = s.flt := (rfl)
@[simp] theorem modSlot_tally : (modSlot s g f).tally = s.tally := (rfl)
@[simp] theorem modSlot_therm : (modSlot s g f).therm = s.therm := (rfl)
@[simp] theorem modSlot_life : (modSlot s g f).life = s.life := (rfl)
@[simp] theorem modSlot_pins : (modSlot s g f).pins = s.pins := (rfl)
@[simp] theorem modSlot_nv : (modSlot s g f).nv = s.nv := (rfl)
@[simp] theorem modSlot_out : (modSlot s g f).out = s.out := (rfl)
@[simp] theorem modSlot_free : (modSlot s g f).free = s.free := (rfl)
@[simp] theorem modSlot_pending : (modSlot s g f).pending = s.pending := (rfl)

@[simp] theorem getSlot_modSlot : getSlot (modSlot s g f) g = f (getSlot s g) := by simp [modSlot, getSlot]
theorem getSlot_modSlot_ne (h : k ≠ g) : getSlot (modSlot s g f) k = getSlot s k := by
  simp [modSlot, getSlot, smGet_smMod_ne _ _ _ _ _ h]

end

/-! ### modGain -/

section

variable (s : State) (g k : Nat) (f : SlotGain → SlotGain)

@[simp] theorem modGain_time : (modGain s g f).time = s.time := (rfl)
@[simp] theorem modGain_objs : (modGain s g f).objs = s.objs := (rfl)
@[simp] theorem modGain_clk : (modGain s g f).clk = s.clk := (rfl)
@[simp] theorem modGain_slots : (modGain s g f).slots = s.slots := (rfl)
@[simp] theorem modGain_chans : (modGain s g f).chans = s.chans := (rfl)
@[simp] theorem modGain_rods : (modGain s g f).rods = s.rods := (rfl)
@[simp] theorem modGain_buses : (modGain s g f).buses = s.buses := (rfl)
@[simp] theorem modGain_routeRefs : (modGain s g f).routeRefs = s.routeRefs := (rfl)
@[simp] theorem modGain_resets : (modGain s g f).resets = s.resets := (rfl)
@[simp] theorem modGain_exitReports : (modGain s g f).exitReports = s.exitReports := (rfl)
@[simp] theorem modGain_combSat : (modGain s g f).combSat = s.combSat := (rfl)
@[simp] theorem modGain_mutes : (modGain s g f).mutes = s.mutes := (rfl)
@[simp] theorem modGain_olp : (modGain s g f).olp = s.olp := (rfl)
@[simp] theorem modGain_commit : (modGain s g f).commit = s.commit := (rfl)
@[simp] theorem modGain_windows : (modGain s g f).windows = s.windows := (rfl)
@[simp] theorem modGain_gov : (modGain s g f).gov = s.gov := (rfl)
@[simp] theorem modGain_govSnap : (modGain s g f).govSnap = s.govSnap := (rfl)
@[simp] theorem modGain_prot : (modGain s g f).prot = s.prot := (rfl)
@[simp] theorem modGain_lic : (modGain s g f).lic = s.lic := (rfl)
@[simp] theorem modGain_sent : (modGain s g f).sent = s.sent := (rfl)
@[simp] theorem modGain_links : (modGain s g f).links = s.links := (rfl)
@[simp] theorem modGain_cap : (modGain s g f).cap = s.cap := (rfl)
@[simp] theorem modGain_flt : (modGain s g f).flt = s.flt := (rfl)
@[simp] theorem modGain_tally : (modGain s g f).tally = s.tally := (rfl)
@[simp] theorem modGain_therm : (modGain s g f).therm = s.therm := (rfl)
@[simp] theorem modGain_life : (modGain s g f).life = s.life := (rfl)
@[simp] theorem modGain_pins : (modGain s g f).pins = s.pins := (rfl)
@[simp] theorem modGain_nv : (modGain s g f).nv = s.nv := (rfl)
@[simp] theorem modGain_out : (modGain s g f).out = s.out := (rfl)
@[simp] theorem modGain_free : (modGain s g f).free = s.free := (rfl)
@[simp] theorem modGain_pending : (modGain s g f).pending = s.pending := (rfl)

@[simp] theorem getGain_modGain : getGain (modGain s g f) g = f (getGain s g) := by simp [modGain, getGain]
theorem getGain_modGain_ne (h : k ≠ g) : getGain (modGain s g f) k = getGain s k := by
  simp [modGain, getGain, smGet_smMod_ne _ _ _ _ _ h]

end

/-! ### modRod -/

section

variable (s : State) (r k : Nat) (f : Rod → Rod)

@[simp] theorem modRod_time : (modRod s r f).time = s.time := (rfl)
@[simp] theorem modRod_objs : (modRod s r f).objs = s.objs := (rfl)
@[simp] theorem modRod_clk : (modRod s r f).clk = s.clk := (rfl)
@[simp] theorem modRod_slots : (modRod s r f).slots = s.slots := (rfl)
@[simp] theorem modRod_gains : (modRod s r f).gains = s.gains := (rfl)
@[simp] theorem modRod_chans : (modRod s r f).chans = s.chans := (rfl)
@[simp] theorem modRod_buses : (modRod s r f).buses = s.buses := (rfl)
@[simp] theorem modRod_routeRefs : (modRod s r f).routeRefs = s.routeRefs := (rfl)
@[simp] theorem modRod_resets : (modRod s r f).resets = s.resets := (rfl)
@[simp] theorem modRod_exitReports : (modRod s r f).exitReports = s.exitReports := (rfl)
@[simp] theorem modRod_combSat : (modRod s r f).combSat = s.combSat := (rfl)
@[simp] theorem modRod_mutes : (modRod s r f).mutes = s.mutes := (rfl)
@[simp] theorem modRod_olp : (modRod s r f).olp = s.olp := (rfl)
@[simp] theorem modRod_commit : (modRod s r f).commit = s.commit := (rfl)
@[simp] theorem modRod_windows : (modRod s r f).windows = s.windows := (rfl)
@[simp] theorem modRod_gov : (modRod s r f).gov = s.gov := (rfl)
@[simp] theorem modRod_govSnap : (modRod s r f).govSnap = s.govSnap := (rfl)
@[simp] theorem modRod_prot : (modRod s r f).prot = s.prot := (rfl)
@[simp] theorem modRod_lic : (modRod s r f).lic = s.lic := (rfl)
@[simp] theorem modRod_sent : (modRod s r f).sent = s.sent := (rfl)
@[simp] theorem modRod_links : (modRod s r f).links = s.links := (rfl)
@[simp] theorem modRod_cap : (modRod s r f).cap = s.cap := (rfl)
@[simp] theorem modRod_flt : (modRod s r f).flt = s.flt := (rfl)
@[simp] theorem modRod_tally : (modRod s r f).tally = s.tally := (rfl)
@[simp] theorem modRod_therm : (modRod s r f).therm = s.therm := (rfl)
@[simp] theorem modRod_life : (modRod s r f).life = s.life := (rfl)
@[simp] theorem modRod_pins : (modRod s r f).pins = s.pins := (rfl)
@[simp] theorem modRod_nv : (modRod s r f).nv = s.nv := (rfl)
@[simp] theorem modRod_out : (modRod s r f).out = s.out := (rfl)
@[simp] theorem modRod_free : (modRod s r f).free = s.free := (rfl)
@[simp] theorem modRod_pending : (modRod s r f).pending = s.pending := (rfl)

@[simp] theorem getRod_modRod : getRod (modRod s r f) r = f (getRod s r) := by simp [modRod, getRod]
theorem getRod_modRod_ne (h : k ≠ r) : getRod (modRod s r f) k = getRod s k := by
  simp [modRod, getRod, smGet_smMod_ne _ _ _ _ _ h]

end

/-! ### modBus -/

section

variable (s : State) (b k : Nat) (f : Bus → Bus)

@[simp] theorem modBus_time : (modBus s b f).time = s.time := (rfl)
@[simp] theorem modBus_objs : (modBus s b f).objs = s.objs := (rfl)
@[simp] theorem modBus_clk : (modBus s b f).clk = s.clk := (rfl)
@[simp] theorem modBus_slots : (modBus s b f).slots = s.slots := (rfl)
@[simp] theorem modBus_gains : (modBus s b f).gains = s.gains := (rfl)
@[simp] theorem modBus_chans : (modBus s b f).chans = s.chans := (rfl)
@[simp] theorem modBus_rods : (modBus s b f).rods = s.rods := (rfl)
@[simp] theorem modBus_routeRefs : (modBus s b f).routeRefs = s.routeRefs := (rfl)
@[simp] theorem modBus_resets : (modBus s b f).resets = s.resets := (rfl)
@[simp] theorem modBus_exitReports : (modBus s b f).exitReports = s.exitReports := (rfl)
@[simp] theorem modBus_combSat : (modBus s b f).combSat = s.combSat := (rfl)
@[simp] theorem modBus_mutes : (modBus s b f).mutes = s.mutes := (rfl)
@[simp] theorem modBus_olp : (modBus s b f).olp = s.olp := (rfl)
@[simp] theorem modBus_commit : (modBus s b f).commit = s.commit := (rfl)
@[simp] theorem modBus_windows : (modBus s b f).windows = s.windows := (rfl)
@[simp] theorem modBus_gov : (modBus s b f).gov = s.gov := (rfl)
@[simp] theorem modBus_govSnap : (modBus s b f).govSnap = s.govSnap := (rfl)
@[simp] theorem modBus_prot : (modBus s b f).prot = s.prot := (rfl)
@[simp] theorem modBus_lic : (modBus s b f).lic = s.lic := (rfl)
@[simp] theorem modBus_sent : (modBus s b f).sent = s.sent := (rfl)
@[simp] theorem modBus_links : (modBus s b f).links = s.links := (rfl)
@[simp] theorem modBus_cap : (modBus s b f).cap = s.cap := (rfl)
@[simp] theorem modBus_flt : (modBus s b f).flt = s.flt := (rfl)
@[simp] theorem modBus_tally : (modBus s b f).tally = s.tally := (rfl)
@[simp] theorem modBus_therm : (modBus s b f).therm = s.therm := (rfl)
@[simp] theorem modBus_life : (modBus s b f).life = s.life := (rfl)
@[simp] theorem modBus_pins : (modBus s b f).pins = s.pins := (rfl)
@[simp] theorem modBus_nv : (modBus s b f).nv = s.nv := (rfl)
@[simp] theorem modBus_out : (modBus s b f).out = s.out := (rfl)
@[simp] theorem modBus_free : (modBus s b f).free = s.free := (rfl)
@[simp] theorem modBus_pending : (modBus s b f).pending = s.pending := (rfl)

@[simp] theorem getBus_modBus : getBus (modBus s b f) b = f (getBus s b) := by simp [modBus, getBus]
theorem getBus_modBus_ne (h : k ≠ b) : getBus (modBus s b f) k = getBus s k := by
  simp [modBus, getBus, smGet_smMod_ne _ _ _ _ _ h]

end

/-! ### modZone -/

section

variable (s : State) (z k : Nat) (f : Zone → Zone)

@[simp] theorem modZone_time : (modZone s z f).time = s.time := (rfl)
@[simp] theorem modZone_objs : (modZone s z f).objs = s.objs := (rfl)
@[simp] theorem modZone_clk : (modZone s z f).clk = s.clk := (rfl)
@[simp] theorem modZone_slots : (modZone s z f).slots = s.slots := (rfl)
@[simp] theorem modZone_gains : (modZone s z f).gains = s.gains := (rfl)
@[simp] theorem modZone_chans : (modZone s z f).chans = s.chans := (rfl)
@[simp] theorem modZone_rods : (modZone s z f).rods = s.rods := (rfl)
@[simp] theorem modZone_buses : (modZone s z f).buses = s.buses := (rfl)
@[simp] theorem modZone_routeRefs : (modZone s z f).routeRefs = s.routeRefs := (rfl)
@[simp] theorem modZone_resets : (modZone s z f).resets = s.resets := (rfl)
@[simp] theorem modZone_exitReports : (modZone s z f).exitReports = s.exitReports := (rfl)
@[simp] theorem modZone_combSat : (modZone s z f).combSat = s.combSat := (rfl)
@[simp] theorem modZone_mutes : (modZone s z f).mutes = s.mutes := (rfl)
@[simp] theorem modZone_olp : (modZone s z f).olp = s.olp := (rfl)
@[simp] theorem modZone_commit : (modZone s z f).commit = s.commit := (rfl)
@[simp] theorem modZone_windows : (modZone s z f).windows = s.windows := (rfl)
@[simp] theorem modZone_gov : (modZone s z f).gov = s.gov := (rfl)
@[simp] theorem modZone_govSnap : (modZone s z f).govSnap = s.govSnap := (rfl)
@[simp] theorem modZone_prot : (modZone s z f).prot = s.prot := (rfl)
@[simp] theorem modZone_lic : (modZone s z f).lic = s.lic := (rfl)
@[simp] theorem modZone_sent : (modZone s z f).sent = s.sent := (rfl)
@[simp] theorem modZone_links : (modZone s z f).links = s.links := (rfl)
@[simp] theorem modZone_cap : (modZone s z f).cap = s.cap := (rfl)
@[simp] theorem modZone_flt : (modZone s z f).flt = s.flt := (rfl)
@[simp] theorem modZone_tally : (modZone s z f).tally = s.tally := (rfl)
@[simp] theorem modZone_life : (modZone s z f).life = s.life := (rfl)
@[simp] theorem modZone_pins : (modZone s z f).pins = s.pins := (rfl)
@[simp] theorem modZone_nv : (modZone s z f).nv = s.nv := (rfl)
@[simp] theorem modZone_out : (modZone s z f).out = s.out := (rfl)
@[simp] theorem modZone_free : (modZone s z f).free = s.free := (rfl)
@[simp] theorem modZone_pending : (modZone s z f).pending = s.pending := (rfl)

@[simp] theorem getZone_modZone : getZone (modZone s z f) z = f (getZone s z) := by simp [modZone, getZone]
theorem getZone_modZone_ne (h : k ≠ z) : getZone (modZone s z f) k = getZone s k := by
  simp [modZone, getZone, smGet_smMod_ne _ _ _ _ _ h]

end

/-! ### modDn -/

section

variable (s : State) (l k : Nat) (f : DnPort → DnPort)

@[simp] theorem modDn_time : (modDn s l f).time = s.time := (rfl)
@[simp] theorem modDn_objs : (modDn s l f).objs = s.objs := (rfl)
@[simp] theorem modDn_clk : (modDn s l f).clk = s.clk := (rfl)
@[simp] theorem modDn_slots : (modDn s l f).slots = s.slots := (rfl)
@[simp] theorem modDn_gains : (modDn s l f).gains = s.gains := (rfl)
@[simp] theorem modDn_chans : (modDn s l f).chans = s.chans := (rfl)
@[simp] theorem modDn_rods : (modDn s l f).rods = s.rods := (rfl)
@[simp] theorem modDn_buses : (modDn s l f).buses = s.buses := (rfl)
@[simp] theorem modDn_routeRefs : (modDn s l f).routeRefs = s.routeRefs := (rfl)
@[simp] theorem modDn_resets : (modDn s l f).resets = s.resets := (rfl)
@[simp] theorem modDn_exitReports : (modDn s l f).exitReports = s.exitReports := (rfl)
@[simp] theorem modDn_combSat : (modDn s l f).combSat = s.combSat := (rfl)
@[simp] theorem modDn_mutes : (modDn s l f).mutes = s.mutes := (rfl)
@[simp] theorem modDn_olp : (modDn s l f).olp = s.olp := (rfl)
@[simp] theorem modDn_commit : (modDn s l f).commit = s.commit := (rfl)
@[simp] theorem modDn_windows : (modDn s l f).windows = s.windows := (rfl)
@[simp] theorem modDn_gov : (modDn s l f).gov = s.gov := (rfl)
@[simp] theorem modDn_govSnap : (modDn s l f).govSnap = s.govSnap := (rfl)
@[simp] theorem modDn_prot : (modDn s l f).prot = s.prot := (rfl)
@[simp] theorem modDn_lic : (modDn s l f).lic = s.lic := (rfl)
@[simp] theorem modDn_sent : (modDn s l f).sent = s.sent := (rfl)
@[simp] theorem modDn_cap : (modDn s l f).cap = s.cap := (rfl)
@[simp] theorem modDn_flt : (modDn s l f).flt = s.flt := (rfl)
@[simp] theorem modDn_tally : (modDn s l f).tally = s.tally := (rfl)
@[simp] theorem modDn_therm : (modDn s l f).therm = s.therm := (rfl)
@[simp] theorem modDn_life : (modDn s l f).life = s.life := (rfl)
@[simp] theorem modDn_pins : (modDn s l f).pins = s.pins := (rfl)
@[simp] theorem modDn_nv : (modDn s l f).nv = s.nv := (rfl)
@[simp] theorem modDn_out : (modDn s l f).out = s.out := (rfl)
@[simp] theorem modDn_free : (modDn s l f).free = s.free := (rfl)
@[simp] theorem modDn_pending : (modDn s l f).pending = s.pending := (rfl)

@[simp] theorem getDn_modDn : getDn (modDn s l f) l = f (getDn s l) := by simp [modDn, getDn]
theorem getDn_modDn_ne (h : k ≠ l) : getDn (modDn s l f) k = getDn s k := by
  simp [modDn, getDn, smGet_smMod_ne _ _ _ _ _ h]

end

/-! ### modXl -/

section

variable (s : State) (l k : Nat) (f : XlLane → XlLane)

@[simp] theorem modXl_time : (modXl s l f).time = s.time := (rfl)
@[simp] theorem modXl_objs : (modXl s l f).objs = s.objs := (rfl)
@[simp] theorem modXl_clk : (modXl s l f).clk = s.clk := (rfl)
@[simp] theorem modXl_slots : (modXl s l f).slots = s.slots := (rfl)
@[simp] theorem modXl_gains : (modXl s l f).gains = s.gains := (rfl)
@[simp] theorem modXl_chans : (modXl s l f).chans = s.chans := (rfl)
@[simp] theorem modXl_rods : (modXl s l f).rods = s.rods := (rfl)
@[simp] theorem modXl_buses : (modXl s l f).buses = s.buses := (rfl)
@[simp] theorem modXl_routeRefs : (modXl s l f).routeRefs = s.routeRefs := (rfl)
@[simp] theorem modXl_resets : (modXl s l f).resets = s.resets := (rfl)
@[simp] theorem modXl_exitReports : (modXl s l f).exitReports = s.exitReports := (rfl)
@[simp] theorem modXl_combSat : (modXl s l f).combSat = s.combSat := (rfl)
@[simp] theorem modXl_mutes : (modXl s l f).mutes = s.mutes := (rfl)
@[simp] theorem modXl_olp : (modXl s l f).olp = s.olp := (rfl)
@[simp] theorem modXl_commit : (modXl s l f).commit = s.commit := (rfl)
@[simp] theorem modXl_windows : (modXl s l f).windows = s.windows := (rfl)
@[simp] theorem modXl_gov : (modXl s l f).gov = s.gov := (rfl)
@[simp] theorem modXl_govSnap : (modXl s l f).govSnap = s.govSnap := (rfl)
@[simp] theorem modXl_prot : (modXl s l f).prot = s.prot := (rfl)
@[simp] theorem modXl_lic : (modXl s l f).lic = s.lic := (rfl)
@[simp] theorem modXl_sent : (modXl s l f).sent = s.sent := (rfl)
@[simp] theorem modXl_cap : (modXl s l f).cap = s.cap := (rfl)
@[simp] theorem modXl_flt : (modXl s l f).flt = s.flt := (rfl)
@[simp] theorem modXl_tally : (modXl s l f).tally = s.tally := (rfl)
@[simp] theorem modXl_therm : (modXl s l f).therm = s.therm := (rfl)
@[simp] theorem modXl_life : (modXl s l f).life = s.life := (rfl)
@[simp] theorem modXl_pins : (modXl s l f).pins = s.pins := (rfl)
@[simp] theorem modXl_nv : (modXl s l f).nv = s.nv := (rfl)
@[simp] theorem modXl_out : (modXl s l f).out = s.out := (rfl)
@[simp] theorem modXl_free : (modXl s l f).free = s.free := (rfl)
@[simp] theorem modXl_pending : (modXl s l f).pending = s.pending := (rfl)

@[simp] theorem getXl_modXl : getXl (modXl s l f) l = f (getXl s l) := by simp [modXl, getXl]
theorem getXl_modXl_ne (h : k ≠ l) : getXl (modXl s l f) k = getXl s k := by
  simp [modXl, getXl, smGet_smMod_ne _ _ _ _ _ h]

end

/-! ### modLoop -/

section

variable (s : State) (r k : Nat) (f : Loop → Loop)

@[simp] theorem modLoop_time : (modLoop s r f).time = s.time := (rfl)
@[simp] theorem modLoop_objs : (modLoop s r f).objs = s.objs := (rfl)
@[simp] theorem modLoop_clk : (modLoop s r f).clk = s.clk := (rfl)
@[simp] theorem modLoop_slots : (modLoop s r f).slots = s.slots := (rfl)
@[simp] theorem modLoop_gains : (modLoop s r f).gains = s.gains := (rfl)
@[simp] theorem modLoop_chans : (modLoop s r f).chans = s.chans := (rfl)
@[simp] theorem modLoop_rods : (modLoop s r f).rods = s.rods := (rfl)
@[simp] theorem modLoop_buses : (modLoop s r f).buses = s.buses := (rfl)
@[simp] theorem modLoop_routeRefs : (modLoop s r f).routeRefs = s.routeRefs := (rfl)
@[simp] theorem modLoop_resets : (modLoop s r f).resets = s.resets := (rfl)
@[simp] theorem modLoop_exitReports : (modLoop s r f).exitReports = s.exitReports := (rfl)
@[simp] theorem modLoop_combSat : (modLoop s r f).combSat = s.combSat := (rfl)
@[simp] theorem modLoop_mutes : (modLoop s r f).mutes = s.mutes := (rfl)
@[simp] theorem modLoop_olp : (modLoop s r f).olp = s.olp := (rfl)
@[simp] theorem modLoop_commit : (modLoop s r f).commit = s.commit := (rfl)
@[simp] theorem modLoop_windows : (modLoop s r f).windows = s.windows := (rfl)
@[simp] theorem modLoop_govSnap : (modLoop s r f).govSnap = s.govSnap := (rfl)
@[simp] theorem modLoop_prot : (modLoop s r f).prot = s.prot := (rfl)
@[simp] theorem modLoop_lic : (modLoop s r f).lic = s.lic := (rfl)
@[simp] theorem modLoop_sent : (modLoop s r f).sent = s.sent := (rfl)
@[simp] theorem modLoop_links : (modLoop s r f).links = s.links := (rfl)
@[simp] theorem modLoop_cap : (modLoop s r f).cap = s.cap := (rfl)
@[simp] theorem modLoop_flt : (modLoop s r f).flt = s.flt := (rfl)
@[simp] theorem modLoop_tally : (modLoop s r f).tally = s.tally := (rfl)
@[simp] theorem modLoop_therm : (modLoop s r f).therm = s.therm := (rfl)
@[simp] theorem modLoop_life : (modLoop s r f).life = s.life := (rfl)
@[simp] theorem modLoop_pins : (modLoop s r f).pins = s.pins := (rfl)
@[simp] theorem modLoop_nv : (modLoop s r f).nv = s.nv := (rfl)
@[simp] theorem modLoop_out : (modLoop s r f).out = s.out := (rfl)
@[simp] theorem modLoop_free : (modLoop s r f).free = s.free := (rfl)
@[simp] theorem modLoop_pending : (modLoop s r f).pending = s.pending := (rfl)

@[simp] theorem getLoop_modLoop : getLoop (modLoop s r f) r = f (getLoop s r) := by simp [modLoop, getLoop]
theorem getLoop_modLoop_ne (h : k ≠ r) : getLoop (modLoop s r f) k = getLoop s k := by
  simp [modLoop, getLoop, smGet_smMod_ne _ _ _ _ _ h]

end

/-! ### modWindow -/

section

variable (s : State) (w k : Nat) (f : Window → Window)

@[simp] theorem modWindow_time : (modWindow s w f).time = s.time := (rfl)
@[simp] theorem modWindow_objs : (modWindow s w f).objs = s.objs := (rfl)
@[simp] theorem modWindow_clk : (modWindow s w f).clk = s.clk := (rfl)
@[simp] theorem modWindow_slots : (modWindow s w f).slots = s.slots := (rfl)
@[simp] theorem modWindow_gains : (modWindow s w f).gains = s.gains := (rfl)
@[simp] theorem modWindow_chans : (modWindow s w f).chans = s.chans := (rfl)
@[simp] theorem modWindow_rods : (modWindow s w f).rods = s.rods := (rfl)
@[simp] theorem modWindow_buses : (modWindow s w f).buses = s.buses := (rfl)
@[simp] theorem modWindow_routeRefs : (modWindow s w f).routeRefs = s.routeRefs := (rfl)
@[simp] theorem modWindow_resets : (modWindow s w f).resets = s.resets := (rfl)
@[simp] theorem modWindow_exitReports : (modWindow s w f).exitReports = s.exitReports := (rfl)
@[simp] theorem modWindow_combSat : (modWindow s w f).combSat = s.combSat := (rfl)
@[simp] theorem modWindow_mutes : (modWindow s w f).mutes = s.mutes := (rfl)
@[simp] theorem modWindow_olp : (modWindow s w f).olp = s.olp := (rfl)
@[simp] theorem modWindow_commit : (modWindow s w f).commit = s.commit := (rfl)
@[simp] theorem modWindow_gov : (modWindow s w f).gov = s.gov := (rfl)
@[simp] theorem modWindow_govSnap : (modWindow s w f).govSnap = s.govSnap := (rfl)
@[simp] theorem modWindow_prot : (modWindow s w f).prot = s.prot := (rfl)
@[simp] theorem modWindow_lic : (modWindow s w f).lic = s.lic := (rfl)
@[simp] theorem modWindow_sent : (modWindow s w f).sent = s.sent := (rfl)
@[simp] theorem modWindow_links : (modWindow s w f).links = s.links := (rfl)
@[simp] theorem modWindow_cap : (modWindow s w f).cap = s.cap := (rfl)
@[simp] theorem modWindow_flt : (modWindow s w f).flt = s.flt := (rfl)
@[simp] theorem modWindow_tally : (modWindow s w f).tally = s.tally := (rfl)
@[simp] theorem modWindow_therm : (modWindow s w f).therm = s.therm := (rfl)
@[simp] theorem modWindow_life : (modWindow s w f).life = s.life := (rfl)
@[simp] theorem modWindow_pins : (modWindow s w f).pins = s.pins := (rfl)
@[simp] theorem modWindow_nv : (modWindow s w f).nv = s.nv := (rfl)
@[simp] theorem modWindow_out : (modWindow s w f).out = s.out := (rfl)
@[simp] theorem modWindow_free : (modWindow s w f).free = s.free := (rfl)
@[simp] theorem modWindow_pending : (modWindow s w f).pending = s.pending := (rfl)

@[simp] theorem getWindow_modWindow : getWindow (modWindow s w f) w = f (getWindow s w) := by simp [modWindow, getWindow]
theorem getWindow_modWindow_ne (h : k ≠ w) : getWindow (modWindow s w f) k = getWindow s k := by
  simp [modWindow, getWindow, smGet_smMod_ne _ _ _ _ _ h]

end

/-! ### The parts of a channel -/

section

variable (s : State) (ch k : Nat) (f : Canceller → Canceller)

@[simp] theorem modCanc_time : (modCanc s ch f).time = s.time := (rfl)
@[simp] theorem modCanc_objs : (modCanc s ch f).objs = s.objs := (rfl)
@[simp] theorem modCanc_clk : (modCanc s ch f).clk = s.clk := (rfl)
@[simp] theorem modCanc_slots : (modCanc s ch f).slots = s.slots := (rfl)
@[simp] theorem modCanc_gains : (modCanc s ch f).gains = s.gains := (rfl)
@[simp] theorem modCanc_rods : (modCanc s ch f).rods = s.rods := (rfl)
@[simp] theorem modCanc_buses : (modCanc s ch f).buses = s.buses := (rfl)
@[simp] theorem modCanc_routeRefs : (modCanc s ch f).routeRefs = s.routeRefs := (rfl)
@[simp] theorem modCanc_resets : (modCanc s ch f).resets = s.resets := (rfl)
@[simp] theorem modCanc_exitReports : (modCanc s ch f).exitReports = s.exitReports := (rfl)
@[simp] theorem modCanc_combSat : (modCanc s ch f).combSat = s.combSat := (rfl)
@[simp] theorem modCanc_mutes : (modCanc s ch f).mutes = s.mutes := (rfl)
@[simp] theorem modCanc_olp : (modCanc s ch f).olp = s.olp := (rfl)
@[simp] theorem modCanc_commit : (modCanc s ch f).commit = s.commit := (rfl)
@[simp] theorem modCanc_windows : (modCanc s ch f).windows = s.windows := (rfl)
@[simp] theorem modCanc_gov : (modCanc s ch f).gov = s.gov := (rfl)
@[simp] theorem modCanc_govSnap : (modCanc s ch f).govSnap = s.govSnap := (rfl)
@[simp] theorem modCanc_prot : (modCanc s ch f).prot = s.prot := (rfl)
@[simp] theorem modCanc_lic : (modCanc s ch f).lic = s.lic := (rfl)
@[simp] theorem modCanc_sent : (modCanc s ch f).sent = s.sent := (rfl)
@[simp] theorem modCanc_links : (modCanc s ch f).links = s.links := (rfl)
@[simp] theorem modCanc_cap : (modCanc s ch f).cap = s.cap := (rfl)
@[simp] theorem modCanc_flt : (modCanc s ch f).flt = s.flt := (rfl)
@[simp] theorem modCanc_tally : (modCanc s ch f).tally = s.tally := (rfl)
@[simp] theorem modCanc_therm : (modCanc s ch f).therm = s.therm := (rfl)
@[simp] theorem modCanc_life : (modCanc s ch f).life = s.life := (rfl)
@[simp] theorem modCanc_pins : (modCanc s ch f).pins = s.pins := (rfl)
@[simp] theorem modCanc_nv : (modCanc s ch f).nv = s.nv := (rfl)
@[simp] theorem modCanc_out : (modCanc s ch f).out = s.out := (rfl)
@[simp] theorem modCanc_free : (modCanc s ch f).free = s.free := (rfl)
@[simp] theorem modCanc_pending : (modCanc s ch f).pending = s.pending := (rfl)

/-- Only the channel's `canc` changes. -/
@[simp] theorem getChan_modCanc : getChan (modCanc s ch f) ch = { getChan s ch with canc := f (getChan s ch).canc } :=
  getChan_modChan s ch _
theorem getChan_modCanc_ne (h : k ≠ ch) : getChan (modCanc s ch f) k = getChan s k := getChan_modChan_ne s ch k _ h

end

section

variable (s : State) (ch k : Nat) (f : Nines → Nines)

@[simp] theorem modNines_time : (modNines s ch f).time = s.time := (rfl)
@[simp] theorem modNines_objs : (modNines s ch f).objs = s.objs := (rfl)
@[simp] theorem modNines_clk : (modNines s ch f).clk = s.clk := (rfl)
@[simp] theorem modNines_slots : (modNines s ch f).slots = s.slots := (rfl)
@[simp] theorem modNines_gains : (modNines s ch f).gains = s.gains := (rfl)
@[simp] theorem modNines_rods : (modNines s ch f).rods = s.rods := (rfl)
@[simp] theorem modNines_buses : (modNines s ch f).buses = s.buses := (rfl)
@[simp] theorem modNines_routeRefs : (modNines s ch f).routeRefs = s.routeRefs := (rfl)
@[simp] theorem modNines_resets : (modNines s ch f).resets = s.resets := (rfl)
@[simp] theorem modNines_exitReports : (modNines s ch f).exitReports = s.exitReports := (rfl)
@[simp] theorem modNines_combSat : (modNines s ch f).combSat = s.combSat := (rfl)
@[simp] theorem modNines_mutes : (modNines s ch f).mutes = s.mutes := (rfl)
@[simp] theorem modNines_olp : (modNines s ch f).olp = s.olp := (rfl)
@[simp] theorem modNines_commit : (modNines s ch f).commit = s.commit := (rfl)
@[simp] theorem modNines_windows : (modNines s ch f).windows = s.windows := (rfl)
@[simp] theorem modNines_gov : (modNines s ch f).gov = s.gov := (rfl)
@[simp] theorem modNines_govSnap : (modNines s ch f).govSnap = s.govSnap := (rfl)
@[simp] theorem modNines_prot : (modNines s ch f).prot = s.prot := (rfl)
@[simp] theorem modNines_lic : (modNines s ch f).lic = s.lic := (rfl)
@[simp] theorem modNines_sent : (modNines s ch f).sent = s.sent := (rfl)
@[simp] theorem modNines_links : (modNines s ch f).links = s.links := (rfl)
@[simp] theorem modNines_cap : (modNines s ch f).cap = s.cap := (rfl)
@[simp] theorem modNines_flt : (modNines s ch f).flt = s.flt := (rfl)
@[simp] theorem modNines_tally : (modNines s ch f).tally = s.tally := (rfl)
@[simp] theorem modNines_therm : (modNines s ch f).therm = s.therm := (rfl)
@[simp] theorem modNines_life : (modNines s ch f).life = s.life := (rfl)
@[simp] theorem modNines_pins : (modNines s ch f).pins = s.pins := (rfl)
@[simp] theorem modNines_nv : (modNines s ch f).nv = s.nv := (rfl)
@[simp] theorem modNines_out : (modNines s ch f).out = s.out := (rfl)
@[simp] theorem modNines_free : (modNines s ch f).free = s.free := (rfl)
@[simp] theorem modNines_pending : (modNines s ch f).pending = s.pending := (rfl)

/-- Only the channel's `nines` changes. -/
@[simp] theorem getChan_modNines : getChan (modNines s ch f) ch = { getChan s ch with nines := f (getChan s ch).nines } :=
  getChan_modChan s ch _
theorem getChan_modNines_ne (h : k ≠ ch) : getChan (modNines s ch f) k = getChan s k := getChan_modChan_ne s ch k _ h

end

section

variable (s : State) (ch k : Nat) (f : RadioCh → RadioCh)

@[simp] theorem modRadio_time : (modRadio s ch f).time = s.time := (rfl)
@[simp] theorem modRadio_objs : (modRadio s ch f).objs = s.objs := (rfl)
@[simp] theorem modRadio_clk : (modRadio s ch f).clk = s.clk := (rfl)
@[simp] theorem modRadio_slots : (modRadio s ch f).slots = s.slots := (rfl)
@[simp] theorem modRadio_gains : (modRadio s ch f).gains = s.gains := (rfl)
@[simp] theorem modRadio_rods : (modRadio s ch f).rods = s.rods := (rfl)
@[simp] theorem modRadio_buses : (modRadio s ch f).buses = s.buses := (rfl)
@[simp] theorem modRadio_routeRefs : (modRadio s ch f).routeRefs = s.routeRefs := (rfl)
@[simp] theorem modRadio_resets : (modRadio s ch f).resets = s.resets := (rfl)
@[simp] theorem modRadio_exitReports : (modRadio s ch f).exitReports = s.exitReports := (rfl)
@[simp] theorem modRadio_combSat : (modRadio s ch f).combSat = s.combSat := (rfl)
@[simp] theorem modRadio_mutes : (modRadio s ch f).mutes = s.mutes := (rfl)
@[simp] theorem modRadio_olp : (modRadio s ch f).olp = s.olp := (rfl)
@[simp] theorem modRadio_commit : (modRadio s ch f).commit = s.commit := (rfl)
@[simp] theorem modRadio_windows : (modRadio s ch f).windows = s.windows := (rfl)
@[simp] theorem modRadio_gov : (modRadio s ch f).gov = s.gov := (rfl)
@[simp] theorem modRadio_govSnap : (modRadio s ch f).govSnap = s.govSnap := (rfl)
@[simp] theorem modRadio_prot : (modRadio s ch f).prot = s.prot := (rfl)
@[simp] theorem modRadio_lic : (modRadio s ch f).lic = s.lic := (rfl)
@[simp] theorem modRadio_sent : (modRadio s ch f).sent = s.sent := (rfl)
@[simp] theorem modRadio_links : (modRadio s ch f).links = s.links := (rfl)
@[simp] theorem modRadio_cap : (modRadio s ch f).cap = s.cap := (rfl)
@[simp] theorem modRadio_flt : (modRadio s ch f).flt = s.flt := (rfl)
@[simp] theorem modRadio_tally : (modRadio s ch f).tally = s.tally := (rfl)
@[simp] theorem modRadio_therm : (modRadio s ch f).therm = s.therm := (rfl)
@[simp] theorem modRadio_life : (modRadio s ch f).life = s.life := (rfl)
@[simp] theorem modRadio_pins : (modRadio s ch f).pins = s.pins := (rfl)
@[simp] theorem modRadio_nv : (modRadio s ch f).nv = s.nv := (rfl)
@[simp] theorem modRadio_out : (modRadio s ch f).out = s.out := (rfl)
@[simp] theorem modRadio_free : (modRadio s ch f).free = s.free := (rfl)
@[simp] theorem modRadio_pending : (modRadio s ch f).pending = s.pending := (rfl)

/-- Only the channel's `radio` changes. -/
@[simp] theorem getChan_modRadio : getChan (modRadio s ch f) ch = { getChan s ch with radio := f (getChan s ch).radio } :=
  getChan_modChan s ch _
theorem getChan_modRadio_ne (h : k ≠ ch) : getChan (modRadio s ch f) k = getChan s k := getChan_modChan_ne s ch k _ h

end

section

variable (s : State) (ch k : Nat) (f : Mismatch → Mismatch)

@[simp] theorem modMis_time : (modMis s ch f).time = s.time := (rfl)
@[simp] theorem modMis_objs : (modMis s ch f).objs = s.objs := (rfl)
@[simp] theorem modMis_clk : (modMis s ch f).clk = s.clk := (rfl)
@[simp] theorem modMis_slots : (modMis s ch f).slots = s.slots := (rfl)
@[simp] theorem modMis_gains : (modMis s ch f).gains = s.gains := (rfl)
@[simp] theorem modMis_rods : (modMis s ch f).rods = s.rods := (rfl)
@[simp] theorem modMis_buses : (modMis s ch f).buses = s.buses := (rfl)
@[simp] theorem modMis_routeRefs : (modMis s ch f).routeRefs = s.routeRefs := (rfl)
@[simp] theorem modMis_resets : (modMis s ch f).resets = s.resets := (rfl)
@[simp] theorem modMis_exitReports : (modMis s ch f).exitReports = s.exitReports := (rfl)
@[simp] theorem modMis_combSat : (modMis s ch f).combSat = s.combSat := (rfl)
@[simp] theorem modMis_mutes : (modMis s ch f).mutes = s.mutes := (rfl)
@[simp] theorem modMis_olp : (modMis s ch f).olp = s.olp := (rfl)
@[simp] theorem modMis_commit : (modMis s ch f).commit = s.commit := (rfl)
@[simp] theorem modMis_windows : (modMis s ch f).windows = s.windows := (rfl)
@[simp] theorem modMis_gov : (modMis s ch f).gov = s.gov := (rfl)
@[simp] theorem modMis_govSnap : (modMis s ch f).govSnap = s.govSnap := (rfl)
@[simp] theorem modMis_prot : (modMis s ch f).prot = s.prot := (rfl)
@[simp] theorem modMis_lic : (modMis s ch f).lic = s.lic := (rfl)
@[simp] theorem modMis_sent : (modMis s ch f).sent = s.sent := (rfl)
@[simp] theorem modMis_links : (modMis s ch f).links = s.links := (rfl)
@[simp] theorem modMis_cap : (modMis s ch f).cap = s.cap := (rfl)
@[simp] theorem modMis_flt : (modMis s ch f).flt = s.flt := (rfl)
@[simp] theorem modMis_tally : (modMis s ch f).tally = s.tally := (rfl)
@[simp] theorem modMis_therm : (modMis s ch f).therm = s.therm := (rfl)
@[simp] theorem modMis_life : (modMis s ch f).life = s.life := (rfl)
@[simp] theorem modMis_pins : (modMis s ch f).pins = s.pins := (rfl)
@[simp] theorem modMis_nv : (modMis s ch f).nv = s.nv := (rfl)
@[simp] theorem modMis_out : (modMis s ch f).out = s.out := (rfl)
@[simp] theorem modMis_free : (modMis s ch f).free = s.free := (rfl)
@[simp] theorem modMis_pending : (modMis s ch f).pending = s.pending := (rfl)

/-- Only the channel's `mis` changes. -/
@[simp] theorem getChan_modMis : getChan (modMis s ch f) ch = { getChan s ch with mis := f (getChan s ch).mis } :=
  getChan_modChan s ch _
theorem getChan_modMis_ne (h : k ≠ ch) : getChan (modMis s ch f) k = getChan s k := getChan_modChan_ne s ch k _ h

end

section

variable (s : State) (ch k : Nat) (f : SentCh → SentCh)

@[simp] theorem modSent_time : (modSent s ch f).time = s.time := (rfl)
@[simp] theorem modSent_objs : (modSent s ch f).objs = s.objs := (rfl)
@[simp] theorem modSent_clk : (modSent s ch f).clk = s.clk := (rfl)
@[simp] theorem modSent_slots : (modSent s ch f).slots = s.slots := (rfl)
@[simp] theorem modSent_gains : (modSent s ch f).gains = s.gains := (rfl)
@[simp] theorem modSent_rods : (modSent s ch f).rods = s.rods := (rfl)
@[simp] theorem modSent_buses : (modSent s ch f).buses = s.buses := (rfl)
@[simp] theorem modSent_routeRefs : (modSent s ch f).routeRefs = s.routeRefs := (rfl)
@[simp] theorem modSent_resets : (modSent s ch f).resets = s.resets := (rfl)
@[simp] theorem modSent_exitReports : (modSent s ch f).exitReports = s.exitReports := (rfl)
@[simp] theorem modSent_combSat : (modSent s ch f).combSat = s.combSat := (rfl)
@[simp] theorem modSent_mutes : (modSent s ch f).mutes = s.mutes := (rfl)
@[simp] theorem modSent_olp : (modSent s ch f).olp = s.olp := (rfl)
@[simp] theorem modSent_commit : (modSent s ch f).commit = s.commit := (rfl)
@[simp] theorem modSent_windows : (modSent s ch f).windows = s.windows := (rfl)
@[simp] theorem modSent_gov : (modSent s ch f).gov = s.gov := (rfl)
@[simp] theorem modSent_govSnap : (modSent s ch f).govSnap = s.govSnap := (rfl)
@[simp] theorem modSent_prot : (modSent s ch f).prot = s.prot := (rfl)
@[simp] theorem modSent_lic : (modSent s ch f).lic = s.lic := (rfl)
@[simp] theorem modSent_sent : (modSent s ch f).sent = s.sent := (rfl)
@[simp] theorem modSent_links : (modSent s ch f).links = s.links := (rfl)
@[simp] theorem modSent_cap : (modSent s ch f).cap = s.cap := (rfl)
@[simp] theorem modSent_flt : (modSent s ch f).flt = s.flt := (rfl)
@[simp] theorem modSent_tally : (modSent s ch f).tally = s.tally := (rfl)
@[simp] theorem modSent_therm : (modSent s ch f).therm = s.therm := (rfl)
@[simp] theorem modSent_life : (modSent s ch f).life = s.life := (rfl)
@[simp] theorem modSent_pins : (modSent s ch f).pins = s.pins := (rfl)
@[simp] theorem modSent_nv : (modSent s ch f).nv = s.nv := (rfl)
@[simp] theorem modSent_out : (modSent s ch f).out = s.out := (rfl)
@[simp] theorem modSent_free : (modSent s ch f).free = s.free := (rfl)
@[simp] theorem modSent_pending : (modSent s ch f).pending = s.pending := (rfl)

/-- Only the channel's `sent` changes. -/
@[simp] theorem getChan_modSent : getChan (modSent s ch f) ch = { getChan s ch with sent := f (getChan s ch).sent } :=
  getChan_modChan s ch _
theorem getChan_modSent_ne (h : k ≠ ch) : getChan (modSent s ch f) k = getChan s k := getChan_modChan_ne s ch k _ h

end

section

variable (s : State) (ch p : Nat) (f : CPath → CPath)

@[simp] theorem modPath_time : (modPath s ch p f).time = s.time := (rfl)
@[simp] theorem modPath_objs : (modPath s ch p f).objs = s.objs := (rfl)
@[simp] theorem modPath_clk : (modPath s ch p f).clk = s.clk := (rfl)
@[simp] theorem modPath_slots : (modPath s ch p f).slots = s.slots := (rfl)
@[simp] theorem modPath_gains : (modPath s ch p f).gains = s.gains := (rfl)
@[simp] theorem modPath_rods : (modPath s ch p f).rods = s.rods := (rfl)
@[simp] theorem modPath_buses : (modPath s ch p f).buses = s.buses := (rfl)
@[simp] theorem modPath_routeRefs : (modPath s ch p f).routeRefs = s.routeRefs := (rfl)
@[simp] theorem modPath_resets : (modPath s ch p f).resets = s.resets := (rfl)
@[simp] theorem modPath_exitReports : (modPath s ch p f).exitReports = s.exitReports := (rfl)
@[simp] theorem modPath_combSat : (modPath s ch p f).combSat = s.combSat := (rfl)
@[simp] theorem modPath_mutes : (modPath s ch p f).mutes = s.mutes := (rfl)
@[simp] theorem modPath_olp : (modPath s ch p f).olp = s.olp := (rfl)
@[simp] theorem modPath_commit : (modPath s ch p f).commit = s.commit := (rfl)
@[simp] theorem modPath_windows : (modPath s ch p f).windows = s.windows := (rfl)
@[simp] theorem modPath_gov : (modPath s ch p f).gov = s.gov := (rfl)
@[simp] theorem modPath_govSnap : (modPath s ch p f).govSnap = s.govSnap := (rfl)
@[simp] theorem modPath_prot : (modPath s ch p f).prot = s.prot := (rfl)
@[simp] theorem modPath_lic : (modPath s ch p f).lic = s.lic := (rfl)
@[simp] theorem modPath_sent : (modPath s ch p f).sent = s.sent := (rfl)
@[simp] theorem modPath_links : (modPath s ch p f).links = s.links := (rfl)
@[simp] theorem modPath_cap : (modPath s ch p f).cap = s.cap := (rfl)
@[simp] theorem modPath_flt : (modPath s ch p f).flt = s.flt := (rfl)
@[simp] theorem modPath_tally : (modPath s ch p f).tally = s.tally := (rfl)
@[simp] theorem modPath_therm : (modPath s ch p f).therm = s.therm := (rfl)
@[simp] theorem modPath_life : (modPath s ch p f).life = s.life := (rfl)
@[simp] theorem modPath_pins : (modPath s ch p f).pins = s.pins := (rfl)
@[simp] theorem modPath_nv : (modPath s ch p f).nv = s.nv := (rfl)
@[simp] theorem modPath_out : (modPath s ch p f).out = s.out := (rfl)
@[simp] theorem modPath_free : (modPath s ch p f).free = s.free := (rfl)
@[simp] theorem modPath_pending : (modPath s ch p f).pending = s.pending := (rfl)

@[simp] theorem getPath_modPath : getPath (modPath s ch p f) ch p = f (getPath s ch p) := by
  simp [modPath, getPath]

end

end Sys2Proof.Machine
end

