-- ==== Sys2Proof/Laws/Frames.lean ====
section
/-! SUPPORT. Frames.lean: the frame of each shared operation: the fields of State that it leaves as they were,
whatever it does to the others. -/

namespace Sys2Proof.Machine

/-! ### Branches and loops -/

section

variable {α : Type} (xs : List α) (f : State → α → State) (s : State) (c : Prop) [Decidable c] (a b : State)

@[simp] theorem forEach_time (h : ∀ u x, (f u x).time = u.time) : (forEach xs s f).time = s.time := forEach_keep State.time xs f h s
@[simp] theorem foldl_time (h : ∀ u x, (f u x).time = u.time) : (xs.foldl f s).time = s.time := forEach_time xs f s h
@[simp] theorem ite_time : (if c then a else b).time = if c then a.time else b.time := by split <;> rfl
@[simp] theorem forEach_objs (h : ∀ u x, (f u x).objs = u.objs) : (forEach xs s f).objs = s.objs := forEach_keep State.objs xs f h s
@[simp] theorem foldl_objs (h : ∀ u x, (f u x).objs = u.objs) : (xs.foldl f s).objs = s.objs := forEach_objs xs f s h
@[simp] theorem ite_objs : (if c then a else b).objs = if c then a.objs else b.objs := by split <;> rfl
@[simp] theorem forEach_clk (h : ∀ u x, (f u x).clk = u.clk) : (forEach xs s f).clk = s.clk := forEach_keep State.clk xs f h s
@[simp] theorem foldl_clk (h : ∀ u x, (f u x).clk = u.clk) : (xs.foldl f s).clk = s.clk := forEach_clk xs f s h
@[simp] theorem ite_clk : (if c then a else b).clk = if c then a.clk else b.clk := by split <;> rfl
@[simp] theorem forEach_slots (h : ∀ u x, (f u x).slots = u.slots) : (forEach xs s f).slots = s.slots := forEach_keep State.slots xs f h s
@[simp] theorem foldl_slots (h : ∀ u x, (f u x).slots = u.slots) : (xs.foldl f s).slots = s.slots := forEach_slots xs f s h
@[simp] theorem ite_slots : (if c then a else b).slots = if c then a.slots else b.slots := by split <;> rfl
@[simp] theorem forEach_gains (h : ∀ u x, (f u x).gains = u.gains) : (forEach xs s f).gains = s.gains := forEach_keep State.gains xs f h s
@[simp] theorem foldl_gains (h : ∀ u x, (f u x).gains = u.gains) : (xs.foldl f s).gains = s.gains := forEach_gains xs f s h
@[simp] theorem ite_gains : (if c then a else b).gains = if c then a.gains else b.gains := by split <;> rfl
@[simp] theorem forEach_chans (h : ∀ u x, (f u x).chans = u.chans) : (forEach xs s f).chans = s.chans := forEach_keep State.chans xs f h s
@[simp] theorem foldl_chans (h : ∀ u x, (f u x).chans = u.chans) : (xs.foldl f s).chans = s.chans := forEach_chans xs f s h
@[simp] theorem ite_chans : (if c then a else b).chans = if c then a.chans else b.chans := by split <;> rfl
@[simp] theorem forEach_rods (h : ∀ u x, (f u x).rods = u.rods) : (forEach xs s f).rods = s.rods := forEach_keep State.rods xs f h s
@[simp] theorem foldl_rods (h : ∀ u x, (f u x).rods = u.rods) : (xs.foldl f s).rods = s.rods := forEach_rods xs f s h
@[simp] theorem ite_rods : (if c then a else b).rods = if c then a.rods else b.rods := by split <;> rfl
@[simp] theorem forEach_buses (h : ∀ u x, (f u x).buses = u.buses) : (forEach xs s f).buses = s.buses := forEach_keep State.buses xs f h s
@[simp] theorem foldl_buses (h : ∀ u x, (f u x).buses = u.buses) : (xs.foldl f s).buses = s.buses := forEach_buses xs f s h
@[simp] theorem ite_buses : (if c then a else b).buses = if c then a.buses else b.buses := by split <;> rfl
@[simp] theorem forEach_routeRefs (h : ∀ u x, (f u x).routeRefs = u.routeRefs) : (forEach xs s f).routeRefs = s.routeRefs := forEach_keep State.routeRefs xs f h s
@[simp] theorem foldl_routeRefs (h : ∀ u x, (f u x).routeRefs = u.routeRefs) : (xs.foldl f s).routeRefs = s.routeRefs := forEach_routeRefs xs f s h
@[simp] theorem ite_routeRefs : (if c then a else b).routeRefs = if c then a.routeRefs else b.routeRefs := by split <;> rfl
@[simp] theorem forEach_resets (h : ∀ u x, (f u x).resets = u.resets) : (forEach xs s f).resets = s.resets := forEach_keep State.resets xs f h s
@[simp] theorem foldl_resets (h : ∀ u x, (f u x).resets = u.resets) : (xs.foldl f s).resets = s.resets := forEach_resets xs f s h
@[simp] theorem ite_resets : (if c then a else b).resets = if c then a.resets else b.resets := by split <;> rfl
@[simp] theorem forEach_exitReports (h : ∀ u x, (f u x).exitReports = u.exitReports) : (forEach xs s f).exitReports = s.exitReports := forEach_keep State.exitReports xs f h s
@[simp] theorem foldl_exitReports (h : ∀ u x, (f u x).exitReports = u.exitReports) : (xs.foldl f s).exitReports = s.exitReports := forEach_exitReports xs f s h
@[simp] theorem ite_exitReports : (if c then a else b).exitReports = if c then a.exitReports else b.exitReports := by split <;> rfl
@[simp] theorem forEach_combSat (h : ∀ u x, (f u x).combSat = u.combSat) : (forEach xs s f).combSat = s.combSat := forEach_keep State.combSat xs f h s
@[simp] theorem foldl_combSat (h : ∀ u x, (f u x).combSat = u.combSat) : (xs.foldl f s).combSat = s.combSat := forEach_combSat xs f s h
@[simp] theorem ite_combSat : (if c then a else b).combSat = if c then a.combSat else b.combSat := by split <;> rfl
@[simp] theorem forEach_mutes (h : ∀ u x, (f u x).mutes = u.mutes) : (forEach xs s f).mutes = s.mutes := forEach_keep State.mutes xs f h s
@[simp] theorem foldl_mutes (h : ∀ u x, (f u x).mutes = u.mutes) : (xs.foldl f s).mutes = s.mutes := forEach_mutes xs f s h
@[simp] theorem ite_mutes : (if c then a else b).mutes = if c then a.mutes else b.mutes := by split <;> rfl
@[simp] theorem forEach_olp (h : ∀ u x, (f u x).olp = u.olp) : (forEach xs s f).olp = s.olp := forEach_keep State.olp xs f h s
@[simp] theorem foldl_olp (h : ∀ u x, (f u x).olp = u.olp) : (xs.foldl f s).olp = s.olp := forEach_olp xs f s h
@[simp] theorem ite_olp : (if c then a else b).olp = if c then a.olp else b.olp := by split <;> rfl
@[simp] theorem forEach_commit (h : ∀ u x, (f u x).commit = u.commit) : (forEach xs s f).commit = s.commit := forEach_keep State.commit xs f h s
@[simp] theorem foldl_commit (h : ∀ u x, (f u x).commit = u.commit) : (xs.foldl f s).commit = s.commit := forEach_commit xs f s h
@[simp] theorem ite_commit : (if c then a else b).commit = if c then a.commit else b.commit := by split <;> rfl
@[simp] theorem forEach_windows (h : ∀ u x, (f u x).windows = u.windows) : (forEach xs s f).windows = s.windows := forEach_keep State.windows xs f h s
@[simp] theorem foldl_windows (h : ∀ u x, (f u x).windows = u.windows) : (xs.foldl f s).windows = s.windows := forEach_windows xs f s h
@[simp] theorem ite_windows : (if c then a else b).windows = if c then a.windows else b.windows := by split <;> rfl
@[simp] theorem forEach_gov (h : ∀ u x, (f u x).gov = u.gov) : (forEach xs s f).gov = s.gov := forEach_keep State.gov xs f h s
@[simp] theorem foldl_gov (h : ∀ u x, (f u x).gov = u.gov) : (xs.foldl f s).gov = s.gov := forEach_gov xs f s h
@[simp] theorem ite_gov : (if c then a else b).gov = if c then a.gov else b.gov := by split <;> rfl
@[simp] theorem forEach_govSnap (h : ∀ u x, (f u x).govSnap = u.govSnap) : (forEach xs s f).govSnap = s.govSnap := forEach_keep State.govSnap xs f h s
@[simp] theorem foldl_govSnap (h : ∀ u x, (f u x).govSnap = u.govSnap) : (xs.foldl f s).govSnap = s.govSnap := forEach_govSnap xs f s h
@[simp] theorem ite_govSnap : (if c then a else b).govSnap = if c then a.govSnap else b.govSnap := by split <;> rfl
@[simp] theorem forEach_prot (h : ∀ u x, (f u x).prot = u.prot) : (forEach xs s f).prot = s.prot := forEach_keep State.prot xs f h s
@[simp] theorem foldl_prot (h : ∀ u x, (f u x).prot = u.prot) : (xs.foldl f s).prot = s.prot := forEach_prot xs f s h
@[simp] theorem ite_prot : (if c then a else b).prot = if c then a.prot else b.prot := by split <;> rfl
@[simp] theorem forEach_lic (h : ∀ u x, (f u x).lic = u.lic) : (forEach xs s f).lic = s.lic := forEach_keep State.lic xs f h s
@[simp] theorem foldl_lic (h : ∀ u x, (f u x).lic = u.lic) : (xs.foldl f s).lic = s.lic := forEach_lic xs f s h
@[simp] theorem ite_lic : (if c then a else b).lic = if c then a.lic else b.lic := by split <;> rfl
@[simp] theorem forEach_sent (h : ∀ u x, (f u x).sent = u.sent) : (forEach xs s f).sent = s.sent := forEach_keep State.sent xs f h s
@[simp] theorem foldl_sent (h : ∀ u x, (f u x).sent = u.sent) : (xs.foldl f s).sent = s.sent := forEach_sent xs f s h
@[simp] theorem ite_sent : (if c then a else b).sent = if c then a.sent else b.sent := by split <;> rfl
@[simp] theorem forEach_links (h : ∀ u x, (f u x).links = u.links) : (forEach xs s f).links = s.links := forEach_keep State.links xs f h s
@[simp] theorem foldl_links (h : ∀ u x, (f u x).links = u.links) : (xs.foldl f s).links = s.links := forEach_links xs f s h
@[simp] theorem ite_links : (if c then a else b).links = if c then a.links else b.links := by split <;> rfl
@[simp] theorem forEach_cap (h : ∀ u x, (f u x).cap = u.cap) : (forEach xs s f).cap = s.cap := forEach_keep State.cap xs f h s
@[simp] theorem foldl_cap (h : ∀ u x, (f u x).cap = u.cap) : (xs.foldl f s).cap = s.cap := forEach_cap xs f s h
@[simp] theorem ite_cap : (if c then a else b).cap = if c then a.cap else b.cap := by split <;> rfl
@[simp] theorem forEach_flt (h : ∀ u x, (f u x).flt = u.flt) : (forEach xs s f).flt = s.flt := forEach_keep State.flt xs f h s
@[simp] theorem foldl_flt (h : ∀ u x, (f u x).flt = u.flt) : (xs.foldl f s).flt = s.flt := forEach_flt xs f s h
@[simp] theorem ite_flt : (if c then a else b).flt = if c then a.flt else b.flt := by split <;> rfl
@[simp] theorem forEach_tally (h : ∀ u x, (f u x).tally = u.tally) : (forEach xs s f).tally = s.tally := forEach_keep State.tally xs f h s
@[simp] theorem foldl_tally (h : ∀ u x, (f u x).tally = u.tally) : (xs.foldl f s).tally = s.tally := forEach_tally xs f s h
@[simp] theorem ite_tally : (if c then a else b).tally = if c then a.tally else b.tally := by split <;> rfl
@[simp] theorem forEach_therm (h : ∀ u x, (f u x).therm = u.therm) : (forEach xs s f).therm = s.therm := forEach_keep State.therm xs f h s
@[simp] theorem foldl_therm (h : ∀ u x, (f u x).therm = u.therm) : (xs.foldl f s).therm = s.therm := forEach_therm xs f s h
@[simp] theorem ite_therm : (if c then a else b).therm = if c then a.therm else b.therm := by split <;> rfl
@[simp] theorem forEach_life (h : ∀ u x, (f u x).life = u.life) : (forEach xs s f).life = s.life := forEach_keep State.life xs f h s
@[simp] theorem foldl_life (h : ∀ u x, (f u x).life = u.life) : (xs.foldl f s).life = s.life := forEach_life xs f s h
@[simp] theorem ite_life : (if c then a else b).life = if c then a.life else b.life := by split <;> rfl
@[simp] theorem forEach_pins (h : ∀ u x, (f u x).pins = u.pins) : (forEach xs s f).pins = s.pins := forEach_keep State.pins xs f h s
@[simp] theorem foldl_pins (h : ∀ u x, (f u x).pins = u.pins) : (xs.foldl f s).pins = s.pins := forEach_pins xs f s h
@[simp] theorem ite_pins : (if c then a else b).pins = if c then a.pins else b.pins := by split <;> rfl
@[simp] theorem forEach_nv (h : ∀ u x, (f u x).nv = u.nv) : (forEach xs s f).nv = s.nv := forEach_keep State.nv xs f h s
@[simp] theorem foldl_nv (h : ∀ u x, (f u x).nv = u.nv) : (xs.foldl f s).nv = s.nv := forEach_nv xs f s h
@[simp] theorem ite_nv : (if c then a else b).nv = if c then a.nv else b.nv := by split <;> rfl
@[simp] theorem forEach_out (h : ∀ u x, (f u x).out = u.out) : (forEach xs s f).out = s.out := forEach_keep State.out xs f h s
@[simp] theorem foldl_out (h : ∀ u x, (f u x).out = u.out) : (xs.foldl f s).out = s.out := forEach_out xs f s h
@[simp] theorem ite_out : (if c then a else b).out = if c then a.out else b.out := by split <;> rfl
@[simp] theorem forEach_free (h : ∀ u x, (f u x).free = u.free) : (forEach xs s f).free = s.free := forEach_keep State.free xs f h s
@[simp] theorem foldl_free (h : ∀ u x, (f u x).free = u.free) : (xs.foldl f s).free = s.free := forEach_free xs f s h
@[simp] theorem ite_free : (if c then a else b).free = if c then a.free else b.free := by split <;> rfl
@[simp] theorem forEach_pending (h : ∀ u x, (f u x).pending = u.pending) : (forEach xs s f).pending = s.pending := forEach_keep State.pending xs f h s
@[simp] theorem foldl_pending (h : ∀ u x, (f u x).pending = u.pending) : (xs.foldl f s).pending = s.pending := forEach_pending xs f s h
@[simp] theorem ite_pending : (if c then a else b).pending = if c then a.pending else b.pending := by split <;> rfl

end

@[simp] theorem ite_fst {α β : Type} (c : Prop) [Decidable c] (a b : α × β) : (if c then a else b).1 = if c then a.1 else b.1 := by
  split <;> rfl
@[simp] theorem ite_snd {α β : Type} (c : Prop) [Decidable c] (a b : α × β) : (if c then a else b).2 = if c then a.2 else b.2 := by
  split <;> rfl

/-! ### The operations -/

@[simp] theorem emit_keeps (s : State) (e : Emission) :
    (emit s e).time = s.time ∧ (emit s e).objs = s.objs ∧ (emit s e).clk = s.clk ∧ (emit s e).slots = s.slots ∧
    (emit s e).gains = s.gains ∧ (emit s e).chans = s.chans ∧ (emit s e).rods = s.rods ∧
    (emit s e).buses = s.buses ∧ (emit s e).routeRefs = s.routeRefs ∧ (emit s e).resets = s.resets ∧
    (emit s e).exitReports = s.exitReports ∧ (emit s e).combSat = s.combSat ∧ (emit s e).mutes = s.mutes ∧
    (emit s e).olp = s.olp ∧ (emit s e).commit = s.commit ∧ (emit s e).windows = s.windows ∧
    (emit s e).gov = s.gov ∧ (emit s e).govSnap = s.govSnap ∧ (emit s e).prot = s.prot ∧ (emit s e).lic = s.lic ∧
    (emit s e).sent = s.sent ∧ (emit s e).links = s.links ∧ (emit s e).cap = s.cap ∧ (emit s e).flt = s.flt ∧
    (emit s e).tally = s.tally ∧ (emit s e).therm = s.therm ∧ (emit s e).life = s.life ∧ (emit s e).pins = s.pins ∧
    (emit s e).nv = s.nv ∧ (emit s e).free = s.free ∧
    (emit s e).pending = s.pending := by
  simp [emit]

@[simp] theorem drawBool_keeps (s : State) :
    (drawBool s).2.time = s.time ∧ (drawBool s).2.objs = s.objs ∧ (drawBool s).2.clk = s.clk ∧
    (drawBool s).2.slots = s.slots ∧ (drawBool s).2.gains = s.gains ∧ (drawBool s).2.chans = s.chans ∧
    (drawBool s).2.rods = s.rods ∧ (drawBool s).2.buses = s.buses ∧ (drawBool s).2.routeRefs = s.routeRefs ∧
    (drawBool s).2.resets = s.resets ∧ (drawBool s).2.exitReports = s.exitReports ∧
    (drawBool s).2.combSat = s.combSat ∧ (drawBool s).2.mutes = s.mutes ∧ (drawBool s).2.olp = s.olp ∧
    (drawBool s).2.commit = s.commit ∧ (drawBool s).2.windows = s.windows ∧ (drawBool s).2.gov = s.gov ∧
    (drawBool s).2.govSnap = s.govSnap ∧ (drawBool s).2.prot = s.prot ∧ (drawBool s).2.lic = s.lic ∧
    (drawBool s).2.sent = s.sent ∧ (drawBool s).2.links = s.links ∧ (drawBool s).2.cap = s.cap ∧
    (drawBool s).2.flt = s.flt ∧ (drawBool s).2.tally = s.tally ∧ (drawBool s).2.therm = s.therm ∧
    (drawBool s).2.life = s.life ∧ (drawBool s).2.pins = s.pins ∧ (drawBool s).2.nv = s.nv ∧
    (drawBool s).2.out = s.out ∧
    (drawBool s).2.pending = s.pending := by
  simp [drawBool]

@[simp] theorem drawNat_keeps (s : State) :
    (drawNat s).2.time = s.time ∧ (drawNat s).2.objs = s.objs ∧ (drawNat s).2.clk = s.clk ∧
    (drawNat s).2.slots = s.slots ∧ (drawNat s).2.gains = s.gains ∧ (drawNat s).2.chans = s.chans ∧
    (drawNat s).2.rods = s.rods ∧ (drawNat s).2.buses = s.buses ∧ (drawNat s).2.routeRefs = s.routeRefs ∧
    (drawNat s).2.resets = s.resets ∧ (drawNat s).2.exitReports = s.exitReports ∧
    (drawNat s).2.combSat = s.combSat ∧ (drawNat s).2.mutes = s.mutes ∧ (drawNat s).2.olp = s.olp ∧
    (drawNat s).2.commit = s.commit ∧ (drawNat s).2.windows = s.windows ∧ (drawNat s).2.gov = s.gov ∧
    (drawNat s).2.govSnap = s.govSnap ∧ (drawNat s).2.prot = s.prot ∧ (drawNat s).2.lic = s.lic ∧
    (drawNat s).2.sent = s.sent ∧ (drawNat s).2.links = s.links ∧ (drawNat s).2.cap = s.cap ∧
    (drawNat s).2.flt = s.flt ∧ (drawNat s).2.tally = s.tally ∧ (drawNat s).2.therm = s.therm ∧
    (drawNat s).2.life = s.life ∧ (drawNat s).2.pins = s.pins ∧ (drawNat s).2.nv = s.nv ∧
    (drawNat s).2.out = s.out ∧
    (drawNat s).2.pending = s.pending := by
  simp [drawNat]

@[simp] theorem faultEvent_keeps (s : State) (src : ℕ) :
    (faultEvent s src).time = s.time ∧ (faultEvent s src).objs = s.objs ∧ (faultEvent s src).clk = s.clk ∧
    (faultEvent s src).slots = s.slots ∧ (faultEvent s src).gains = s.gains ∧ (faultEvent s src).chans = s.chans ∧
    (faultEvent s src).rods = s.rods ∧ (faultEvent s src).buses = s.buses ∧
    (faultEvent s src).routeRefs = s.routeRefs ∧ (faultEvent s src).resets = s.resets ∧
    (faultEvent s src).exitReports = s.exitReports ∧ (faultEvent s src).combSat = s.combSat ∧
    (faultEvent s src).mutes = s.mutes ∧ (faultEvent s src).olp = s.olp ∧ (faultEvent s src).commit = s.commit ∧
    (faultEvent s src).windows = s.windows ∧ (faultEvent s src).gov = s.gov ∧
    (faultEvent s src).govSnap = s.govSnap ∧ (faultEvent s src).prot = s.prot ∧ (faultEvent s src).lic = s.lic ∧
    (faultEvent s src).sent = s.sent ∧ (faultEvent s src).links = s.links ∧ (faultEvent s src).cap = s.cap ∧
    (faultEvent s src).tally = s.tally ∧ (faultEvent s src).therm = s.therm ∧ (faultEvent s src).life = s.life ∧
    (faultEvent s src).pins = s.pins ∧ (faultEvent s src).nv = s.nv ∧ (faultEvent s src).out = s.out ∧
    (faultEvent s src).free = s.free ∧
    (faultEvent s src).pending = s.pending := by
  simp [faultEvent]

@[simp] theorem setLine_keeps (s : State) (src : ℕ) (on : Bool) :
    (setLine s src on).time = s.time ∧ (setLine s src on).objs = s.objs ∧ (setLine s src on).clk = s.clk ∧
    (setLine s src on).slots = s.slots ∧ (setLine s src on).gains = s.gains ∧ (setLine s src on).chans = s.chans ∧
    (setLine s src on).rods = s.rods ∧ (setLine s src on).buses = s.buses ∧
    (setLine s src on).routeRefs = s.routeRefs ∧ (setLine s src on).resets = s.resets ∧
    (setLine s src on).exitReports = s.exitReports ∧ (setLine s src on).combSat = s.combSat ∧
    (setLine s src on).mutes = s.mutes ∧ (setLine s src on).olp = s.olp ∧ (setLine s src on).commit = s.commit ∧
    (setLine s src on).windows = s.windows ∧ (setLine s src on).gov = s.gov ∧
    (setLine s src on).govSnap = s.govSnap ∧ (setLine s src on).prot = s.prot ∧ (setLine s src on).lic = s.lic ∧
    (setLine s src on).sent = s.sent ∧ (setLine s src on).links = s.links ∧ (setLine s src on).cap = s.cap ∧
    (setLine s src on).tally = s.tally ∧ (setLine s src on).therm = s.therm ∧ (setLine s src on).life = s.life ∧
    (setLine s src on).pins = s.pins ∧ (setLine s src on).nv = s.nv ∧ (setLine s src on).out = s.out ∧
    (setLine s src on).free = s.free ∧
    (setLine s src on).pending = s.pending := by
  simp [setLine]

@[simp] theorem nameSlot_keeps (s : State) (src : ℕ) (n : ℕ) :
    (nameSlot s src n).time = s.time ∧ (nameSlot s src n).objs = s.objs ∧ (nameSlot s src n).clk = s.clk ∧
    (nameSlot s src n).slots = s.slots ∧ (nameSlot s src n).gains = s.gains ∧ (nameSlot s src n).chans = s.chans ∧
    (nameSlot s src n).rods = s.rods ∧ (nameSlot s src n).buses = s.buses ∧
    (nameSlot s src n).routeRefs = s.routeRefs ∧ (nameSlot s src n).resets = s.resets ∧
    (nameSlot s src n).exitReports = s.exitReports ∧ (nameSlot s src n).combSat = s.combSat ∧
    (nameSlot s src n).mutes = s.mutes ∧ (nameSlot s src n).olp = s.olp ∧ (nameSlot s src n).commit = s.commit ∧
    (nameSlot s src n).windows = s.windows ∧ (nameSlot s src n).gov = s.gov ∧
    (nameSlot s src n).govSnap = s.govSnap ∧ (nameSlot s src n).prot = s.prot ∧ (nameSlot s src n).lic = s.lic ∧
    (nameSlot s src n).sent = s.sent ∧ (nameSlot s src n).links = s.links ∧ (nameSlot s src n).cap = s.cap ∧
    (nameSlot s src n).tally = s.tally ∧ (nameSlot s src n).therm = s.therm ∧ (nameSlot s src n).life = s.life ∧
    (nameSlot s src n).pins = s.pins ∧ (nameSlot s src n).nv = s.nv ∧ (nameSlot s src n).out = s.out ∧
    (nameSlot s src n).free = s.free ∧
    (nameSlot s src n).pending = s.pending := by
  simp [nameSlot]

@[simp] theorem ninesEvent_keeps (s : State) (ch : ℕ) :
    (ninesEvent s ch).time = s.time ∧ (ninesEvent s ch).objs = s.objs ∧ (ninesEvent s ch).clk = s.clk ∧
    (ninesEvent s ch).slots = s.slots ∧ (ninesEvent s ch).gains = s.gains ∧ (ninesEvent s ch).chans = s.chans ∧
    (ninesEvent s ch).rods = s.rods ∧ (ninesEvent s ch).buses = s.buses ∧
    (ninesEvent s ch).routeRefs = s.routeRefs ∧ (ninesEvent s ch).resets = s.resets ∧
    (ninesEvent s ch).exitReports = s.exitReports ∧ (ninesEvent s ch).combSat = s.combSat ∧
    (ninesEvent s ch).mutes = s.mutes ∧ (ninesEvent s ch).olp = s.olp ∧ (ninesEvent s ch).commit = s.commit ∧
    (ninesEvent s ch).windows = s.windows ∧ (ninesEvent s ch).gov = s.gov ∧ (ninesEvent s ch).govSnap = s.govSnap ∧
    (ninesEvent s ch).prot = s.prot ∧ (ninesEvent s ch).lic = s.lic ∧ (ninesEvent s ch).sent = s.sent ∧
    (ninesEvent s ch).links = s.links ∧ (ninesEvent s ch).cap = s.cap ∧ (ninesEvent s ch).tally = s.tally ∧
    (ninesEvent s ch).therm = s.therm ∧ (ninesEvent s ch).life = s.life ∧ (ninesEvent s ch).pins = s.pins ∧
    (ninesEvent s ch).nv = s.nv ∧ (ninesEvent s ch).out = s.out ∧ (ninesEvent s ch).free = s.free ∧
    (ninesEvent s ch).pending = s.pending := by
  simp [ninesEvent]

@[simp] theorem suppressOcc_keeps (s : State) (o : Occ) :
    (suppressOcc s o).time = s.time ∧ (suppressOcc s o).objs = s.objs ∧ (suppressOcc s o).clk = s.clk ∧
    (suppressOcc s o).slots = s.slots ∧ (suppressOcc s o).gains = s.gains ∧ (suppressOcc s o).chans = s.chans ∧
    (suppressOcc s o).rods = s.rods ∧ (suppressOcc s o).buses = s.buses ∧
    (suppressOcc s o).routeRefs = s.routeRefs ∧ (suppressOcc s o).resets = s.resets ∧
    (suppressOcc s o).exitReports = s.exitReports ∧ (suppressOcc s o).combSat = s.combSat ∧
    (suppressOcc s o).mutes = s.mutes ∧ (suppressOcc s o).olp = s.olp ∧ (suppressOcc s o).commit = s.commit ∧
    (suppressOcc s o).windows = s.windows ∧ (suppressOcc s o).gov = s.gov ∧ (suppressOcc s o).govSnap = s.govSnap ∧
    (suppressOcc s o).prot = s.prot ∧ (suppressOcc s o).lic = s.lic ∧ (suppressOcc s o).sent = s.sent ∧
    (suppressOcc s o).links = s.links ∧ (suppressOcc s o).cap = s.cap ∧ (suppressOcc s o).flt = s.flt ∧
    (suppressOcc s o).therm = s.therm ∧ (suppressOcc s o).life = s.life ∧ (suppressOcc s o).pins = s.pins ∧
    (suppressOcc s o).nv = s.nv ∧ (suppressOcc s o).out = s.out ∧ (suppressOcc s o).free = s.free ∧
    (suppressOcc s o).pending = s.pending := by
  simp [suppressOcc]

@[simp] theorem tallyOcc_keeps (s : State) (o : Occ) :
    (tallyOcc s o).time = s.time ∧ (tallyOcc s o).objs = s.objs ∧ (tallyOcc s o).clk = s.clk ∧
    (tallyOcc s o).slots = s.slots ∧ (tallyOcc s o).gains = s.gains ∧ (tallyOcc s o).chans = s.chans ∧
    (tallyOcc s o).rods = s.rods ∧ (tallyOcc s o).buses = s.buses ∧ (tallyOcc s o).routeRefs = s.routeRefs ∧
    (tallyOcc s o).resets = s.resets ∧ (tallyOcc s o).exitReports = s.exitReports ∧
    (tallyOcc s o).combSat = s.combSat ∧ (tallyOcc s o).mutes = s.mutes ∧ (tallyOcc s o).olp = s.olp ∧
    (tallyOcc s o).commit = s.commit ∧ (tallyOcc s o).windows = s.windows ∧ (tallyOcc s o).gov = s.gov ∧
    (tallyOcc s o).govSnap = s.govSnap ∧ (tallyOcc s o).prot = s.prot ∧ (tallyOcc s o).lic = s.lic ∧
    (tallyOcc s o).sent = s.sent ∧ (tallyOcc s o).links = s.links ∧ (tallyOcc s o).cap = s.cap ∧
    (tallyOcc s o).flt = s.flt ∧ (tallyOcc s o).therm = s.therm ∧ (tallyOcc s o).life = s.life ∧
    (tallyOcc s o).pins = s.pins ∧ (tallyOcc s o).nv = s.nv ∧ (tallyOcc s o).out = s.out ∧
    (tallyOcc s o).free = s.free ∧
    (tallyOcc s o).pending = s.pending := by
  simp [tallyOcc]

@[simp] theorem tallyEvent_keeps (s : State) (code : ℕ) (source : ℕ) (args : List ℕ) :
    (tallyEvent s code source args).time = s.time ∧ (tallyEvent s code source args).objs = s.objs ∧
    (tallyEvent s code source args).clk = s.clk ∧ (tallyEvent s code source args).slots = s.slots ∧
    (tallyEvent s code source args).gains = s.gains ∧ (tallyEvent s code source args).chans = s.chans ∧
    (tallyEvent s code source args).rods = s.rods ∧ (tallyEvent s code source args).buses = s.buses ∧
    (tallyEvent s code source args).routeRefs = s.routeRefs ∧ (tallyEvent s code source args).resets = s.resets ∧
    (tallyEvent s code source args).exitReports = s.exitReports ∧
    (tallyEvent s code source args).combSat = s.combSat ∧ (tallyEvent s code source args).mutes = s.mutes ∧
    (tallyEvent s code source args).olp = s.olp ∧ (tallyEvent s code source args).commit = s.commit ∧
    (tallyEvent s code source args).windows = s.windows ∧ (tallyEvent s code source args).gov = s.gov ∧
    (tallyEvent s code source args).govSnap = s.govSnap ∧ (tallyEvent s code source args).prot = s.prot ∧
    (tallyEvent s code source args).lic = s.lic ∧ (tallyEvent s code source args).sent = s.sent ∧
    (tallyEvent s code source args).links = s.links ∧ (tallyEvent s code source args).cap = s.cap ∧
    (tallyEvent s code source args).flt = s.flt ∧ (tallyEvent s code source args).therm = s.therm ∧
    (tallyEvent s code source args).life = s.life ∧ (tallyEvent s code source args).pins = s.pins ∧
    (tallyEvent s code source args).nv = s.nv ∧ (tallyEvent s code source args).out = s.out ∧
    (tallyEvent s code source args).free = s.free ∧
    (tallyEvent s code source args).pending = s.pending := by
  simp [tallyEvent]

@[simp] theorem parityFailure_keeps (s : State) (region : ℕ) (offset : ℕ) (action : ℕ) :
    (parityFailure s region offset action).time = s.time ∧ (parityFailure s region offset action).objs = s.objs ∧
    (parityFailure s region offset action).clk = s.clk ∧ (parityFailure s region offset action).slots = s.slots ∧
    (parityFailure s region offset action).gains = s.gains ∧
    (parityFailure s region offset action).chans = s.chans ∧ (parityFailure s region offset action).rods = s.rods ∧
    (parityFailure s region offset action).buses = s.buses ∧
    (parityFailure s region offset action).routeRefs = s.routeRefs ∧
    (parityFailure s region offset action).resets = s.resets ∧
    (parityFailure s region offset action).exitReports = s.exitReports ∧
    (parityFailure s region offset action).combSat = s.combSat ∧
    (parityFailure s region offset action).mutes = s.mutes ∧ (parityFailure s region offset action).olp = s.olp ∧
    (parityFailure s region offset action).commit = s.commit ∧
    (parityFailure s region offset action).windows = s.windows ∧
    (parityFailure s region offset action).gov = s.gov ∧
    (parityFailure s region offset action).govSnap = s.govSnap ∧
    (parityFailure s region offset action).prot = s.prot ∧ (parityFailure s region offset action).lic = s.lic ∧
    (parityFailure s region offset action).sent = s.sent ∧ (parityFailure s region offset action).links = s.links ∧
    (parityFailure s region offset action).cap = s.cap ∧ (parityFailure s region offset action).therm = s.therm ∧
    (parityFailure s region offset action).life = s.life ∧ (parityFailure s region offset action).pins = s.pins ∧
    (parityFailure s region offset action).nv = s.nv ∧ (parityFailure s region offset action).out = s.out ∧
    (parityFailure s region offset action).free = s.free ∧
    (parityFailure s region offset action).pending = s.pending := by
  simp [parityFailure]

@[simp] theorem parityWord_keeps (s : State) (region : ℕ) (bad : Option ℕ) :
    (parityWord s region bad).time = s.time ∧ (parityWord s region bad).objs = s.objs ∧
    (parityWord s region bad).clk = s.clk ∧ (parityWord s region bad).slots = s.slots ∧
    (parityWord s region bad).gains = s.gains ∧ (parityWord s region bad).chans = s.chans ∧
    (parityWord s region bad).rods = s.rods ∧ (parityWord s region bad).buses = s.buses ∧
    (parityWord s region bad).routeRefs = s.routeRefs ∧ (parityWord s region bad).resets = s.resets ∧
    (parityWord s region bad).exitReports = s.exitReports ∧ (parityWord s region bad).combSat = s.combSat ∧
    (parityWord s region bad).mutes = s.mutes ∧ (parityWord s region bad).olp = s.olp ∧
    (parityWord s region bad).commit = s.commit ∧ (parityWord s region bad).windows = s.windows ∧
    (parityWord s region bad).gov = s.gov ∧ (parityWord s region bad).govSnap = s.govSnap ∧
    (parityWord s region bad).prot = s.prot ∧ (parityWord s region bad).lic = s.lic ∧
    (parityWord s region bad).sent = s.sent ∧ (parityWord s region bad).links = s.links ∧
    (parityWord s region bad).cap = s.cap ∧ (parityWord s region bad).therm = s.therm ∧
    (parityWord s region bad).life = s.life ∧ (parityWord s region bad).pins = s.pins ∧
    (parityWord s region bad).nv = s.nv ∧ (parityWord s region bad).out = s.out ∧
    (parityWord s region bad).free = s.free ∧
    (parityWord s region bad).pending = s.pending := by
  unfold parityWord; (repeat' split) <;> simp

@[simp] theorem busIssue_keeps (s : State) (b : ℕ) :
    (busIssue s b).time = s.time ∧ (busIssue s b).objs = s.objs ∧ (busIssue s b).clk = s.clk ∧
    (busIssue s b).slots = s.slots ∧ (busIssue s b).gains = s.gains ∧ (busIssue s b).chans = s.chans ∧
    (busIssue s b).rods = s.rods ∧ (busIssue s b).routeRefs = s.routeRefs ∧ (busIssue s b).resets = s.resets ∧
    (busIssue s b).exitReports = s.exitReports ∧ (busIssue s b).combSat = s.combSat ∧
    (busIssue s b).mutes = s.mutes ∧ (busIssue s b).olp = s.olp ∧ (busIssue s b).commit = s.commit ∧
    (busIssue s b).windows = s.windows ∧ (busIssue s b).gov = s.gov ∧ (busIssue s b).govSnap = s.govSnap ∧
    (busIssue s b).prot = s.prot ∧ (busIssue s b).lic = s.lic ∧ (busIssue s b).sent = s.sent ∧
    (busIssue s b).links = s.links ∧ (busIssue s b).cap = s.cap ∧ (busIssue s b).flt = s.flt ∧
    (busIssue s b).tally = s.tally ∧ (busIssue s b).therm = s.therm ∧ (busIssue s b).life = s.life ∧
    (busIssue s b).pins = s.pins ∧ (busIssue s b).nv = s.nv ∧ (busIssue s b).free = s.free ∧
    (busIssue s b).pending = s.pending := by
  unfold busIssue; dsimp only; (repeat' split) <;> simp

@[simp] theorem busQueue_keeps (s : State) (ch : ℕ) (ts : List Txn) :
    (busQueue s ch ts).time = s.time ∧ (busQueue s ch ts).objs = s.objs ∧ (busQueue s ch ts).clk = s.clk ∧
    (busQueue s ch ts).slots = s.slots ∧ (busQueue s ch ts).gains = s.gains ∧ (busQueue s ch ts).chans = s.chans ∧
    (busQueue s ch ts).rods = s.rods ∧ (busQueue s ch ts).routeRefs = s.routeRefs ∧
    (busQueue s ch ts).resets = s.resets ∧ (busQueue s ch ts).exitReports = s.exitReports ∧
    (busQueue s ch ts).combSat = s.combSat ∧ (busQueue s ch ts).mutes = s.mutes ∧ (busQueue s ch ts).olp = s.olp ∧
    (busQueue s ch ts).commit = s.commit ∧ (busQueue s ch ts).windows = s.windows ∧ (busQueue s ch ts).gov = s.gov ∧
    (busQueue s ch ts).govSnap = s.govSnap ∧ (busQueue s ch ts).prot = s.prot ∧ (busQueue s ch ts).lic = s.lic ∧
    (busQueue s ch ts).sent = s.sent ∧ (busQueue s ch ts).links = s.links ∧ (busQueue s ch ts).cap = s.cap ∧
    (busQueue s ch ts).flt = s.flt ∧ (busQueue s ch ts).tally = s.tally ∧ (busQueue s ch ts).therm = s.therm ∧
    (busQueue s ch ts).life = s.life ∧ (busQueue s ch ts).pins = s.pins ∧ (busQueue s ch ts).nv = s.nv ∧
    (busQueue s ch ts).free = s.free ∧
    (busQueue s ch ts).pending = s.pending := by
  simp [busQueue]

@[simp] theorem queueEvent_keeps (s : State) (ch : ℕ) (event : ℕ) :
    (queueEvent s ch event).time = s.time ∧ (queueEvent s ch event).objs = s.objs ∧
    (queueEvent s ch event).clk = s.clk ∧ (queueEvent s ch event).slots = s.slots ∧
    (queueEvent s ch event).gains = s.gains ∧ (queueEvent s ch event).chans = s.chans ∧
    (queueEvent s ch event).rods = s.rods ∧ (queueEvent s ch event).routeRefs = s.routeRefs ∧
    (queueEvent s ch event).resets = s.resets ∧ (queueEvent s ch event).exitReports = s.exitReports ∧
    (queueEvent s ch event).combSat = s.combSat ∧ (queueEvent s ch event).mutes = s.mutes ∧
    (queueEvent s ch event).olp = s.olp ∧ (queueEvent s ch event).commit = s.commit ∧
    (queueEvent s ch event).windows = s.windows ∧ (queueEvent s ch event).gov = s.gov ∧
    (queueEvent s ch event).govSnap = s.govSnap ∧ (queueEvent s ch event).prot = s.prot ∧
    (queueEvent s ch event).lic = s.lic ∧ (queueEvent s ch event).sent = s.sent ∧
    (queueEvent s ch event).links = s.links ∧ (queueEvent s ch event).cap = s.cap ∧
    (queueEvent s ch event).flt = s.flt ∧ (queueEvent s ch event).tally = s.tally ∧
    (queueEvent s ch event).therm = s.therm ∧ (queueEvent s ch event).life = s.life ∧
    (queueEvent s ch event).pins = s.pins ∧ (queueEvent s ch event).nv = s.nv ∧
    (queueEvent s ch event).free = s.free ∧
    (queueEvent s ch event).pending = s.pending := by
  simp [queueEvent]

@[simp] theorem txenLow_keeps (s : State) (ch : ℕ) :
    (txenLow s ch).time = s.time ∧ (txenLow s ch).objs = s.objs ∧ (txenLow s ch).clk = s.clk ∧
    (txenLow s ch).slots = s.slots ∧ (txenLow s ch).gains = s.gains ∧ (txenLow s ch).rods = s.rods ∧
    (txenLow s ch).buses = s.buses ∧ (txenLow s ch).routeRefs = s.routeRefs ∧ (txenLow s ch).resets = s.resets ∧
    (txenLow s ch).exitReports = s.exitReports ∧ (txenLow s ch).combSat = s.combSat ∧
    (txenLow s ch).mutes = s.mutes ∧ (txenLow s ch).olp = s.olp ∧ (txenLow s ch).commit = s.commit ∧
    (txenLow s ch).windows = s.windows ∧ (txenLow s ch).gov = s.gov ∧ (txenLow s ch).govSnap = s.govSnap ∧
    (txenLow s ch).prot = s.prot ∧ (txenLow s ch).lic = s.lic ∧ (txenLow s ch).sent = s.sent ∧
    (txenLow s ch).links = s.links ∧ (txenLow s ch).cap = s.cap ∧ (txenLow s ch).flt = s.flt ∧
    (txenLow s ch).tally = s.tally ∧ (txenLow s ch).therm = s.therm ∧ (txenLow s ch).life = s.life ∧
    (txenLow s ch).pins = s.pins ∧ (txenLow s ch).nv = s.nv ∧ (txenLow s ch).out = s.out ∧
    (txenLow s ch).free = s.free ∧
    (txenLow s ch).pending = s.pending := by
  simp [txenLow]

@[simp] theorem txenDrops_keeps (before : State) (s : State) :
    (txenDrops before s).time = s.time ∧ (txenDrops before s).objs = s.objs ∧ (txenDrops before s).clk = s.clk ∧
    (txenDrops before s).slots = s.slots ∧ (txenDrops before s).gains = s.gains ∧
    (txenDrops before s).rods = s.rods ∧ (txenDrops before s).routeRefs = s.routeRefs ∧
    (txenDrops before s).resets = s.resets ∧ (txenDrops before s).exitReports = s.exitReports ∧
    (txenDrops before s).combSat = s.combSat ∧ (txenDrops before s).mutes = s.mutes ∧
    (txenDrops before s).olp = s.olp ∧ (txenDrops before s).commit = s.commit ∧
    (txenDrops before s).windows = s.windows ∧ (txenDrops before s).gov = s.gov ∧
    (txenDrops before s).govSnap = s.govSnap ∧ (txenDrops before s).prot = s.prot ∧
    (txenDrops before s).lic = s.lic ∧ (txenDrops before s).sent = s.sent ∧ (txenDrops before s).links = s.links ∧
    (txenDrops before s).cap = s.cap ∧ (txenDrops before s).flt = s.flt ∧ (txenDrops before s).tally = s.tally ∧
    (txenDrops before s).therm = s.therm ∧ (txenDrops before s).life = s.life ∧ (txenDrops before s).pins = s.pins ∧
    (txenDrops before s).nv = s.nv ∧ (txenDrops before s).free = s.free ∧
    (txenDrops before s).pending = s.pending := by
  simp [txenDrops]

@[simp] theorem txenFalls_keeps (before : State) (s : State) :
    (txenFalls before s).time = s.time ∧ (txenFalls before s).objs = s.objs ∧ (txenFalls before s).clk = s.clk ∧
    (txenFalls before s).slots = s.slots ∧ (txenFalls before s).gains = s.gains ∧
    (txenFalls before s).rods = s.rods ∧ (txenFalls before s).buses = s.buses ∧
    (txenFalls before s).routeRefs = s.routeRefs ∧ (txenFalls before s).resets = s.resets ∧
    (txenFalls before s).exitReports = s.exitReports ∧ (txenFalls before s).combSat = s.combSat ∧
    (txenFalls before s).mutes = s.mutes ∧ (txenFalls before s).olp = s.olp ∧
    (txenFalls before s).commit = s.commit ∧ (txenFalls before s).windows = s.windows ∧
    (txenFalls before s).gov = s.gov ∧ (txenFalls before s).govSnap = s.govSnap ∧
    (txenFalls before s).prot = s.prot ∧ (txenFalls before s).lic = s.lic ∧ (txenFalls before s).sent = s.sent ∧
    (txenFalls before s).links = s.links ∧ (txenFalls before s).cap = s.cap ∧ (txenFalls before s).flt = s.flt ∧
    (txenFalls before s).tally = s.tally ∧ (txenFalls before s).therm = s.therm ∧
    (txenFalls before s).life = s.life ∧ (txenFalls before s).pins = s.pins ∧ (txenFalls before s).nv = s.nv ∧
    (txenFalls before s).out = s.out ∧ (txenFalls before s).free = s.free ∧
    (txenFalls before s).pending = s.pending := by
  simp [txenFalls]

@[simp] theorem dropMuteTerms_keeps (s : State) :
    (dropMuteTerms s).time = s.time ∧ (dropMuteTerms s).objs = s.objs ∧ (dropMuteTerms s).clk = s.clk ∧
    (dropMuteTerms s).slots = s.slots ∧ (dropMuteTerms s).gains = s.gains ∧ (dropMuteTerms s).rods = s.rods ∧
    (dropMuteTerms s).buses = s.buses ∧ (dropMuteTerms s).routeRefs = s.routeRefs ∧
    (dropMuteTerms s).resets = s.resets ∧ (dropMuteTerms s).exitReports = s.exitReports ∧
    (dropMuteTerms s).combSat = s.combSat ∧ (dropMuteTerms s).mutes = s.mutes ∧ (dropMuteTerms s).olp = s.olp ∧
    (dropMuteTerms s).commit = s.commit ∧ (dropMuteTerms s).windows = s.windows ∧ (dropMuteTerms s).gov = s.gov ∧
    (dropMuteTerms s).govSnap = s.govSnap ∧ (dropMuteTerms s).prot = s.prot ∧ (dropMuteTerms s).lic = s.lic ∧
    (dropMuteTerms s).sent = s.sent ∧ (dropMuteTerms s).links = s.links ∧ (dropMuteTerms s).cap = s.cap ∧
    (dropMuteTerms s).flt = s.flt ∧ (dropMuteTerms s).tally = s.tally ∧ (dropMuteTerms s).therm = s.therm ∧
    (dropMuteTerms s).life = s.life ∧ (dropMuteTerms s).pins = s.pins ∧ (dropMuteTerms s).nv = s.nv ∧
    (dropMuteTerms s).out = s.out ∧ (dropMuteTerms s).free = s.free ∧
    (dropMuteTerms s).pending = s.pending := by
  simp [dropMuteTerms]

@[simp] theorem addMute_keeps (s : State) (o : Owner) (sc : Scope) :
    (addMute s o sc).time = s.time ∧ (addMute s o sc).objs = s.objs ∧ (addMute s o sc).clk = s.clk ∧
    (addMute s o sc).slots = s.slots ∧ (addMute s o sc).gains = s.gains ∧ (addMute s o sc).rods = s.rods ∧
    (addMute s o sc).routeRefs = s.routeRefs ∧ (addMute s o sc).resets = s.resets ∧
    (addMute s o sc).exitReports = s.exitReports ∧ (addMute s o sc).combSat = s.combSat ∧
    (addMute s o sc).olp = s.olp ∧ (addMute s o sc).commit = s.commit ∧ (addMute s o sc).windows = s.windows ∧
    (addMute s o sc).gov = s.gov ∧ (addMute s o sc).govSnap = s.govSnap ∧ (addMute s o sc).prot = s.prot ∧
    (addMute s o sc).lic = s.lic ∧ (addMute s o sc).sent = s.sent ∧ (addMute s o sc).links = s.links ∧
    (addMute s o sc).cap = s.cap ∧ (addMute s o sc).flt = s.flt ∧ (addMute s o sc).tally = s.tally ∧
    (addMute s o sc).therm = s.therm ∧ (addMute s o sc).life = s.life ∧ (addMute s o sc).pins = s.pins ∧
    (addMute s o sc).nv = s.nv ∧ (addMute s o sc).free = s.free ∧
    (addMute s o sc).pending = s.pending := by
  simp [addMute]

@[simp] theorem dropMute_keeps (s : State) (o : Owner) :
    (dropMute s o).time = s.time ∧ (dropMute s o).objs = s.objs ∧ (dropMute s o).clk = s.clk ∧
    (dropMute s o).slots = s.slots ∧ (dropMute s o).gains = s.gains ∧ (dropMute s o).chans = s.chans ∧
    (dropMute s o).rods = s.rods ∧ (dropMute s o).buses = s.buses ∧ (dropMute s o).routeRefs = s.routeRefs ∧
    (dropMute s o).resets = s.resets ∧ (dropMute s o).exitReports = s.exitReports ∧
    (dropMute s o).combSat = s.combSat ∧ (dropMute s o).olp = s.olp ∧ (dropMute s o).commit = s.commit ∧
    (dropMute s o).windows = s.windows ∧ (dropMute s o).gov = s.gov ∧ (dropMute s o).govSnap = s.govSnap ∧
    (dropMute s o).prot = s.prot ∧ (dropMute s o).lic = s.lic ∧ (dropMute s o).sent = s.sent ∧
    (dropMute s o).links = s.links ∧ (dropMute s o).cap = s.cap ∧ (dropMute s o).flt = s.flt ∧
    (dropMute s o).tally = s.tally ∧ (dropMute s o).therm = s.therm ∧ (dropMute s o).life = s.life ∧
    (dropMute s o).pins = s.pins ∧ (dropMute s o).nv = s.nv ∧ (dropMute s o).out = s.out ∧
    (dropMute s o).free = s.free ∧
    (dropMute s o).pending = s.pending := by
  simp [dropMute]

@[simp] theorem writeBack_keeps (s : State) (ch : ℕ) (w : Work) :
    (writeBack s ch w).time = s.time ∧ (writeBack s ch w).objs = s.objs ∧ (writeBack s ch w).clk = s.clk ∧
    (writeBack s ch w).gains = s.gains ∧ (writeBack s ch w).rods = s.rods ∧ (writeBack s ch w).buses = s.buses ∧
    (writeBack s ch w).routeRefs = s.routeRefs ∧ (writeBack s ch w).resets = s.resets ∧
    (writeBack s ch w).exitReports = s.exitReports ∧ (writeBack s ch w).combSat = s.combSat ∧
    (writeBack s ch w).mutes = s.mutes ∧ (writeBack s ch w).olp = s.olp ∧ (writeBack s ch w).commit = s.commit ∧
    (writeBack s ch w).windows = s.windows ∧ (writeBack s ch w).gov = s.gov ∧
    (writeBack s ch w).govSnap = s.govSnap ∧ (writeBack s ch w).prot = s.prot ∧ (writeBack s ch w).lic = s.lic ∧
    (writeBack s ch w).sent = s.sent ∧ (writeBack s ch w).links = s.links ∧ (writeBack s ch w).cap = s.cap ∧
    (writeBack s ch w).flt = s.flt ∧ (writeBack s ch w).tally = s.tally ∧ (writeBack s ch w).therm = s.therm ∧
    (writeBack s ch w).life = s.life ∧ (writeBack s ch w).pins = s.pins ∧ (writeBack s ch w).nv = s.nv ∧
    (writeBack s ch w).out = s.out ∧ (writeBack s ch w).free = s.free ∧
    (writeBack s ch w).pending = s.pending := by
  simp [writeBack]

@[simp] theorem writeBackPoisoned_keeps (s : State) (ch : ℕ) (w : Work) :
    (writeBackPoisoned s ch w).time = s.time ∧ (writeBackPoisoned s ch w).objs = s.objs ∧
    (writeBackPoisoned s ch w).clk = s.clk ∧ (writeBackPoisoned s ch w).gains = s.gains ∧
    (writeBackPoisoned s ch w).rods = s.rods ∧ (writeBackPoisoned s ch w).buses = s.buses ∧
    (writeBackPoisoned s ch w).routeRefs = s.routeRefs ∧ (writeBackPoisoned s ch w).resets = s.resets ∧
    (writeBackPoisoned s ch w).exitReports = s.exitReports ∧ (writeBackPoisoned s ch w).combSat = s.combSat ∧
    (writeBackPoisoned s ch w).mutes = s.mutes ∧ (writeBackPoisoned s ch w).olp = s.olp ∧
    (writeBackPoisoned s ch w).commit = s.commit ∧ (writeBackPoisoned s ch w).windows = s.windows ∧
    (writeBackPoisoned s ch w).gov = s.gov ∧ (writeBackPoisoned s ch w).govSnap = s.govSnap ∧
    (writeBackPoisoned s ch w).prot = s.prot ∧ (writeBackPoisoned s ch w).lic = s.lic ∧
    (writeBackPoisoned s ch w).sent = s.sent ∧ (writeBackPoisoned s ch w).links = s.links ∧
    (writeBackPoisoned s ch w).cap = s.cap ∧ (writeBackPoisoned s ch w).flt = s.flt ∧
    (writeBackPoisoned s ch w).tally = s.tally ∧ (writeBackPoisoned s ch w).therm = s.therm ∧
    (writeBackPoisoned s ch w).life = s.life ∧ (writeBackPoisoned s ch w).pins = s.pins ∧
    (writeBackPoisoned s ch w).nv = s.nv ∧ (writeBackPoisoned s ch w).out = s.out ∧
    (writeBackPoisoned s ch w).free = s.free ∧
    (writeBackPoisoned s ch w).pending = s.pending := by
  simp [writeBackPoisoned]

@[simp] theorem boundaryGain_keeps (s : State) (g : ℕ) :
    (boundaryGain s g).time = s.time ∧ (boundaryGain s g).objs = s.objs ∧ (boundaryGain s g).clk = s.clk ∧
    (boundaryGain s g).slots = s.slots ∧ (boundaryGain s g).chans = s.chans ∧ (boundaryGain s g).rods = s.rods ∧
    (boundaryGain s g).buses = s.buses ∧ (boundaryGain s g).routeRefs = s.routeRefs ∧
    (boundaryGain s g).resets = s.resets ∧ (boundaryGain s g).exitReports = s.exitReports ∧
    (boundaryGain s g).combSat = s.combSat ∧ (boundaryGain s g).mutes = s.mutes ∧ (boundaryGain s g).olp = s.olp ∧
    (boundaryGain s g).commit = s.commit ∧ (boundaryGain s g).windows = s.windows ∧ (boundaryGain s g).gov = s.gov ∧
    (boundaryGain s g).govSnap = s.govSnap ∧ (boundaryGain s g).prot = s.prot ∧ (boundaryGain s g).lic = s.lic ∧
    (boundaryGain s g).sent = s.sent ∧ (boundaryGain s g).links = s.links ∧ (boundaryGain s g).cap = s.cap ∧
    (boundaryGain s g).flt = s.flt ∧ (boundaryGain s g).tally = s.tally ∧ (boundaryGain s g).therm = s.therm ∧
    (boundaryGain s g).life = s.life ∧ (boundaryGain s g).pins = s.pins ∧ (boundaryGain s g).nv = s.nv ∧
    (boundaryGain s g).out = s.out ∧ (boundaryGain s g).free = s.free ∧
    (boundaryGain s g).pending = s.pending := by
  simp [boundaryGain]

@[simp] theorem boundaryGains_keeps (s : State) :
    (boundaryGains s).time = s.time ∧ (boundaryGains s).objs = s.objs ∧ (boundaryGains s).clk = s.clk ∧
    (boundaryGains s).slots = s.slots ∧ (boundaryGains s).chans = s.chans ∧ (boundaryGains s).rods = s.rods ∧
    (boundaryGains s).buses = s.buses ∧ (boundaryGains s).routeRefs = s.routeRefs ∧
    (boundaryGains s).resets = s.resets ∧ (boundaryGains s).exitReports = s.exitReports ∧
    (boundaryGains s).combSat = s.combSat ∧ (boundaryGains s).mutes = s.mutes ∧ (boundaryGains s).olp = s.olp ∧
    (boundaryGains s).commit = s.commit ∧ (boundaryGains s).windows = s.windows ∧
    (boundaryGains s).govSnap = s.govSnap ∧ (boundaryGains s).prot = s.prot ∧ (boundaryGains s).lic = s.lic ∧
    (boundaryGains s).sent = s.sent ∧ (boundaryGains s).links = s.links ∧ (boundaryGains s).cap = s.cap ∧
    (boundaryGains s).flt = s.flt ∧ (boundaryGains s).tally = s.tally ∧ (boundaryGains s).therm = s.therm ∧
    (boundaryGains s).life = s.life ∧ (boundaryGains s).pins = s.pins ∧ (boundaryGains s).nv = s.nv ∧
    (boundaryGains s).out = s.out ∧ (boundaryGains s).free = s.free ∧
    (boundaryGains s).pending = s.pending := by
  simp [boundaryGains]

@[simp] theorem loopRecord_keeps (s : State) (r : ℕ) (code : ℕ) (e : Eval) (row : ℕ) :
    (loopRecord s r code e row).time = s.time ∧ (loopRecord s r code e row).objs = s.objs ∧
    (loopRecord s r code e row).clk = s.clk ∧ (loopRecord s r code e row).slots = s.slots ∧
    (loopRecord s r code e row).gains = s.gains ∧ (loopRecord s r code e row).chans = s.chans ∧
    (loopRecord s r code e row).rods = s.rods ∧ (loopRecord s r code e row).buses = s.buses ∧
    (loopRecord s r code e row).routeRefs = s.routeRefs ∧ (loopRecord s r code e row).resets = s.resets ∧
    (loopRecord s r code e row).exitReports = s.exitReports ∧ (loopRecord s r code e row).combSat = s.combSat ∧
    (loopRecord s r code e row).mutes = s.mutes ∧ (loopRecord s r code e row).olp = s.olp ∧
    (loopRecord s r code e row).commit = s.commit ∧ (loopRecord s r code e row).windows = s.windows ∧
    (loopRecord s r code e row).gov = s.gov ∧ (loopRecord s r code e row).govSnap = s.govSnap ∧
    (loopRecord s r code e row).prot = s.prot ∧ (loopRecord s r code e row).lic = s.lic ∧
    (loopRecord s r code e row).sent = s.sent ∧ (loopRecord s r code e row).links = s.links ∧
    (loopRecord s r code e row).cap = s.cap ∧ (loopRecord s r code e row).flt = s.flt ∧
    (loopRecord s r code e row).therm = s.therm ∧ (loopRecord s r code e row).life = s.life ∧
    (loopRecord s r code e row).pins = s.pins ∧ (loopRecord s r code e row).nv = s.nv ∧
    (loopRecord s r code e row).out = s.out ∧ (loopRecord s r code e row).free = s.free ∧
    (loopRecord s r code e row).pending = s.pending := by
  simp [loopRecord]

@[simp] theorem modIn_keeps (s : State) (code : ℕ) (f : InStream → InStream) :
    (modIn s code f).time = s.time ∧ (modIn s code f).objs = s.objs ∧ (modIn s code f).clk = s.clk ∧
    (modIn s code f).slots = s.slots ∧ (modIn s code f).gains = s.gains ∧ (modIn s code f).chans = s.chans ∧
    (modIn s code f).rods = s.rods ∧ (modIn s code f).buses = s.buses ∧ (modIn s code f).routeRefs = s.routeRefs ∧
    (modIn s code f).resets = s.resets ∧ (modIn s code f).exitReports = s.exitReports ∧
    (modIn s code f).combSat = s.combSat ∧ (modIn s code f).mutes = s.mutes ∧ (modIn s code f).olp = s.olp ∧
    (modIn s code f).commit = s.commit ∧ (modIn s code f).windows = s.windows ∧ (modIn s code f).gov = s.gov ∧
    (modIn s code f).govSnap = s.govSnap ∧ (modIn s code f).prot = s.prot ∧ (modIn s code f).lic = s.lic ∧
    (modIn s code f).sent = s.sent ∧ (modIn s code f).cap = s.cap ∧ (modIn s code f).flt = s.flt ∧
    (modIn s code f).tally = s.tally ∧ (modIn s code f).therm = s.therm ∧ (modIn s code f).life = s.life ∧
    (modIn s code f).pins = s.pins ∧ (modIn s code f).nv = s.nv ∧ (modIn s code f).out = s.out ∧
    (modIn s code f).free = s.free ∧
    (modIn s code f).pending = s.pending := by
  simp [modIn]

@[simp] theorem modOut_keeps (s : State) (code : ℕ) (f : OutStream → OutStream) :
    (modOut s code f).time = s.time ∧ (modOut s code f).objs = s.objs ∧ (modOut s code f).clk = s.clk ∧
    (modOut s code f).slots = s.slots ∧ (modOut s code f).gains = s.gains ∧ (modOut s code f).chans = s.chans ∧
    (modOut s code f).rods = s.rods ∧ (modOut s code f).buses = s.buses ∧
    (modOut s code f).routeRefs = s.routeRefs ∧ (modOut s code f).resets = s.resets ∧
    (modOut s code f).exitReports = s.exitReports ∧ (modOut s code f).combSat = s.combSat ∧
    (modOut s code f).mutes = s.mutes ∧ (modOut s code f).olp = s.olp ∧ (modOut s code f).commit = s.commit ∧
    (modOut s code f).windows = s.windows ∧ (modOut s code f).gov = s.gov ∧ (modOut s code f).govSnap = s.govSnap ∧
    (modOut s code f).prot = s.prot ∧ (modOut s code f).lic = s.lic ∧ (modOut s code f).sent = s.sent ∧
    (modOut s code f).cap = s.cap ∧ (modOut s code f).flt = s.flt ∧ (modOut s code f).tally = s.tally ∧
    (modOut s code f).therm = s.therm ∧ (modOut s code f).life = s.life ∧ (modOut s code f).pins = s.pins ∧
    (modOut s code f).nv = s.nv ∧ (modOut s code f).out = s.out ∧ (modOut s code f).free = s.free ∧
    (modOut s code f).pending = s.pending := by
  simp [modOut]

@[simp] theorem setStream_keeps (s : State) (code : ℕ) (st : ℕ) :
    (setStream s code st).time = s.time ∧ (setStream s code st).objs = s.objs ∧ (setStream s code st).clk = s.clk ∧
    (setStream s code st).slots = s.slots ∧ (setStream s code st).gains = s.gains ∧
    (setStream s code st).rods = s.rods ∧ (setStream s code st).routeRefs = s.routeRefs ∧
    (setStream s code st).resets = s.resets ∧ (setStream s code st).exitReports = s.exitReports ∧
    (setStream s code st).combSat = s.combSat ∧ (setStream s code st).olp = s.olp ∧
    (setStream s code st).commit = s.commit ∧ (setStream s code st).windows = s.windows ∧
    (setStream s code st).gov = s.gov ∧ (setStream s code st).govSnap = s.govSnap ∧
    (setStream s code st).prot = s.prot ∧ (setStream s code st).lic = s.lic ∧ (setStream s code st).sent = s.sent ∧
    (setStream s code st).cap = s.cap ∧ (setStream s code st).flt = s.flt ∧ (setStream s code st).therm = s.therm ∧
    (setStream s code st).life = s.life ∧ (setStream s code st).pins = s.pins ∧ (setStream s code st).nv = s.nv ∧
    (setStream s code st).free = s.free ∧
    (setStream s code st).pending = s.pending := by
  simp [setStream]

@[simp] theorem releaseStreamMutes_keeps (s : State) :
    (releaseStreamMutes s).time = s.time ∧ (releaseStreamMutes s).objs = s.objs ∧
    (releaseStreamMutes s).clk = s.clk ∧ (releaseStreamMutes s).slots = s.slots ∧
    (releaseStreamMutes s).gains = s.gains ∧ (releaseStreamMutes s).chans = s.chans ∧
    (releaseStreamMutes s).rods = s.rods ∧ (releaseStreamMutes s).buses = s.buses ∧
    (releaseStreamMutes s).routeRefs = s.routeRefs ∧ (releaseStreamMutes s).resets = s.resets ∧
    (releaseStreamMutes s).exitReports = s.exitReports ∧ (releaseStreamMutes s).combSat = s.combSat ∧
    (releaseStreamMutes s).olp = s.olp ∧ (releaseStreamMutes s).commit = s.commit ∧
    (releaseStreamMutes s).windows = s.windows ∧ (releaseStreamMutes s).gov = s.gov ∧
    (releaseStreamMutes s).govSnap = s.govSnap ∧ (releaseStreamMutes s).prot = s.prot ∧
    (releaseStreamMutes s).lic = s.lic ∧ (releaseStreamMutes s).sent = s.sent ∧
    (releaseStreamMutes s).links = s.links ∧ (releaseStreamMutes s).cap = s.cap ∧
    (releaseStreamMutes s).flt = s.flt ∧ (releaseStreamMutes s).tally = s.tally ∧
    (releaseStreamMutes s).therm = s.therm ∧ (releaseStreamMutes s).life = s.life ∧
    (releaseStreamMutes s).pins = s.pins ∧ (releaseStreamMutes s).nv = s.nv ∧ (releaseStreamMutes s).out = s.out ∧
    (releaseStreamMutes s).free = s.free ∧
    (releaseStreamMutes s).pending = s.pending := by
  simp [releaseStreamMutes]

@[simp] theorem countLinkPoison_keeps (s : State) (code : ℕ) (n : ℕ) :
    (countLinkPoison s code n).time = s.time ∧ (countLinkPoison s code n).objs = s.objs ∧
    (countLinkPoison s code n).clk = s.clk ∧ (countLinkPoison s code n).slots = s.slots ∧
    (countLinkPoison s code n).gains = s.gains ∧ (countLinkPoison s code n).chans = s.chans ∧
    (countLinkPoison s code n).rods = s.rods ∧ (countLinkPoison s code n).buses = s.buses ∧
    (countLinkPoison s code n).routeRefs = s.routeRefs ∧ (countLinkPoison s code n).resets = s.resets ∧
    (countLinkPoison s code n).exitReports = s.exitReports ∧ (countLinkPoison s code n).combSat = s.combSat ∧
    (countLinkPoison s code n).mutes = s.mutes ∧ (countLinkPoison s code n).olp = s.olp ∧
    (countLinkPoison s code n).commit = s.commit ∧ (countLinkPoison s code n).windows = s.windows ∧
    (countLinkPoison s code n).gov = s.gov ∧ (countLinkPoison s code n).govSnap = s.govSnap ∧
    (countLinkPoison s code n).prot = s.prot ∧ (countLinkPoison s code n).lic = s.lic ∧
    (countLinkPoison s code n).sent = s.sent ∧ (countLinkPoison s code n).cap = s.cap ∧
    (countLinkPoison s code n).flt = s.flt ∧ (countLinkPoison s code n).tally = s.tally ∧
    (countLinkPoison s code n).therm = s.therm ∧ (countLinkPoison s code n).life = s.life ∧
    (countLinkPoison s code n).pins = s.pins ∧ (countLinkPoison s code n).nv = s.nv ∧
    (countLinkPoison s code n).out = s.out ∧ (countLinkPoison s code n).free = s.free ∧
    (countLinkPoison s code n).pending = s.pending := by
  simp [countLinkPoison]

@[simp] theorem takeStream_keeps (s : State) (code : ℕ) (k : ℕ) :
    (takeStream s code k).time = s.time ∧ (takeStream s code k).objs = s.objs ∧ (takeStream s code k).clk = s.clk ∧
    (takeStream s code k).slots = s.slots ∧ (takeStream s code k).gains = s.gains ∧
    (takeStream s code k).chans = s.chans ∧ (takeStream s code k).rods = s.rods ∧
    (takeStream s code k).buses = s.buses ∧ (takeStream s code k).routeRefs = s.routeRefs ∧
    (takeStream s code k).resets = s.resets ∧ (takeStream s code k).exitReports = s.exitReports ∧
    (takeStream s code k).combSat = s.combSat ∧ (takeStream s code k).mutes = s.mutes ∧
    (takeStream s code k).olp = s.olp ∧ (takeStream s code k).commit = s.commit ∧
    (takeStream s code k).windows = s.windows ∧ (takeStream s code k).gov = s.gov ∧
    (takeStream s code k).govSnap = s.govSnap ∧ (takeStream s code k).prot = s.prot ∧
    (takeStream s code k).lic = s.lic ∧ (takeStream s code k).sent = s.sent ∧ (takeStream s code k).cap = s.cap ∧
    (takeStream s code k).flt = s.flt ∧ (takeStream s code k).tally = s.tally ∧
    (takeStream s code k).therm = s.therm ∧ (takeStream s code k).life = s.life ∧
    (takeStream s code k).pins = s.pins ∧ (takeStream s code k).nv = s.nv ∧ (takeStream s code k).out = s.out ∧
    (takeStream s code k).free = s.free ∧
    (takeStream s code k).pending = s.pending := by
  simp [takeStream]

@[simp] theorem requestFlush_keeps (s : State) (queue : ℕ) (num : ℕ) :
    (requestFlush s queue num).time = s.time ∧ (requestFlush s queue num).objs = s.objs ∧
    (requestFlush s queue num).clk = s.clk ∧ (requestFlush s queue num).slots = s.slots ∧
    (requestFlush s queue num).gains = s.gains ∧ (requestFlush s queue num).chans = s.chans ∧
    (requestFlush s queue num).rods = s.rods ∧ (requestFlush s queue num).buses = s.buses ∧
    (requestFlush s queue num).routeRefs = s.routeRefs ∧ (requestFlush s queue num).resets = s.resets ∧
    (requestFlush s queue num).exitReports = s.exitReports ∧ (requestFlush s queue num).combSat = s.combSat ∧
    (requestFlush s queue num).mutes = s.mutes ∧ (requestFlush s queue num).olp = s.olp ∧
    (requestFlush s queue num).commit = s.commit ∧ (requestFlush s queue num).windows = s.windows ∧
    (requestFlush s queue num).gov = s.gov ∧ (requestFlush s queue num).govSnap = s.govSnap ∧
    (requestFlush s queue num).prot = s.prot ∧ (requestFlush s queue num).lic = s.lic ∧
    (requestFlush s queue num).sent = s.sent ∧ (requestFlush s queue num).cap = s.cap ∧
    (requestFlush s queue num).flt = s.flt ∧ (requestFlush s queue num).tally = s.tally ∧
    (requestFlush s queue num).therm = s.therm ∧ (requestFlush s queue num).life = s.life ∧
    (requestFlush s queue num).pins = s.pins ∧ (requestFlush s queue num).nv = s.nv ∧
    (requestFlush s queue num).out = s.out ∧ (requestFlush s queue num).free = s.free ∧
    (requestFlush s queue num).pending = s.pending := by
  simp [requestFlush]

@[simp] theorem emptyOuts_keeps (s : State) (kind : ℕ) (num : ℕ) :
    (emptyOuts s kind num).time = s.time ∧ (emptyOuts s kind num).objs = s.objs ∧
    (emptyOuts s kind num).clk = s.clk ∧ (emptyOuts s kind num).slots = s.slots ∧
    (emptyOuts s kind num).gains = s.gains ∧ (emptyOuts s kind num).chans = s.chans ∧
    (emptyOuts s kind num).rods = s.rods ∧ (emptyOuts s kind num).buses = s.buses ∧
    (emptyOuts s kind num).routeRefs = s.routeRefs ∧ (emptyOuts s kind num).resets = s.resets ∧
    (emptyOuts s kind num).exitReports = s.exitReports ∧ (emptyOuts s kind num).combSat = s.combSat ∧
    (emptyOuts s kind num).mutes = s.mutes ∧ (emptyOuts s kind num).olp = s.olp ∧
    (emptyOuts s kind num).commit = s.commit ∧ (emptyOuts s kind num).windows = s.windows ∧
    (emptyOuts s kind num).gov = s.gov ∧ (emptyOuts s kind num).govSnap = s.govSnap ∧
    (emptyOuts s kind num).prot = s.prot ∧ (emptyOuts s kind num).lic = s.lic ∧
    (emptyOuts s kind num).sent = s.sent ∧ (emptyOuts s kind num).cap = s.cap ∧ (emptyOuts s kind num).flt = s.flt ∧
    (emptyOuts s kind num).tally = s.tally ∧ (emptyOuts s kind num).therm = s.therm ∧
    (emptyOuts s kind num).life = s.life ∧ (emptyOuts s kind num).pins = s.pins ∧ (emptyOuts s kind num).nv = s.nv ∧
    (emptyOuts s kind num).out = s.out ∧ (emptyOuts s kind num).free = s.free ∧
    (emptyOuts s kind num).pending = s.pending := by
  simp [emptyOuts]

@[simp] theorem flushQueue_keeps (s : State) (queue : ℕ) (num : ℕ) :
    (flushQueue s queue num).time = s.time ∧ (flushQueue s queue num).objs = s.objs ∧
    (flushQueue s queue num).clk = s.clk ∧ (flushQueue s queue num).slots = s.slots ∧
    (flushQueue s queue num).gains = s.gains ∧ (flushQueue s queue num).chans = s.chans ∧
    (flushQueue s queue num).rods = s.rods ∧ (flushQueue s queue num).buses = s.buses ∧
    (flushQueue s queue num).routeRefs = s.routeRefs ∧ (flushQueue s queue num).resets = s.resets ∧
    (flushQueue s queue num).exitReports = s.exitReports ∧ (flushQueue s queue num).combSat = s.combSat ∧
    (flushQueue s queue num).mutes = s.mutes ∧ (flushQueue s queue num).commit = s.commit ∧
    (flushQueue s queue num).windows = s.windows ∧ (flushQueue s queue num).gov = s.gov ∧
    (flushQueue s queue num).govSnap = s.govSnap ∧ (flushQueue s queue num).prot = s.prot ∧
    (flushQueue s queue num).lic = s.lic ∧ (flushQueue s queue num).sent = s.sent ∧
    (flushQueue s queue num).cap = s.cap ∧ (flushQueue s queue num).flt = s.flt ∧
    (flushQueue s queue num).tally = s.tally ∧ (flushQueue s queue num).therm = s.therm ∧
    (flushQueue s queue num).life = s.life ∧ (flushQueue s queue num).pins = s.pins ∧
    (flushQueue s queue num).nv = s.nv ∧ (flushQueue s queue num).out = s.out ∧
    (flushQueue s queue num).free = s.free ∧
    (flushQueue s queue num).pending = s.pending := by
  unfold flushQueue; (repeat' split) <;> simp

@[simp] theorem linkParity_keeps (s : State) (kind : ℕ) (l : ℕ) (action : ℕ) (offsets : List ℕ) :
    (linkParity s kind l action offsets).time = s.time ∧ (linkParity s kind l action offsets).objs = s.objs ∧
    (linkParity s kind l action offsets).clk = s.clk ∧ (linkParity s kind l action offsets).slots = s.slots ∧
    (linkParity s kind l action offsets).gains = s.gains ∧ (linkParity s kind l action offsets).chans = s.chans ∧
    (linkParity s kind l action offsets).rods = s.rods ∧ (linkParity s kind l action offsets).buses = s.buses ∧
    (linkParity s kind l action offsets).routeRefs = s.routeRefs ∧
    (linkParity s kind l action offsets).resets = s.resets ∧
    (linkParity s kind l action offsets).exitReports = s.exitReports ∧
    (linkParity s kind l action offsets).combSat = s.combSat ∧
    (linkParity s kind l action offsets).mutes = s.mutes ∧ (linkParity s kind l action offsets).olp = s.olp ∧
    (linkParity s kind l action offsets).commit = s.commit ∧
    (linkParity s kind l action offsets).windows = s.windows ∧ (linkParity s kind l action offsets).gov = s.gov ∧
    (linkParity s kind l action offsets).govSnap = s.govSnap ∧ (linkParity s kind l action offsets).prot = s.prot ∧
    (linkParity s kind l action offsets).lic = s.lic ∧ (linkParity s kind l action offsets).sent = s.sent ∧
    (linkParity s kind l action offsets).cap = s.cap ∧ (linkParity s kind l action offsets).therm = s.therm ∧
    (linkParity s kind l action offsets).life = s.life ∧ (linkParity s kind l action offsets).pins = s.pins ∧
    (linkParity s kind l action offsets).nv = s.nv ∧ (linkParity s kind l action offsets).out = s.out ∧
    (linkParity s kind l action offsets).free = s.free ∧
    (linkParity s kind l action offsets).pending = s.pending := by
  simp [linkParity]

@[simp] theorem acquirePort_keeps (s : State) (kind : ℕ) (l : ℕ) :
    (acquirePort s kind l).time = s.time ∧ (acquirePort s kind l).objs = s.objs ∧
    (acquirePort s kind l).clk = s.clk ∧ (acquirePort s kind l).slots = s.slots ∧
    (acquirePort s kind l).gains = s.gains ∧ (acquirePort s kind l).rods = s.rods ∧
    (acquirePort s kind l).routeRefs = s.routeRefs ∧ (acquirePort s kind l).resets = s.resets ∧
    (acquirePort s kind l).exitReports = s.exitReports ∧ (acquirePort s kind l).combSat = s.combSat ∧
    (acquirePort s kind l).olp = s.olp ∧ (acquirePort s kind l).commit = s.commit ∧
    (acquirePort s kind l).windows = s.windows ∧ (acquirePort s kind l).gov = s.gov ∧
    (acquirePort s kind l).govSnap = s.govSnap ∧ (acquirePort s kind l).prot = s.prot ∧
    (acquirePort s kind l).lic = s.lic ∧ (acquirePort s kind l).sent = s.sent ∧ (acquirePort s kind l).cap = s.cap ∧
    (acquirePort s kind l).flt = s.flt ∧ (acquirePort s kind l).therm = s.therm ∧
    (acquirePort s kind l).life = s.life ∧ (acquirePort s kind l).pins = s.pins ∧ (acquirePort s kind l).nv = s.nv ∧
    (acquirePort s kind l).free = s.free ∧
    (acquirePort s kind l).pending = s.pending := by
  simp [acquirePort]

@[simp] theorem linkStateRecord_keeps (s : State) (kind : ℕ) (l : ℕ) :
    (linkStateRecord s kind l).time = s.time ∧ (linkStateRecord s kind l).objs = s.objs ∧
    (linkStateRecord s kind l).clk = s.clk ∧ (linkStateRecord s kind l).slots = s.slots ∧
    (linkStateRecord s kind l).gains = s.gains ∧ (linkStateRecord s kind l).chans = s.chans ∧
    (linkStateRecord s kind l).rods = s.rods ∧ (linkStateRecord s kind l).buses = s.buses ∧
    (linkStateRecord s kind l).routeRefs = s.routeRefs ∧ (linkStateRecord s kind l).resets = s.resets ∧
    (linkStateRecord s kind l).exitReports = s.exitReports ∧ (linkStateRecord s kind l).combSat = s.combSat ∧
    (linkStateRecord s kind l).mutes = s.mutes ∧ (linkStateRecord s kind l).olp = s.olp ∧
    (linkStateRecord s kind l).commit = s.commit ∧ (linkStateRecord s kind l).windows = s.windows ∧
    (linkStateRecord s kind l).gov = s.gov ∧ (linkStateRecord s kind l).govSnap = s.govSnap ∧
    (linkStateRecord s kind l).prot = s.prot ∧ (linkStateRecord s kind l).lic = s.lic ∧
    (linkStateRecord s kind l).sent = s.sent ∧ (linkStateRecord s kind l).links = s.links ∧
    (linkStateRecord s kind l).cap = s.cap ∧ (linkStateRecord s kind l).flt = s.flt ∧
    (linkStateRecord s kind l).therm = s.therm ∧ (linkStateRecord s kind l).life = s.life ∧
    (linkStateRecord s kind l).pins = s.pins ∧ (linkStateRecord s kind l).nv = s.nv ∧
    (linkStateRecord s kind l).out = s.out ∧ (linkStateRecord s kind l).free = s.free ∧
    (linkStateRecord s kind l).pending = s.pending := by
  simp [linkStateRecord]

@[simp] theorem noteLinkState_keeps (was : ℕ) (s : State) (kind : ℕ) (l : ℕ) :
    (noteLinkState was s kind l).time = s.time ∧ (noteLinkState was s kind l).objs = s.objs ∧
    (noteLinkState was s kind l).clk = s.clk ∧ (noteLinkState was s kind l).slots = s.slots ∧
    (noteLinkState was s kind l).gains = s.gains ∧ (noteLinkState was s kind l).chans = s.chans ∧
    (noteLinkState was s kind l).rods = s.rods ∧ (noteLinkState was s kind l).buses = s.buses ∧
    (noteLinkState was s kind l).routeRefs = s.routeRefs ∧ (noteLinkState was s kind l).resets = s.resets ∧
    (noteLinkState was s kind l).exitReports = s.exitReports ∧ (noteLinkState was s kind l).combSat = s.combSat ∧
    (noteLinkState was s kind l).mutes = s.mutes ∧ (noteLinkState was s kind l).olp = s.olp ∧
    (noteLinkState was s kind l).commit = s.commit ∧ (noteLinkState was s kind l).windows = s.windows ∧
    (noteLinkState was s kind l).gov = s.gov ∧ (noteLinkState was s kind l).govSnap = s.govSnap ∧
    (noteLinkState was s kind l).prot = s.prot ∧ (noteLinkState was s kind l).lic = s.lic ∧
    (noteLinkState was s kind l).sent = s.sent ∧ (noteLinkState was s kind l).links = s.links ∧
    (noteLinkState was s kind l).cap = s.cap ∧ (noteLinkState was s kind l).flt = s.flt ∧
    (noteLinkState was s kind l).therm = s.therm ∧ (noteLinkState was s kind l).life = s.life ∧
    (noteLinkState was s kind l).pins = s.pins ∧ (noteLinkState was s kind l).nv = s.nv ∧
    (noteLinkState was s kind l).out = s.out ∧ (noteLinkState was s kind l).free = s.free ∧
    (noteLinkState was s kind l).pending = s.pending := by
  simp [noteLinkState]

@[simp] theorem discardFrame_keeps (s : State) (l : ℕ) (f : DnFrame) :
    (discardFrame s l f).time = s.time ∧ (discardFrame s l f).objs = s.objs ∧ (discardFrame s l f).clk = s.clk ∧
    (discardFrame s l f).slots = s.slots ∧ (discardFrame s l f).gains = s.gains ∧
    (discardFrame s l f).chans = s.chans ∧ (discardFrame s l f).rods = s.rods ∧
    (discardFrame s l f).buses = s.buses ∧ (discardFrame s l f).routeRefs = s.routeRefs ∧
    (discardFrame s l f).resets = s.resets ∧ (discardFrame s l f).exitReports = s.exitReports ∧
    (discardFrame s l f).combSat = s.combSat ∧ (discardFrame s l f).mutes = s.mutes ∧
    (discardFrame s l f).olp = s.olp ∧ (discardFrame s l f).commit = s.commit ∧
    (discardFrame s l f).windows = s.windows ∧ (discardFrame s l f).gov = s.gov ∧
    (discardFrame s l f).govSnap = s.govSnap ∧ (discardFrame s l f).prot = s.prot ∧
    (discardFrame s l f).lic = s.lic ∧ (discardFrame s l f).sent = s.sent ∧ (discardFrame s l f).cap = s.cap ∧
    (discardFrame s l f).flt = s.flt ∧ (discardFrame s l f).tally = s.tally ∧ (discardFrame s l f).therm = s.therm ∧
    (discardFrame s l f).life = s.life ∧ (discardFrame s l f).pins = s.pins ∧ (discardFrame s l f).nv = s.nv ∧
    (discardFrame s l f).out = s.out ∧ (discardFrame s l f).free = s.free ∧
    (discardFrame s l f).pending = s.pending := by
  simp [discardFrame]

@[simp] theorem storeOne_keeps (s : State) (code : ℕ) (xs : List Smp) :
    (storeOne s code xs).time = s.time ∧ (storeOne s code xs).objs = s.objs ∧ (storeOne s code xs).clk = s.clk ∧
    (storeOne s code xs).slots = s.slots ∧ (storeOne s code xs).gains = s.gains ∧
    (storeOne s code xs).chans = s.chans ∧ (storeOne s code xs).rods = s.rods ∧
    (storeOne s code xs).buses = s.buses ∧ (storeOne s code xs).routeRefs = s.routeRefs ∧
    (storeOne s code xs).resets = s.resets ∧ (storeOne s code xs).exitReports = s.exitReports ∧
    (storeOne s code xs).combSat = s.combSat ∧ (storeOne s code xs).mutes = s.mutes ∧
    (storeOne s code xs).commit = s.commit ∧ (storeOne s code xs).windows = s.windows ∧
    (storeOne s code xs).gov = s.gov ∧ (storeOne s code xs).govSnap = s.govSnap ∧
    (storeOne s code xs).prot = s.prot ∧ (storeOne s code xs).lic = s.lic ∧ (storeOne s code xs).sent = s.sent ∧
    (storeOne s code xs).cap = s.cap ∧ (storeOne s code xs).flt = s.flt ∧ (storeOne s code xs).tally = s.tally ∧
    (storeOne s code xs).therm = s.therm ∧ (storeOne s code xs).life = s.life ∧ (storeOne s code xs).pins = s.pins ∧
    (storeOne s code xs).nv = s.nv ∧ (storeOne s code xs).out = s.out ∧ (storeOne s code xs).free = s.free ∧
    (storeOne s code xs).pending = s.pending := by
  simp [storeOne]

@[simp] theorem storeItem_keeps (s : State) (code : ℕ) (xs : List Smp) :
    (storeItem s code xs).time = s.time ∧ (storeItem s code xs).objs = s.objs ∧ (storeItem s code xs).clk = s.clk ∧
    (storeItem s code xs).slots = s.slots ∧ (storeItem s code xs).gains = s.gains ∧
    (storeItem s code xs).chans = s.chans ∧ (storeItem s code xs).rods = s.rods ∧
    (storeItem s code xs).buses = s.buses ∧ (storeItem s code xs).routeRefs = s.routeRefs ∧
    (storeItem s code xs).resets = s.resets ∧ (storeItem s code xs).exitReports = s.exitReports ∧
    (storeItem s code xs).combSat = s.combSat ∧ (storeItem s code xs).mutes = s.mutes ∧
    (storeItem s code xs).commit = s.commit ∧ (storeItem s code xs).windows = s.windows ∧
    (storeItem s code xs).gov = s.gov ∧ (storeItem s code xs).govSnap = s.govSnap ∧
    (storeItem s code xs).prot = s.prot ∧ (storeItem s code xs).lic = s.lic ∧ (storeItem s code xs).sent = s.sent ∧
    (storeItem s code xs).cap = s.cap ∧ (storeItem s code xs).flt = s.flt ∧ (storeItem s code xs).tally = s.tally ∧
    (storeItem s code xs).therm = s.therm ∧ (storeItem s code xs).life = s.life ∧
    (storeItem s code xs).pins = s.pins ∧ (storeItem s code xs).nv = s.nv ∧ (storeItem s code xs).out = s.out ∧
    (storeItem s code xs).free = s.free ∧
    (storeItem s code xs).pending = s.pending := by
  simp [storeItem]

@[simp] theorem pushOut_keeps (s : State) (code : ℕ) (k : ℕ) (xs : List Smp) :
    (pushOut s code k xs).time = s.time ∧ (pushOut s code k xs).objs = s.objs ∧ (pushOut s code k xs).clk = s.clk ∧
    (pushOut s code k xs).slots = s.slots ∧ (pushOut s code k xs).gains = s.gains ∧
    (pushOut s code k xs).chans = s.chans ∧ (pushOut s code k xs).rods = s.rods ∧
    (pushOut s code k xs).buses = s.buses ∧ (pushOut s code k xs).routeRefs = s.routeRefs ∧
    (pushOut s code k xs).resets = s.resets ∧ (pushOut s code k xs).exitReports = s.exitReports ∧
    (pushOut s code k xs).combSat = s.combSat ∧ (pushOut s code k xs).mutes = s.mutes ∧
    (pushOut s code k xs).commit = s.commit ∧ (pushOut s code k xs).windows = s.windows ∧
    (pushOut s code k xs).gov = s.gov ∧ (pushOut s code k xs).govSnap = s.govSnap ∧
    (pushOut s code k xs).prot = s.prot ∧ (pushOut s code k xs).lic = s.lic ∧ (pushOut s code k xs).sent = s.sent ∧
    (pushOut s code k xs).cap = s.cap ∧ (pushOut s code k xs).flt = s.flt ∧ (pushOut s code k xs).tally = s.tally ∧
    (pushOut s code k xs).therm = s.therm ∧ (pushOut s code k xs).life = s.life ∧
    (pushOut s code k xs).pins = s.pins ∧ (pushOut s code k xs).nv = s.nv ∧ (pushOut s code k xs).out = s.out ∧
    (pushOut s code k xs).free = s.free ∧
    (pushOut s code k xs).pending = s.pending := by
  simp [pushOut]

@[simp] theorem modEntry_keeps (s : State) (i : ℕ) (f : LedgerEntry → LedgerEntry) :
    (modEntry s i f).time = s.time ∧ (modEntry s i f).objs = s.objs ∧ (modEntry s i f).clk = s.clk ∧
    (modEntry s i f).slots = s.slots ∧ (modEntry s i f).gains = s.gains ∧ (modEntry s i f).chans = s.chans ∧
    (modEntry s i f).rods = s.rods ∧ (modEntry s i f).buses = s.buses ∧ (modEntry s i f).routeRefs = s.routeRefs ∧
    (modEntry s i f).resets = s.resets ∧ (modEntry s i f).exitReports = s.exitReports ∧
    (modEntry s i f).combSat = s.combSat ∧ (modEntry s i f).mutes = s.mutes ∧ (modEntry s i f).olp = s.olp ∧
    (modEntry s i f).commit = s.commit ∧ (modEntry s i f).windows = s.windows ∧ (modEntry s i f).gov = s.gov ∧
    (modEntry s i f).govSnap = s.govSnap ∧ (modEntry s i f).lic = s.lic ∧ (modEntry s i f).sent = s.sent ∧
    (modEntry s i f).links = s.links ∧ (modEntry s i f).cap = s.cap ∧ (modEntry s i f).flt = s.flt ∧
    (modEntry s i f).tally = s.tally ∧ (modEntry s i f).therm = s.therm ∧ (modEntry s i f).life = s.life ∧
    (modEntry s i f).pins = s.pins ∧ (modEntry s i f).nv = s.nv ∧ (modEntry s i f).out = s.out ∧
    (modEntry s i f).free = s.free ∧
    (modEntry s i f).pending = s.pending := by
  simp [modEntry]

@[simp] theorem dropTimers_keeps (s : State) (i : ℕ) :
    (dropTimers s i).time = s.time ∧ (dropTimers s i).objs = s.objs ∧ (dropTimers s i).clk = s.clk ∧
    (dropTimers s i).slots = s.slots ∧ (dropTimers s i).chans = s.chans ∧ (dropTimers s i).rods = s.rods ∧
    (dropTimers s i).buses = s.buses ∧ (dropTimers s i).routeRefs = s.routeRefs ∧
    (dropTimers s i).resets = s.resets ∧ (dropTimers s i).exitReports = s.exitReports ∧
    (dropTimers s i).combSat = s.combSat ∧ (dropTimers s i).mutes = s.mutes ∧ (dropTimers s i).olp = s.olp ∧
    (dropTimers s i).commit = s.commit ∧ (dropTimers s i).windows = s.windows ∧ (dropTimers s i).gov = s.gov ∧
    (dropTimers s i).govSnap = s.govSnap ∧ (dropTimers s i).prot = s.prot ∧ (dropTimers s i).lic = s.lic ∧
    (dropTimers s i).sent = s.sent ∧ (dropTimers s i).links = s.links ∧ (dropTimers s i).cap = s.cap ∧
    (dropTimers s i).flt = s.flt ∧ (dropTimers s i).tally = s.tally ∧ (dropTimers s i).therm = s.therm ∧
    (dropTimers s i).life = s.life ∧ (dropTimers s i).pins = s.pins ∧ (dropTimers s i).nv = s.nv ∧
    (dropTimers s i).out = s.out ∧ (dropTimers s i).free = s.free ∧
    (dropTimers s i).pending = s.pending := by
  simp [dropTimers]

@[simp] theorem ledgerUpdate_keeps (s : State) (g : ℕ) (c : CellMeas) :
    (ledgerUpdate s g c).1.time = s.time ∧ (ledgerUpdate s g c).1.objs = s.objs ∧
    (ledgerUpdate s g c).1.clk = s.clk ∧ (ledgerUpdate s g c).1.slots = s.slots ∧
    (ledgerUpdate s g c).1.chans = s.chans ∧ (ledgerUpdate s g c).1.rods = s.rods ∧
    (ledgerUpdate s g c).1.buses = s.buses ∧ (ledgerUpdate s g c).1.routeRefs = s.routeRefs ∧
    (ledgerUpdate s g c).1.resets = s.resets ∧ (ledgerUpdate s g c).1.exitReports = s.exitReports ∧
    (ledgerUpdate s g c).1.combSat = s.combSat ∧ (ledgerUpdate s g c).1.mutes = s.mutes ∧
    (ledgerUpdate s g c).1.olp = s.olp ∧ (ledgerUpdate s g c).1.commit = s.commit ∧
    (ledgerUpdate s g c).1.windows = s.windows ∧ (ledgerUpdate s g c).1.gov = s.gov ∧
    (ledgerUpdate s g c).1.govSnap = s.govSnap ∧ (ledgerUpdate s g c).1.lic = s.lic ∧
    (ledgerUpdate s g c).1.sent = s.sent ∧ (ledgerUpdate s g c).1.links = s.links ∧
    (ledgerUpdate s g c).1.cap = s.cap ∧ (ledgerUpdate s g c).1.flt = s.flt ∧
    (ledgerUpdate s g c).1.tally = s.tally ∧ (ledgerUpdate s g c).1.therm = s.therm ∧
    (ledgerUpdate s g c).1.life = s.life ∧ (ledgerUpdate s g c).1.pins = s.pins ∧ (ledgerUpdate s g c).1.nv = s.nv ∧
    (ledgerUpdate s g c).1.out = s.out ∧ (ledgerUpdate s g c).1.free = s.free ∧
    (ledgerUpdate s g c).1.pending = s.pending := by
  unfold ledgerUpdate; dsimp only; (repeat' split) <;> simp

@[simp] theorem heardBy_keeps (s : State) (g : ℕ) (m : ℤ) (at_ : ℕ) :
    (heardBy s g m at_).time = s.time ∧ (heardBy s g m at_).objs = s.objs ∧ (heardBy s g m at_).clk = s.clk ∧
    (heardBy s g m at_).slots = s.slots ∧ (heardBy s g m at_).chans = s.chans ∧ (heardBy s g m at_).rods = s.rods ∧
    (heardBy s g m at_).buses = s.buses ∧ (heardBy s g m at_).routeRefs = s.routeRefs ∧
    (heardBy s g m at_).resets = s.resets ∧ (heardBy s g m at_).exitReports = s.exitReports ∧
    (heardBy s g m at_).combSat = s.combSat ∧ (heardBy s g m at_).mutes = s.mutes ∧
    (heardBy s g m at_).olp = s.olp ∧ (heardBy s g m at_).commit = s.commit ∧
    (heardBy s g m at_).windows = s.windows ∧ (heardBy s g m at_).gov = s.gov ∧
    (heardBy s g m at_).govSnap = s.govSnap ∧ (heardBy s g m at_).prot = s.prot ∧ (heardBy s g m at_).lic = s.lic ∧
    (heardBy s g m at_).sent = s.sent ∧ (heardBy s g m at_).links = s.links ∧ (heardBy s g m at_).cap = s.cap ∧
    (heardBy s g m at_).flt = s.flt ∧ (heardBy s g m at_).tally = s.tally ∧ (heardBy s g m at_).therm = s.therm ∧
    (heardBy s g m at_).life = s.life ∧ (heardBy s g m at_).pins = s.pins ∧ (heardBy s g m at_).nv = s.nv ∧
    (heardBy s g m at_).out = s.out ∧ (heardBy s g m at_).free = s.free ∧
    (heardBy s g m at_).pending = s.pending := by
  simp [heardBy]

@[simp] theorem reselect_keeps (s : State) (g : ℕ) :
    (reselect s g).time = s.time ∧ (reselect s g).objs = s.objs ∧ (reselect s g).clk = s.clk ∧
    (reselect s g).slots = s.slots ∧ (reselect s g).chans = s.chans ∧ (reselect s g).rods = s.rods ∧
    (reselect s g).buses = s.buses ∧ (reselect s g).routeRefs = s.routeRefs ∧ (reselect s g).resets = s.resets ∧
    (reselect s g).exitReports = s.exitReports ∧ (reselect s g).combSat = s.combSat ∧
    (reselect s g).mutes = s.mutes ∧ (reselect s g).olp = s.olp ∧ (reselect s g).commit = s.commit ∧
    (reselect s g).windows = s.windows ∧ (reselect s g).gov = s.gov ∧ (reselect s g).govSnap = s.govSnap ∧
    (reselect s g).prot = s.prot ∧ (reselect s g).lic = s.lic ∧ (reselect s g).sent = s.sent ∧
    (reselect s g).links = s.links ∧ (reselect s g).cap = s.cap ∧ (reselect s g).flt = s.flt ∧
    (reselect s g).therm = s.therm ∧ (reselect s g).life = s.life ∧ (reselect s g).pins = s.pins ∧
    (reselect s g).nv = s.nv ∧ (reselect s g).out = s.out ∧ (reselect s g).free = s.free ∧
    (reselect s g).pending = s.pending := by
  unfold reselect; dsimp only; (repeat' split) <;> simp

@[simp] theorem protMute_keeps (s : State) (o : Owner) (g : ℕ) (rule : ℕ) :
    (protMute s o g rule).time = s.time ∧ (protMute s o g rule).objs = s.objs ∧ (protMute s o g rule).clk = s.clk ∧
    (protMute s o g rule).slots = s.slots ∧ (protMute s o g rule).gains = s.gains ∧
    (protMute s o g rule).rods = s.rods ∧ (protMute s o g rule).routeRefs = s.routeRefs ∧
    (protMute s o g rule).resets = s.resets ∧ (protMute s o g rule).exitReports = s.exitReports ∧
    (protMute s o g rule).combSat = s.combSat ∧ (protMute s o g rule).olp = s.olp ∧
    (protMute s o g rule).commit = s.commit ∧ (protMute s o g rule).windows = s.windows ∧
    (protMute s o g rule).gov = s.gov ∧ (protMute s o g rule).govSnap = s.govSnap ∧
    (protMute s o g rule).lic = s.lic ∧ (protMute s o g rule).sent = s.sent ∧
    (protMute s o g rule).links = s.links ∧ (protMute s o g rule).cap = s.cap ∧ (protMute s o g rule).flt = s.flt ∧
    (protMute s o g rule).therm = s.therm ∧ (protMute s o g rule).life = s.life ∧
    (protMute s o g rule).pins = s.pins ∧ (protMute s o g rule).nv = s.nv ∧ (protMute s o g rule).free = s.free ∧
    (protMute s o g rule).pending = s.pending := by
  simp [protMute]

@[simp] theorem protRelease_keeps (s : State) (o : Owner) (g : ℕ) (rule : ℕ) :
    (protRelease s o g rule).time = s.time ∧ (protRelease s o g rule).objs = s.objs ∧
    (protRelease s o g rule).clk = s.clk ∧ (protRelease s o g rule).slots = s.slots ∧
    (protRelease s o g rule).gains = s.gains ∧ (protRelease s o g rule).chans = s.chans ∧
    (protRelease s o g rule).rods = s.rods ∧ (protRelease s o g rule).buses = s.buses ∧
    (protRelease s o g rule).routeRefs = s.routeRefs ∧ (protRelease s o g rule).resets = s.resets ∧
    (protRelease s o g rule).exitReports = s.exitReports ∧ (protRelease s o g rule).combSat = s.combSat ∧
    (protRelease s o g rule).olp = s.olp ∧ (protRelease s o g rule).commit = s.commit ∧
    (protRelease s o g rule).windows = s.windows ∧ (protRelease s o g rule).gov = s.gov ∧
    (protRelease s o g rule).govSnap = s.govSnap ∧ (protRelease s o g rule).prot = s.prot ∧
    (protRelease s o g rule).lic = s.lic ∧ (protRelease s o g rule).sent = s.sent ∧
    (protRelease s o g rule).links = s.links ∧ (protRelease s o g rule).cap = s.cap ∧
    (protRelease s o g rule).flt = s.flt ∧ (protRelease s o g rule).therm = s.therm ∧
    (protRelease s o g rule).life = s.life ∧ (protRelease s o g rule).pins = s.pins ∧
    (protRelease s o g rule).nv = s.nv ∧ (protRelease s o g rule).out = s.out ∧
    (protRelease s o g rule).free = s.free ∧
    (protRelease s o g rule).pending = s.pending := by
  simp [protRelease]

@[simp] theorem setIdentity_keeps (s : State) (g : ℕ) (ok : Bool) :
    (setIdentity s g ok).time = s.time ∧ (setIdentity s g ok).objs = s.objs ∧ (setIdentity s g ok).clk = s.clk ∧
    (setIdentity s g ok).slots = s.slots ∧ (setIdentity s g ok).rods = s.rods ∧
    (setIdentity s g ok).routeRefs = s.routeRefs ∧ (setIdentity s g ok).resets = s.resets ∧
    (setIdentity s g ok).exitReports = s.exitReports ∧ (setIdentity s g ok).combSat = s.combSat ∧
    (setIdentity s g ok).olp = s.olp ∧ (setIdentity s g ok).commit = s.commit ∧
    (setIdentity s g ok).windows = s.windows ∧ (setIdentity s g ok).gov = s.gov ∧
    (setIdentity s g ok).govSnap = s.govSnap ∧ (setIdentity s g ok).lic = s.lic ∧
    (setIdentity s g ok).sent = s.sent ∧ (setIdentity s g ok).links = s.links ∧ (setIdentity s g ok).cap = s.cap ∧
    (setIdentity s g ok).flt = s.flt ∧ (setIdentity s g ok).therm = s.therm ∧ (setIdentity s g ok).life = s.life ∧
    (setIdentity s g ok).pins = s.pins ∧ (setIdentity s g ok).nv = s.nv ∧ (setIdentity s g ok).free = s.free ∧
    (setIdentity s g ok).pending = s.pending := by
  simp [setIdentity]

@[simp] theorem modGroup_keeps (s : State) (i : ℕ) (f : TddGroup → TddGroup) :
    (modGroup s i f).time = s.time ∧ (modGroup s i f).objs = s.objs ∧ (modGroup s i f).clk = s.clk ∧
    (modGroup s i f).slots = s.slots ∧ (modGroup s i f).gains = s.gains ∧ (modGroup s i f).chans = s.chans ∧
    (modGroup s i f).rods = s.rods ∧ (modGroup s i f).buses = s.buses ∧ (modGroup s i f).routeRefs = s.routeRefs ∧
    (modGroup s i f).resets = s.resets ∧ (modGroup s i f).exitReports = s.exitReports ∧
    (modGroup s i f).combSat = s.combSat ∧ (modGroup s i f).mutes = s.mutes ∧ (modGroup s i f).olp = s.olp ∧
    (modGroup s i f).commit = s.commit ∧ (modGroup s i f).windows = s.windows ∧ (modGroup s i f).gov = s.gov ∧
    (modGroup s i f).govSnap = s.govSnap ∧ (modGroup s i f).lic = s.lic ∧ (modGroup s i f).sent = s.sent ∧
    (modGroup s i f).links = s.links ∧ (modGroup s i f).cap = s.cap ∧ (modGroup s i f).flt = s.flt ∧
    (modGroup s i f).tally = s.tally ∧ (modGroup s i f).therm = s.therm ∧ (modGroup s i f).life = s.life ∧
    (modGroup s i f).pins = s.pins ∧ (modGroup s i f).nv = s.nv ∧ (modGroup s i f).out = s.out ∧
    (modGroup s i f).free = s.free ∧
    (modGroup s i f).pending = s.pending := by
  simp [modGroup]

@[simp] theorem setGroup_keeps (s : State) (i : ℕ) (st : ℕ) :
    (setGroup s i st).time = s.time ∧ (setGroup s i st).objs = s.objs ∧ (setGroup s i st).clk = s.clk ∧
    (setGroup s i st).slots = s.slots ∧ (setGroup s i st).gains = s.gains ∧ (setGroup s i st).rods = s.rods ∧
    (setGroup s i st).routeRefs = s.routeRefs ∧ (setGroup s i st).resets = s.resets ∧
    (setGroup s i st).exitReports = s.exitReports ∧ (setGroup s i st).combSat = s.combSat ∧
    (setGroup s i st).olp = s.olp ∧ (setGroup s i st).commit = s.commit ∧ (setGroup s i st).windows = s.windows ∧
    (setGroup s i st).gov = s.gov ∧ (setGroup s i st).govSnap = s.govSnap ∧ (setGroup s i st).lic = s.lic ∧
    (setGroup s i st).sent = s.sent ∧ (setGroup s i st).links = s.links ∧ (setGroup s i st).cap = s.cap ∧
    (setGroup s i st).flt = s.flt ∧ (setGroup s i st).therm = s.therm ∧ (setGroup s i st).life = s.life ∧
    (setGroup s i st).pins = s.pins ∧ (setGroup s i st).nv = s.nv ∧ (setGroup s i st).free = s.free ∧
    (setGroup s i st).pending = s.pending := by
  simp [setGroup]

@[simp] theorem lockedEpoch_keeps (s : State) (i : ℕ) (pos : ℕ) (g : TddGroup) :
    (lockedEpoch s i pos g).time = s.time ∧ (lockedEpoch s i pos g).objs = s.objs ∧
    (lockedEpoch s i pos g).clk = s.clk ∧ (lockedEpoch s i pos g).slots = s.slots ∧
    (lockedEpoch s i pos g).gains = s.gains ∧ (lockedEpoch s i pos g).rods = s.rods ∧
    (lockedEpoch s i pos g).routeRefs = s.routeRefs ∧ (lockedEpoch s i pos g).resets = s.resets ∧
    (lockedEpoch s i pos g).exitReports = s.exitReports ∧ (lockedEpoch s i pos g).combSat = s.combSat ∧
    (lockedEpoch s i pos g).olp = s.olp ∧ (lockedEpoch s i pos g).commit = s.commit ∧
    (lockedEpoch s i pos g).windows = s.windows ∧ (lockedEpoch s i pos g).gov = s.gov ∧
    (lockedEpoch s i pos g).govSnap = s.govSnap ∧ (lockedEpoch s i pos g).lic = s.lic ∧
    (lockedEpoch s i pos g).sent = s.sent ∧ (lockedEpoch s i pos g).links = s.links ∧
    (lockedEpoch s i pos g).cap = s.cap ∧ (lockedEpoch s i pos g).flt = s.flt ∧
    (lockedEpoch s i pos g).therm = s.therm ∧ (lockedEpoch s i pos g).life = s.life ∧
    (lockedEpoch s i pos g).pins = s.pins ∧ (lockedEpoch s i pos g).nv = s.nv ∧
    (lockedEpoch s i pos g).free = s.free ∧
    (lockedEpoch s i pos g).pending = s.pending := by
  simp [lockedEpoch]

@[simp] theorem tddEpoch_keeps (s : State) (i : ℕ) (pos : ℕ) :
    (tddEpoch s i pos).time = s.time ∧ (tddEpoch s i pos).objs = s.objs ∧ (tddEpoch s i pos).clk = s.clk ∧
    (tddEpoch s i pos).slots = s.slots ∧ (tddEpoch s i pos).gains = s.gains ∧ (tddEpoch s i pos).rods = s.rods ∧
    (tddEpoch s i pos).routeRefs = s.routeRefs ∧ (tddEpoch s i pos).resets = s.resets ∧
    (tddEpoch s i pos).exitReports = s.exitReports ∧ (tddEpoch s i pos).combSat = s.combSat ∧
    (tddEpoch s i pos).olp = s.olp ∧ (tddEpoch s i pos).commit = s.commit ∧ (tddEpoch s i pos).windows = s.windows ∧
    (tddEpoch s i pos).gov = s.gov ∧ (tddEpoch s i pos).govSnap = s.govSnap ∧ (tddEpoch s i pos).lic = s.lic ∧
    (tddEpoch s i pos).sent = s.sent ∧ (tddEpoch s i pos).links = s.links ∧ (tddEpoch s i pos).cap = s.cap ∧
    (tddEpoch s i pos).flt = s.flt ∧ (tddEpoch s i pos).therm = s.therm ∧ (tddEpoch s i pos).life = s.life ∧
    (tddEpoch s i pos).pins = s.pins ∧ (tddEpoch s i pos).nv = s.nv ∧ (tddEpoch s i pos).free = s.free ∧
    (tddEpoch s i pos).pending = s.pending := by
  unfold tddEpoch; dsimp only; (repeat' split) <;> simp

@[simp] theorem slewGroup_keeps (s : State) (i : ℕ) :
    (slewGroup s i).time = s.time ∧ (slewGroup s i).objs = s.objs ∧ (slewGroup s i).clk = s.clk ∧
    (slewGroup s i).slots = s.slots ∧ (slewGroup s i).gains = s.gains ∧ (slewGroup s i).chans = s.chans ∧
    (slewGroup s i).rods = s.rods ∧ (slewGroup s i).buses = s.buses ∧ (slewGroup s i).routeRefs = s.routeRefs ∧
    (slewGroup s i).resets = s.resets ∧ (slewGroup s i).exitReports = s.exitReports ∧
    (slewGroup s i).combSat = s.combSat ∧ (slewGroup s i).mutes = s.mutes ∧ (slewGroup s i).olp = s.olp ∧
    (slewGroup s i).commit = s.commit ∧ (slewGroup s i).windows = s.windows ∧ (slewGroup s i).gov = s.gov ∧
    (slewGroup s i).govSnap = s.govSnap ∧ (slewGroup s i).lic = s.lic ∧ (slewGroup s i).sent = s.sent ∧
    (slewGroup s i).links = s.links ∧ (slewGroup s i).cap = s.cap ∧ (slewGroup s i).flt = s.flt ∧
    (slewGroup s i).tally = s.tally ∧ (slewGroup s i).therm = s.therm ∧ (slewGroup s i).life = s.life ∧
    (slewGroup s i).pins = s.pins ∧ (slewGroup s i).nv = s.nv ∧ (slewGroup s i).out = s.out ∧
    (slewGroup s i).free = s.free ∧
    (slewGroup s i).pending = s.pending := by
  unfold slewGroup; dsimp only; (repeat' split) <;> simp

@[simp] theorem ppsEpoch_keeps (s : State) (i : ℕ) :
    (ppsEpoch s i).time = s.time ∧ (ppsEpoch s i).objs = s.objs ∧ (ppsEpoch s i).clk = s.clk ∧
    (ppsEpoch s i).slots = s.slots ∧ (ppsEpoch s i).gains = s.gains ∧ (ppsEpoch s i).rods = s.rods ∧
    (ppsEpoch s i).routeRefs = s.routeRefs ∧ (ppsEpoch s i).resets = s.resets ∧
    (ppsEpoch s i).exitReports = s.exitReports ∧ (ppsEpoch s i).combSat = s.combSat ∧ (ppsEpoch s i).olp = s.olp ∧
    (ppsEpoch s i).commit = s.commit ∧ (ppsEpoch s i).windows = s.windows ∧ (ppsEpoch s i).gov = s.gov ∧
    (ppsEpoch s i).govSnap = s.govSnap ∧ (ppsEpoch s i).lic = s.lic ∧ (ppsEpoch s i).sent = s.sent ∧
    (ppsEpoch s i).links = s.links ∧ (ppsEpoch s i).cap = s.cap ∧ (ppsEpoch s i).flt = s.flt ∧
    (ppsEpoch s i).therm = s.therm ∧ (ppsEpoch s i).life = s.life ∧ (ppsEpoch s i).pins = s.pins ∧
    (ppsEpoch s i).nv = s.nv ∧ (ppsEpoch s i).free = s.free ∧
    (ppsEpoch s i).pending = s.pending := by
  unfold ppsEpoch; (repeat' split) <;> simp

@[simp] theorem groupsFrame_keeps (s : State) :
    (groupsFrame s).time = s.time ∧ (groupsFrame s).objs = s.objs ∧ (groupsFrame s).clk = s.clk ∧
    (groupsFrame s).slots = s.slots ∧ (groupsFrame s).gains = s.gains ∧ (groupsFrame s).rods = s.rods ∧
    (groupsFrame s).routeRefs = s.routeRefs ∧ (groupsFrame s).resets = s.resets ∧
    (groupsFrame s).exitReports = s.exitReports ∧ (groupsFrame s).combSat = s.combSat ∧
    (groupsFrame s).olp = s.olp ∧ (groupsFrame s).commit = s.commit ∧ (groupsFrame s).windows = s.windows ∧
    (groupsFrame s).gov = s.gov ∧ (groupsFrame s).govSnap = s.govSnap ∧ (groupsFrame s).lic = s.lic ∧
    (groupsFrame s).sent = s.sent ∧ (groupsFrame s).links = s.links ∧ (groupsFrame s).cap = s.cap ∧
    (groupsFrame s).flt = s.flt ∧ (groupsFrame s).therm = s.therm ∧ (groupsFrame s).life = s.life ∧
    (groupsFrame s).pins = s.pins ∧ (groupsFrame s).nv = s.nv ∧ (groupsFrame s).free = s.free ∧
    (groupsFrame s).pending = s.pending := by
  simp [groupsFrame]

@[simp] theorem restartDwell_keeps (s : State) (r : ℕ) :
    (restartDwell s r).time = s.time ∧ (restartDwell s r).objs = s.objs ∧ (restartDwell s r).clk = s.clk ∧
    (restartDwell s r).slots = s.slots ∧ (restartDwell s r).gains = s.gains ∧ (restartDwell s r).chans = s.chans ∧
    (restartDwell s r).buses = s.buses ∧ (restartDwell s r).routeRefs = s.routeRefs ∧
    (restartDwell s r).resets = s.resets ∧ (restartDwell s r).exitReports = s.exitReports ∧
    (restartDwell s r).combSat = s.combSat ∧ (restartDwell s r).mutes = s.mutes ∧ (restartDwell s r).olp = s.olp ∧
    (restartDwell s r).commit = s.commit ∧ (restartDwell s r).windows = s.windows ∧ (restartDwell s r).gov = s.gov ∧
    (restartDwell s r).govSnap = s.govSnap ∧ (restartDwell s r).prot = s.prot ∧ (restartDwell s r).lic = s.lic ∧
    (restartDwell s r).sent = s.sent ∧ (restartDwell s r).links = s.links ∧ (restartDwell s r).cap = s.cap ∧
    (restartDwell s r).flt = s.flt ∧ (restartDwell s r).tally = s.tally ∧ (restartDwell s r).therm = s.therm ∧
    (restartDwell s r).life = s.life ∧ (restartDwell s r).pins = s.pins ∧ (restartDwell s r).nv = s.nv ∧
    (restartDwell s r).out = s.out ∧ (restartDwell s r).free = s.free ∧
    (restartDwell s r).pending = s.pending := by
  simp [restartDwell]

@[simp] theorem reselectChan_keeps (s : State) (ch : ℕ) :
    (reselectChan s ch).time = s.time ∧ (reselectChan s ch).objs = s.objs ∧ (reselectChan s ch).clk = s.clk ∧
    (reselectChan s ch).slots = s.slots ∧ (reselectChan s ch).chans = s.chans ∧ (reselectChan s ch).rods = s.rods ∧
    (reselectChan s ch).buses = s.buses ∧ (reselectChan s ch).routeRefs = s.routeRefs ∧
    (reselectChan s ch).resets = s.resets ∧ (reselectChan s ch).exitReports = s.exitReports ∧
    (reselectChan s ch).combSat = s.combSat ∧ (reselectChan s ch).mutes = s.mutes ∧
    (reselectChan s ch).olp = s.olp ∧ (reselectChan s ch).commit = s.commit ∧
    (reselectChan s ch).windows = s.windows ∧ (reselectChan s ch).gov = s.gov ∧
    (reselectChan s ch).govSnap = s.govSnap ∧ (reselectChan s ch).prot = s.prot ∧ (reselectChan s ch).lic = s.lic ∧
    (reselectChan s ch).sent = s.sent ∧ (reselectChan s ch).links = s.links ∧ (reselectChan s ch).cap = s.cap ∧
    (reselectChan s ch).flt = s.flt ∧ (reselectChan s ch).therm = s.therm ∧ (reselectChan s ch).life = s.life ∧
    (reselectChan s ch).pins = s.pins ∧ (reselectChan s ch).nv = s.nv ∧ (reselectChan s ch).out = s.out ∧
    (reselectChan s ch).free = s.free ∧
    (reselectChan s ch).pending = s.pending := by
  simp [reselectChan]

@[simp] theorem finderWatch_keeps (s : State) (r : ℕ) :
    (finderWatch s r).time = s.time ∧ (finderWatch s r).objs = s.objs ∧ (finderWatch s r).clk = s.clk ∧
    (finderWatch s r).slots = s.slots ∧ (finderWatch s r).gains = s.gains ∧ (finderWatch s r).chans = s.chans ∧
    (finderWatch s r).buses = s.buses ∧ (finderWatch s r).routeRefs = s.routeRefs ∧
    (finderWatch s r).resets = s.resets ∧ (finderWatch s r).exitReports = s.exitReports ∧
    (finderWatch s r).combSat = s.combSat ∧ (finderWatch s r).mutes = s.mutes ∧ (finderWatch s r).olp = s.olp ∧
    (finderWatch s r).commit = s.commit ∧ (finderWatch s r).windows = s.windows ∧ (finderWatch s r).gov = s.gov ∧
    (finderWatch s r).govSnap = s.govSnap ∧ (finderWatch s r).prot = s.prot ∧ (finderWatch s r).lic = s.lic ∧
    (finderWatch s r).sent = s.sent ∧ (finderWatch s r).links = s.links ∧ (finderWatch s r).cap = s.cap ∧
    (finderWatch s r).flt = s.flt ∧ (finderWatch s r).tally = s.tally ∧ (finderWatch s r).therm = s.therm ∧
    (finderWatch s r).life = s.life ∧ (finderWatch s r).pins = s.pins ∧ (finderWatch s r).nv = s.nv ∧
    (finderWatch s r).out = s.out ∧ (finderWatch s r).free = s.free ∧
    (finderWatch s r).pending = s.pending := by
  unfold finderWatch; (repeat' split) <;> simp

@[simp] theorem heardAll_keeps (s : State) (i : ℕ) :
    (heardAll s i).time = s.time ∧ (heardAll s i).objs = s.objs ∧ (heardAll s i).clk = s.clk ∧
    (heardAll s i).slots = s.slots ∧ (heardAll s i).chans = s.chans ∧ (heardAll s i).rods = s.rods ∧
    (heardAll s i).buses = s.buses ∧ (heardAll s i).routeRefs = s.routeRefs ∧ (heardAll s i).resets = s.resets ∧
    (heardAll s i).exitReports = s.exitReports ∧ (heardAll s i).combSat = s.combSat ∧
    (heardAll s i).mutes = s.mutes ∧ (heardAll s i).olp = s.olp ∧ (heardAll s i).commit = s.commit ∧
    (heardAll s i).windows = s.windows ∧ (heardAll s i).gov = s.gov ∧ (heardAll s i).govSnap = s.govSnap ∧
    (heardAll s i).prot = s.prot ∧ (heardAll s i).lic = s.lic ∧ (heardAll s i).sent = s.sent ∧
    (heardAll s i).links = s.links ∧ (heardAll s i).cap = s.cap ∧ (heardAll s i).flt = s.flt ∧
    (heardAll s i).tally = s.tally ∧ (heardAll s i).therm = s.therm ∧ (heardAll s i).life = s.life ∧
    (heardAll s i).pins = s.pins ∧ (heardAll s i).nv = s.nv ∧ (heardAll s i).out = s.out ∧
    (heardAll s i).free = s.free ∧
    (heardAll s i).pending = s.pending := by
  simp [heardAll]

@[simp] theorem detection_keeps (g : ℕ) (s : State) (c : CellMeas) :
    (detection g s c).time = s.time ∧ (detection g s c).objs = s.objs ∧ (detection g s c).clk = s.clk ∧
    (detection g s c).slots = s.slots ∧ (detection g s c).chans = s.chans ∧ (detection g s c).rods = s.rods ∧
    (detection g s c).buses = s.buses ∧ (detection g s c).routeRefs = s.routeRefs ∧
    (detection g s c).resets = s.resets ∧ (detection g s c).exitReports = s.exitReports ∧
    (detection g s c).combSat = s.combSat ∧ (detection g s c).mutes = s.mutes ∧ (detection g s c).olp = s.olp ∧
    (detection g s c).commit = s.commit ∧ (detection g s c).windows = s.windows ∧ (detection g s c).gov = s.gov ∧
    (detection g s c).govSnap = s.govSnap ∧ (detection g s c).lic = s.lic ∧ (detection g s c).sent = s.sent ∧
    (detection g s c).links = s.links ∧ (detection g s c).cap = s.cap ∧ (detection g s c).flt = s.flt ∧
    (detection g s c).tally = s.tally ∧ (detection g s c).therm = s.therm ∧ (detection g s c).life = s.life ∧
    (detection g s c).pins = s.pins ∧ (detection g s c).nv = s.nv ∧ (detection g s c).out = s.out ∧
    (detection g s c).free = s.free ∧
    (detection g s c).pending = s.pending := by
  unfold detection; dsimp only; (repeat' split) <;> simp

@[simp] theorem modSynth_keeps (s : State) (r : ℕ) (n : ℕ) (f : Synth → Synth) :
    (modSynth s r n f).time = s.time ∧ (modSynth s r n f).objs = s.objs ∧ (modSynth s r n f).clk = s.clk ∧
    (modSynth s r n f).slots = s.slots ∧ (modSynth s r n f).gains = s.gains ∧ (modSynth s r n f).chans = s.chans ∧
    (modSynth s r n f).buses = s.buses ∧ (modSynth s r n f).routeRefs = s.routeRefs ∧
    (modSynth s r n f).resets = s.resets ∧ (modSynth s r n f).exitReports = s.exitReports ∧
    (modSynth s r n f).combSat = s.combSat ∧ (modSynth s r n f).mutes = s.mutes ∧ (modSynth s r n f).olp = s.olp ∧
    (modSynth s r n f).commit = s.commit ∧ (modSynth s r n f).windows = s.windows ∧ (modSynth s r n f).gov = s.gov ∧
    (modSynth s r n f).govSnap = s.govSnap ∧ (modSynth s r n f).prot = s.prot ∧ (modSynth s r n f).lic = s.lic ∧
    (modSynth s r n f).sent = s.sent ∧ (modSynth s r n f).links = s.links ∧ (modSynth s r n f).cap = s.cap ∧
    (modSynth s r n f).flt = s.flt ∧ (modSynth s r n f).tally = s.tally ∧ (modSynth s r n f).therm = s.therm ∧
    (modSynth s r n f).life = s.life ∧ (modSynth s r n f).pins = s.pins ∧ (modSynth s r n f).nv = s.nv ∧
    (modSynth s r n f).out = s.out ∧ (modSynth s r n f).free = s.free ∧
    (modSynth s r n f).pending = s.pending := by
  simp [modSynth]

@[simp] theorem beginLead_keeps (s : State) (ch : ℕ) :
    (beginLead s ch).time = s.time ∧ (beginLead s ch).objs = s.objs ∧ (beginLead s ch).clk = s.clk ∧
    (beginLead s ch).slots = s.slots ∧ (beginLead s ch).gains = s.gains ∧ (beginLead s ch).rods = s.rods ∧
    (beginLead s ch).buses = s.buses ∧ (beginLead s ch).routeRefs = s.routeRefs ∧
    (beginLead s ch).resets = s.resets ∧ (beginLead s ch).exitReports = s.exitReports ∧
    (beginLead s ch).combSat = s.combSat ∧ (beginLead s ch).mutes = s.mutes ∧ (beginLead s ch).olp = s.olp ∧
    (beginLead s ch).commit = s.commit ∧ (beginLead s ch).windows = s.windows ∧ (beginLead s ch).gov = s.gov ∧
    (beginLead s ch).govSnap = s.govSnap ∧ (beginLead s ch).prot = s.prot ∧ (beginLead s ch).lic = s.lic ∧
    (beginLead s ch).sent = s.sent ∧ (beginLead s ch).links = s.links ∧ (beginLead s ch).cap = s.cap ∧
    (beginLead s ch).flt = s.flt ∧ (beginLead s ch).tally = s.tally ∧ (beginLead s ch).therm = s.therm ∧
    (beginLead s ch).life = s.life ∧ (beginLead s ch).pins = s.pins ∧ (beginLead s ch).nv = s.nv ∧
    (beginLead s ch).out = s.out ∧ (beginLead s ch).free = s.free ∧
    (beginLead s ch).pending = s.pending := by
  simp [beginLead]

@[simp] theorem noteLate_keeps (s : State) (ch : ℕ) :
    (noteLate s ch).time = s.time ∧ (noteLate s ch).objs = s.objs ∧ (noteLate s ch).clk = s.clk ∧
    (noteLate s ch).slots = s.slots ∧ (noteLate s ch).gains = s.gains ∧ (noteLate s ch).rods = s.rods ∧
    (noteLate s ch).routeRefs = s.routeRefs ∧ (noteLate s ch).resets = s.resets ∧
    (noteLate s ch).exitReports = s.exitReports ∧ (noteLate s ch).combSat = s.combSat ∧
    (noteLate s ch).mutes = s.mutes ∧ (noteLate s ch).olp = s.olp ∧ (noteLate s ch).commit = s.commit ∧
    (noteLate s ch).windows = s.windows ∧ (noteLate s ch).gov = s.gov ∧ (noteLate s ch).govSnap = s.govSnap ∧
    (noteLate s ch).prot = s.prot ∧ (noteLate s ch).lic = s.lic ∧ (noteLate s ch).sent = s.sent ∧
    (noteLate s ch).links = s.links ∧ (noteLate s ch).cap = s.cap ∧ (noteLate s ch).flt = s.flt ∧
    (noteLate s ch).tally = s.tally ∧ (noteLate s ch).therm = s.therm ∧ (noteLate s ch).life = s.life ∧
    (noteLate s ch).pins = s.pins ∧ (noteLate s ch).nv = s.nv ∧ (noteLate s ch).out = s.out ∧
    (noteLate s ch).free = s.free ∧
    (noteLate s ch).pending = s.pending := by
  simp [noteLate]

@[simp] theorem noteLates_keeps (s : State) :
    (noteLates s).time = s.time ∧ (noteLates s).objs = s.objs ∧ (noteLates s).clk = s.clk ∧
    (noteLates s).slots = s.slots ∧ (noteLates s).gains = s.gains ∧ (noteLates s).rods = s.rods ∧
    (noteLates s).routeRefs = s.routeRefs ∧ (noteLates s).resets = s.resets ∧
    (noteLates s).exitReports = s.exitReports ∧ (noteLates s).combSat = s.combSat ∧ (noteLates s).mutes = s.mutes ∧
    (noteLates s).olp = s.olp ∧ (noteLates s).commit = s.commit ∧ (noteLates s).windows = s.windows ∧
    (noteLates s).gov = s.gov ∧ (noteLates s).govSnap = s.govSnap ∧ (noteLates s).prot = s.prot ∧
    (noteLates s).lic = s.lic ∧ (noteLates s).sent = s.sent ∧ (noteLates s).links = s.links ∧
    (noteLates s).cap = s.cap ∧ (noteLates s).flt = s.flt ∧ (noteLates s).tally = s.tally ∧
    (noteLates s).therm = s.therm ∧ (noteLates s).life = s.life ∧ (noteLates s).pins = s.pins ∧
    (noteLates s).nv = s.nv ∧ (noteLates s).out = s.out ∧ (noteLates s).free = s.free ∧
    (noteLates s).pending = s.pending := by
  simp [noteLates]

@[simp] theorem startTransition_keeps (s : State) (ch : ℕ) (t : Radio) :
    (startTransition s ch t).time = s.time ∧ (startTransition s ch t).objs = s.objs ∧
    (startTransition s ch t).clk = s.clk ∧ (startTransition s ch t).slots = s.slots ∧
    (startTransition s ch t).gains = s.gains ∧ (startTransition s ch t).rods = s.rods ∧
    (startTransition s ch t).routeRefs = s.routeRefs ∧ (startTransition s ch t).resets = s.resets ∧
    (startTransition s ch t).exitReports = s.exitReports ∧ (startTransition s ch t).combSat = s.combSat ∧
    (startTransition s ch t).mutes = s.mutes ∧ (startTransition s ch t).olp = s.olp ∧
    (startTransition s ch t).commit = s.commit ∧ (startTransition s ch t).windows = s.windows ∧
    (startTransition s ch t).gov = s.gov ∧ (startTransition s ch t).govSnap = s.govSnap ∧
    (startTransition s ch t).prot = s.prot ∧ (startTransition s ch t).lic = s.lic ∧
    (startTransition s ch t).sent = s.sent ∧ (startTransition s ch t).links = s.links ∧
    (startTransition s ch t).cap = s.cap ∧ (startTransition s ch t).flt = s.flt ∧
    (startTransition s ch t).tally = s.tally ∧ (startTransition s ch t).therm = s.therm ∧
    (startTransition s ch t).life = s.life ∧ (startTransition s ch t).pins = s.pins ∧
    (startTransition s ch t).nv = s.nv ∧ (startTransition s ch t).free = s.free ∧
    (startTransition s ch t).pending = s.pending := by
  simp [startTransition]

@[simp] theorem startDrop_keeps (s : State) (ch : ℕ) (t : Radio) (drop : Bool) :
    (startDrop s ch t drop).time = s.time ∧ (startDrop s ch t drop).objs = s.objs ∧
    (startDrop s ch t drop).clk = s.clk ∧ (startDrop s ch t drop).slots = s.slots ∧
    (startDrop s ch t drop).gains = s.gains ∧ (startDrop s ch t drop).rods = s.rods ∧
    (startDrop s ch t drop).routeRefs = s.routeRefs ∧ (startDrop s ch t drop).resets = s.resets ∧
    (startDrop s ch t drop).exitReports = s.exitReports ∧ (startDrop s ch t drop).combSat = s.combSat ∧
    (startDrop s ch t drop).mutes = s.mutes ∧ (startDrop s ch t drop).olp = s.olp ∧
    (startDrop s ch t drop).commit = s.commit ∧ (startDrop s ch t drop).windows = s.windows ∧
    (startDrop s ch t drop).gov = s.gov ∧ (startDrop s ch t drop).govSnap = s.govSnap ∧
    (startDrop s ch t drop).prot = s.prot ∧ (startDrop s ch t drop).lic = s.lic ∧
    (startDrop s ch t drop).sent = s.sent ∧ (startDrop s ch t drop).links = s.links ∧
    (startDrop s ch t drop).cap = s.cap ∧ (startDrop s ch t drop).flt = s.flt ∧
    (startDrop s ch t drop).tally = s.tally ∧ (startDrop s ch t drop).therm = s.therm ∧
    (startDrop s ch t drop).life = s.life ∧ (startDrop s ch t drop).pins = s.pins ∧
    (startDrop s ch t drop).nv = s.nv ∧ (startDrop s ch t drop).free = s.free ∧
    (startDrop s ch t drop).pending = s.pending := by
  simp [startDrop]

@[simp] theorem callOff_keeps (s : State) (ch : ℕ) (goal : Radio) :
    (callOff s ch goal).time = s.time ∧ (callOff s ch goal).objs = s.objs ∧ (callOff s ch goal).clk = s.clk ∧
    (callOff s ch goal).slots = s.slots ∧ (callOff s ch goal).gains = s.gains ∧ (callOff s ch goal).rods = s.rods ∧
    (callOff s ch goal).buses = s.buses ∧ (callOff s ch goal).routeRefs = s.routeRefs ∧
    (callOff s ch goal).resets = s.resets ∧ (callOff s ch goal).exitReports = s.exitReports ∧
    (callOff s ch goal).combSat = s.combSat ∧ (callOff s ch goal).mutes = s.mutes ∧
    (callOff s ch goal).olp = s.olp ∧ (callOff s ch goal).commit = s.commit ∧
    (callOff s ch goal).windows = s.windows ∧ (callOff s ch goal).gov = s.gov ∧
    (callOff s ch goal).govSnap = s.govSnap ∧ (callOff s ch goal).prot = s.prot ∧ (callOff s ch goal).lic = s.lic ∧
    (callOff s ch goal).sent = s.sent ∧ (callOff s ch goal).links = s.links ∧ (callOff s ch goal).cap = s.cap ∧
    (callOff s ch goal).flt = s.flt ∧ (callOff s ch goal).tally = s.tally ∧ (callOff s ch goal).therm = s.therm ∧
    (callOff s ch goal).life = s.life ∧ (callOff s ch goal).pins = s.pins ∧ (callOff s ch goal).nv = s.nv ∧
    (callOff s ch goal).out = s.out ∧ (callOff s ch goal).free = s.free ∧
    (callOff s ch goal).pending = s.pending := by
  simp [callOff]

@[simp] theorem stepRadio_keeps (s : State) (ch : ℕ) (goal : Radio) :
    (stepRadio s ch goal).time = s.time ∧ (stepRadio s ch goal).objs = s.objs ∧ (stepRadio s ch goal).clk = s.clk ∧
    (stepRadio s ch goal).slots = s.slots ∧ (stepRadio s ch goal).gains = s.gains ∧
    (stepRadio s ch goal).rods = s.rods ∧ (stepRadio s ch goal).routeRefs = s.routeRefs ∧
    (stepRadio s ch goal).resets = s.resets ∧ (stepRadio s ch goal).exitReports = s.exitReports ∧
    (stepRadio s ch goal).combSat = s.combSat ∧ (stepRadio s ch goal).mutes = s.mutes ∧
    (stepRadio s ch goal).olp = s.olp ∧ (stepRadio s ch goal).commit = s.commit ∧
    (stepRadio s ch goal).windows = s.windows ∧ (stepRadio s ch goal).gov = s.gov ∧
    (stepRadio s ch goal).govSnap = s.govSnap ∧ (stepRadio s ch goal).prot = s.prot ∧
    (stepRadio s ch goal).lic = s.lic ∧ (stepRadio s ch goal).sent = s.sent ∧
    (stepRadio s ch goal).links = s.links ∧ (stepRadio s ch goal).cap = s.cap ∧ (stepRadio s ch goal).flt = s.flt ∧
    (stepRadio s ch goal).tally = s.tally ∧ (stepRadio s ch goal).therm = s.therm ∧
    (stepRadio s ch goal).life = s.life ∧ (stepRadio s ch goal).pins = s.pins ∧ (stepRadio s ch goal).nv = s.nv ∧
    (stepRadio s ch goal).free = s.free ∧
    (stepRadio s ch goal).pending = s.pending := by
  simp [stepRadio]

@[simp] theorem driveRadio_keeps (s : State) (ch : ℕ) :
    (driveRadio s ch).time = s.time ∧ (driveRadio s ch).objs = s.objs ∧ (driveRadio s ch).clk = s.clk ∧
    (driveRadio s ch).slots = s.slots ∧ (driveRadio s ch).gains = s.gains ∧ (driveRadio s ch).rods = s.rods ∧
    (driveRadio s ch).routeRefs = s.routeRefs ∧ (driveRadio s ch).resets = s.resets ∧
    (driveRadio s ch).exitReports = s.exitReports ∧ (driveRadio s ch).combSat = s.combSat ∧
    (driveRadio s ch).mutes = s.mutes ∧ (driveRadio s ch).olp = s.olp ∧ (driveRadio s ch).commit = s.commit ∧
    (driveRadio s ch).windows = s.windows ∧ (driveRadio s ch).gov = s.gov ∧ (driveRadio s ch).govSnap = s.govSnap ∧
    (driveRadio s ch).prot = s.prot ∧ (driveRadio s ch).lic = s.lic ∧ (driveRadio s ch).sent = s.sent ∧
    (driveRadio s ch).links = s.links ∧ (driveRadio s ch).cap = s.cap ∧ (driveRadio s ch).flt = s.flt ∧
    (driveRadio s ch).tally = s.tally ∧ (driveRadio s ch).therm = s.therm ∧ (driveRadio s ch).life = s.life ∧
    (driveRadio s ch).pins = s.pins ∧ (driveRadio s ch).nv = s.nv ∧ (driveRadio s ch).free = s.free ∧
    (driveRadio s ch).pending = s.pending := by
  unfold driveRadio; (repeat' split) <;> simp

@[simp] theorem driveFree_keeps (s : State) (chs : List ℕ) :
    (driveFree s chs).time = s.time ∧ (driveFree s chs).objs = s.objs ∧ (driveFree s chs).clk = s.clk ∧
    (driveFree s chs).slots = s.slots ∧ (driveFree s chs).gains = s.gains ∧ (driveFree s chs).rods = s.rods ∧
    (driveFree s chs).routeRefs = s.routeRefs ∧ (driveFree s chs).resets = s.resets ∧
    (driveFree s chs).exitReports = s.exitReports ∧ (driveFree s chs).combSat = s.combSat ∧
    (driveFree s chs).mutes = s.mutes ∧ (driveFree s chs).olp = s.olp ∧ (driveFree s chs).commit = s.commit ∧
    (driveFree s chs).windows = s.windows ∧ (driveFree s chs).gov = s.gov ∧ (driveFree s chs).govSnap = s.govSnap ∧
    (driveFree s chs).prot = s.prot ∧ (driveFree s chs).lic = s.lic ∧ (driveFree s chs).sent = s.sent ∧
    (driveFree s chs).links = s.links ∧ (driveFree s chs).cap = s.cap ∧ (driveFree s chs).flt = s.flt ∧
    (driveFree s chs).tally = s.tally ∧ (driveFree s chs).therm = s.therm ∧ (driveFree s chs).life = s.life ∧
    (driveFree s chs).pins = s.pins ∧ (driveFree s chs).nv = s.nv ∧ (driveFree s chs).free = s.free ∧
    (driveFree s chs).pending = s.pending := by
  simp [driveFree]

@[simp] theorem dropToSynth_keeps (s : State) (ch : ℕ) :
    (dropToSynth s ch).time = s.time ∧ (dropToSynth s ch).objs = s.objs ∧ (dropToSynth s ch).clk = s.clk ∧
    (dropToSynth s ch).slots = s.slots ∧ (dropToSynth s ch).gains = s.gains ∧ (dropToSynth s ch).rods = s.rods ∧
    (dropToSynth s ch).routeRefs = s.routeRefs ∧ (dropToSynth s ch).resets = s.resets ∧
    (dropToSynth s ch).exitReports = s.exitReports ∧ (dropToSynth s ch).combSat = s.combSat ∧
    (dropToSynth s ch).mutes = s.mutes ∧ (dropToSynth s ch).olp = s.olp ∧ (dropToSynth s ch).commit = s.commit ∧
    (dropToSynth s ch).windows = s.windows ∧ (dropToSynth s ch).gov = s.gov ∧
    (dropToSynth s ch).govSnap = s.govSnap ∧ (dropToSynth s ch).prot = s.prot ∧ (dropToSynth s ch).lic = s.lic ∧
    (dropToSynth s ch).sent = s.sent ∧ (dropToSynth s ch).links = s.links ∧ (dropToSynth s ch).cap = s.cap ∧
    (dropToSynth s ch).flt = s.flt ∧ (dropToSynth s ch).tally = s.tally ∧ (dropToSynth s ch).therm = s.therm ∧
    (dropToSynth s ch).life = s.life ∧ (dropToSynth s ch).pins = s.pins ∧ (dropToSynth s ch).nv = s.nv ∧
    (dropToSynth s ch).free = s.free ∧
    (dropToSynth s ch).pending = s.pending := by
  simp [dropToSynth]

@[simp] theorem interrupt_keeps (s : State) (ch : ℕ) :
    (interrupt s ch).time = s.time ∧ (interrupt s ch).objs = s.objs ∧ (interrupt s ch).clk = s.clk ∧
    (interrupt s ch).slots = s.slots ∧ (interrupt s ch).gains = s.gains ∧ (interrupt s ch).rods = s.rods ∧
    (interrupt s ch).routeRefs = s.routeRefs ∧ (interrupt s ch).resets = s.resets ∧
    (interrupt s ch).exitReports = s.exitReports ∧ (interrupt s ch).combSat = s.combSat ∧
    (interrupt s ch).mutes = s.mutes ∧ (interrupt s ch).olp = s.olp ∧ (interrupt s ch).commit = s.commit ∧
    (interrupt s ch).windows = s.windows ∧ (interrupt s ch).gov = s.gov ∧ (interrupt s ch).govSnap = s.govSnap ∧
    (interrupt s ch).prot = s.prot ∧ (interrupt s ch).lic = s.lic ∧ (interrupt s ch).sent = s.sent ∧
    (interrupt s ch).links = s.links ∧ (interrupt s ch).cap = s.cap ∧ (interrupt s ch).flt = s.flt ∧
    (interrupt s ch).tally = s.tally ∧ (interrupt s ch).therm = s.therm ∧ (interrupt s ch).life = s.life ∧
    (interrupt s ch).pins = s.pins ∧ (interrupt s ch).nv = s.nv ∧ (interrupt s ch).free = s.free ∧
    (interrupt s ch).pending = s.pending := by
  simp [interrupt]

@[simp] theorem recalDue_keeps (s : State) (r : ℕ) :
    (recalDue s r).time = s.time ∧ (recalDue s r).objs = s.objs ∧ (recalDue s r).clk = s.clk ∧
    (recalDue s r).slots = s.slots ∧ (recalDue s r).gains = s.gains ∧ (recalDue s r).routeRefs = s.routeRefs ∧
    (recalDue s r).resets = s.resets ∧ (recalDue s r).exitReports = s.exitReports ∧
    (recalDue s r).combSat = s.combSat ∧ (recalDue s r).mutes = s.mutes ∧ (recalDue s r).olp = s.olp ∧
    (recalDue s r).commit = s.commit ∧ (recalDue s r).windows = s.windows ∧ (recalDue s r).gov = s.gov ∧
    (recalDue s r).govSnap = s.govSnap ∧ (recalDue s r).prot = s.prot ∧ (recalDue s r).lic = s.lic ∧
    (recalDue s r).sent = s.sent ∧ (recalDue s r).links = s.links ∧ (recalDue s r).cap = s.cap ∧
    (recalDue s r).flt = s.flt ∧ (recalDue s r).tally = s.tally ∧ (recalDue s r).therm = s.therm ∧
    (recalDue s r).life = s.life ∧ (recalDue s r).pins = s.pins ∧ (recalDue s r).nv = s.nv ∧
    (recalDue s r).free = s.free ∧
    (recalDue s r).pending = s.pending := by
  unfold recalDue; (repeat' split) <;> simp

@[simp] theorem startSearch_keeps (s : State) (ch : ℕ) :
    (startSearch s ch).time = s.time ∧ (startSearch s ch).objs = s.objs ∧ (startSearch s ch).clk = s.clk ∧
    (startSearch s ch).slots = s.slots ∧ (startSearch s ch).gains = s.gains ∧ (startSearch s ch).rods = s.rods ∧
    (startSearch s ch).buses = s.buses ∧ (startSearch s ch).routeRefs = s.routeRefs ∧
    (startSearch s ch).resets = s.resets ∧ (startSearch s ch).exitReports = s.exitReports ∧
    (startSearch s ch).combSat = s.combSat ∧ (startSearch s ch).mutes = s.mutes ∧ (startSearch s ch).olp = s.olp ∧
    (startSearch s ch).commit = s.commit ∧ (startSearch s ch).windows = s.windows ∧ (startSearch s ch).gov = s.gov ∧
    (startSearch s ch).govSnap = s.govSnap ∧ (startSearch s ch).prot = s.prot ∧ (startSearch s ch).lic = s.lic ∧
    (startSearch s ch).sent = s.sent ∧ (startSearch s ch).links = s.links ∧ (startSearch s ch).cap = s.cap ∧
    (startSearch s ch).flt = s.flt ∧ (startSearch s ch).tally = s.tally ∧ (startSearch s ch).therm = s.therm ∧
    (startSearch s ch).life = s.life ∧ (startSearch s ch).pins = s.pins ∧ (startSearch s ch).nv = s.nv ∧
    (startSearch s ch).out = s.out ∧ (startSearch s ch).free = s.free ∧
    (startSearch s ch).pending = s.pending := by
  simp [startSearch]

@[simp] theorem setMismatch_keeps (s : State) (ch : ℕ) (st : ℕ) :
    (setMismatch s ch st).time = s.time ∧ (setMismatch s ch st).objs = s.objs ∧ (setMismatch s ch st).clk = s.clk ∧
    (setMismatch s ch st).slots = s.slots ∧ (setMismatch s ch st).gains = s.gains ∧
    (setMismatch s ch st).rods = s.rods ∧ (setMismatch s ch st).buses = s.buses ∧
    (setMismatch s ch st).routeRefs = s.routeRefs ∧ (setMismatch s ch st).resets = s.resets ∧
    (setMismatch s ch st).exitReports = s.exitReports ∧ (setMismatch s ch st).combSat = s.combSat ∧
    (setMismatch s ch st).mutes = s.mutes ∧ (setMismatch s ch st).olp = s.olp ∧
    (setMismatch s ch st).commit = s.commit ∧ (setMismatch s ch st).windows = s.windows ∧
    (setMismatch s ch st).gov = s.gov ∧ (setMismatch s ch st).govSnap = s.govSnap ∧
    (setMismatch s ch st).prot = s.prot ∧ (setMismatch s ch st).lic = s.lic ∧ (setMismatch s ch st).sent = s.sent ∧
    (setMismatch s ch st).links = s.links ∧ (setMismatch s ch st).cap = s.cap ∧ (setMismatch s ch st).flt = s.flt ∧
    (setMismatch s ch st).therm = s.therm ∧ (setMismatch s ch st).life = s.life ∧
    (setMismatch s ch st).pins = s.pins ∧ (setMismatch s ch st).nv = s.nv ∧ (setMismatch s ch st).out = s.out ∧
    (setMismatch s ch st).free = s.free ∧
    (setMismatch s ch st).pending = s.pending := by
  simp [setMismatch]

@[simp] theorem enterCapped_keeps (s : State) (ch : ℕ) :
    (enterCapped s ch).time = s.time ∧ (enterCapped s ch).objs = s.objs ∧ (enterCapped s ch).clk = s.clk ∧
    (enterCapped s ch).slots = s.slots ∧ (enterCapped s ch).rods = s.rods ∧ (enterCapped s ch).buses = s.buses ∧
    (enterCapped s ch).routeRefs = s.routeRefs ∧ (enterCapped s ch).resets = s.resets ∧
    (enterCapped s ch).exitReports = s.exitReports ∧ (enterCapped s ch).combSat = s.combSat ∧
    (enterCapped s ch).mutes = s.mutes ∧ (enterCapped s ch).olp = s.olp ∧ (enterCapped s ch).commit = s.commit ∧
    (enterCapped s ch).windows = s.windows ∧ (enterCapped s ch).gov = s.gov ∧
    (enterCapped s ch).govSnap = s.govSnap ∧ (enterCapped s ch).prot = s.prot ∧ (enterCapped s ch).lic = s.lic ∧
    (enterCapped s ch).sent = s.sent ∧ (enterCapped s ch).links = s.links ∧ (enterCapped s ch).cap = s.cap ∧
    (enterCapped s ch).flt = s.flt ∧ (enterCapped s ch).therm = s.therm ∧ (enterCapped s ch).life = s.life ∧
    (enterCapped s ch).pins = s.pins ∧ (enterCapped s ch).nv = s.nv ∧ (enterCapped s ch).out = s.out ∧
    (enterCapped s ch).free = s.free ∧
    (enterCapped s ch).pending = s.pending := by
  simp [enterCapped]

@[simp] theorem enterMuted_keeps (s : State) (ch : ℕ) :
    (enterMuted s ch).time = s.time ∧ (enterMuted s ch).objs = s.objs ∧ (enterMuted s ch).clk = s.clk ∧
    (enterMuted s ch).slots = s.slots ∧ (enterMuted s ch).gains = s.gains ∧ (enterMuted s ch).rods = s.rods ∧
    (enterMuted s ch).routeRefs = s.routeRefs ∧ (enterMuted s ch).resets = s.resets ∧
    (enterMuted s ch).exitReports = s.exitReports ∧ (enterMuted s ch).combSat = s.combSat ∧
    (enterMuted s ch).olp = s.olp ∧ (enterMuted s ch).commit = s.commit ∧ (enterMuted s ch).windows = s.windows ∧
    (enterMuted s ch).gov = s.gov ∧ (enterMuted s ch).govSnap = s.govSnap ∧ (enterMuted s ch).prot = s.prot ∧
    (enterMuted s ch).lic = s.lic ∧ (enterMuted s ch).sent = s.sent ∧ (enterMuted s ch).links = s.links ∧
    (enterMuted s ch).cap = s.cap ∧ (enterMuted s ch).flt = s.flt ∧ (enterMuted s ch).therm = s.therm ∧
    (enterMuted s ch).life = s.life ∧ (enterMuted s ch).pins = s.pins ∧ (enterMuted s ch).nv = s.nv ∧
    (enterMuted s ch).free = s.free ∧
    (enterMuted s ch).pending = s.pending := by
  simp [enterMuted]

@[simp] theorem enterNormal_keeps (s : State) (ch : ℕ) :
    (enterNormal s ch).time = s.time ∧ (enterNormal s ch).objs = s.objs ∧ (enterNormal s ch).clk = s.clk ∧
    (enterNormal s ch).slots = s.slots ∧ (enterNormal s ch).rods = s.rods ∧ (enterNormal s ch).buses = s.buses ∧
    (enterNormal s ch).routeRefs = s.routeRefs ∧ (enterNormal s ch).resets = s.resets ∧
    (enterNormal s ch).exitReports = s.exitReports ∧ (enterNormal s ch).combSat = s.combSat ∧
    (enterNormal s ch).mutes = s.mutes ∧ (enterNormal s ch).olp = s.olp ∧ (enterNormal s ch).commit = s.commit ∧
    (enterNormal s ch).windows = s.windows ∧ (enterNormal s ch).gov = s.gov ∧
    (enterNormal s ch).govSnap = s.govSnap ∧ (enterNormal s ch).prot = s.prot ∧ (enterNormal s ch).lic = s.lic ∧
    (enterNormal s ch).sent = s.sent ∧ (enterNormal s ch).links = s.links ∧ (enterNormal s ch).cap = s.cap ∧
    (enterNormal s ch).flt = s.flt ∧ (enterNormal s ch).therm = s.therm ∧ (enterNormal s ch).life = s.life ∧
    (enterNormal s ch).pins = s.pins ∧ (enterNormal s ch).nv = s.nv ∧ (enterNormal s ch).out = s.out ∧
    (enterNormal s ch).free = s.free ∧
    (enterNormal s ch).pending = s.pending := by
  simp [enterNormal]

@[simp] theorem restoreCap_keeps (s : State) (g : ℕ) :
    (restoreCap s g).time = s.time ∧ (restoreCap s g).objs = s.objs ∧ (restoreCap s g).clk = s.clk ∧
    (restoreCap s g).slots = s.slots ∧ (restoreCap s g).chans = s.chans ∧ (restoreCap s g).rods = s.rods ∧
    (restoreCap s g).buses = s.buses ∧ (restoreCap s g).routeRefs = s.routeRefs ∧
    (restoreCap s g).resets = s.resets ∧ (restoreCap s g).exitReports = s.exitReports ∧
    (restoreCap s g).combSat = s.combSat ∧ (restoreCap s g).mutes = s.mutes ∧ (restoreCap s g).olp = s.olp ∧
    (restoreCap s g).commit = s.commit ∧ (restoreCap s g).windows = s.windows ∧ (restoreCap s g).gov = s.gov ∧
    (restoreCap s g).govSnap = s.govSnap ∧ (restoreCap s g).prot = s.prot ∧ (restoreCap s g).lic = s.lic ∧
    (restoreCap s g).sent = s.sent ∧ (restoreCap s g).links = s.links ∧ (restoreCap s g).cap = s.cap ∧
    (restoreCap s g).flt = s.flt ∧ (restoreCap s g).tally = s.tally ∧ (restoreCap s g).therm = s.therm ∧
    (restoreCap s g).life = s.life ∧ (restoreCap s g).pins = s.pins ∧ (restoreCap s g).nv = s.nv ∧
    (restoreCap s g).out = s.out ∧ (restoreCap s g).free = s.free ∧
    (restoreCap s g).pending = s.pending := by
  unfold restoreCap; (repeat' split) <;> simp

@[simp] theorem turnDue_keeps (s : State) (ch : ℕ) (st : ℕ) :
    (turnDue s ch st).time = s.time ∧ (turnDue s ch st).objs = s.objs ∧ (turnDue s ch st).clk = s.clk ∧
    (turnDue s ch st).slots = s.slots ∧ (turnDue s ch st).gains = s.gains ∧ (turnDue s ch st).rods = s.rods ∧
    (turnDue s ch st).buses = s.buses ∧ (turnDue s ch st).routeRefs = s.routeRefs ∧
    (turnDue s ch st).resets = s.resets ∧ (turnDue s ch st).exitReports = s.exitReports ∧
    (turnDue s ch st).combSat = s.combSat ∧ (turnDue s ch st).mutes = s.mutes ∧ (turnDue s ch st).olp = s.olp ∧
    (turnDue s ch st).commit = s.commit ∧ (turnDue s ch st).windows = s.windows ∧ (turnDue s ch st).gov = s.gov ∧
    (turnDue s ch st).govSnap = s.govSnap ∧ (turnDue s ch st).prot = s.prot ∧ (turnDue s ch st).lic = s.lic ∧
    (turnDue s ch st).sent = s.sent ∧ (turnDue s ch st).links = s.links ∧ (turnDue s ch st).cap = s.cap ∧
    (turnDue s ch st).flt = s.flt ∧ (turnDue s ch st).tally = s.tally ∧ (turnDue s ch st).therm = s.therm ∧
    (turnDue s ch st).life = s.life ∧ (turnDue s ch st).pins = s.pins ∧ (turnDue s ch st).nv = s.nv ∧
    (turnDue s ch st).out = s.out ∧ (turnDue s ch st).free = s.free ∧
    (turnDue s ch st).pending = s.pending := by
  simp [turnDue]

@[simp] theorem endProbe_keeps (s : State) (ch : ℕ) :
    (endProbe s ch).time = s.time ∧ (endProbe s ch).objs = s.objs ∧ (endProbe s ch).clk = s.clk ∧
    (endProbe s ch).slots = s.slots ∧ (endProbe s ch).rods = s.rods ∧ (endProbe s ch).routeRefs = s.routeRefs ∧
    (endProbe s ch).resets = s.resets ∧ (endProbe s ch).exitReports = s.exitReports ∧
    (endProbe s ch).combSat = s.combSat ∧ (endProbe s ch).olp = s.olp ∧ (endProbe s ch).commit = s.commit ∧
    (endProbe s ch).windows = s.windows ∧ (endProbe s ch).gov = s.gov ∧ (endProbe s ch).govSnap = s.govSnap ∧
    (endProbe s ch).prot = s.prot ∧ (endProbe s ch).lic = s.lic ∧ (endProbe s ch).sent = s.sent ∧
    (endProbe s ch).links = s.links ∧ (endProbe s ch).cap = s.cap ∧ (endProbe s ch).flt = s.flt ∧
    (endProbe s ch).tally = s.tally ∧ (endProbe s ch).therm = s.therm ∧ (endProbe s ch).life = s.life ∧
    (endProbe s ch).pins = s.pins ∧ (endProbe s ch).nv = s.nv ∧ (endProbe s ch).free = s.free ∧
    (endProbe s ch).pending = s.pending := by
  simp [endProbe]

@[simp] theorem mismatchTurn_keeps (s : State) (ch : ℕ) :
    (mismatchTurn s ch).time = s.time ∧ (mismatchTurn s ch).objs = s.objs ∧ (mismatchTurn s ch).clk = s.clk ∧
    (mismatchTurn s ch).slots = s.slots ∧ (mismatchTurn s ch).rods = s.rods ∧
    (mismatchTurn s ch).routeRefs = s.routeRefs ∧ (mismatchTurn s ch).resets = s.resets ∧
    (mismatchTurn s ch).exitReports = s.exitReports ∧ (mismatchTurn s ch).combSat = s.combSat ∧
    (mismatchTurn s ch).olp = s.olp ∧ (mismatchTurn s ch).commit = s.commit ∧
    (mismatchTurn s ch).windows = s.windows ∧ (mismatchTurn s ch).gov = s.gov ∧
    (mismatchTurn s ch).govSnap = s.govSnap ∧ (mismatchTurn s ch).prot = s.prot ∧ (mismatchTurn s ch).lic = s.lic ∧
    (mismatchTurn s ch).sent = s.sent ∧ (mismatchTurn s ch).links = s.links ∧ (mismatchTurn s ch).cap = s.cap ∧
    (mismatchTurn s ch).flt = s.flt ∧ (mismatchTurn s ch).therm = s.therm ∧ (mismatchTurn s ch).life = s.life ∧
    (mismatchTurn s ch).pins = s.pins ∧ (mismatchTurn s ch).nv = s.nv ∧ (mismatchTurn s ch).free = s.free ∧
    (mismatchTurn s ch).pending = s.pending := by
  unfold mismatchTurn; dsimp only; (repeat' split) <;> simp

@[simp] theorem mismatchTurns_keeps (s : State) :
    (mismatchTurns s).time = s.time ∧ (mismatchTurns s).objs = s.objs ∧ (mismatchTurns s).clk = s.clk ∧
    (mismatchTurns s).slots = s.slots ∧ (mismatchTurns s).rods = s.rods ∧
    (mismatchTurns s).routeRefs = s.routeRefs ∧ (mismatchTurns s).resets = s.resets ∧
    (mismatchTurns s).exitReports = s.exitReports ∧ (mismatchTurns s).combSat = s.combSat ∧
    (mismatchTurns s).olp = s.olp ∧ (mismatchTurns s).commit = s.commit ∧ (mismatchTurns s).windows = s.windows ∧
    (mismatchTurns s).gov = s.gov ∧ (mismatchTurns s).govSnap = s.govSnap ∧ (mismatchTurns s).prot = s.prot ∧
    (mismatchTurns s).lic = s.lic ∧ (mismatchTurns s).sent = s.sent ∧ (mismatchTurns s).links = s.links ∧
    (mismatchTurns s).cap = s.cap ∧ (mismatchTurns s).flt = s.flt ∧ (mismatchTurns s).therm = s.therm ∧
    (mismatchTurns s).life = s.life ∧ (mismatchTurns s).pins = s.pins ∧ (mismatchTurns s).nv = s.nv ∧
    (mismatchTurns s).free = s.free ∧
    (mismatchTurns s).pending = s.pending := by
  simp [mismatchTurns]

@[simp] theorem skipMeasurement_keeps (s : State) (ch : ℕ) :
    (skipMeasurement s ch).time = s.time ∧ (skipMeasurement s ch).objs = s.objs ∧
    (skipMeasurement s ch).clk = s.clk ∧ (skipMeasurement s ch).slots = s.slots ∧
    (skipMeasurement s ch).gains = s.gains ∧ (skipMeasurement s ch).rods = s.rods ∧
    (skipMeasurement s ch).buses = s.buses ∧ (skipMeasurement s ch).routeRefs = s.routeRefs ∧
    (skipMeasurement s ch).resets = s.resets ∧ (skipMeasurement s ch).exitReports = s.exitReports ∧
    (skipMeasurement s ch).combSat = s.combSat ∧ (skipMeasurement s ch).mutes = s.mutes ∧
    (skipMeasurement s ch).olp = s.olp ∧ (skipMeasurement s ch).commit = s.commit ∧
    (skipMeasurement s ch).windows = s.windows ∧ (skipMeasurement s ch).gov = s.gov ∧
    (skipMeasurement s ch).govSnap = s.govSnap ∧ (skipMeasurement s ch).prot = s.prot ∧
    (skipMeasurement s ch).lic = s.lic ∧ (skipMeasurement s ch).sent = s.sent ∧
    (skipMeasurement s ch).links = s.links ∧ (skipMeasurement s ch).cap = s.cap ∧
    (skipMeasurement s ch).flt = s.flt ∧ (skipMeasurement s ch).tally = s.tally ∧
    (skipMeasurement s ch).therm = s.therm ∧ (skipMeasurement s ch).life = s.life ∧
    (skipMeasurement s ch).pins = s.pins ∧ (skipMeasurement s ch).nv = s.nv ∧ (skipMeasurement s ch).out = s.out ∧
    (skipMeasurement s ch).free = s.free ∧
    (skipMeasurement s ch).pending = s.pending := by
  simp [skipMeasurement]

@[simp] theorem probeLimit_keeps (s : State) :
    (probeLimit s).time = s.time ∧ (probeLimit s).objs = s.objs ∧ (probeLimit s).clk = s.clk ∧
    (probeLimit s).slots = s.slots ∧ (probeLimit s).gains = s.gains ∧ (probeLimit s).rods = s.rods ∧
    (probeLimit s).buses = s.buses ∧ (probeLimit s).routeRefs = s.routeRefs ∧ (probeLimit s).resets = s.resets ∧
    (probeLimit s).exitReports = s.exitReports ∧ (probeLimit s).combSat = s.combSat ∧
    (probeLimit s).mutes = s.mutes ∧ (probeLimit s).olp = s.olp ∧ (probeLimit s).commit = s.commit ∧
    (probeLimit s).windows = s.windows ∧ (probeLimit s).gov = s.gov ∧ (probeLimit s).govSnap = s.govSnap ∧
    (probeLimit s).prot = s.prot ∧ (probeLimit s).lic = s.lic ∧ (probeLimit s).sent = s.sent ∧
    (probeLimit s).links = s.links ∧ (probeLimit s).cap = s.cap ∧ (probeLimit s).flt = s.flt ∧
    (probeLimit s).tally = s.tally ∧ (probeLimit s).therm = s.therm ∧ (probeLimit s).life = s.life ∧
    (probeLimit s).pins = s.pins ∧ (probeLimit s).nv = s.nv ∧ (probeLimit s).out = s.out ∧
    (probeLimit s).free = s.free ∧
    (probeLimit s).pending = s.pending := by
  simp [probeLimit]

@[simp] theorem startRodCal_keeps (s : State) (r : ℕ) :
    (startRodCal s r).time = s.time ∧ (startRodCal s r).objs = s.objs ∧ (startRodCal s r).clk = s.clk ∧
    (startRodCal s r).slots = s.slots ∧ (startRodCal s r).gains = s.gains ∧
    (startRodCal s r).routeRefs = s.routeRefs ∧ (startRodCal s r).resets = s.resets ∧
    (startRodCal s r).exitReports = s.exitReports ∧ (startRodCal s r).combSat = s.combSat ∧
    (startRodCal s r).olp = s.olp ∧ (startRodCal s r).commit = s.commit ∧ (startRodCal s r).windows = s.windows ∧
    (startRodCal s r).gov = s.gov ∧ (startRodCal s r).govSnap = s.govSnap ∧ (startRodCal s r).prot = s.prot ∧
    (startRodCal s r).lic = s.lic ∧ (startRodCal s r).sent = s.sent ∧ (startRodCal s r).links = s.links ∧
    (startRodCal s r).cap = s.cap ∧ (startRodCal s r).flt = s.flt ∧ (startRodCal s r).tally = s.tally ∧
    (startRodCal s r).therm = s.therm ∧ (startRodCal s r).life = s.life ∧ (startRodCal s r).pins = s.pins ∧
    (startRodCal s r).nv = s.nv ∧ (startRodCal s r).free = s.free ∧
    (startRodCal s r).pending = s.pending := by
  simp [startRodCal]

@[simp] theorem pathRecord_keeps (s : State) (ch : ℕ) (n : ℕ) (p : ℕ) (depth : ℤ) :
    (pathRecord s ch n p depth).time = s.time ∧ (pathRecord s ch n p depth).objs = s.objs ∧
    (pathRecord s ch n p depth).clk = s.clk ∧ (pathRecord s ch n p depth).slots = s.slots ∧
    (pathRecord s ch n p depth).gains = s.gains ∧ (pathRecord s ch n p depth).chans = s.chans ∧
    (pathRecord s ch n p depth).rods = s.rods ∧ (pathRecord s ch n p depth).buses = s.buses ∧
    (pathRecord s ch n p depth).routeRefs = s.routeRefs ∧ (pathRecord s ch n p depth).resets = s.resets ∧
    (pathRecord s ch n p depth).exitReports = s.exitReports ∧ (pathRecord s ch n p depth).combSat = s.combSat ∧
    (pathRecord s ch n p depth).mutes = s.mutes ∧ (pathRecord s ch n p depth).olp = s.olp ∧
    (pathRecord s ch n p depth).commit = s.commit ∧ (pathRecord s ch n p depth).windows = s.windows ∧
    (pathRecord s ch n p depth).gov = s.gov ∧ (pathRecord s ch n p depth).govSnap = s.govSnap ∧
    (pathRecord s ch n p depth).prot = s.prot ∧ (pathRecord s ch n p depth).lic = s.lic ∧
    (pathRecord s ch n p depth).sent = s.sent ∧ (pathRecord s ch n p depth).links = s.links ∧
    (pathRecord s ch n p depth).cap = s.cap ∧ (pathRecord s ch n p depth).flt = s.flt ∧
    (pathRecord s ch n p depth).therm = s.therm ∧ (pathRecord s ch n p depth).life = s.life ∧
    (pathRecord s ch n p depth).pins = s.pins ∧ (pathRecord s ch n p depth).nv = s.nv ∧
    (pathRecord s ch n p depth).out = s.out ∧ (pathRecord s ch n p depth).free = s.free ∧
    (pathRecord s ch n p depth).pending = s.pending := by
  simp [pathRecord]

@[simp] theorem pathFault_keeps (s : State) (ch : ℕ) (n : ℕ) (p : ℕ) (depth : ℤ) :
    (pathFault s ch n p depth).time = s.time ∧ (pathFault s ch n p depth).objs = s.objs ∧
    (pathFault s ch n p depth).clk = s.clk ∧ (pathFault s ch n p depth).slots = s.slots ∧
    (pathFault s ch n p depth).gains = s.gains ∧ (pathFault s ch n p depth).chans = s.chans ∧
    (pathFault s ch n p depth).rods = s.rods ∧ (pathFault s ch n p depth).buses = s.buses ∧
    (pathFault s ch n p depth).routeRefs = s.routeRefs ∧ (pathFault s ch n p depth).resets = s.resets ∧
    (pathFault s ch n p depth).exitReports = s.exitReports ∧ (pathFault s ch n p depth).combSat = s.combSat ∧
    (pathFault s ch n p depth).mutes = s.mutes ∧ (pathFault s ch n p depth).olp = s.olp ∧
    (pathFault s ch n p depth).commit = s.commit ∧ (pathFault s ch n p depth).windows = s.windows ∧
    (pathFault s ch n p depth).gov = s.gov ∧ (pathFault s ch n p depth).govSnap = s.govSnap ∧
    (pathFault s ch n p depth).prot = s.prot ∧ (pathFault s ch n p depth).lic = s.lic ∧
    (pathFault s ch n p depth).sent = s.sent ∧ (pathFault s ch n p depth).links = s.links ∧
    (pathFault s ch n p depth).cap = s.cap ∧ (pathFault s ch n p depth).therm = s.therm ∧
    (pathFault s ch n p depth).life = s.life ∧ (pathFault s ch n p depth).pins = s.pins ∧
    (pathFault s ch n p depth).nv = s.nv ∧ (pathFault s ch n p depth).out = s.out ∧
    (pathFault s ch n p depth).free = s.free ∧
    (pathFault s ch n p depth).pending = s.pending := by
  simp [pathFault]

@[simp] theorem modelParity_keeps (s : State) (ch : ℕ) (p : ℕ) (active : Bool) :
    (modelParity s ch p active).time = s.time ∧ (modelParity s ch p active).objs = s.objs ∧
    (modelParity s ch p active).clk = s.clk ∧ (modelParity s ch p active).slots = s.slots ∧
    (modelParity s ch p active).gains = s.gains ∧ (modelParity s ch p active).rods = s.rods ∧
    (modelParity s ch p active).buses = s.buses ∧ (modelParity s ch p active).routeRefs = s.routeRefs ∧
    (modelParity s ch p active).resets = s.resets ∧ (modelParity s ch p active).exitReports = s.exitReports ∧
    (modelParity s ch p active).combSat = s.combSat ∧ (modelParity s ch p active).mutes = s.mutes ∧
    (modelParity s ch p active).olp = s.olp ∧ (modelParity s ch p active).commit = s.commit ∧
    (modelParity s ch p active).windows = s.windows ∧ (modelParity s ch p active).gov = s.gov ∧
    (modelParity s ch p active).govSnap = s.govSnap ∧ (modelParity s ch p active).prot = s.prot ∧
    (modelParity s ch p active).lic = s.lic ∧ (modelParity s ch p active).sent = s.sent ∧
    (modelParity s ch p active).links = s.links ∧ (modelParity s ch p active).cap = s.cap ∧
    (modelParity s ch p active).therm = s.therm ∧ (modelParity s ch p active).life = s.life ∧
    (modelParity s ch p active).pins = s.pins ∧ (modelParity s ch p active).nv = s.nv ∧
    (modelParity s ch p active).out = s.out ∧ (modelParity s ch p active).free = s.free ∧
    (modelParity s ch p active).pending = s.pending := by
  simp [modelParity]

@[simp] theorem channelFigures_keeps (s : State) (ch : ℕ) (n : ℕ) (w : ObsWindow) :
    (channelFigures s ch n w).time = s.time ∧ (channelFigures s ch n w).objs = s.objs ∧
    (channelFigures s ch n w).clk = s.clk ∧ (channelFigures s ch n w).slots = s.slots ∧
    (channelFigures s ch n w).gains = s.gains ∧ (channelFigures s ch n w).rods = s.rods ∧
    (channelFigures s ch n w).buses = s.buses ∧ (channelFigures s ch n w).routeRefs = s.routeRefs ∧
    (channelFigures s ch n w).resets = s.resets ∧ (channelFigures s ch n w).exitReports = s.exitReports ∧
    (channelFigures s ch n w).combSat = s.combSat ∧ (channelFigures s ch n w).mutes = s.mutes ∧
    (channelFigures s ch n w).olp = s.olp ∧ (channelFigures s ch n w).commit = s.commit ∧
    (channelFigures s ch n w).windows = s.windows ∧ (channelFigures s ch n w).gov = s.gov ∧
    (channelFigures s ch n w).govSnap = s.govSnap ∧ (channelFigures s ch n w).prot = s.prot ∧
    (channelFigures s ch n w).lic = s.lic ∧ (channelFigures s ch n w).sent = s.sent ∧
    (channelFigures s ch n w).links = s.links ∧ (channelFigures s ch n w).cap = s.cap ∧
    (channelFigures s ch n w).flt = s.flt ∧ (channelFigures s ch n w).tally = s.tally ∧
    (channelFigures s ch n w).therm = s.therm ∧ (channelFigures s ch n w).life = s.life ∧
    (channelFigures s ch n w).pins = s.pins ∧ (channelFigures s ch n w).nv = s.nv ∧
    (channelFigures s ch n w).out = s.out ∧ (channelFigures s ch n w).free = s.free ∧
    (channelFigures s ch n w).pending = s.pending := by
  simp [channelFigures]

@[simp] theorem revert_keeps (s : State) (ch : ℕ) :
    (revert s ch).time = s.time ∧ (revert s ch).objs = s.objs ∧ (revert s ch).clk = s.clk ∧
    (revert s ch).slots = s.slots ∧ (revert s ch).gains = s.gains ∧ (revert s ch).rods = s.rods ∧
    (revert s ch).buses = s.buses ∧ (revert s ch).routeRefs = s.routeRefs ∧ (revert s ch).resets = s.resets ∧
    (revert s ch).exitReports = s.exitReports ∧ (revert s ch).combSat = s.combSat ∧ (revert s ch).mutes = s.mutes ∧
    (revert s ch).olp = s.olp ∧ (revert s ch).commit = s.commit ∧ (revert s ch).windows = s.windows ∧
    (revert s ch).gov = s.gov ∧ (revert s ch).govSnap = s.govSnap ∧ (revert s ch).prot = s.prot ∧
    (revert s ch).lic = s.lic ∧ (revert s ch).sent = s.sent ∧ (revert s ch).links = s.links ∧
    (revert s ch).cap = s.cap ∧ (revert s ch).therm = s.therm ∧ (revert s ch).life = s.life ∧
    (revert s ch).pins = s.pins ∧ (revert s ch).nv = s.nv ∧ (revert s ch).out = s.out ∧
    (revert s ch).free = s.free ∧
    (revert s ch).pending = s.pending := by
  simp [revert]

@[simp] theorem unmeasured_keeps (s : State) (ch : ℕ) (ps : List ℕ) :
    (unmeasured s ch ps).time = s.time ∧ (unmeasured s ch ps).objs = s.objs ∧ (unmeasured s ch ps).clk = s.clk ∧
    (unmeasured s ch ps).slots = s.slots ∧ (unmeasured s ch ps).gains = s.gains ∧
    (unmeasured s ch ps).rods = s.rods ∧ (unmeasured s ch ps).buses = s.buses ∧
    (unmeasured s ch ps).routeRefs = s.routeRefs ∧ (unmeasured s ch ps).resets = s.resets ∧
    (unmeasured s ch ps).exitReports = s.exitReports ∧ (unmeasured s ch ps).combSat = s.combSat ∧
    (unmeasured s ch ps).mutes = s.mutes ∧ (unmeasured s ch ps).olp = s.olp ∧
    (unmeasured s ch ps).commit = s.commit ∧ (unmeasured s ch ps).windows = s.windows ∧
    (unmeasured s ch ps).gov = s.gov ∧ (unmeasured s ch ps).govSnap = s.govSnap ∧
    (unmeasured s ch ps).prot = s.prot ∧ (unmeasured s ch ps).lic = s.lic ∧ (unmeasured s ch ps).sent = s.sent ∧
    (unmeasured s ch ps).links = s.links ∧ (unmeasured s ch ps).cap = s.cap ∧ (unmeasured s ch ps).flt = s.flt ∧
    (unmeasured s ch ps).tally = s.tally ∧ (unmeasured s ch ps).therm = s.therm ∧
    (unmeasured s ch ps).life = s.life ∧ (unmeasured s ch ps).pins = s.pins ∧ (unmeasured s ch ps).nv = s.nv ∧
    (unmeasured s ch ps).out = s.out ∧ (unmeasured s ch ps).free = s.free ∧
    (unmeasured s ch ps).pending = s.pending := by
  simp [unmeasured]

@[simp] theorem surveySpan_keeps (s : State) (ch : ℕ) (n : ℕ) (w : ObsWindow) :
    (surveySpan s ch n w).time = s.time ∧ (surveySpan s ch n w).objs = s.objs ∧ (surveySpan s ch n w).clk = s.clk ∧
    (surveySpan s ch n w).slots = s.slots ∧ (surveySpan s ch n w).gains = s.gains ∧
    (surveySpan s ch n w).rods = s.rods ∧ (surveySpan s ch n w).buses = s.buses ∧
    (surveySpan s ch n w).routeRefs = s.routeRefs ∧ (surveySpan s ch n w).resets = s.resets ∧
    (surveySpan s ch n w).exitReports = s.exitReports ∧ (surveySpan s ch n w).combSat = s.combSat ∧
    (surveySpan s ch n w).mutes = s.mutes ∧ (surveySpan s ch n w).olp = s.olp ∧
    (surveySpan s ch n w).commit = s.commit ∧ (surveySpan s ch n w).windows = s.windows ∧
    (surveySpan s ch n w).gov = s.gov ∧ (surveySpan s ch n w).govSnap = s.govSnap ∧
    (surveySpan s ch n w).prot = s.prot ∧ (surveySpan s ch n w).lic = s.lic ∧ (surveySpan s ch n w).sent = s.sent ∧
    (surveySpan s ch n w).links = s.links ∧ (surveySpan s ch n w).cap = s.cap ∧ (surveySpan s ch n w).flt = s.flt ∧
    (surveySpan s ch n w).tally = s.tally ∧ (surveySpan s ch n w).therm = s.therm ∧
    (surveySpan s ch n w).life = s.life ∧ (surveySpan s ch n w).pins = s.pins ∧ (surveySpan s ch n w).nv = s.nv ∧
    (surveySpan s ch n w).out = s.out ∧ (surveySpan s ch n w).free = s.free ∧
    (surveySpan s ch n w).pending = s.pending := by
  unfold surveySpan; (repeat' split) <;> simp

@[simp] theorem runWindow_keeps (s : State) (ch : ℕ) (w : ObsWindow) :
    (runWindow s ch w).time = s.time ∧ (runWindow s ch w).objs = s.objs ∧ (runWindow s ch w).clk = s.clk ∧
    (runWindow s ch w).slots = s.slots ∧ (runWindow s ch w).gains = s.gains ∧ (runWindow s ch w).rods = s.rods ∧
    (runWindow s ch w).buses = s.buses ∧ (runWindow s ch w).routeRefs = s.routeRefs ∧
    (runWindow s ch w).resets = s.resets ∧ (runWindow s ch w).exitReports = s.exitReports ∧
    (runWindow s ch w).combSat = s.combSat ∧ (runWindow s ch w).mutes = s.mutes ∧ (runWindow s ch w).olp = s.olp ∧
    (runWindow s ch w).commit = s.commit ∧ (runWindow s ch w).windows = s.windows ∧ (runWindow s ch w).gov = s.gov ∧
    (runWindow s ch w).govSnap = s.govSnap ∧ (runWindow s ch w).prot = s.prot ∧ (runWindow s ch w).lic = s.lic ∧
    (runWindow s ch w).sent = s.sent ∧ (runWindow s ch w).links = s.links ∧ (runWindow s ch w).cap = s.cap ∧
    (runWindow s ch w).therm = s.therm ∧ (runWindow s ch w).life = s.life ∧ (runWindow s ch w).pins = s.pins ∧
    (runWindow s ch w).nv = s.nv ∧ (runWindow s ch w).out = s.out ∧ (runWindow s ch w).free = s.free ∧
    (runWindow s ch w).pending = s.pending := by
  simp [runWindow]

@[simp] theorem watchChannel_keeps (s : State) (ch : ℕ) :
    (watchChannel s ch).time = s.time ∧ (watchChannel s ch).objs = s.objs ∧ (watchChannel s ch).clk = s.clk ∧
    (watchChannel s ch).slots = s.slots ∧ (watchChannel s ch).gains = s.gains ∧ (watchChannel s ch).rods = s.rods ∧
    (watchChannel s ch).buses = s.buses ∧ (watchChannel s ch).routeRefs = s.routeRefs ∧
    (watchChannel s ch).resets = s.resets ∧ (watchChannel s ch).exitReports = s.exitReports ∧
    (watchChannel s ch).combSat = s.combSat ∧ (watchChannel s ch).mutes = s.mutes ∧
    (watchChannel s ch).olp = s.olp ∧ (watchChannel s ch).commit = s.commit ∧
    (watchChannel s ch).windows = s.windows ∧ (watchChannel s ch).gov = s.gov ∧
    (watchChannel s ch).govSnap = s.govSnap ∧ (watchChannel s ch).prot = s.prot ∧ (watchChannel s ch).lic = s.lic ∧
    (watchChannel s ch).sent = s.sent ∧ (watchChannel s ch).links = s.links ∧ (watchChannel s ch).cap = s.cap ∧
    (watchChannel s ch).flt = s.flt ∧ (watchChannel s ch).tally = s.tally ∧ (watchChannel s ch).therm = s.therm ∧
    (watchChannel s ch).life = s.life ∧ (watchChannel s ch).pins = s.pins ∧ (watchChannel s ch).nv = s.nv ∧
    (watchChannel s ch).out = s.out ∧ (watchChannel s ch).free = s.free ∧
    (watchChannel s ch).pending = s.pending := by
  simp [watchChannel]

@[simp] theorem guardBefore_keeps (s : State) (ch : ℕ) :
    (guardBefore s ch).time = s.time ∧ (guardBefore s ch).objs = s.objs ∧ (guardBefore s ch).clk = s.clk ∧
    (guardBefore s ch).slots = s.slots ∧ (guardBefore s ch).gains = s.gains ∧ (guardBefore s ch).rods = s.rods ∧
    (guardBefore s ch).buses = s.buses ∧ (guardBefore s ch).routeRefs = s.routeRefs ∧
    (guardBefore s ch).resets = s.resets ∧ (guardBefore s ch).exitReports = s.exitReports ∧
    (guardBefore s ch).combSat = s.combSat ∧ (guardBefore s ch).mutes = s.mutes ∧ (guardBefore s ch).olp = s.olp ∧
    (guardBefore s ch).commit = s.commit ∧ (guardBefore s ch).windows = s.windows ∧ (guardBefore s ch).gov = s.gov ∧
    (guardBefore s ch).govSnap = s.govSnap ∧ (guardBefore s ch).prot = s.prot ∧ (guardBefore s ch).lic = s.lic ∧
    (guardBefore s ch).sent = s.sent ∧ (guardBefore s ch).links = s.links ∧ (guardBefore s ch).cap = s.cap ∧
    (guardBefore s ch).flt = s.flt ∧ (guardBefore s ch).tally = s.tally ∧ (guardBefore s ch).therm = s.therm ∧
    (guardBefore s ch).life = s.life ∧ (guardBefore s ch).pins = s.pins ∧ (guardBefore s ch).nv = s.nv ∧
    (guardBefore s ch).out = s.out ∧ (guardBefore s ch).free = s.free ∧
    (guardBefore s ch).pending = s.pending := by
  simp [guardBefore]

@[simp] theorem watchFrame_keeps (s : State) :
    (watchFrame s).time = s.time ∧ (watchFrame s).objs = s.objs ∧ (watchFrame s).clk = s.clk ∧
    (watchFrame s).slots = s.slots ∧ (watchFrame s).gains = s.gains ∧ (watchFrame s).rods = s.rods ∧
    (watchFrame s).buses = s.buses ∧ (watchFrame s).routeRefs = s.routeRefs ∧ (watchFrame s).resets = s.resets ∧
    (watchFrame s).exitReports = s.exitReports ∧ (watchFrame s).combSat = s.combSat ∧
    (watchFrame s).mutes = s.mutes ∧ (watchFrame s).olp = s.olp ∧ (watchFrame s).commit = s.commit ∧
    (watchFrame s).windows = s.windows ∧ (watchFrame s).gov = s.gov ∧ (watchFrame s).govSnap = s.govSnap ∧
    (watchFrame s).prot = s.prot ∧ (watchFrame s).lic = s.lic ∧ (watchFrame s).sent = s.sent ∧
    (watchFrame s).links = s.links ∧ (watchFrame s).cap = s.cap ∧ (watchFrame s).flt = s.flt ∧
    (watchFrame s).tally = s.tally ∧ (watchFrame s).therm = s.therm ∧ (watchFrame s).life = s.life ∧
    (watchFrame s).pins = s.pins ∧ (watchFrame s).nv = s.nv ∧ (watchFrame s).out = s.out ∧
    (watchFrame s).free = s.free ∧
    (watchFrame s).pending = s.pending := by
  simp [watchFrame]

@[simp] theorem idlePaths_keeps (s : State) :
    (idlePaths s).time = s.time ∧ (idlePaths s).objs = s.objs ∧ (idlePaths s).clk = s.clk ∧
    (idlePaths s).slots = s.slots ∧ (idlePaths s).gains = s.gains ∧ (idlePaths s).rods = s.rods ∧
    (idlePaths s).buses = s.buses ∧ (idlePaths s).routeRefs = s.routeRefs ∧ (idlePaths s).resets = s.resets ∧
    (idlePaths s).exitReports = s.exitReports ∧ (idlePaths s).combSat = s.combSat ∧ (idlePaths s).mutes = s.mutes ∧
    (idlePaths s).olp = s.olp ∧ (idlePaths s).commit = s.commit ∧ (idlePaths s).windows = s.windows ∧
    (idlePaths s).gov = s.gov ∧ (idlePaths s).govSnap = s.govSnap ∧ (idlePaths s).prot = s.prot ∧
    (idlePaths s).lic = s.lic ∧ (idlePaths s).sent = s.sent ∧ (idlePaths s).links = s.links ∧
    (idlePaths s).cap = s.cap ∧ (idlePaths s).flt = s.flt ∧ (idlePaths s).tally = s.tally ∧
    (idlePaths s).therm = s.therm ∧ (idlePaths s).life = s.life ∧ (idlePaths s).pins = s.pins ∧
    (idlePaths s).nv = s.nv ∧ (idlePaths s).out = s.out ∧ (idlePaths s).free = s.free ∧
    (idlePaths s).pending = s.pending := by
  simp [idlePaths]

@[simp] theorem workPeriod_keeps (s : State) (ch : ℕ) (bad : Option ℕ) (w : ObsWindow) :
    (workPeriod s ch bad w).time = s.time ∧ (workPeriod s ch bad w).objs = s.objs ∧
    (workPeriod s ch bad w).clk = s.clk ∧ (workPeriod s ch bad w).slots = s.slots ∧
    (workPeriod s ch bad w).gains = s.gains ∧ (workPeriod s ch bad w).rods = s.rods ∧
    (workPeriod s ch bad w).buses = s.buses ∧ (workPeriod s ch bad w).routeRefs = s.routeRefs ∧
    (workPeriod s ch bad w).resets = s.resets ∧ (workPeriod s ch bad w).exitReports = s.exitReports ∧
    (workPeriod s ch bad w).combSat = s.combSat ∧ (workPeriod s ch bad w).mutes = s.mutes ∧
    (workPeriod s ch bad w).olp = s.olp ∧ (workPeriod s ch bad w).commit = s.commit ∧
    (workPeriod s ch bad w).windows = s.windows ∧ (workPeriod s ch bad w).gov = s.gov ∧
    (workPeriod s ch bad w).govSnap = s.govSnap ∧ (workPeriod s ch bad w).prot = s.prot ∧
    (workPeriod s ch bad w).lic = s.lic ∧ (workPeriod s ch bad w).sent = s.sent ∧
    (workPeriod s ch bad w).links = s.links ∧ (workPeriod s ch bad w).cap = s.cap ∧
    (workPeriod s ch bad w).therm = s.therm ∧ (workPeriod s ch bad w).life = s.life ∧
    (workPeriod s ch bad w).pins = s.pins ∧ (workPeriod s ch bad w).nv = s.nv ∧
    (workPeriod s ch bad w).out = s.out ∧ (workPeriod s ch bad w).free = s.free ∧
    (workPeriod s ch bad w).pending = s.pending := by
  unfold workPeriod; (repeat' split) <;> simp

@[simp] theorem applyModels_keeps (s : State) (ch : ℕ) :
    (applyModels s ch).time = s.time ∧ (applyModels s ch).objs = s.objs ∧ (applyModels s ch).clk = s.clk ∧
    (applyModels s ch).slots = s.slots ∧ (applyModels s ch).gains = s.gains ∧ (applyModels s ch).rods = s.rods ∧
    (applyModels s ch).buses = s.buses ∧ (applyModels s ch).routeRefs = s.routeRefs ∧
    (applyModels s ch).resets = s.resets ∧ (applyModels s ch).exitReports = s.exitReports ∧
    (applyModels s ch).combSat = s.combSat ∧ (applyModels s ch).mutes = s.mutes ∧ (applyModels s ch).olp = s.olp ∧
    (applyModels s ch).commit = s.commit ∧ (applyModels s ch).windows = s.windows ∧ (applyModels s ch).gov = s.gov ∧
    (applyModels s ch).govSnap = s.govSnap ∧ (applyModels s ch).prot = s.prot ∧ (applyModels s ch).lic = s.lic ∧
    (applyModels s ch).sent = s.sent ∧ (applyModels s ch).links = s.links ∧ (applyModels s ch).cap = s.cap ∧
    (applyModels s ch).flt = s.flt ∧ (applyModels s ch).tally = s.tally ∧ (applyModels s ch).therm = s.therm ∧
    (applyModels s ch).life = s.life ∧ (applyModels s ch).pins = s.pins ∧ (applyModels s ch).nv = s.nv ∧
    (applyModels s ch).out = s.out ∧ (applyModels s ch).free = s.free ∧
    (applyModels s ch).pending = s.pending := by
  simp [applyModels]

@[simp] theorem engineLimit_keeps (s : State) (ch : ℕ) :
    (engineLimit s ch).time = s.time ∧ (engineLimit s ch).objs = s.objs ∧ (engineLimit s ch).clk = s.clk ∧
    (engineLimit s ch).slots = s.slots ∧ (engineLimit s ch).gains = s.gains ∧ (engineLimit s ch).rods = s.rods ∧
    (engineLimit s ch).buses = s.buses ∧ (engineLimit s ch).routeRefs = s.routeRefs ∧
    (engineLimit s ch).resets = s.resets ∧ (engineLimit s ch).exitReports = s.exitReports ∧
    (engineLimit s ch).combSat = s.combSat ∧ (engineLimit s ch).mutes = s.mutes ∧ (engineLimit s ch).olp = s.olp ∧
    (engineLimit s ch).commit = s.commit ∧ (engineLimit s ch).windows = s.windows ∧ (engineLimit s ch).gov = s.gov ∧
    (engineLimit s ch).govSnap = s.govSnap ∧ (engineLimit s ch).prot = s.prot ∧ (engineLimit s ch).lic = s.lic ∧
    (engineLimit s ch).sent = s.sent ∧ (engineLimit s ch).links = s.links ∧ (engineLimit s ch).cap = s.cap ∧
    (engineLimit s ch).therm = s.therm ∧ (engineLimit s ch).life = s.life ∧ (engineLimit s ch).pins = s.pins ∧
    (engineLimit s ch).nv = s.nv ∧ (engineLimit s ch).out = s.out ∧ (engineLimit s ch).free = s.free ∧
    (engineLimit s ch).pending = s.pending := by
  unfold engineLimit; dsimp only; (repeat' split) <;> simp

@[simp] theorem engineLimits_keeps (s : State) :
    (engineLimits s).time = s.time ∧ (engineLimits s).objs = s.objs ∧ (engineLimits s).clk = s.clk ∧
    (engineLimits s).slots = s.slots ∧ (engineLimits s).gains = s.gains ∧ (engineLimits s).rods = s.rods ∧
    (engineLimits s).buses = s.buses ∧ (engineLimits s).routeRefs = s.routeRefs ∧
    (engineLimits s).resets = s.resets ∧ (engineLimits s).exitReports = s.exitReports ∧
    (engineLimits s).combSat = s.combSat ∧ (engineLimits s).mutes = s.mutes ∧ (engineLimits s).olp = s.olp ∧
    (engineLimits s).commit = s.commit ∧ (engineLimits s).windows = s.windows ∧ (engineLimits s).gov = s.gov ∧
    (engineLimits s).govSnap = s.govSnap ∧ (engineLimits s).prot = s.prot ∧ (engineLimits s).lic = s.lic ∧
    (engineLimits s).sent = s.sent ∧ (engineLimits s).links = s.links ∧ (engineLimits s).cap = s.cap ∧
    (engineLimits s).therm = s.therm ∧ (engineLimits s).life = s.life ∧ (engineLimits s).pins = s.pins ∧
    (engineLimits s).nv = s.nv ∧ (engineLimits s).out = s.out ∧ (engineLimits s).free = s.free ∧
    (engineLimits s).pending = s.pending := by
  simp [engineLimits]

@[simp] theorem modSrc_keeps (s : State) (e : ℕ) (f : CapSrc → CapSrc) :
    (modSrc s e f).time = s.time ∧ (modSrc s e f).objs = s.objs ∧ (modSrc s e f).clk = s.clk ∧
    (modSrc s e f).slots = s.slots ∧ (modSrc s e f).gains = s.gains ∧ (modSrc s e f).chans = s.chans ∧
    (modSrc s e f).rods = s.rods ∧ (modSrc s e f).buses = s.buses ∧ (modSrc s e f).routeRefs = s.routeRefs ∧
    (modSrc s e f).resets = s.resets ∧ (modSrc s e f).exitReports = s.exitReports ∧
    (modSrc s e f).combSat = s.combSat ∧ (modSrc s e f).mutes = s.mutes ∧ (modSrc s e f).olp = s.olp ∧
    (modSrc s e f).commit = s.commit ∧ (modSrc s e f).windows = s.windows ∧ (modSrc s e f).gov = s.gov ∧
    (modSrc s e f).govSnap = s.govSnap ∧ (modSrc s e f).prot = s.prot ∧ (modSrc s e f).lic = s.lic ∧
    (modSrc s e f).sent = s.sent ∧ (modSrc s e f).links = s.links ∧ (modSrc s e f).flt = s.flt ∧
    (modSrc s e f).tally = s.tally ∧ (modSrc s e f).therm = s.therm ∧ (modSrc s e f).life = s.life ∧
    (modSrc s e f).pins = s.pins ∧ (modSrc s e f).nv = s.nv ∧ (modSrc s e f).out = s.out ∧
    (modSrc s e f).free = s.free ∧
    (modSrc s e f).pending = s.pending := by
  simp [modSrc]

@[simp] theorem closePage_keeps (s : State) (e : ℕ) (code : ℕ) (last : Bool) :
    (closePage s e code last).time = s.time ∧ (closePage s e code last).objs = s.objs ∧
    (closePage s e code last).clk = s.clk ∧ (closePage s e code last).slots = s.slots ∧
    (closePage s e code last).gains = s.gains ∧ (closePage s e code last).chans = s.chans ∧
    (closePage s e code last).rods = s.rods ∧ (closePage s e code last).buses = s.buses ∧
    (closePage s e code last).routeRefs = s.routeRefs ∧ (closePage s e code last).resets = s.resets ∧
    (closePage s e code last).exitReports = s.exitReports ∧ (closePage s e code last).combSat = s.combSat ∧
    (closePage s e code last).mutes = s.mutes ∧ (closePage s e code last).olp = s.olp ∧
    (closePage s e code last).commit = s.commit ∧ (closePage s e code last).windows = s.windows ∧
    (closePage s e code last).gov = s.gov ∧ (closePage s e code last).govSnap = s.govSnap ∧
    (closePage s e code last).prot = s.prot ∧ (closePage s e code last).lic = s.lic ∧
    (closePage s e code last).sent = s.sent ∧ (closePage s e code last).links = s.links ∧
    (closePage s e code last).flt = s.flt ∧ (closePage s e code last).tally = s.tally ∧
    (closePage s e code last).therm = s.therm ∧ (closePage s e code last).life = s.life ∧
    (closePage s e code last).pins = s.pins ∧ (closePage s e code last).nv = s.nv ∧
    (closePage s e code last).out = s.out ∧ (closePage s e code last).free = s.free ∧
    (closePage s e code last).pending = s.pending := by
  simp [closePage]

@[simp] theorem startSource_keeps (s : State) (e : ℕ) (code : ℕ) (first : Bool) :
    (startSource s e code first).time = s.time ∧ (startSource s e code first).objs = s.objs ∧
    (startSource s e code first).clk = s.clk ∧ (startSource s e code first).slots = s.slots ∧
    (startSource s e code first).gains = s.gains ∧ (startSource s e code first).chans = s.chans ∧
    (startSource s e code first).rods = s.rods ∧ (startSource s e code first).buses = s.buses ∧
    (startSource s e code first).routeRefs = s.routeRefs ∧ (startSource s e code first).resets = s.resets ∧
    (startSource s e code first).exitReports = s.exitReports ∧ (startSource s e code first).combSat = s.combSat ∧
    (startSource s e code first).mutes = s.mutes ∧ (startSource s e code first).olp = s.olp ∧
    (startSource s e code first).commit = s.commit ∧ (startSource s e code first).windows = s.windows ∧
    (startSource s e code first).gov = s.gov ∧ (startSource s e code first).govSnap = s.govSnap ∧
    (startSource s e code first).prot = s.prot ∧ (startSource s e code first).lic = s.lic ∧
    (startSource s e code first).sent = s.sent ∧ (startSource s e code first).links = s.links ∧
    (startSource s e code first).flt = s.flt ∧ (startSource s e code first).tally = s.tally ∧
    (startSource s e code first).therm = s.therm ∧ (startSource s e code first).life = s.life ∧
    (startSource s e code first).pins = s.pins ∧ (startSource s e code first).nv = s.nv ∧
    (startSource s e code first).out = s.out ∧ (startSource s e code first).free = s.free ∧
    (startSource s e code first).pending = s.pending := by
  simp [startSource]

@[simp] theorem addSamples_keeps (s : State) (e : ℕ) (code : ℕ) (xs : List Smp) :
    (addSamples s e code xs).time = s.time ∧ (addSamples s e code xs).objs = s.objs ∧
    (addSamples s e code xs).clk = s.clk ∧ (addSamples s e code xs).slots = s.slots ∧
    (addSamples s e code xs).gains = s.gains ∧ (addSamples s e code xs).chans = s.chans ∧
    (addSamples s e code xs).rods = s.rods ∧ (addSamples s e code xs).buses = s.buses ∧
    (addSamples s e code xs).routeRefs = s.routeRefs ∧ (addSamples s e code xs).resets = s.resets ∧
    (addSamples s e code xs).exitReports = s.exitReports ∧ (addSamples s e code xs).combSat = s.combSat ∧
    (addSamples s e code xs).mutes = s.mutes ∧ (addSamples s e code xs).olp = s.olp ∧
    (addSamples s e code xs).commit = s.commit ∧ (addSamples s e code xs).windows = s.windows ∧
    (addSamples s e code xs).gov = s.gov ∧ (addSamples s e code xs).govSnap = s.govSnap ∧
    (addSamples s e code xs).prot = s.prot ∧ (addSamples s e code xs).lic = s.lic ∧
    (addSamples s e code xs).sent = s.sent ∧ (addSamples s e code xs).links = s.links ∧
    (addSamples s e code xs).flt = s.flt ∧ (addSamples s e code xs).tally = s.tally ∧
    (addSamples s e code xs).therm = s.therm ∧ (addSamples s e code xs).life = s.life ∧
    (addSamples s e code xs).pins = s.pins ∧ (addSamples s e code xs).nv = s.nv ∧
    (addSamples s e code xs).out = s.out ∧ (addSamples s e code xs).free = s.free ∧
    (addSamples s e code xs).pending = s.pending := by
  simp [addSamples]

@[simp] theorem feedbackSamples_keeps (n : Nat) : ∀ s : State,
    (feedbackSamples s n).2.time = s.time ∧ (feedbackSamples s n).2.objs = s.objs ∧
    (feedbackSamples s n).2.clk = s.clk ∧ (feedbackSamples s n).2.slots = s.slots ∧
    (feedbackSamples s n).2.gains = s.gains ∧ (feedbackSamples s n).2.chans = s.chans ∧
    (feedbackSamples s n).2.rods = s.rods ∧ (feedbackSamples s n).2.buses = s.buses ∧
    (feedbackSamples s n).2.routeRefs = s.routeRefs ∧ (feedbackSamples s n).2.resets = s.resets ∧
    (feedbackSamples s n).2.exitReports = s.exitReports ∧ (feedbackSamples s n).2.combSat = s.combSat ∧
    (feedbackSamples s n).2.mutes = s.mutes ∧ (feedbackSamples s n).2.olp = s.olp ∧
    (feedbackSamples s n).2.commit = s.commit ∧ (feedbackSamples s n).2.windows = s.windows ∧
    (feedbackSamples s n).2.gov = s.gov ∧ (feedbackSamples s n).2.govSnap = s.govSnap ∧
    (feedbackSamples s n).2.prot = s.prot ∧ (feedbackSamples s n).2.lic = s.lic ∧
    (feedbackSamples s n).2.sent = s.sent ∧ (feedbackSamples s n).2.links = s.links ∧
    (feedbackSamples s n).2.cap = s.cap ∧ (feedbackSamples s n).2.flt = s.flt ∧
    (feedbackSamples s n).2.tally = s.tally ∧ (feedbackSamples s n).2.therm = s.therm ∧
    (feedbackSamples s n).2.life = s.life ∧ (feedbackSamples s n).2.pins = s.pins ∧
    (feedbackSamples s n).2.nv = s.nv ∧ (feedbackSamples s n).2.out = s.out ∧
    (feedbackSamples s n).2.pending = s.pending := by
  induction n with
  | zero => intro s; simp [feedbackSamples]
  | succ n ih => intro s; simp [feedbackSamples, ih]

@[simp] theorem tapSamples_keeps (s : State) (code : ℕ) :
    (tapSamples s code).2.time = s.time ∧ (tapSamples s code).2.objs = s.objs ∧ (tapSamples s code).2.clk = s.clk ∧
    (tapSamples s code).2.slots = s.slots ∧ (tapSamples s code).2.gains = s.gains ∧
    (tapSamples s code).2.chans = s.chans ∧ (tapSamples s code).2.rods = s.rods ∧
    (tapSamples s code).2.buses = s.buses ∧ (tapSamples s code).2.routeRefs = s.routeRefs ∧
    (tapSamples s code).2.resets = s.resets ∧ (tapSamples s code).2.exitReports = s.exitReports ∧
    (tapSamples s code).2.combSat = s.combSat ∧ (tapSamples s code).2.mutes = s.mutes ∧
    (tapSamples s code).2.olp = s.olp ∧ (tapSamples s code).2.commit = s.commit ∧
    (tapSamples s code).2.windows = s.windows ∧ (tapSamples s code).2.gov = s.gov ∧
    (tapSamples s code).2.govSnap = s.govSnap ∧ (tapSamples s code).2.prot = s.prot ∧
    (tapSamples s code).2.lic = s.lic ∧ (tapSamples s code).2.sent = s.sent ∧
    (tapSamples s code).2.links = s.links ∧ (tapSamples s code).2.cap = s.cap ∧ (tapSamples s code).2.flt = s.flt ∧
    (tapSamples s code).2.tally = s.tally ∧ (tapSamples s code).2.therm = s.therm ∧
    (tapSamples s code).2.life = s.life ∧ (tapSamples s code).2.pins = s.pins ∧ (tapSamples s code).2.nv = s.nv ∧
    (tapSamples s code).2.out = s.out ∧
    (tapSamples s code).2.pending = s.pending := by
  unfold tapSamples; (repeat' split) <;> simp

@[simp] theorem captureFrame_keeps (s : State) :
    (captureFrame s).time = s.time ∧ (captureFrame s).objs = s.objs ∧ (captureFrame s).clk = s.clk ∧
    (captureFrame s).slots = s.slots ∧ (captureFrame s).gains = s.gains ∧ (captureFrame s).chans = s.chans ∧
    (captureFrame s).rods = s.rods ∧ (captureFrame s).buses = s.buses ∧ (captureFrame s).routeRefs = s.routeRefs ∧
    (captureFrame s).resets = s.resets ∧ (captureFrame s).exitReports = s.exitReports ∧
    (captureFrame s).combSat = s.combSat ∧ (captureFrame s).mutes = s.mutes ∧ (captureFrame s).olp = s.olp ∧
    (captureFrame s).commit = s.commit ∧ (captureFrame s).windows = s.windows ∧ (captureFrame s).gov = s.gov ∧
    (captureFrame s).govSnap = s.govSnap ∧ (captureFrame s).prot = s.prot ∧ (captureFrame s).lic = s.lic ∧
    (captureFrame s).sent = s.sent ∧ (captureFrame s).links = s.links ∧ (captureFrame s).flt = s.flt ∧
    (captureFrame s).tally = s.tally ∧ (captureFrame s).therm = s.therm ∧ (captureFrame s).life = s.life ∧
    (captureFrame s).pins = s.pins ∧ (captureFrame s).nv = s.nv ∧ (captureFrame s).out = s.out ∧
    (captureFrame s).pending = s.pending := by
  simp [captureFrame]

@[simp] theorem captureHalt_keeps (s : State) (st : ℕ) :
    (captureHalt s st).time = s.time ∧ (captureHalt s st).objs = s.objs ∧ (captureHalt s st).clk = s.clk ∧
    (captureHalt s st).slots = s.slots ∧ (captureHalt s st).gains = s.gains ∧ (captureHalt s st).chans = s.chans ∧
    (captureHalt s st).rods = s.rods ∧ (captureHalt s st).buses = s.buses ∧
    (captureHalt s st).routeRefs = s.routeRefs ∧ (captureHalt s st).resets = s.resets ∧
    (captureHalt s st).exitReports = s.exitReports ∧ (captureHalt s st).combSat = s.combSat ∧
    (captureHalt s st).mutes = s.mutes ∧ (captureHalt s st).olp = s.olp ∧ (captureHalt s st).commit = s.commit ∧
    (captureHalt s st).windows = s.windows ∧ (captureHalt s st).gov = s.gov ∧
    (captureHalt s st).govSnap = s.govSnap ∧ (captureHalt s st).prot = s.prot ∧ (captureHalt s st).lic = s.lic ∧
    (captureHalt s st).sent = s.sent ∧ (captureHalt s st).links = s.links ∧ (captureHalt s st).flt = s.flt ∧
    (captureHalt s st).tally = s.tally ∧ (captureHalt s st).therm = s.therm ∧ (captureHalt s st).life = s.life ∧
    (captureHalt s st).pins = s.pins ∧ (captureHalt s st).nv = s.nv ∧ (captureHalt s st).out = s.out ∧
    (captureHalt s st).free = s.free ∧
    (captureHalt s st).pending = s.pending := by
  simp [captureHalt]

@[simp] theorem modMark_keeps (s : State) (m : ℕ) (f : Mark → Mark) :
    (modMark s m f).time = s.time ∧ (modMark s m f).objs = s.objs ∧ (modMark s m f).clk = s.clk ∧
    (modMark s m f).slots = s.slots ∧ (modMark s m f).gains = s.gains ∧ (modMark s m f).chans = s.chans ∧
    (modMark s m f).rods = s.rods ∧ (modMark s m f).buses = s.buses ∧ (modMark s m f).routeRefs = s.routeRefs ∧
    (modMark s m f).resets = s.resets ∧ (modMark s m f).exitReports = s.exitReports ∧
    (modMark s m f).combSat = s.combSat ∧ (modMark s m f).mutes = s.mutes ∧ (modMark s m f).olp = s.olp ∧
    (modMark s m f).commit = s.commit ∧ (modMark s m f).windows = s.windows ∧ (modMark s m f).gov = s.gov ∧
    (modMark s m f).govSnap = s.govSnap ∧ (modMark s m f).prot = s.prot ∧ (modMark s m f).lic = s.lic ∧
    (modMark s m f).sent = s.sent ∧ (modMark s m f).links = s.links ∧ (modMark s m f).flt = s.flt ∧
    (modMark s m f).tally = s.tally ∧ (modMark s m f).therm = s.therm ∧ (modMark s m f).life = s.life ∧
    (modMark s m f).pins = s.pins ∧ (modMark s m f).nv = s.nv ∧ (modMark s m f).out = s.out ∧
    (modMark s m f).free = s.free ∧
    (modMark s m f).pending = s.pending := by
  simp [modMark]

@[simp] theorem notePage_keeps (s : State) (e : ℕ × ℕ) (f : ℕ) (m : ℕ) :
    (notePage s e f m).time = s.time ∧ (notePage s e f m).objs = s.objs ∧ (notePage s e f m).clk = s.clk ∧
    (notePage s e f m).slots = s.slots ∧ (notePage s e f m).gains = s.gains ∧ (notePage s e f m).chans = s.chans ∧
    (notePage s e f m).rods = s.rods ∧ (notePage s e f m).buses = s.buses ∧
    (notePage s e f m).routeRefs = s.routeRefs ∧ (notePage s e f m).resets = s.resets ∧
    (notePage s e f m).exitReports = s.exitReports ∧ (notePage s e f m).combSat = s.combSat ∧
    (notePage s e f m).mutes = s.mutes ∧ (notePage s e f m).olp = s.olp ∧ (notePage s e f m).commit = s.commit ∧
    (notePage s e f m).windows = s.windows ∧ (notePage s e f m).gov = s.gov ∧
    (notePage s e f m).govSnap = s.govSnap ∧ (notePage s e f m).prot = s.prot ∧ (notePage s e f m).lic = s.lic ∧
    (notePage s e f m).sent = s.sent ∧ (notePage s e f m).links = s.links ∧ (notePage s e f m).flt = s.flt ∧
    (notePage s e f m).tally = s.tally ∧ (notePage s e f m).therm = s.therm ∧ (notePage s e f m).life = s.life ∧
    (notePage s e f m).pins = s.pins ∧ (notePage s e f m).nv = s.nv ∧ (notePage s e f m).out = s.out ∧
    (notePage s e f m).free = s.free ∧
    (notePage s e f m).pending = s.pending := by
  simp [notePage]

@[simp] theorem fireMark_keeps (s : State) (m : ℕ) :
    (fireMark s m).time = s.time ∧ (fireMark s m).objs = s.objs ∧ (fireMark s m).clk = s.clk ∧
    (fireMark s m).slots = s.slots ∧ (fireMark s m).gains = s.gains ∧ (fireMark s m).chans = s.chans ∧
    (fireMark s m).rods = s.rods ∧ (fireMark s m).buses = s.buses ∧ (fireMark s m).routeRefs = s.routeRefs ∧
    (fireMark s m).resets = s.resets ∧ (fireMark s m).exitReports = s.exitReports ∧
    (fireMark s m).combSat = s.combSat ∧ (fireMark s m).mutes = s.mutes ∧ (fireMark s m).olp = s.olp ∧
    (fireMark s m).commit = s.commit ∧ (fireMark s m).windows = s.windows ∧ (fireMark s m).gov = s.gov ∧
    (fireMark s m).govSnap = s.govSnap ∧ (fireMark s m).prot = s.prot ∧ (fireMark s m).lic = s.lic ∧
    (fireMark s m).sent = s.sent ∧ (fireMark s m).links = s.links ∧ (fireMark s m).flt = s.flt ∧
    (fireMark s m).therm = s.therm ∧ (fireMark s m).life = s.life ∧ (fireMark s m).pins = s.pins ∧
    (fireMark s m).nv = s.nv ∧ (fireMark s m).out = s.out ∧ (fireMark s m).free = s.free ∧
    (fireMark s m).pending = s.pending := by
  simp [fireMark]

@[simp] theorem fireMarks_keeps (s : State) (src : ℕ) (hit : ℕ → Bool) :
    (fireMarks s src hit).time = s.time ∧ (fireMarks s src hit).objs = s.objs ∧ (fireMarks s src hit).clk = s.clk ∧
    (fireMarks s src hit).slots = s.slots ∧ (fireMarks s src hit).gains = s.gains ∧
    (fireMarks s src hit).chans = s.chans ∧ (fireMarks s src hit).rods = s.rods ∧
    (fireMarks s src hit).buses = s.buses ∧ (fireMarks s src hit).routeRefs = s.routeRefs ∧
    (fireMarks s src hit).resets = s.resets ∧ (fireMarks s src hit).exitReports = s.exitReports ∧
    (fireMarks s src hit).combSat = s.combSat ∧ (fireMarks s src hit).mutes = s.mutes ∧
    (fireMarks s src hit).olp = s.olp ∧ (fireMarks s src hit).commit = s.commit ∧
    (fireMarks s src hit).windows = s.windows ∧ (fireMarks s src hit).gov = s.gov ∧
    (fireMarks s src hit).govSnap = s.govSnap ∧ (fireMarks s src hit).prot = s.prot ∧
    (fireMarks s src hit).lic = s.lic ∧ (fireMarks s src hit).sent = s.sent ∧
    (fireMarks s src hit).links = s.links ∧ (fireMarks s src hit).flt = s.flt ∧
    (fireMarks s src hit).therm = s.therm ∧ (fireMarks s src hit).life = s.life ∧
    (fireMarks s src hit).pins = s.pins ∧ (fireMarks s src hit).nv = s.nv ∧ (fireMarks s src hit).out = s.out ∧
    (fireMarks s src hit).free = s.free ∧
    (fireMarks s src hit).pending = s.pending := by
  simp [fireMarks]

@[simp] theorem modReplay_keeps (s : State) (r : ℕ) (f : Replay → Replay) :
    (modReplay s r f).time = s.time ∧ (modReplay s r f).objs = s.objs ∧ (modReplay s r f).clk = s.clk ∧
    (modReplay s r f).slots = s.slots ∧ (modReplay s r f).gains = s.gains ∧ (modReplay s r f).chans = s.chans ∧
    (modReplay s r f).rods = s.rods ∧ (modReplay s r f).buses = s.buses ∧
    (modReplay s r f).routeRefs = s.routeRefs ∧ (modReplay s r f).resets = s.resets ∧
    (modReplay s r f).exitReports = s.exitReports ∧ (modReplay s r f).combSat = s.combSat ∧
    (modReplay s r f).mutes = s.mutes ∧ (modReplay s r f).olp = s.olp ∧ (modReplay s r f).commit = s.commit ∧
    (modReplay s r f).windows = s.windows ∧ (modReplay s r f).gov = s.gov ∧ (modReplay s r f).govSnap = s.govSnap ∧
    (modReplay s r f).prot = s.prot ∧ (modReplay s r f).lic = s.lic ∧ (modReplay s r f).sent = s.sent ∧
    (modReplay s r f).links = s.links ∧ (modReplay s r f).flt = s.flt ∧ (modReplay s r f).tally = s.tally ∧
    (modReplay s r f).therm = s.therm ∧ (modReplay s r f).life = s.life ∧ (modReplay s r f).pins = s.pins ∧
    (modReplay s r f).nv = s.nv ∧ (modReplay s r f).out = s.out ∧ (modReplay s r f).free = s.free ∧
    (modReplay s r f).pending = s.pending := by
  simp [modReplay]

@[simp] theorem endReplay_keeps (s : State) (r : ℕ) (st : ℕ) :
    (endReplay s r st).time = s.time ∧ (endReplay s r st).objs = s.objs ∧ (endReplay s r st).clk = s.clk ∧
    (endReplay s r st).slots = s.slots ∧ (endReplay s r st).gains = s.gains ∧ (endReplay s r st).chans = s.chans ∧
    (endReplay s r st).rods = s.rods ∧ (endReplay s r st).buses = s.buses ∧
    (endReplay s r st).routeRefs = s.routeRefs ∧ (endReplay s r st).resets = s.resets ∧
    (endReplay s r st).exitReports = s.exitReports ∧ (endReplay s r st).combSat = s.combSat ∧
    (endReplay s r st).mutes = s.mutes ∧ (endReplay s r st).olp = s.olp ∧ (endReplay s r st).commit = s.commit ∧
    (endReplay s r st).windows = s.windows ∧ (endReplay s r st).gov = s.gov ∧
    (endReplay s r st).govSnap = s.govSnap ∧ (endReplay s r st).prot = s.prot ∧ (endReplay s r st).lic = s.lic ∧
    (endReplay s r st).sent = s.sent ∧ (endReplay s r st).links = s.links ∧ (endReplay s r st).flt = s.flt ∧
    (endReplay s r st).therm = s.therm ∧ (endReplay s r st).life = s.life ∧ (endReplay s r st).pins = s.pins ∧
    (endReplay s r st).nv = s.nv ∧ (endReplay s r st).out = s.out ∧ (endReplay s r st).free = s.free ∧
    (endReplay s r st).pending = s.pending := by
  simp [endReplay]

@[simp] theorem stopReplays_keeps (s : State) (p : Replay → Bool) :
    (stopReplays s p).time = s.time ∧ (stopReplays s p).objs = s.objs ∧ (stopReplays s p).clk = s.clk ∧
    (stopReplays s p).slots = s.slots ∧ (stopReplays s p).gains = s.gains ∧ (stopReplays s p).chans = s.chans ∧
    (stopReplays s p).rods = s.rods ∧ (stopReplays s p).buses = s.buses ∧
    (stopReplays s p).routeRefs = s.routeRefs ∧ (stopReplays s p).resets = s.resets ∧
    (stopReplays s p).exitReports = s.exitReports ∧ (stopReplays s p).combSat = s.combSat ∧
    (stopReplays s p).mutes = s.mutes ∧ (stopReplays s p).olp = s.olp ∧ (stopReplays s p).commit = s.commit ∧
    (stopReplays s p).windows = s.windows ∧ (stopReplays s p).gov = s.gov ∧ (stopReplays s p).govSnap = s.govSnap ∧
    (stopReplays s p).prot = s.prot ∧ (stopReplays s p).lic = s.lic ∧ (stopReplays s p).sent = s.sent ∧
    (stopReplays s p).links = s.links ∧ (stopReplays s p).flt = s.flt ∧ (stopReplays s p).therm = s.therm ∧
    (stopReplays s p).life = s.life ∧ (stopReplays s p).pins = s.pins ∧ (stopReplays s p).nv = s.nv ∧
    (stopReplays s p).out = s.out ∧ (stopReplays s p).free = s.free ∧
    (stopReplays s p).pending = s.pending := by
  simp [stopReplays]

@[simp] theorem replayLate_keeps (s : State) :
    (replayLate s).2.time = s.time ∧ (replayLate s).2.objs = s.objs ∧ (replayLate s).2.clk = s.clk ∧
    (replayLate s).2.slots = s.slots ∧ (replayLate s).2.gains = s.gains ∧ (replayLate s).2.chans = s.chans ∧
    (replayLate s).2.rods = s.rods ∧ (replayLate s).2.buses = s.buses ∧ (replayLate s).2.routeRefs = s.routeRefs ∧
    (replayLate s).2.resets = s.resets ∧ (replayLate s).2.exitReports = s.exitReports ∧
    (replayLate s).2.combSat = s.combSat ∧ (replayLate s).2.mutes = s.mutes ∧ (replayLate s).2.olp = s.olp ∧
    (replayLate s).2.commit = s.commit ∧ (replayLate s).2.windows = s.windows ∧ (replayLate s).2.gov = s.gov ∧
    (replayLate s).2.govSnap = s.govSnap ∧ (replayLate s).2.prot = s.prot ∧ (replayLate s).2.lic = s.lic ∧
    (replayLate s).2.sent = s.sent ∧ (replayLate s).2.links = s.links ∧ (replayLate s).2.cap = s.cap ∧
    (replayLate s).2.flt = s.flt ∧ (replayLate s).2.tally = s.tally ∧ (replayLate s).2.therm = s.therm ∧
    (replayLate s).2.life = s.life ∧ (replayLate s).2.pins = s.pins ∧ (replayLate s).2.nv = s.nv ∧
    (replayLate s).2.out = s.out ∧
    (replayLate s).2.pending = s.pending := by
  simp [replayLate]

@[simp] theorem replayFrame_keeps (s : State) (r : ℕ) :
    (replayFrame s r).time = s.time ∧ (replayFrame s r).objs = s.objs ∧ (replayFrame s r).clk = s.clk ∧
    (replayFrame s r).gains = s.gains ∧ (replayFrame s r).chans = s.chans ∧ (replayFrame s r).rods = s.rods ∧
    (replayFrame s r).buses = s.buses ∧ (replayFrame s r).routeRefs = s.routeRefs ∧
    (replayFrame s r).resets = s.resets ∧ (replayFrame s r).exitReports = s.exitReports ∧
    (replayFrame s r).combSat = s.combSat ∧ (replayFrame s r).mutes = s.mutes ∧ (replayFrame s r).olp = s.olp ∧
    (replayFrame s r).commit = s.commit ∧ (replayFrame s r).windows = s.windows ∧ (replayFrame s r).gov = s.gov ∧
    (replayFrame s r).govSnap = s.govSnap ∧ (replayFrame s r).prot = s.prot ∧ (replayFrame s r).lic = s.lic ∧
    (replayFrame s r).sent = s.sent ∧ (replayFrame s r).links = s.links ∧ (replayFrame s r).tally = s.tally ∧
    (replayFrame s r).therm = s.therm ∧ (replayFrame s r).life = s.life ∧ (replayFrame s r).pins = s.pins ∧
    (replayFrame s r).nv = s.nv ∧ (replayFrame s r).out = s.out ∧
    (replayFrame s r).pending = s.pending := by
  simp [replayFrame]

@[simp] theorem modExport_keeps (s : State) (l : ℕ) (f : Export → Export) :
    (modExport s l f).time = s.time ∧ (modExport s l f).objs = s.objs ∧ (modExport s l f).clk = s.clk ∧
    (modExport s l f).slots = s.slots ∧ (modExport s l f).gains = s.gains ∧ (modExport s l f).chans = s.chans ∧
    (modExport s l f).rods = s.rods ∧ (modExport s l f).buses = s.buses ∧
    (modExport s l f).routeRefs = s.routeRefs ∧ (modExport s l f).resets = s.resets ∧
    (modExport s l f).exitReports = s.exitReports ∧ (modExport s l f).combSat = s.combSat ∧
    (modExport s l f).mutes = s.mutes ∧ (modExport s l f).olp = s.olp ∧ (modExport s l f).commit = s.commit ∧
    (modExport s l f).windows = s.windows ∧ (modExport s l f).gov = s.gov ∧ (modExport s l f).govSnap = s.govSnap ∧
    (modExport s l f).prot = s.prot ∧ (modExport s l f).lic = s.lic ∧ (modExport s l f).sent = s.sent ∧
    (modExport s l f).links = s.links ∧ (modExport s l f).flt = s.flt ∧ (modExport s l f).tally = s.tally ∧
    (modExport s l f).therm = s.therm ∧ (modExport s l f).life = s.life ∧ (modExport s l f).pins = s.pins ∧
    (modExport s l f).nv = s.nv ∧ (modExport s l f).out = s.out ∧ (modExport s l f).free = s.free ∧
    (modExport s l f).pending = s.pending := by
  simp [modExport]

@[simp] theorem sealMute_keeps (s : State) (g : ℕ) :
    (sealMute s g).time = s.time ∧ (sealMute s g).objs = s.objs ∧ (sealMute s g).clk = s.clk ∧
    (sealMute s g).slots = s.slots ∧ (sealMute s g).gains = s.gains ∧ (sealMute s g).rods = s.rods ∧
    (sealMute s g).routeRefs = s.routeRefs ∧ (sealMute s g).resets = s.resets ∧
    (sealMute s g).exitReports = s.exitReports ∧ (sealMute s g).combSat = s.combSat ∧ (sealMute s g).olp = s.olp ∧
    (sealMute s g).commit = s.commit ∧ (sealMute s g).windows = s.windows ∧ (sealMute s g).gov = s.gov ∧
    (sealMute s g).govSnap = s.govSnap ∧ (sealMute s g).prot = s.prot ∧ (sealMute s g).lic = s.lic ∧
    (sealMute s g).sent = s.sent ∧ (sealMute s g).links = s.links ∧ (sealMute s g).cap = s.cap ∧
    (sealMute s g).flt = s.flt ∧ (sealMute s g).tally = s.tally ∧ (sealMute s g).therm = s.therm ∧
    (sealMute s g).life = s.life ∧ (sealMute s g).pins = s.pins ∧ (sealMute s g).nv = s.nv ∧
    (sealMute s g).free = s.free ∧
    (sealMute s g).pending = s.pending := by
  simp [sealMute]

@[simp] theorem loseSeal_keeps (s : State) (g : ℕ) (b : ℕ) :
    (loseSeal s g b).time = s.time ∧ (loseSeal s g b).objs = s.objs ∧ (loseSeal s g b).clk = s.clk ∧
    (loseSeal s g b).gains = s.gains ∧ (loseSeal s g b).chans = s.chans ∧ (loseSeal s g b).rods = s.rods ∧
    (loseSeal s g b).buses = s.buses ∧ (loseSeal s g b).routeRefs = s.routeRefs ∧
    (loseSeal s g b).resets = s.resets ∧ (loseSeal s g b).exitReports = s.exitReports ∧
    (loseSeal s g b).combSat = s.combSat ∧ (loseSeal s g b).mutes = s.mutes ∧ (loseSeal s g b).olp = s.olp ∧
    (loseSeal s g b).commit = s.commit ∧ (loseSeal s g b).windows = s.windows ∧ (loseSeal s g b).gov = s.gov ∧
    (loseSeal s g b).govSnap = s.govSnap ∧ (loseSeal s g b).prot = s.prot ∧ (loseSeal s g b).lic = s.lic ∧
    (loseSeal s g b).sent = s.sent ∧ (loseSeal s g b).links = s.links ∧ (loseSeal s g b).cap = s.cap ∧
    (loseSeal s g b).flt = s.flt ∧ (loseSeal s g b).tally = s.tally ∧ (loseSeal s g b).therm = s.therm ∧
    (loseSeal s g b).life = s.life ∧ (loseSeal s g b).pins = s.pins ∧ (loseSeal s g b).nv = s.nv ∧
    (loseSeal s g b).out = s.out ∧ (loseSeal s g b).free = s.free ∧
    (loseSeal s g b).pending = s.pending := by
  simp [loseSeal]

@[simp] theorem bankParity_keeps (s : State) (g : ℕ) (b : ℕ) :
    (bankParity s g b).time = s.time ∧ (bankParity s g b).objs = s.objs ∧ (bankParity s g b).clk = s.clk ∧
    (bankParity s g b).gains = s.gains ∧ (bankParity s g b).rods = s.rods ∧
    (bankParity s g b).routeRefs = s.routeRefs ∧ (bankParity s g b).resets = s.resets ∧
    (bankParity s g b).exitReports = s.exitReports ∧ (bankParity s g b).combSat = s.combSat ∧
    (bankParity s g b).olp = s.olp ∧ (bankParity s g b).commit = s.commit ∧ (bankParity s g b).windows = s.windows ∧
    (bankParity s g b).gov = s.gov ∧ (bankParity s g b).govSnap = s.govSnap ∧ (bankParity s g b).prot = s.prot ∧
    (bankParity s g b).lic = s.lic ∧ (bankParity s g b).sent = s.sent ∧ (bankParity s g b).links = s.links ∧
    (bankParity s g b).cap = s.cap ∧ (bankParity s g b).flt = s.flt ∧ (bankParity s g b).tally = s.tally ∧
    (bankParity s g b).therm = s.therm ∧ (bankParity s g b).life = s.life ∧ (bankParity s g b).pins = s.pins ∧
    (bankParity s g b).nv = s.nv ∧ (bankParity s g b).free = s.free ∧
    (bankParity s g b).pending = s.pending := by
  simp [bankParity]

@[simp] theorem switchBank_keeps (s : State) (g : ℕ) (t : ℕ) :
    (switchBank s g t).time = s.time ∧ (switchBank s g t).objs = s.objs ∧ (switchBank s g t).clk = s.clk ∧
    (switchBank s g t).gains = s.gains ∧ (switchBank s g t).rods = s.rods ∧
    (switchBank s g t).routeRefs = s.routeRefs ∧ (switchBank s g t).resets = s.resets ∧
    (switchBank s g t).exitReports = s.exitReports ∧ (switchBank s g t).combSat = s.combSat ∧
    (switchBank s g t).olp = s.olp ∧ (switchBank s g t).commit = s.commit ∧ (switchBank s g t).windows = s.windows ∧
    (switchBank s g t).gov = s.gov ∧ (switchBank s g t).govSnap = s.govSnap ∧ (switchBank s g t).prot = s.prot ∧
    (switchBank s g t).lic = s.lic ∧ (switchBank s g t).sent = s.sent ∧ (switchBank s g t).links = s.links ∧
    (switchBank s g t).cap = s.cap ∧ (switchBank s g t).flt = s.flt ∧ (switchBank s g t).tally = s.tally ∧
    (switchBank s g t).therm = s.therm ∧ (switchBank s g t).life = s.life ∧ (switchBank s g t).pins = s.pins ∧
    (switchBank s g t).nv = s.nv ∧ (switchBank s g t).free = s.free ∧
    (switchBank s g t).pending = s.pending := by
  simp [switchBank]

@[simp] theorem launchSwap_keeps (s : State) (g : ℕ) (t : ℕ) :
    (launchSwap s g t).time = s.time ∧ (launchSwap s g t).objs = s.objs ∧ (launchSwap s g t).clk = s.clk ∧
    (launchSwap s g t).gains = s.gains ∧ (launchSwap s g t).rods = s.rods ∧
    (launchSwap s g t).routeRefs = s.routeRefs ∧ (launchSwap s g t).resets = s.resets ∧
    (launchSwap s g t).exitReports = s.exitReports ∧ (launchSwap s g t).combSat = s.combSat ∧
    (launchSwap s g t).olp = s.olp ∧ (launchSwap s g t).commit = s.commit ∧ (launchSwap s g t).windows = s.windows ∧
    (launchSwap s g t).gov = s.gov ∧ (launchSwap s g t).govSnap = s.govSnap ∧ (launchSwap s g t).prot = s.prot ∧
    (launchSwap s g t).lic = s.lic ∧ (launchSwap s g t).sent = s.sent ∧ (launchSwap s g t).links = s.links ∧
    (launchSwap s g t).cap = s.cap ∧ (launchSwap s g t).flt = s.flt ∧ (launchSwap s g t).tally = s.tally ∧
    (launchSwap s g t).therm = s.therm ∧ (launchSwap s g t).life = s.life ∧ (launchSwap s g t).pins = s.pins ∧
    (launchSwap s g t).nv = s.nv ∧ (launchSwap s g t).free = s.free ∧
    (launchSwap s g t).pending = s.pending := by
  simp [launchSwap]

@[simp] theorem thresholdEvent_keeps (s : State) (g : ℕ) (lowState : Bool) (set : Bool) :
    (thresholdEvent s g lowState set).time = s.time ∧ (thresholdEvent s g lowState set).objs = s.objs ∧
    (thresholdEvent s g lowState set).clk = s.clk ∧ (thresholdEvent s g lowState set).slots = s.slots ∧
    (thresholdEvent s g lowState set).gains = s.gains ∧ (thresholdEvent s g lowState set).chans = s.chans ∧
    (thresholdEvent s g lowState set).rods = s.rods ∧ (thresholdEvent s g lowState set).buses = s.buses ∧
    (thresholdEvent s g lowState set).routeRefs = s.routeRefs ∧
    (thresholdEvent s g lowState set).resets = s.resets ∧
    (thresholdEvent s g lowState set).exitReports = s.exitReports ∧
    (thresholdEvent s g lowState set).combSat = s.combSat ∧ (thresholdEvent s g lowState set).mutes = s.mutes ∧
    (thresholdEvent s g lowState set).olp = s.olp ∧ (thresholdEvent s g lowState set).commit = s.commit ∧
    (thresholdEvent s g lowState set).windows = s.windows ∧ (thresholdEvent s g lowState set).gov = s.gov ∧
    (thresholdEvent s g lowState set).govSnap = s.govSnap ∧ (thresholdEvent s g lowState set).prot = s.prot ∧
    (thresholdEvent s g lowState set).lic = s.lic ∧ (thresholdEvent s g lowState set).sent = s.sent ∧
    (thresholdEvent s g lowState set).links = s.links ∧ (thresholdEvent s g lowState set).flt = s.flt ∧
    (thresholdEvent s g lowState set).therm = s.therm ∧ (thresholdEvent s g lowState set).life = s.life ∧
    (thresholdEvent s g lowState set).pins = s.pins ∧ (thresholdEvent s g lowState set).nv = s.nv ∧
    (thresholdEvent s g lowState set).out = s.out ∧ (thresholdEvent s g lowState set).free = s.free ∧
    (thresholdEvent s g lowState set).pending = s.pending := by
  simp [thresholdEvent]

@[simp] theorem setThreshold_keeps (s : State) (g : ℕ) (lowState : Bool) (v : Bool) :
    (setThreshold s g lowState v).time = s.time ∧ (setThreshold s g lowState v).objs = s.objs ∧
    (setThreshold s g lowState v).clk = s.clk ∧ (setThreshold s g lowState v).gains = s.gains ∧
    (setThreshold s g lowState v).chans = s.chans ∧ (setThreshold s g lowState v).rods = s.rods ∧
    (setThreshold s g lowState v).buses = s.buses ∧ (setThreshold s g lowState v).routeRefs = s.routeRefs ∧
    (setThreshold s g lowState v).resets = s.resets ∧ (setThreshold s g lowState v).exitReports = s.exitReports ∧
    (setThreshold s g lowState v).combSat = s.combSat ∧ (setThreshold s g lowState v).mutes = s.mutes ∧
    (setThreshold s g lowState v).olp = s.olp ∧ (setThreshold s g lowState v).commit = s.commit ∧
    (setThreshold s g lowState v).windows = s.windows ∧ (setThreshold s g lowState v).gov = s.gov ∧
    (setThreshold s g lowState v).govSnap = s.govSnap ∧ (setThreshold s g lowState v).prot = s.prot ∧
    (setThreshold s g lowState v).lic = s.lic ∧ (setThreshold s g lowState v).sent = s.sent ∧
    (setThreshold s g lowState v).links = s.links ∧ (setThreshold s g lowState v).flt = s.flt ∧
    (setThreshold s g lowState v).therm = s.therm ∧ (setThreshold s g lowState v).life = s.life ∧
    (setThreshold s g lowState v).pins = s.pins ∧ (setThreshold s g lowState v).nv = s.nv ∧
    (setThreshold s g lowState v).out = s.out ∧ (setThreshold s g lowState v).free = s.free ∧
    (setThreshold s g lowState v).pending = s.pending := by
  simp [setThreshold]

@[simp] theorem refuseBurn_keeps (s : State) (status : ℕ) (reason : ℕ) (field : ℕ) :
    (refuseBurn s status reason field).2.time = s.time ∧ (refuseBurn s status reason field).2.objs = s.objs ∧
    (refuseBurn s status reason field).2.clk = s.clk ∧ (refuseBurn s status reason field).2.slots = s.slots ∧
    (refuseBurn s status reason field).2.gains = s.gains ∧ (refuseBurn s status reason field).2.chans = s.chans ∧
    (refuseBurn s status reason field).2.rods = s.rods ∧ (refuseBurn s status reason field).2.buses = s.buses ∧
    (refuseBurn s status reason field).2.routeRefs = s.routeRefs ∧
    (refuseBurn s status reason field).2.resets = s.resets ∧
    (refuseBurn s status reason field).2.exitReports = s.exitReports ∧
    (refuseBurn s status reason field).2.combSat = s.combSat ∧
    (refuseBurn s status reason field).2.mutes = s.mutes ∧ (refuseBurn s status reason field).2.olp = s.olp ∧
    (refuseBurn s status reason field).2.commit = s.commit ∧
    (refuseBurn s status reason field).2.windows = s.windows ∧ (refuseBurn s status reason field).2.gov = s.gov ∧
    (refuseBurn s status reason field).2.govSnap = s.govSnap ∧ (refuseBurn s status reason field).2.prot = s.prot ∧
    (refuseBurn s status reason field).2.sent = s.sent ∧ (refuseBurn s status reason field).2.links = s.links ∧
    (refuseBurn s status reason field).2.cap = s.cap ∧ (refuseBurn s status reason field).2.flt = s.flt ∧
    (refuseBurn s status reason field).2.therm = s.therm ∧ (refuseBurn s status reason field).2.life = s.life ∧
    (refuseBurn s status reason field).2.pins = s.pins ∧ (refuseBurn s status reason field).2.nv = s.nv ∧
    (refuseBurn s status reason field).2.out = s.out ∧ (refuseBurn s status reason field).2.free = s.free ∧
    (refuseBurn s status reason field).2.pending = s.pending := by
  simp [refuseBurn]

@[simp] theorem trip_keeps (s : State) (ch : ℕ) (kind : ℕ) :
    (trip s ch kind).time = s.time ∧ (trip s ch kind).objs = s.objs ∧ (trip s ch kind).clk = s.clk ∧
    (trip s ch kind).slots = s.slots ∧ (trip s ch kind).gains = s.gains ∧ (trip s ch kind).rods = s.rods ∧
    (trip s ch kind).routeRefs = s.routeRefs ∧ (trip s ch kind).resets = s.resets ∧
    (trip s ch kind).exitReports = s.exitReports ∧ (trip s ch kind).combSat = s.combSat ∧
    (trip s ch kind).olp = s.olp ∧ (trip s ch kind).commit = s.commit ∧ (trip s ch kind).windows = s.windows ∧
    (trip s ch kind).gov = s.gov ∧ (trip s ch kind).govSnap = s.govSnap ∧ (trip s ch kind).prot = s.prot ∧
    (trip s ch kind).lic = s.lic ∧ (trip s ch kind).links = s.links ∧ (trip s ch kind).therm = s.therm ∧
    (trip s ch kind).life = s.life ∧ (trip s ch kind).pins = s.pins ∧ (trip s ch kind).nv = s.nv ∧
    (trip s ch kind).free = s.free ∧
    (trip s ch kind).pending = s.pending := by
  simp [trip]

@[simp] theorem changePower_keeps (s : State) (new : Power) (source : ℕ) :
    (changePower s new source).time = s.time ∧ (changePower s new source).objs = s.objs ∧
    (changePower s new source).clk = s.clk ∧ (changePower s new source).slots = s.slots ∧
    (changePower s new source).gains = s.gains ∧ (changePower s new source).rods = s.rods ∧
    (changePower s new source).routeRefs = s.routeRefs ∧ (changePower s new source).resets = s.resets ∧
    (changePower s new source).exitReports = s.exitReports ∧ (changePower s new source).combSat = s.combSat ∧
    (changePower s new source).olp = s.olp ∧ (changePower s new source).commit = s.commit ∧
    (changePower s new source).windows = s.windows ∧ (changePower s new source).gov = s.gov ∧
    (changePower s new source).govSnap = s.govSnap ∧ (changePower s new source).prot = s.prot ∧
    (changePower s new source).lic = s.lic ∧ (changePower s new source).sent = s.sent ∧
    (changePower s new source).links = s.links ∧ (changePower s new source).flt = s.flt ∧
    (changePower s new source).therm = s.therm ∧ (changePower s new source).pins = s.pins ∧
    (changePower s new source).nv = s.nv ∧ (changePower s new source).free = s.free ∧
    (changePower s new source).pending = s.pending := by
  simp [changePower]

@[simp] theorem enterSafe_keeps (s : State) (cause : ℕ) :
    (enterSafe s cause).time = s.time ∧ (enterSafe s cause).objs = s.objs ∧ (enterSafe s cause).clk = s.clk ∧
    (enterSafe s cause).slots = s.slots ∧ (enterSafe s cause).gains = s.gains ∧ (enterSafe s cause).rods = s.rods ∧
    (enterSafe s cause).routeRefs = s.routeRefs ∧ (enterSafe s cause).resets = s.resets ∧
    (enterSafe s cause).exitReports = s.exitReports ∧ (enterSafe s cause).combSat = s.combSat ∧
    (enterSafe s cause).olp = s.olp ∧ (enterSafe s cause).commit = s.commit ∧
    (enterSafe s cause).windows = s.windows ∧ (enterSafe s cause).gov = s.gov ∧
    (enterSafe s cause).govSnap = s.govSnap ∧ (enterSafe s cause).prot = s.prot ∧ (enterSafe s cause).lic = s.lic ∧
    (enterSafe s cause).sent = s.sent ∧ (enterSafe s cause).links = s.links ∧ (enterSafe s cause).flt = s.flt ∧
    (enterSafe s cause).therm = s.therm ∧ (enterSafe s cause).pins = s.pins ∧ (enterSafe s cause).nv = s.nv ∧
    (enterSafe s cause).free = s.free ∧
    (enterSafe s cause).pending = s.pending := by
  unfold enterSafe; (repeat' split) <;> simp

@[simp] theorem enterQuiet_keeps (s : State) :
    (enterQuiet s).time = s.time ∧ (enterQuiet s).objs = s.objs ∧ (enterQuiet s).clk = s.clk ∧
    (enterQuiet s).slots = s.slots ∧ (enterQuiet s).gains = s.gains ∧ (enterQuiet s).rods = s.rods ∧
    (enterQuiet s).routeRefs = s.routeRefs ∧ (enterQuiet s).resets = s.resets ∧
    (enterQuiet s).exitReports = s.exitReports ∧ (enterQuiet s).combSat = s.combSat ∧ (enterQuiet s).olp = s.olp ∧
    (enterQuiet s).commit = s.commit ∧ (enterQuiet s).windows = s.windows ∧ (enterQuiet s).gov = s.gov ∧
    (enterQuiet s).govSnap = s.govSnap ∧ (enterQuiet s).prot = s.prot ∧ (enterQuiet s).lic = s.lic ∧
    (enterQuiet s).sent = s.sent ∧ (enterQuiet s).links = s.links ∧ (enterQuiet s).flt = s.flt ∧
    (enterQuiet s).therm = s.therm ∧ (enterQuiet s).pins = s.pins ∧ (enterQuiet s).nv = s.nv ∧
    (enterQuiet s).free = s.free ∧
    (enterQuiet s).pending = s.pending := by
  simp [enterQuiet]

@[simp] theorem muteLostRoutes_keeps (s : State) :
    (muteLostRoutes s).time = s.time ∧ (muteLostRoutes s).objs = s.objs ∧ (muteLostRoutes s).clk = s.clk ∧
    (muteLostRoutes s).slots = s.slots ∧ (muteLostRoutes s).gains = s.gains ∧ (muteLostRoutes s).rods = s.rods ∧
    (muteLostRoutes s).routeRefs = s.routeRefs ∧ (muteLostRoutes s).resets = s.resets ∧
    (muteLostRoutes s).exitReports = s.exitReports ∧ (muteLostRoutes s).combSat = s.combSat ∧
    (muteLostRoutes s).olp = s.olp ∧ (muteLostRoutes s).commit = s.commit ∧ (muteLostRoutes s).windows = s.windows ∧
    (muteLostRoutes s).gov = s.gov ∧ (muteLostRoutes s).govSnap = s.govSnap ∧ (muteLostRoutes s).prot = s.prot ∧
    (muteLostRoutes s).lic = s.lic ∧ (muteLostRoutes s).sent = s.sent ∧ (muteLostRoutes s).links = s.links ∧
    (muteLostRoutes s).cap = s.cap ∧ (muteLostRoutes s).flt = s.flt ∧ (muteLostRoutes s).tally = s.tally ∧
    (muteLostRoutes s).therm = s.therm ∧ (muteLostRoutes s).life = s.life ∧ (muteLostRoutes s).pins = s.pins ∧
    (muteLostRoutes s).nv = s.nv ∧ (muteLostRoutes s).free = s.free ∧
    (muteLostRoutes s).pending = s.pending := by
  simp [muteLostRoutes]

@[simp] theorem donorPathMutes_keeps (s : State) :
    (donorPathMutes s).time = s.time ∧ (donorPathMutes s).objs = s.objs ∧ (donorPathMutes s).clk = s.clk ∧
    (donorPathMutes s).slots = s.slots ∧ (donorPathMutes s).gains = s.gains ∧ (donorPathMutes s).rods = s.rods ∧
    (donorPathMutes s).routeRefs = s.routeRefs ∧ (donorPathMutes s).resets = s.resets ∧
    (donorPathMutes s).exitReports = s.exitReports ∧ (donorPathMutes s).combSat = s.combSat ∧
    (donorPathMutes s).olp = s.olp ∧ (donorPathMutes s).commit = s.commit ∧ (donorPathMutes s).windows = s.windows ∧
    (donorPathMutes s).gov = s.gov ∧ (donorPathMutes s).govSnap = s.govSnap ∧ (donorPathMutes s).prot = s.prot ∧
    (donorPathMutes s).lic = s.lic ∧ (donorPathMutes s).sent = s.sent ∧ (donorPathMutes s).links = s.links ∧
    (donorPathMutes s).cap = s.cap ∧ (donorPathMutes s).flt = s.flt ∧ (donorPathMutes s).tally = s.tally ∧
    (donorPathMutes s).therm = s.therm ∧ (donorPathMutes s).life = s.life ∧ (donorPathMutes s).pins = s.pins ∧
    (donorPathMutes s).nv = s.nv ∧ (donorPathMutes s).free = s.free ∧
    (donorPathMutes s).pending = s.pending := by
  simp [donorPathMutes]

@[simp] theorem lastRod_keeps (before : State) (s : State) (cause : ℕ) :
    (lastRod before s cause).time = s.time ∧ (lastRod before s cause).objs = s.objs ∧
    (lastRod before s cause).clk = s.clk ∧ (lastRod before s cause).slots = s.slots ∧
    (lastRod before s cause).gains = s.gains ∧ (lastRod before s cause).rods = s.rods ∧
    (lastRod before s cause).routeRefs = s.routeRefs ∧ (lastRod before s cause).resets = s.resets ∧
    (lastRod before s cause).exitReports = s.exitReports ∧ (lastRod before s cause).combSat = s.combSat ∧
    (lastRod before s cause).olp = s.olp ∧ (lastRod before s cause).commit = s.commit ∧
    (lastRod before s cause).windows = s.windows ∧ (lastRod before s cause).gov = s.gov ∧
    (lastRod before s cause).govSnap = s.govSnap ∧ (lastRod before s cause).prot = s.prot ∧
    (lastRod before s cause).lic = s.lic ∧ (lastRod before s cause).sent = s.sent ∧
    (lastRod before s cause).links = s.links ∧ (lastRod before s cause).flt = s.flt ∧
    (lastRod before s cause).therm = s.therm ∧ (lastRod before s cause).pins = s.pins ∧
    (lastRod before s cause).nv = s.nv ∧ (lastRod before s cause).free = s.free ∧
    (lastRod before s cause).pending = s.pending := by
  simp [lastRod]

@[simp] theorem rejoinRods_keeps (s : State) :
    (rejoinRods s).time = s.time ∧ (rejoinRods s).objs = s.objs ∧ (rejoinRods s).clk = s.clk ∧
    (rejoinRods s).slots = s.slots ∧ (rejoinRods s).gains = s.gains ∧ (rejoinRods s).chans = s.chans ∧
    (rejoinRods s).buses = s.buses ∧ (rejoinRods s).routeRefs = s.routeRefs ∧ (rejoinRods s).resets = s.resets ∧
    (rejoinRods s).exitReports = s.exitReports ∧ (rejoinRods s).combSat = s.combSat ∧ (rejoinRods s).olp = s.olp ∧
    (rejoinRods s).commit = s.commit ∧ (rejoinRods s).windows = s.windows ∧ (rejoinRods s).gov = s.gov ∧
    (rejoinRods s).govSnap = s.govSnap ∧ (rejoinRods s).prot = s.prot ∧ (rejoinRods s).lic = s.lic ∧
    (rejoinRods s).sent = s.sent ∧ (rejoinRods s).links = s.links ∧ (rejoinRods s).cap = s.cap ∧
    (rejoinRods s).flt = s.flt ∧ (rejoinRods s).tally = s.tally ∧ (rejoinRods s).therm = s.therm ∧
    (rejoinRods s).life = s.life ∧ (rejoinRods s).pins = s.pins ∧ (rejoinRods s).nv = s.nv ∧
    (rejoinRods s).out = s.out ∧ (rejoinRods s).free = s.free ∧
    (rejoinRods s).pending = s.pending := by
  simp [rejoinRods]

@[simp] theorem closeMonitor_keeps (s : State) :
    (closeMonitor s).time = s.time ∧ (closeMonitor s).objs = s.objs ∧ (closeMonitor s).clk = s.clk ∧
    (closeMonitor s).slots = s.slots ∧ (closeMonitor s).gains = s.gains ∧ (closeMonitor s).chans = s.chans ∧
    (closeMonitor s).rods = s.rods ∧ (closeMonitor s).buses = s.buses ∧ (closeMonitor s).routeRefs = s.routeRefs ∧
    (closeMonitor s).resets = s.resets ∧ (closeMonitor s).exitReports = s.exitReports ∧
    (closeMonitor s).combSat = s.combSat ∧ (closeMonitor s).mutes = s.mutes ∧ (closeMonitor s).olp = s.olp ∧
    (closeMonitor s).commit = s.commit ∧ (closeMonitor s).windows = s.windows ∧ (closeMonitor s).gov = s.gov ∧
    (closeMonitor s).govSnap = s.govSnap ∧ (closeMonitor s).prot = s.prot ∧ (closeMonitor s).lic = s.lic ∧
    (closeMonitor s).sent = s.sent ∧ (closeMonitor s).links = s.links ∧ (closeMonitor s).cap = s.cap ∧
    (closeMonitor s).flt = s.flt ∧ (closeMonitor s).therm = s.therm ∧ (closeMonitor s).pins = s.pins ∧
    (closeMonitor s).nv = s.nv ∧ (closeMonitor s).out = s.out ∧ (closeMonitor s).free = s.free ∧
    (closeMonitor s).pending = s.pending := by
  simp [closeMonitor]

@[simp] theorem loseStaging_keeps (s : State) :
    (loseStaging s).time = s.time ∧ (loseStaging s).objs = s.objs ∧ (loseStaging s).clk = s.clk ∧
    (loseStaging s).slots = s.slots ∧ (loseStaging s).gains = s.gains ∧ (loseStaging s).chans = s.chans ∧
    (loseStaging s).rods = s.rods ∧ (loseStaging s).buses = s.buses ∧ (loseStaging s).routeRefs = s.routeRefs ∧
    (loseStaging s).resets = s.resets ∧ (loseStaging s).exitReports = s.exitReports ∧
    (loseStaging s).combSat = s.combSat ∧ (loseStaging s).mutes = s.mutes ∧ (loseStaging s).gov = s.gov ∧
    (loseStaging s).prot = s.prot ∧ (loseStaging s).lic = s.lic ∧ (loseStaging s).sent = s.sent ∧
    (loseStaging s).links = s.links ∧ (loseStaging s).cap = s.cap ∧ (loseStaging s).tally = s.tally ∧
    (loseStaging s).therm = s.therm ∧ (loseStaging s).life = s.life ∧ (loseStaging s).pins = s.pins ∧
    (loseStaging s).nv = s.nv ∧ (loseStaging s).out = s.out ∧ (loseStaging s).free = s.free ∧
    (loseStaging s).pending = s.pending := by
  simp [loseStaging]

@[simp] theorem revertTrial_keeps (s : State) :
    (revertTrial s).time = s.time ∧ (revertTrial s).objs = s.objs ∧ (revertTrial s).clk = s.clk ∧
    (revertTrial s).slots = s.slots ∧ (revertTrial s).gains = s.gains ∧ (revertTrial s).chans = s.chans ∧
    (revertTrial s).rods = s.rods ∧ (revertTrial s).buses = s.buses ∧ (revertTrial s).routeRefs = s.routeRefs ∧
    (revertTrial s).resets = s.resets ∧ (revertTrial s).exitReports = s.exitReports ∧
    (revertTrial s).combSat = s.combSat ∧ (revertTrial s).mutes = s.mutes ∧ (revertTrial s).olp = s.olp ∧
    (revertTrial s).commit = s.commit ∧ (revertTrial s).windows = s.windows ∧ (revertTrial s).gov = s.gov ∧
    (revertTrial s).govSnap = s.govSnap ∧ (revertTrial s).prot = s.prot ∧ (revertTrial s).lic = s.lic ∧
    (revertTrial s).sent = s.sent ∧ (revertTrial s).links = s.links ∧ (revertTrial s).cap = s.cap ∧
    (revertTrial s).flt = s.flt ∧ (revertTrial s).therm = s.therm ∧ (revertTrial s).pins = s.pins ∧
    (revertTrial s).out = s.out ∧ (revertTrial s).free = s.free ∧
    (revertTrial s).pending = s.pending := by
  simp [revertTrial]

@[simp] theorem stopSupervisor_keeps (s : State) (cause : ℕ) :
    (stopSupervisor s cause).time = s.time ∧ (stopSupervisor s cause).objs = s.objs ∧
    (stopSupervisor s cause).clk = s.clk ∧ (stopSupervisor s cause).slots = s.slots ∧
    (stopSupervisor s cause).gains = s.gains ∧ (stopSupervisor s cause).chans = s.chans ∧
    (stopSupervisor s cause).rods = s.rods ∧ (stopSupervisor s cause).buses = s.buses ∧
    (stopSupervisor s cause).routeRefs = s.routeRefs ∧ (stopSupervisor s cause).resets = s.resets ∧
    (stopSupervisor s cause).exitReports = s.exitReports ∧ (stopSupervisor s cause).combSat = s.combSat ∧
    (stopSupervisor s cause).mutes = s.mutes ∧ (stopSupervisor s cause).gov = s.gov ∧
    (stopSupervisor s cause).prot = s.prot ∧ (stopSupervisor s cause).lic = s.lic ∧
    (stopSupervisor s cause).sent = s.sent ∧ (stopSupervisor s cause).links = s.links ∧
    (stopSupervisor s cause).cap = s.cap ∧ (stopSupervisor s cause).therm = s.therm ∧
    (stopSupervisor s cause).pins = s.pins ∧ (stopSupervisor s cause).out = s.out ∧
    (stopSupervisor s cause).free = s.free ∧
    (stopSupervisor s cause).pending = s.pending := by
  simp [stopSupervisor]

@[simp] theorem zoneRecord_keeps (s : State) (code : ℕ) (z : ℕ) (k : ℕ) :
    (zoneRecord s code z k).time = s.time ∧ (zoneRecord s code z k).objs = s.objs ∧
    (zoneRecord s code z k).clk = s.clk ∧ (zoneRecord s code z k).slots = s.slots ∧
    (zoneRecord s code z k).gains = s.gains ∧ (zoneRecord s code z k).chans = s.chans ∧
    (zoneRecord s code z k).rods = s.rods ∧ (zoneRecord s code z k).buses = s.buses ∧
    (zoneRecord s code z k).routeRefs = s.routeRefs ∧ (zoneRecord s code z k).resets = s.resets ∧
    (zoneRecord s code z k).exitReports = s.exitReports ∧ (zoneRecord s code z k).combSat = s.combSat ∧
    (zoneRecord s code z k).mutes = s.mutes ∧ (zoneRecord s code z k).olp = s.olp ∧
    (zoneRecord s code z k).commit = s.commit ∧ (zoneRecord s code z k).windows = s.windows ∧
    (zoneRecord s code z k).gov = s.gov ∧ (zoneRecord s code z k).govSnap = s.govSnap ∧
    (zoneRecord s code z k).prot = s.prot ∧ (zoneRecord s code z k).lic = s.lic ∧
    (zoneRecord s code z k).sent = s.sent ∧ (zoneRecord s code z k).links = s.links ∧
    (zoneRecord s code z k).cap = s.cap ∧ (zoneRecord s code z k).flt = s.flt ∧
    (zoneRecord s code z k).therm = s.therm ∧ (zoneRecord s code z k).life = s.life ∧
    (zoneRecord s code z k).pins = s.pins ∧ (zoneRecord s code z k).nv = s.nv ∧
    (zoneRecord s code z k).out = s.out ∧ (zoneRecord s code z k).free = s.free ∧
    (zoneRecord s code z k).pending = s.pending := by
  simp [zoneRecord]

@[simp] theorem setThermGates_keeps (s : State) :
    (setThermGates s).time = s.time ∧ (setThermGates s).objs = s.objs ∧ (setThermGates s).clk = s.clk ∧
    (setThermGates s).slots = s.slots ∧ (setThermGates s).gains = s.gains ∧ (setThermGates s).rods = s.rods ∧
    (setThermGates s).routeRefs = s.routeRefs ∧ (setThermGates s).resets = s.resets ∧
    (setThermGates s).exitReports = s.exitReports ∧ (setThermGates s).combSat = s.combSat ∧
    (setThermGates s).mutes = s.mutes ∧ (setThermGates s).olp = s.olp ∧ (setThermGates s).commit = s.commit ∧
    (setThermGates s).windows = s.windows ∧ (setThermGates s).gov = s.gov ∧ (setThermGates s).govSnap = s.govSnap ∧
    (setThermGates s).prot = s.prot ∧ (setThermGates s).lic = s.lic ∧ (setThermGates s).sent = s.sent ∧
    (setThermGates s).links = s.links ∧ (setThermGates s).cap = s.cap ∧ (setThermGates s).flt = s.flt ∧
    (setThermGates s).tally = s.tally ∧ (setThermGates s).therm = s.therm ∧ (setThermGates s).life = s.life ∧
    (setThermGates s).pins = s.pins ∧ (setThermGates s).nv = s.nv ∧ (setThermGates s).free = s.free ∧
    (setThermGates s).pending = s.pending := by
  simp [setThermGates]

@[simp] theorem recordFailure_keeps (s : State) (ch : ℕ) (word : ℕ) :
    (recordFailure s ch word).time = s.time ∧ (recordFailure s ch word).objs = s.objs ∧
    (recordFailure s ch word).clk = s.clk ∧ (recordFailure s ch word).slots = s.slots ∧
    (recordFailure s ch word).gains = s.gains ∧ (recordFailure s ch word).rods = s.rods ∧
    (recordFailure s ch word).buses = s.buses ∧ (recordFailure s ch word).routeRefs = s.routeRefs ∧
    (recordFailure s ch word).resets = s.resets ∧ (recordFailure s ch word).exitReports = s.exitReports ∧
    (recordFailure s ch word).combSat = s.combSat ∧ (recordFailure s ch word).mutes = s.mutes ∧
    (recordFailure s ch word).olp = s.olp ∧ (recordFailure s ch word).commit = s.commit ∧
    (recordFailure s ch word).windows = s.windows ∧ (recordFailure s ch word).gov = s.gov ∧
    (recordFailure s ch word).govSnap = s.govSnap ∧ (recordFailure s ch word).prot = s.prot ∧
    (recordFailure s ch word).lic = s.lic ∧ (recordFailure s ch word).sent = s.sent ∧
    (recordFailure s ch word).links = s.links ∧ (recordFailure s ch word).cap = s.cap ∧
    (recordFailure s ch word).flt = s.flt ∧ (recordFailure s ch word).tally = s.tally ∧
    (recordFailure s ch word).therm = s.therm ∧ (recordFailure s ch word).life = s.life ∧
    (recordFailure s ch word).pins = s.pins ∧ (recordFailure s ch word).nv = s.nv ∧
    (recordFailure s ch word).out = s.out ∧ (recordFailure s ch word).free = s.free ∧
    (recordFailure s ch word).pending = s.pending := by
  simp [recordFailure]

@[simp] theorem countPoisoned_keeps (s : State) (ch : ℕ) (word : ℕ) :
    (countPoisoned s ch word).time = s.time ∧ (countPoisoned s ch word).objs = s.objs ∧
    (countPoisoned s ch word).clk = s.clk ∧ (countPoisoned s ch word).slots = s.slots ∧
    (countPoisoned s ch word).gains = s.gains ∧ (countPoisoned s ch word).chans = s.chans ∧
    (countPoisoned s ch word).buses = s.buses ∧ (countPoisoned s ch word).routeRefs = s.routeRefs ∧
    (countPoisoned s ch word).resets = s.resets ∧ (countPoisoned s ch word).exitReports = s.exitReports ∧
    (countPoisoned s ch word).combSat = s.combSat ∧ (countPoisoned s ch word).mutes = s.mutes ∧
    (countPoisoned s ch word).olp = s.olp ∧ (countPoisoned s ch word).commit = s.commit ∧
    (countPoisoned s ch word).windows = s.windows ∧ (countPoisoned s ch word).gov = s.gov ∧
    (countPoisoned s ch word).govSnap = s.govSnap ∧ (countPoisoned s ch word).prot = s.prot ∧
    (countPoisoned s ch word).lic = s.lic ∧ (countPoisoned s ch word).sent = s.sent ∧
    (countPoisoned s ch word).links = s.links ∧ (countPoisoned s ch word).cap = s.cap ∧
    (countPoisoned s ch word).therm = s.therm ∧ (countPoisoned s ch word).life = s.life ∧
    (countPoisoned s ch word).pins = s.pins ∧ (countPoisoned s ch word).nv = s.nv ∧
    (countPoisoned s ch word).out = s.out ∧ (countPoisoned s ch word).free = s.free ∧
    (countPoisoned s ch word).pending = s.pending := by
  simp [countPoisoned]

@[simp] theorem countLost_keeps (s : State) (ch : ℕ) (word : ℕ) (f : Nines → Nines) :
    (countLost s ch word f).time = s.time ∧ (countLost s ch word f).objs = s.objs ∧
    (countLost s ch word f).clk = s.clk ∧ (countLost s ch word f).slots = s.slots ∧
    (countLost s ch word f).gains = s.gains ∧ (countLost s ch word f).buses = s.buses ∧
    (countLost s ch word f).routeRefs = s.routeRefs ∧ (countLost s ch word f).resets = s.resets ∧
    (countLost s ch word f).exitReports = s.exitReports ∧ (countLost s ch word f).combSat = s.combSat ∧
    (countLost s ch word f).mutes = s.mutes ∧ (countLost s ch word f).olp = s.olp ∧
    (countLost s ch word f).commit = s.commit ∧ (countLost s ch word f).windows = s.windows ∧
    (countLost s ch word f).gov = s.gov ∧ (countLost s ch word f).govSnap = s.govSnap ∧
    (countLost s ch word f).prot = s.prot ∧ (countLost s ch word f).lic = s.lic ∧
    (countLost s ch word f).sent = s.sent ∧ (countLost s ch word f).links = s.links ∧
    (countLost s ch word f).cap = s.cap ∧ (countLost s ch word f).therm = s.therm ∧
    (countLost s ch word f).life = s.life ∧ (countLost s ch word f).pins = s.pins ∧
    (countLost s ch word f).nv = s.nv ∧ (countLost s ch word f).out = s.out ∧
    (countLost s ch word f).free = s.free ∧
    (countLost s ch word f).pending = s.pending := by
  simp [countLost]

@[simp] theorem recordFails_keeps (s : State) (ch : ℕ) (inject : Option (ℕ × ℕ)) (fails : List (ℕ × ℕ)) :
    (recordFails s ch inject fails).2.time = s.time ∧ (recordFails s ch inject fails).2.objs = s.objs ∧
    (recordFails s ch inject fails).2.clk = s.clk ∧ (recordFails s ch inject fails).2.slots = s.slots ∧
    (recordFails s ch inject fails).2.gains = s.gains ∧ (recordFails s ch inject fails).2.rods = s.rods ∧
    (recordFails s ch inject fails).2.buses = s.buses ∧ (recordFails s ch inject fails).2.routeRefs = s.routeRefs ∧
    (recordFails s ch inject fails).2.resets = s.resets ∧
    (recordFails s ch inject fails).2.exitReports = s.exitReports ∧
    (recordFails s ch inject fails).2.combSat = s.combSat ∧ (recordFails s ch inject fails).2.mutes = s.mutes ∧
    (recordFails s ch inject fails).2.olp = s.olp ∧ (recordFails s ch inject fails).2.commit = s.commit ∧
    (recordFails s ch inject fails).2.windows = s.windows ∧ (recordFails s ch inject fails).2.gov = s.gov ∧
    (recordFails s ch inject fails).2.govSnap = s.govSnap ∧ (recordFails s ch inject fails).2.prot = s.prot ∧
    (recordFails s ch inject fails).2.lic = s.lic ∧ (recordFails s ch inject fails).2.sent = s.sent ∧
    (recordFails s ch inject fails).2.links = s.links ∧ (recordFails s ch inject fails).2.cap = s.cap ∧
    (recordFails s ch inject fails).2.flt = s.flt ∧ (recordFails s ch inject fails).2.tally = s.tally ∧
    (recordFails s ch inject fails).2.therm = s.therm ∧ (recordFails s ch inject fails).2.life = s.life ∧
    (recordFails s ch inject fails).2.pins = s.pins ∧ (recordFails s ch inject fails).2.nv = s.nv ∧
    (recordFails s ch inject fails).2.out = s.out ∧ (recordFails s ch inject fails).2.free = s.free ∧
    (recordFails s ch inject fails).2.pending = s.pending := by
  unfold recordFails; (repeat' split) <;> simp

@[simp] theorem inheritedBlock_keeps (inp : FrameInput) (s : State) (ch : ℕ) (inject : Option (ℕ × ℕ)) (entry : Bool) (inherited : Bool) (w : Work) :
    (inheritedBlock inp s ch inject entry inherited w).time = s.time ∧
    (inheritedBlock inp s ch inject entry inherited w).objs = s.objs ∧
    (inheritedBlock inp s ch inject entry inherited w).clk = s.clk ∧
    (inheritedBlock inp s ch inject entry inherited w).gains = s.gains ∧
    (inheritedBlock inp s ch inject entry inherited w).rods = s.rods ∧
    (inheritedBlock inp s ch inject entry inherited w).buses = s.buses ∧
    (inheritedBlock inp s ch inject entry inherited w).routeRefs = s.routeRefs ∧
    (inheritedBlock inp s ch inject entry inherited w).resets = s.resets ∧
    (inheritedBlock inp s ch inject entry inherited w).exitReports = s.exitReports ∧
    (inheritedBlock inp s ch inject entry inherited w).combSat = s.combSat ∧
    (inheritedBlock inp s ch inject entry inherited w).mutes = s.mutes ∧
    (inheritedBlock inp s ch inject entry inherited w).olp = s.olp ∧
    (inheritedBlock inp s ch inject entry inherited w).commit = s.commit ∧
    (inheritedBlock inp s ch inject entry inherited w).windows = s.windows ∧
    (inheritedBlock inp s ch inject entry inherited w).gov = s.gov ∧
    (inheritedBlock inp s ch inject entry inherited w).govSnap = s.govSnap ∧
    (inheritedBlock inp s ch inject entry inherited w).prot = s.prot ∧
    (inheritedBlock inp s ch inject entry inherited w).lic = s.lic ∧
    (inheritedBlock inp s ch inject entry inherited w).sent = s.sent ∧
    (inheritedBlock inp s ch inject entry inherited w).links = s.links ∧
    (inheritedBlock inp s ch inject entry inherited w).cap = s.cap ∧
    (inheritedBlock inp s ch inject entry inherited w).flt = s.flt ∧
    (inheritedBlock inp s ch inject entry inherited w).tally = s.tally ∧
    (inheritedBlock inp s ch inject entry inherited w).therm = s.therm ∧
    (inheritedBlock inp s ch inject entry inherited w).life = s.life ∧
    (inheritedBlock inp s ch inject entry inherited w).pins = s.pins ∧
    (inheritedBlock inp s ch inject entry inherited w).nv = s.nv ∧
    (inheritedBlock inp s ch inject entry inherited w).out = s.out ∧
    (inheritedBlock inp s ch inject entry inherited w).free = s.free ∧
    (inheritedBlock inp s ch inject entry inherited w).pending = s.pending := by
  simp [inheritedBlock]

@[simp] theorem failedBlock_keeps (inp : FrameInput) (st : RodRun) (ch : ℕ) (inject : Option (ℕ × ℕ)) (double : Bool) (fails : List (ℕ × ℕ)) :
    (failedBlock inp st ch inject double fails).1.time = st.1.time ∧
    (failedBlock inp st ch inject double fails).1.objs = st.1.objs ∧
    (failedBlock inp st ch inject double fails).1.clk = st.1.clk ∧
    (failedBlock inp st ch inject double fails).1.gains = st.1.gains ∧
    (failedBlock inp st ch inject double fails).1.buses = st.1.buses ∧
    (failedBlock inp st ch inject double fails).1.routeRefs = st.1.routeRefs ∧
    (failedBlock inp st ch inject double fails).1.resets = st.1.resets ∧
    (failedBlock inp st ch inject double fails).1.exitReports = st.1.exitReports ∧
    (failedBlock inp st ch inject double fails).1.combSat = st.1.combSat ∧
    (failedBlock inp st ch inject double fails).1.mutes = st.1.mutes ∧
    (failedBlock inp st ch inject double fails).1.olp = st.1.olp ∧
    (failedBlock inp st ch inject double fails).1.commit = st.1.commit ∧
    (failedBlock inp st ch inject double fails).1.windows = st.1.windows ∧
    (failedBlock inp st ch inject double fails).1.gov = st.1.gov ∧
    (failedBlock inp st ch inject double fails).1.govSnap = st.1.govSnap ∧
    (failedBlock inp st ch inject double fails).1.prot = st.1.prot ∧
    (failedBlock inp st ch inject double fails).1.lic = st.1.lic ∧
    (failedBlock inp st ch inject double fails).1.sent = st.1.sent ∧
    (failedBlock inp st ch inject double fails).1.links = st.1.links ∧
    (failedBlock inp st ch inject double fails).1.cap = st.1.cap ∧
    (failedBlock inp st ch inject double fails).1.therm = st.1.therm ∧
    (failedBlock inp st ch inject double fails).1.life = st.1.life ∧
    (failedBlock inp st ch inject double fails).1.pins = st.1.pins ∧
    (failedBlock inp st ch inject double fails).1.nv = st.1.nv ∧
    (failedBlock inp st ch inject double fails).1.out = st.1.out ∧
    (failedBlock inp st ch inject double fails).1.free = st.1.free ∧
    (failedBlock inp st ch inject double fails).1.pending = st.1.pending := by
  simp [failedBlock]

@[simp] theorem ninesBlock_keeps (inp : FrameInput) (st : RodRun) (ch : ℕ) :
    (ninesBlock inp st ch).1.time = st.1.time ∧ (ninesBlock inp st ch).1.objs = st.1.objs ∧
    (ninesBlock inp st ch).1.clk = st.1.clk ∧ (ninesBlock inp st ch).1.gains = st.1.gains ∧
    (ninesBlock inp st ch).1.buses = st.1.buses ∧ (ninesBlock inp st ch).1.routeRefs = st.1.routeRefs ∧
    (ninesBlock inp st ch).1.resets = st.1.resets ∧ (ninesBlock inp st ch).1.exitReports = st.1.exitReports ∧
    (ninesBlock inp st ch).1.combSat = st.1.combSat ∧ (ninesBlock inp st ch).1.mutes = st.1.mutes ∧
    (ninesBlock inp st ch).1.olp = st.1.olp ∧ (ninesBlock inp st ch).1.commit = st.1.commit ∧
    (ninesBlock inp st ch).1.windows = st.1.windows ∧ (ninesBlock inp st ch).1.gov = st.1.gov ∧
    (ninesBlock inp st ch).1.govSnap = st.1.govSnap ∧ (ninesBlock inp st ch).1.prot = st.1.prot ∧
    (ninesBlock inp st ch).1.lic = st.1.lic ∧ (ninesBlock inp st ch).1.sent = st.1.sent ∧
    (ninesBlock inp st ch).1.links = st.1.links ∧ (ninesBlock inp st ch).1.cap = st.1.cap ∧
    (ninesBlock inp st ch).1.therm = st.1.therm ∧ (ninesBlock inp st ch).1.life = st.1.life ∧
    (ninesBlock inp st ch).1.pins = st.1.pins ∧ (ninesBlock inp st ch).1.nv = st.1.nv ∧
    (ninesBlock inp st ch).1.out = st.1.out ∧ (ninesBlock inp st ch).1.free = st.1.free ∧
    (ninesBlock inp st ch).1.pending = st.1.pending := by
  simp [ninesBlock]

theorem foldFst_keep {β : Type} (P : State → β) (f : RodRun → Nat → RodRun) (h : ∀ u x, P (f u x).1 = P u.1) (xs : List Nat) :
    ∀ u, P (xs.foldl f u).1 = P u.1 := by
  induction xs with
  | nil => intro u; rfl
  | cons x xs ih => intro u; exact (ih _).trans (h u x)

@[simp] theorem ninesFrame_keeps (inp : FrameInput) (s : State) :
    (ninesFrame inp s).time = s.time ∧ (ninesFrame inp s).objs = s.objs ∧ (ninesFrame inp s).clk = s.clk ∧
    (ninesFrame inp s).gains = s.gains ∧ (ninesFrame inp s).buses = s.buses ∧
    (ninesFrame inp s).routeRefs = s.routeRefs ∧ (ninesFrame inp s).resets = s.resets ∧
    (ninesFrame inp s).exitReports = s.exitReports ∧ (ninesFrame inp s).combSat = s.combSat ∧
    (ninesFrame inp s).mutes = s.mutes ∧ (ninesFrame inp s).olp = s.olp ∧ (ninesFrame inp s).commit = s.commit ∧
    (ninesFrame inp s).windows = s.windows ∧ (ninesFrame inp s).gov = s.gov ∧
    (ninesFrame inp s).govSnap = s.govSnap ∧ (ninesFrame inp s).prot = s.prot ∧ (ninesFrame inp s).lic = s.lic ∧
    (ninesFrame inp s).sent = s.sent ∧ (ninesFrame inp s).links = s.links ∧ (ninesFrame inp s).cap = s.cap ∧
    (ninesFrame inp s).therm = s.therm ∧ (ninesFrame inp s).life = s.life ∧ (ninesFrame inp s).pins = s.pins ∧
    (ninesFrame inp s).nv = s.nv ∧ (ninesFrame inp s).out = s.out ∧ (ninesFrame inp s).free = s.free ∧
    (ninesFrame inp s).pending = s.pending := by
  have h : ∀ (β : Type) (P : State → β), (∀ u x, P (ninesBlock inp u x).1 = P u.1) → P (ninesFrame inp s) = P s := fun _ P hP =>
    forEach_keep P _ _ (fun u r => by split; exacts [foldFst_keep P _ hP _ _, rfl]) s
  exact ⟨h _ State.time (by simp), h _ State.objs (by simp), h _ State.clk (by simp), h _ State.gains (by simp), h _ State.buses (by simp), h _ State.routeRefs (by simp), h _ State.resets (by simp), h _ State.exitReports (by simp), h _ State.combSat (by simp), h _ State.mutes (by simp), h _ State.olp (by simp), h _ State.commit (by simp), h _ State.windows (by simp), h _ State.gov (by simp), h _ State.govSnap (by simp), h _ State.prot (by simp), h _ State.lic (by simp), h _ State.sent (by simp), h _ State.links (by simp), h _ State.cap (by simp), h _ State.therm (by simp), h _ State.life (by simp), h _ State.pins (by simp), h _ State.nv (by simp), h _ State.out (by simp), h _ State.free (by simp), h _ State.pending (by simp)⟩

@[simp] theorem ninesPersistence_keeps (s : State) :
    (ninesPersistence s).time = s.time ∧ (ninesPersistence s).objs = s.objs ∧ (ninesPersistence s).clk = s.clk ∧
    (ninesPersistence s).slots = s.slots ∧ (ninesPersistence s).gains = s.gains ∧
    (ninesPersistence s).chans = s.chans ∧ (ninesPersistence s).buses = s.buses ∧
    (ninesPersistence s).routeRefs = s.routeRefs ∧ (ninesPersistence s).resets = s.resets ∧
    (ninesPersistence s).exitReports = s.exitReports ∧ (ninesPersistence s).combSat = s.combSat ∧
    (ninesPersistence s).mutes = s.mutes ∧ (ninesPersistence s).olp = s.olp ∧
    (ninesPersistence s).commit = s.commit ∧ (ninesPersistence s).windows = s.windows ∧
    (ninesPersistence s).gov = s.gov ∧ (ninesPersistence s).govSnap = s.govSnap ∧
    (ninesPersistence s).prot = s.prot ∧ (ninesPersistence s).lic = s.lic ∧ (ninesPersistence s).sent = s.sent ∧
    (ninesPersistence s).links = s.links ∧ (ninesPersistence s).cap = s.cap ∧ (ninesPersistence s).tally = s.tally ∧
    (ninesPersistence s).therm = s.therm ∧ (ninesPersistence s).life = s.life ∧ (ninesPersistence s).pins = s.pins ∧
    (ninesPersistence s).nv = s.nv ∧ (ninesPersistence s).out = s.out ∧ (ninesPersistence s).free = s.free ∧
    (ninesPersistence s).pending = s.pending := by
  simp [ninesPersistence]

@[simp] theorem checker_keeps (s : State) (disagree : Bool) :
    (checker s disagree).time = s.time ∧ (checker s disagree).objs = s.objs ∧ (checker s disagree).clk = s.clk ∧
    (checker s disagree).slots = s.slots ∧ (checker s disagree).gains = s.gains ∧
    (checker s disagree).rods = s.rods ∧ (checker s disagree).routeRefs = s.routeRefs ∧
    (checker s disagree).resets = s.resets ∧ (checker s disagree).exitReports = s.exitReports ∧
    (checker s disagree).combSat = s.combSat ∧ (checker s disagree).olp = s.olp ∧
    (checker s disagree).commit = s.commit ∧ (checker s disagree).windows = s.windows ∧
    (checker s disagree).gov = s.gov ∧ (checker s disagree).govSnap = s.govSnap ∧
    (checker s disagree).prot = s.prot ∧ (checker s disagree).lic = s.lic ∧ (checker s disagree).sent = s.sent ∧
    (checker s disagree).links = s.links ∧ (checker s disagree).therm = s.therm ∧
    (checker s disagree).pins = s.pins ∧ (checker s disagree).nv = s.nv ∧ (checker s disagree).free = s.free ∧
    (checker s disagree).pending = s.pending := by
  simp [checker]

@[simp] theorem modCode_keeps (s : State) (code : ℕ) (f : CodeState → CodeState) :
    (modCode s code f).time = s.time ∧ (modCode s code f).objs = s.objs ∧ (modCode s code f).clk = s.clk ∧
    (modCode s code f).slots = s.slots ∧ (modCode s code f).gains = s.gains ∧ (modCode s code f).chans = s.chans ∧
    (modCode s code f).rods = s.rods ∧ (modCode s code f).buses = s.buses ∧
    (modCode s code f).routeRefs = s.routeRefs ∧ (modCode s code f).resets = s.resets ∧
    (modCode s code f).exitReports = s.exitReports ∧ (modCode s code f).combSat = s.combSat ∧
    (modCode s code f).mutes = s.mutes ∧ (modCode s code f).olp = s.olp ∧ (modCode s code f).commit = s.commit ∧
    (modCode s code f).windows = s.windows ∧ (modCode s code f).gov = s.gov ∧
    (modCode s code f).govSnap = s.govSnap ∧ (modCode s code f).prot = s.prot ∧ (modCode s code f).lic = s.lic ∧
    (modCode s code f).sent = s.sent ∧ (modCode s code f).links = s.links ∧ (modCode s code f).cap = s.cap ∧
    (modCode s code f).flt = s.flt ∧ (modCode s code f).therm = s.therm ∧ (modCode s code f).life = s.life ∧
    (modCode s code f).pins = s.pins ∧ (modCode s code f).nv = s.nv ∧ (modCode s code f).out = s.out ∧
    (modCode s code f).free = s.free ∧
    (modCode s code f).pending = s.pending := by
  simp [modCode]

@[simp] theorem dueStops_keeps (s : State) :
    (dueStops s).time = s.time ∧ (dueStops s).objs = s.objs ∧ (dueStops s).clk = s.clk ∧
    (dueStops s).slots = s.slots ∧ (dueStops s).gains = s.gains ∧ (dueStops s).chans = s.chans ∧
    (dueStops s).rods = s.rods ∧ (dueStops s).buses = s.buses ∧ (dueStops s).routeRefs = s.routeRefs ∧
    (dueStops s).resets = s.resets ∧ (dueStops s).exitReports = s.exitReports ∧ (dueStops s).combSat = s.combSat ∧
    (dueStops s).mutes = s.mutes ∧ (dueStops s).gov = s.gov ∧ (dueStops s).prot = s.prot ∧
    (dueStops s).lic = s.lic ∧ (dueStops s).sent = s.sent ∧ (dueStops s).links = s.links ∧
    (dueStops s).cap = s.cap ∧ (dueStops s).therm = s.therm ∧ (dueStops s).pins = s.pins ∧
    (dueStops s).out = s.out ∧ (dueStops s).free = s.free ∧
    (dueStops s).pending = s.pending := by
  unfold dueStops; (repeat' split) <;> simp

@[simp] theorem shutdownReturn_keeps (s : State) :
    (shutdownReturn s).time = s.time ∧ (shutdownReturn s).objs = s.objs ∧ (shutdownReturn s).clk = s.clk ∧
    (shutdownReturn s).slots = s.slots ∧ (shutdownReturn s).gains = s.gains ∧
    (shutdownReturn s).routeRefs = s.routeRefs ∧ (shutdownReturn s).resets = s.resets ∧
    (shutdownReturn s).exitReports = s.exitReports ∧ (shutdownReturn s).combSat = s.combSat ∧
    (shutdownReturn s).olp = s.olp ∧ (shutdownReturn s).commit = s.commit ∧ (shutdownReturn s).windows = s.windows ∧
    (shutdownReturn s).gov = s.gov ∧ (shutdownReturn s).govSnap = s.govSnap ∧ (shutdownReturn s).prot = s.prot ∧
    (shutdownReturn s).lic = s.lic ∧ (shutdownReturn s).sent = s.sent ∧ (shutdownReturn s).links = s.links ∧
    (shutdownReturn s).flt = s.flt ∧ (shutdownReturn s).therm = s.therm ∧ (shutdownReturn s).pins = s.pins ∧
    (shutdownReturn s).nv = s.nv ∧ (shutdownReturn s).free = s.free ∧
    (shutdownReturn s).pending = s.pending := by
  unfold shutdownReturn; (repeat' split) <;> simp

@[simp] theorem touchWindow_keeps (s : State) (m : ℕ) (w : ℕ) :
    (touchWindow s m w).time = s.time ∧ (touchWindow s m w).objs = s.objs ∧ (touchWindow s m w).clk = s.clk ∧
    (touchWindow s m w).slots = s.slots ∧ (touchWindow s m w).gains = s.gains ∧
    (touchWindow s m w).chans = s.chans ∧ (touchWindow s m w).rods = s.rods ∧ (touchWindow s m w).buses = s.buses ∧
    (touchWindow s m w).routeRefs = s.routeRefs ∧ (touchWindow s m w).resets = s.resets ∧
    (touchWindow s m w).exitReports = s.exitReports ∧ (touchWindow s m w).combSat = s.combSat ∧
    (touchWindow s m w).mutes = s.mutes ∧ (touchWindow s m w).olp = s.olp ∧ (touchWindow s m w).commit = s.commit ∧
    (touchWindow s m w).gov = s.gov ∧ (touchWindow s m w).govSnap = s.govSnap ∧ (touchWindow s m w).prot = s.prot ∧
    (touchWindow s m w).lic = s.lic ∧ (touchWindow s m w).sent = s.sent ∧ (touchWindow s m w).links = s.links ∧
    (touchWindow s m w).cap = s.cap ∧ (touchWindow s m w).flt = s.flt ∧ (touchWindow s m w).tally = s.tally ∧
    (touchWindow s m w).therm = s.therm ∧ (touchWindow s m w).life = s.life ∧ (touchWindow s m w).pins = s.pins ∧
    (touchWindow s m w).nv = s.nv ∧ (touchWindow s m w).out = s.out ∧ (touchWindow s m w).free = s.free ∧
    (touchWindow s m w).pending = s.pending := by
  simp [touchWindow]

@[simp] theorem noteMoved_keeps (s : State) (w : ℕ) (ws : List Word) (wrote : Bool) :
    (noteMoved s w ws wrote).time = s.time ∧ (noteMoved s w ws wrote).objs = s.objs ∧
    (noteMoved s w ws wrote).clk = s.clk ∧ (noteMoved s w ws wrote).slots = s.slots ∧
    (noteMoved s w ws wrote).gains = s.gains ∧ (noteMoved s w ws wrote).chans = s.chans ∧
    (noteMoved s w ws wrote).rods = s.rods ∧ (noteMoved s w ws wrote).buses = s.buses ∧
    (noteMoved s w ws wrote).routeRefs = s.routeRefs ∧ (noteMoved s w ws wrote).resets = s.resets ∧
    (noteMoved s w ws wrote).exitReports = s.exitReports ∧ (noteMoved s w ws wrote).combSat = s.combSat ∧
    (noteMoved s w ws wrote).mutes = s.mutes ∧ (noteMoved s w ws wrote).olp = s.olp ∧
    (noteMoved s w ws wrote).commit = s.commit ∧ (noteMoved s w ws wrote).gov = s.gov ∧
    (noteMoved s w ws wrote).govSnap = s.govSnap ∧ (noteMoved s w ws wrote).prot = s.prot ∧
    (noteMoved s w ws wrote).lic = s.lic ∧ (noteMoved s w ws wrote).sent = s.sent ∧
    (noteMoved s w ws wrote).links = s.links ∧ (noteMoved s w ws wrote).cap = s.cap ∧
    (noteMoved s w ws wrote).flt = s.flt ∧ (noteMoved s w ws wrote).tally = s.tally ∧
    (noteMoved s w ws wrote).therm = s.therm ∧ (noteMoved s w ws wrote).life = s.life ∧
    (noteMoved s w ws wrote).pins = s.pins ∧ (noteMoved s w ws wrote).nv = s.nv ∧
    (noteMoved s w ws wrote).out = s.out ∧ (noteMoved s w ws wrote).free = s.free ∧
    (noteMoved s w ws wrote).pending = s.pending := by
  simp [noteMoved]

@[simp] theorem tallyRead_keeps (s : State) (n : ℕ) :
    (tallyRead s n).2.2.time = s.time ∧ (tallyRead s n).2.2.objs = s.objs ∧ (tallyRead s n).2.2.clk = s.clk ∧
    (tallyRead s n).2.2.slots = s.slots ∧ (tallyRead s n).2.2.gains = s.gains ∧
    (tallyRead s n).2.2.chans = s.chans ∧ (tallyRead s n).2.2.rods = s.rods ∧ (tallyRead s n).2.2.buses = s.buses ∧
    (tallyRead s n).2.2.routeRefs = s.routeRefs ∧ (tallyRead s n).2.2.resets = s.resets ∧
    (tallyRead s n).2.2.exitReports = s.exitReports ∧ (tallyRead s n).2.2.combSat = s.combSat ∧
    (tallyRead s n).2.2.mutes = s.mutes ∧ (tallyRead s n).2.2.olp = s.olp ∧ (tallyRead s n).2.2.commit = s.commit ∧
    (tallyRead s n).2.2.gov = s.gov ∧ (tallyRead s n).2.2.govSnap = s.govSnap ∧ (tallyRead s n).2.2.prot = s.prot ∧
    (tallyRead s n).2.2.lic = s.lic ∧ (tallyRead s n).2.2.sent = s.sent ∧ (tallyRead s n).2.2.links = s.links ∧
    (tallyRead s n).2.2.cap = s.cap ∧ (tallyRead s n).2.2.flt = s.flt ∧ (tallyRead s n).2.2.therm = s.therm ∧
    (tallyRead s n).2.2.life = s.life ∧ (tallyRead s n).2.2.pins = s.pins ∧ (tallyRead s n).2.2.nv = s.nv ∧
    (tallyRead s n).2.2.out = s.out ∧ (tallyRead s n).2.2.free = s.free ∧
    (tallyRead s n).2.2.pending = s.pending := by
  simp [tallyRead]

@[simp] theorem dataRead_keeps (s : State) (m : ℕ) (w : ℕ) (n : ℕ) :
    (dataRead s m w n).2.2.time = s.time ∧ (dataRead s m w n).2.2.objs = s.objs ∧
    (dataRead s m w n).2.2.clk = s.clk ∧ (dataRead s m w n).2.2.slots = s.slots ∧
    (dataRead s m w n).2.2.gains = s.gains ∧ (dataRead s m w n).2.2.chans = s.chans ∧
    (dataRead s m w n).2.2.rods = s.rods ∧ (dataRead s m w n).2.2.buses = s.buses ∧
    (dataRead s m w n).2.2.routeRefs = s.routeRefs ∧ (dataRead s m w n).2.2.resets = s.resets ∧
    (dataRead s m w n).2.2.exitReports = s.exitReports ∧ (dataRead s m w n).2.2.combSat = s.combSat ∧
    (dataRead s m w n).2.2.mutes = s.mutes ∧ (dataRead s m w n).2.2.olp = s.olp ∧
    (dataRead s m w n).2.2.commit = s.commit ∧ (dataRead s m w n).2.2.gov = s.gov ∧
    (dataRead s m w n).2.2.govSnap = s.govSnap ∧ (dataRead s m w n).2.2.prot = s.prot ∧
    (dataRead s m w n).2.2.lic = s.lic ∧ (dataRead s m w n).2.2.sent = s.sent ∧
    (dataRead s m w n).2.2.links = s.links ∧ (dataRead s m w n).2.2.cap = s.cap ∧
    (dataRead s m w n).2.2.flt = s.flt ∧ (dataRead s m w n).2.2.therm = s.therm ∧
    (dataRead s m w n).2.2.life = s.life ∧ (dataRead s m w n).2.2.pins = s.pins ∧ (dataRead s m w n).2.2.nv = s.nv ∧
    (dataRead s m w n).2.2.out = s.out ∧ (dataRead s m w n).2.2.free = s.free ∧
    (dataRead s m w n).2.2.pending = s.pending := by
  simp [dataRead]

@[simp] theorem windowSealed_keeps (s : State) (w : ℕ) :
    (windowSealed s w).time = s.time ∧ (windowSealed s w).objs = s.objs ∧ (windowSealed s w).clk = s.clk ∧
    (windowSealed s w).slots = s.slots ∧ (windowSealed s w).gains = s.gains ∧ (windowSealed s w).chans = s.chans ∧
    (windowSealed s w).rods = s.rods ∧ (windowSealed s w).buses = s.buses ∧
    (windowSealed s w).routeRefs = s.routeRefs ∧ (windowSealed s w).resets = s.resets ∧
    (windowSealed s w).exitReports = s.exitReports ∧ (windowSealed s w).combSat = s.combSat ∧
    (windowSealed s w).mutes = s.mutes ∧ (windowSealed s w).olp = s.olp ∧ (windowSealed s w).commit = s.commit ∧
    (windowSealed s w).gov = s.gov ∧ (windowSealed s w).govSnap = s.govSnap ∧ (windowSealed s w).prot = s.prot ∧
    (windowSealed s w).lic = s.lic ∧ (windowSealed s w).sent = s.sent ∧ (windowSealed s w).links = s.links ∧
    (windowSealed s w).cap = s.cap ∧ (windowSealed s w).flt = s.flt ∧ (windowSealed s w).tally = s.tally ∧
    (windowSealed s w).therm = s.therm ∧ (windowSealed s w).life = s.life ∧ (windowSealed s w).pins = s.pins ∧
    (windowSealed s w).nv = s.nv ∧ (windowSealed s w).out = s.out ∧ (windowSealed s w).free = s.free ∧
    (windowSealed s w).pending = s.pending := by
  simp [windowSealed]

@[simp] theorem spectraFrame_keeps (s : State) :
    (spectraFrame s).time = s.time ∧ (spectraFrame s).objs = s.objs ∧ (spectraFrame s).clk = s.clk ∧
    (spectraFrame s).gains = s.gains ∧ (spectraFrame s).chans = s.chans ∧ (spectraFrame s).rods = s.rods ∧
    (spectraFrame s).buses = s.buses ∧ (spectraFrame s).routeRefs = s.routeRefs ∧
    (spectraFrame s).resets = s.resets ∧ (spectraFrame s).exitReports = s.exitReports ∧
    (spectraFrame s).combSat = s.combSat ∧ (spectraFrame s).mutes = s.mutes ∧ (spectraFrame s).olp = s.olp ∧
    (spectraFrame s).commit = s.commit ∧ (spectraFrame s).windows = s.windows ∧ (spectraFrame s).gov = s.gov ∧
    (spectraFrame s).govSnap = s.govSnap ∧ (spectraFrame s).prot = s.prot ∧ (spectraFrame s).lic = s.lic ∧
    (spectraFrame s).sent = s.sent ∧ (spectraFrame s).links = s.links ∧ (spectraFrame s).cap = s.cap ∧
    (spectraFrame s).flt = s.flt ∧ (spectraFrame s).tally = s.tally ∧ (spectraFrame s).therm = s.therm ∧
    (spectraFrame s).life = s.life ∧ (spectraFrame s).pins = s.pins ∧ (spectraFrame s).nv = s.nv ∧
    (spectraFrame s).out = s.out ∧ (spectraFrame s).free = s.free ∧
    (spectraFrame s).pending = s.pending := by
  simp [spectraFrame]

@[simp] theorem touch_keeps (s : State) (m : ℕ) (idx : ℕ) :
    (touch s m idx).time = s.time ∧ (touch s m idx).objs = s.objs ∧ (touch s m idx).clk = s.clk ∧
    (touch s m idx).slots = s.slots ∧ (touch s m idx).gains = s.gains ∧ (touch s m idx).chans = s.chans ∧
    (touch s m idx).rods = s.rods ∧ (touch s m idx).buses = s.buses ∧ (touch s m idx).routeRefs = s.routeRefs ∧
    (touch s m idx).resets = s.resets ∧ (touch s m idx).exitReports = s.exitReports ∧
    (touch s m idx).combSat = s.combSat ∧ (touch s m idx).mutes = s.mutes ∧ (touch s m idx).olp = s.olp ∧
    (touch s m idx).gov = s.gov ∧ (touch s m idx).govSnap = s.govSnap ∧ (touch s m idx).prot = s.prot ∧
    (touch s m idx).lic = s.lic ∧ (touch s m idx).sent = s.sent ∧ (touch s m idx).links = s.links ∧
    (touch s m idx).cap = s.cap ∧ (touch s m idx).flt = s.flt ∧ (touch s m idx).tally = s.tally ∧
    (touch s m idx).therm = s.therm ∧ (touch s m idx).life = s.life ∧ (touch s m idx).pins = s.pins ∧
    (touch s m idx).nv = s.nv ∧ (touch s m idx).out = s.out ∧ (touch s m idx).free = s.free ∧
    (touch s m idx).pending = s.pending := by
  simp [touch]

@[simp] theorem storeWrite_keeps (s : State) (idx : ℕ) (sub : ℕ) (v : ℕ) :
    (storeWrite s idx sub v).2.time = s.time ∧ (storeWrite s idx sub v).2.clk = s.clk ∧
    (storeWrite s idx sub v).2.slots = s.slots ∧ (storeWrite s idx sub v).2.gains = s.gains ∧
    (storeWrite s idx sub v).2.chans = s.chans ∧ (storeWrite s idx sub v).2.rods = s.rods ∧
    (storeWrite s idx sub v).2.buses = s.buses ∧ (storeWrite s idx sub v).2.routeRefs = s.routeRefs ∧
    (storeWrite s idx sub v).2.resets = s.resets ∧ (storeWrite s idx sub v).2.exitReports = s.exitReports ∧
    (storeWrite s idx sub v).2.combSat = s.combSat ∧ (storeWrite s idx sub v).2.mutes = s.mutes ∧
    (storeWrite s idx sub v).2.olp = s.olp ∧ (storeWrite s idx sub v).2.commit = s.commit ∧
    (storeWrite s idx sub v).2.windows = s.windows ∧ (storeWrite s idx sub v).2.gov = s.gov ∧
    (storeWrite s idx sub v).2.govSnap = s.govSnap ∧ (storeWrite s idx sub v).2.prot = s.prot ∧
    (storeWrite s idx sub v).2.lic = s.lic ∧ (storeWrite s idx sub v).2.sent = s.sent ∧
    (storeWrite s idx sub v).2.links = s.links ∧ (storeWrite s idx sub v).2.cap = s.cap ∧
    (storeWrite s idx sub v).2.flt = s.flt ∧ (storeWrite s idx sub v).2.tally = s.tally ∧
    (storeWrite s idx sub v).2.therm = s.therm ∧ (storeWrite s idx sub v).2.life = s.life ∧
    (storeWrite s idx sub v).2.pins = s.pins ∧ (storeWrite s idx sub v).2.nv = s.nv ∧
    (storeWrite s idx sub v).2.out = s.out ∧ (storeWrite s idx sub v).2.free = s.free ∧
    (storeWrite s idx sub v).2.pending = s.pending := by
  simp [storeWrite]

@[simp] theorem takeSnapshots_keeps (s : State) (idx : ℕ) :
    (takeSnapshots s idx).time = s.time ∧ (takeSnapshots s idx).objs = s.objs ∧ (takeSnapshots s idx).clk = s.clk ∧
    (takeSnapshots s idx).slots = s.slots ∧ (takeSnapshots s idx).gains = s.gains ∧
    (takeSnapshots s idx).chans = s.chans ∧ (takeSnapshots s idx).rods = s.rods ∧
    (takeSnapshots s idx).buses = s.buses ∧ (takeSnapshots s idx).routeRefs = s.routeRefs ∧
    (takeSnapshots s idx).resets = s.resets ∧ (takeSnapshots s idx).exitReports = s.exitReports ∧
    (takeSnapshots s idx).combSat = s.combSat ∧ (takeSnapshots s idx).mutes = s.mutes ∧
    (takeSnapshots s idx).olp = s.olp ∧ (takeSnapshots s idx).commit = s.commit ∧
    (takeSnapshots s idx).windows = s.windows ∧ (takeSnapshots s idx).gov = s.gov ∧
    (takeSnapshots s idx).prot = s.prot ∧ (takeSnapshots s idx).lic = s.lic ∧ (takeSnapshots s idx).sent = s.sent ∧
    (takeSnapshots s idx).links = s.links ∧ (takeSnapshots s idx).cap = s.cap ∧
    (takeSnapshots s idx).tally = s.tally ∧ (takeSnapshots s idx).therm = s.therm ∧
    (takeSnapshots s idx).life = s.life ∧ (takeSnapshots s idx).pins = s.pins ∧ (takeSnapshots s idx).nv = s.nv ∧
    (takeSnapshots s idx).out = s.out ∧ (takeSnapshots s idx).free = s.free ∧
    (takeSnapshots s idx).pending = s.pending := by
  simp [takeSnapshots]

@[simp] theorem snapView_keeps (s : State) (idx : ℕ) :
    (snapView s idx).time = s.time ∧ (snapView s idx).clk = s.clk ∧ (snapView s idx).slots = s.slots ∧
    (snapView s idx).chans = s.chans ∧ (snapView s idx).rods = s.rods ∧ (snapView s idx).buses = s.buses ∧
    (snapView s idx).routeRefs = s.routeRefs ∧ (snapView s idx).resets = s.resets ∧
    (snapView s idx).exitReports = s.exitReports ∧ (snapView s idx).combSat = s.combSat ∧
    (snapView s idx).mutes = s.mutes ∧ (snapView s idx).olp = s.olp ∧ (snapView s idx).commit = s.commit ∧
    (snapView s idx).windows = s.windows ∧ (snapView s idx).govSnap = s.govSnap ∧ (snapView s idx).prot = s.prot ∧
    (snapView s idx).lic = s.lic ∧ (snapView s idx).sent = s.sent ∧ (snapView s idx).links = s.links ∧
    (snapView s idx).cap = s.cap ∧ (snapView s idx).flt = s.flt ∧ (snapView s idx).tally = s.tally ∧
    (snapView s idx).therm = s.therm ∧ (snapView s idx).life = s.life ∧ (snapView s idx).pins = s.pins ∧
    (snapView s idx).nv = s.nv ∧ (snapView s idx).out = s.out ∧ (snapView s idx).free = s.free ∧
    (snapView s idx).pending = s.pending := by
  unfold snapView; (repeat' split) <;> simp

@[simp] theorem readObject_keeps (s : State) (m : ℕ) (idx : ℕ) (sub : ℕ) (n : ℕ) :
    (readObject s m idx sub n).2.2.time = s.time ∧ (readObject s m idx sub n).2.2.clk = s.clk ∧
    (readObject s m idx sub n).2.2.slots = s.slots ∧ (readObject s m idx sub n).2.2.chans = s.chans ∧
    (readObject s m idx sub n).2.2.rods = s.rods ∧ (readObject s m idx sub n).2.2.buses = s.buses ∧
    (readObject s m idx sub n).2.2.routeRefs = s.routeRefs ∧ (readObject s m idx sub n).2.2.resets = s.resets ∧
    (readObject s m idx sub n).2.2.exitReports = s.exitReports ∧
    (readObject s m idx sub n).2.2.combSat = s.combSat ∧ (readObject s m idx sub n).2.2.mutes = s.mutes ∧
    (readObject s m idx sub n).2.2.olp = s.olp ∧ (readObject s m idx sub n).2.2.prot = s.prot ∧
    (readObject s m idx sub n).2.2.lic = s.lic ∧ (readObject s m idx sub n).2.2.sent = s.sent ∧
    (readObject s m idx sub n).2.2.links = s.links ∧ (readObject s m idx sub n).2.2.cap = s.cap ∧
    (readObject s m idx sub n).2.2.therm = s.therm ∧ (readObject s m idx sub n).2.2.life = s.life ∧
    (readObject s m idx sub n).2.2.pins = s.pins ∧ (readObject s m idx sub n).2.2.nv = s.nv ∧
    (readObject s m idx sub n).2.2.out = s.out ∧ (readObject s m idx sub n).2.2.free = s.free ∧
    (readObject s m idx sub n).2.2.pending = s.pending := by
  unfold readObject; dsimp only; (repeat' split) <;> simp

@[simp] theorem noteChanges_keeps (s : State) :
    (noteChanges s).time = s.time ∧ (noteChanges s).objs = s.objs ∧ (noteChanges s).clk = s.clk ∧
    (noteChanges s).slots = s.slots ∧ (noteChanges s).gains = s.gains ∧ (noteChanges s).chans = s.chans ∧
    (noteChanges s).rods = s.rods ∧ (noteChanges s).buses = s.buses ∧ (noteChanges s).routeRefs = s.routeRefs ∧
    (noteChanges s).resets = s.resets ∧ (noteChanges s).exitReports = s.exitReports ∧
    (noteChanges s).combSat = s.combSat ∧ (noteChanges s).mutes = s.mutes ∧ (noteChanges s).commit = s.commit ∧
    (noteChanges s).windows = s.windows ∧ (noteChanges s).gov = s.gov ∧ (noteChanges s).govSnap = s.govSnap ∧
    (noteChanges s).prot = s.prot ∧ (noteChanges s).lic = s.lic ∧ (noteChanges s).sent = s.sent ∧
    (noteChanges s).links = s.links ∧ (noteChanges s).cap = s.cap ∧ (noteChanges s).flt = s.flt ∧
    (noteChanges s).tally = s.tally ∧ (noteChanges s).therm = s.therm ∧ (noteChanges s).life = s.life ∧
    (noteChanges s).pins = s.pins ∧ (noteChanges s).nv = s.nv ∧ (noteChanges s).out = s.out ∧
    (noteChanges s).free = s.free ∧
    (noteChanges s).pending = s.pending := by
  simp [noteChanges]

@[simp] theorem answer_keeps (s : State) (m : ℕ) (opcode : ℕ) (idx : ℕ) (sub : ℕ) (status : ℕ) (data : List Byte) :
    (answer s m opcode idx sub status data).time = s.time ∧ (answer s m opcode idx sub status data).objs = s.objs ∧
    (answer s m opcode idx sub status data).clk = s.clk ∧ (answer s m opcode idx sub status data).slots = s.slots ∧
    (answer s m opcode idx sub status data).gains = s.gains ∧
    (answer s m opcode idx sub status data).chans = s.chans ∧
    (answer s m opcode idx sub status data).rods = s.rods ∧
    (answer s m opcode idx sub status data).buses = s.buses ∧
    (answer s m opcode idx sub status data).routeRefs = s.routeRefs ∧
    (answer s m opcode idx sub status data).resets = s.resets ∧
    (answer s m opcode idx sub status data).exitReports = s.exitReports ∧
    (answer s m opcode idx sub status data).combSat = s.combSat ∧
    (answer s m opcode idx sub status data).mutes = s.mutes ∧ (answer s m opcode idx sub status data).olp = s.olp ∧
    (answer s m opcode idx sub status data).commit = s.commit ∧
    (answer s m opcode idx sub status data).windows = s.windows ∧
    (answer s m opcode idx sub status data).gov = s.gov ∧
    (answer s m opcode idx sub status data).govSnap = s.govSnap ∧
    (answer s m opcode idx sub status data).prot = s.prot ∧ (answer s m opcode idx sub status data).lic = s.lic ∧
    (answer s m opcode idx sub status data).sent = s.sent ∧
    (answer s m opcode idx sub status data).links = s.links ∧ (answer s m opcode idx sub status data).cap = s.cap ∧
    (answer s m opcode idx sub status data).flt = s.flt ∧ (answer s m opcode idx sub status data).tally = s.tally ∧
    (answer s m opcode idx sub status data).therm = s.therm ∧
    (answer s m opcode idx sub status data).life = s.life ∧ (answer s m opcode idx sub status data).pins = s.pins ∧
    (answer s m opcode idx sub status data).nv = s.nv ∧ (answer s m opcode idx sub status data).free = s.free ∧
    (answer s m opcode idx sub status data).pending = s.pending := by
  simp [answer]

@[simp] theorem relayOn_keeps (s : State) (msg : RelayMsg) (l : ℕ) :
    (relayOn s msg l).time = s.time ∧ (relayOn s msg l).objs = s.objs ∧ (relayOn s msg l).clk = s.clk ∧
    (relayOn s msg l).slots = s.slots ∧ (relayOn s msg l).gains = s.gains ∧ (relayOn s msg l).chans = s.chans ∧
    (relayOn s msg l).rods = s.rods ∧ (relayOn s msg l).buses = s.buses ∧
    (relayOn s msg l).routeRefs = s.routeRefs ∧ (relayOn s msg l).resets = s.resets ∧
    (relayOn s msg l).exitReports = s.exitReports ∧ (relayOn s msg l).combSat = s.combSat ∧
    (relayOn s msg l).mutes = s.mutes ∧ (relayOn s msg l).olp = s.olp ∧ (relayOn s msg l).commit = s.commit ∧
    (relayOn s msg l).windows = s.windows ∧ (relayOn s msg l).gov = s.gov ∧ (relayOn s msg l).govSnap = s.govSnap ∧
    (relayOn s msg l).prot = s.prot ∧ (relayOn s msg l).lic = s.lic ∧ (relayOn s msg l).sent = s.sent ∧
    (relayOn s msg l).cap = s.cap ∧ (relayOn s msg l).flt = s.flt ∧ (relayOn s msg l).tally = s.tally ∧
    (relayOn s msg l).therm = s.therm ∧ (relayOn s msg l).life = s.life ∧ (relayOn s msg l).pins = s.pins ∧
    (relayOn s msg l).nv = s.nv ∧ (relayOn s msg l).out = s.out ∧ (relayOn s msg l).free = s.free ∧
    (relayOn s msg l).pending = s.pending := by
  simp [relayOn]

@[simp] theorem relayOut_keeps (s : State) (msg : RelayMsg) (lanes : List ℕ) :
    (relayOut s msg lanes).time = s.time ∧ (relayOut s msg lanes).objs = s.objs ∧
    (relayOut s msg lanes).clk = s.clk ∧ (relayOut s msg lanes).slots = s.slots ∧
    (relayOut s msg lanes).gains = s.gains ∧ (relayOut s msg lanes).chans = s.chans ∧
    (relayOut s msg lanes).rods = s.rods ∧ (relayOut s msg lanes).buses = s.buses ∧
    (relayOut s msg lanes).routeRefs = s.routeRefs ∧ (relayOut s msg lanes).resets = s.resets ∧
    (relayOut s msg lanes).exitReports = s.exitReports ∧ (relayOut s msg lanes).combSat = s.combSat ∧
    (relayOut s msg lanes).mutes = s.mutes ∧ (relayOut s msg lanes).olp = s.olp ∧
    (relayOut s msg lanes).commit = s.commit ∧ (relayOut s msg lanes).windows = s.windows ∧
    (relayOut s msg lanes).gov = s.gov ∧ (relayOut s msg lanes).govSnap = s.govSnap ∧
    (relayOut s msg lanes).prot = s.prot ∧ (relayOut s msg lanes).lic = s.lic ∧
    (relayOut s msg lanes).sent = s.sent ∧ (relayOut s msg lanes).cap = s.cap ∧ (relayOut s msg lanes).flt = s.flt ∧
    (relayOut s msg lanes).tally = s.tally ∧ (relayOut s msg lanes).therm = s.therm ∧
    (relayOut s msg lanes).life = s.life ∧ (relayOut s msg lanes).pins = s.pins ∧ (relayOut s msg lanes).nv = s.nv ∧
    (relayOut s msg lanes).out = s.out ∧ (relayOut s msg lanes).free = s.free ∧
    (relayOut s msg lanes).pending = s.pending := by
  simp [relayOut]

@[simp] theorem nextIdent_keeps (s : State) :
    (nextIdent s).time = s.time ∧ (nextIdent s).objs = s.objs ∧ (nextIdent s).clk = s.clk ∧
    (nextIdent s).slots = s.slots ∧ (nextIdent s).gains = s.gains ∧ (nextIdent s).chans = s.chans ∧
    (nextIdent s).rods = s.rods ∧ (nextIdent s).buses = s.buses ∧ (nextIdent s).routeRefs = s.routeRefs ∧
    (nextIdent s).resets = s.resets ∧ (nextIdent s).exitReports = s.exitReports ∧
    (nextIdent s).combSat = s.combSat ∧ (nextIdent s).mutes = s.mutes ∧ (nextIdent s).olp = s.olp ∧
    (nextIdent s).commit = s.commit ∧ (nextIdent s).windows = s.windows ∧ (nextIdent s).gov = s.gov ∧
    (nextIdent s).govSnap = s.govSnap ∧ (nextIdent s).prot = s.prot ∧ (nextIdent s).lic = s.lic ∧
    (nextIdent s).sent = s.sent ∧ (nextIdent s).cap = s.cap ∧ (nextIdent s).flt = s.flt ∧
    (nextIdent s).tally = s.tally ∧ (nextIdent s).therm = s.therm ∧ (nextIdent s).life = s.life ∧
    (nextIdent s).pins = s.pins ∧ (nextIdent s).nv = s.nv ∧ (nextIdent s).out = s.out ∧
    (nextIdent s).free = s.free ∧
    (nextIdent s).pending = s.pending := by
  simp [nextIdent]

@[simp] theorem originate_keeps (s : State) (dst : ℕ) (typ : ℕ) (payload : List Byte) (lanes : List ℕ) :
    (originate s dst typ payload lanes).time = s.time ∧ (originate s dst typ payload lanes).objs = s.objs ∧
    (originate s dst typ payload lanes).clk = s.clk ∧ (originate s dst typ payload lanes).slots = s.slots ∧
    (originate s dst typ payload lanes).gains = s.gains ∧ (originate s dst typ payload lanes).chans = s.chans ∧
    (originate s dst typ payload lanes).rods = s.rods ∧ (originate s dst typ payload lanes).buses = s.buses ∧
    (originate s dst typ payload lanes).routeRefs = s.routeRefs ∧
    (originate s dst typ payload lanes).resets = s.resets ∧
    (originate s dst typ payload lanes).exitReports = s.exitReports ∧
    (originate s dst typ payload lanes).combSat = s.combSat ∧ (originate s dst typ payload lanes).mutes = s.mutes ∧
    (originate s dst typ payload lanes).olp = s.olp ∧ (originate s dst typ payload lanes).commit = s.commit ∧
    (originate s dst typ payload lanes).windows = s.windows ∧ (originate s dst typ payload lanes).gov = s.gov ∧
    (originate s dst typ payload lanes).govSnap = s.govSnap ∧ (originate s dst typ payload lanes).prot = s.prot ∧
    (originate s dst typ payload lanes).lic = s.lic ∧ (originate s dst typ payload lanes).sent = s.sent ∧
    (originate s dst typ payload lanes).cap = s.cap ∧ (originate s dst typ payload lanes).flt = s.flt ∧
    (originate s dst typ payload lanes).tally = s.tally ∧ (originate s dst typ payload lanes).therm = s.therm ∧
    (originate s dst typ payload lanes).life = s.life ∧ (originate s dst typ payload lanes).pins = s.pins ∧
    (originate s dst typ payload lanes).nv = s.nv ∧ (originate s dst typ payload lanes).out = s.out ∧
    (originate s dst typ payload lanes).free = s.free ∧
    (originate s dst typ payload lanes).pending = s.pending := by
  simp [originate]

@[simp] theorem sendTo_keeps (s : State) (o : Origin) (bytes : List Byte) :
    (sendTo s o bytes).time = s.time ∧ (sendTo s o bytes).objs = s.objs ∧ (sendTo s o bytes).clk = s.clk ∧
    (sendTo s o bytes).slots = s.slots ∧ (sendTo s o bytes).gains = s.gains ∧ (sendTo s o bytes).chans = s.chans ∧
    (sendTo s o bytes).rods = s.rods ∧ (sendTo s o bytes).buses = s.buses ∧
    (sendTo s o bytes).routeRefs = s.routeRefs ∧ (sendTo s o bytes).resets = s.resets ∧
    (sendTo s o bytes).exitReports = s.exitReports ∧ (sendTo s o bytes).combSat = s.combSat ∧
    (sendTo s o bytes).mutes = s.mutes ∧ (sendTo s o bytes).olp = s.olp ∧ (sendTo s o bytes).commit = s.commit ∧
    (sendTo s o bytes).windows = s.windows ∧ (sendTo s o bytes).gov = s.gov ∧
    (sendTo s o bytes).govSnap = s.govSnap ∧ (sendTo s o bytes).prot = s.prot ∧ (sendTo s o bytes).lic = s.lic ∧
    (sendTo s o bytes).sent = s.sent ∧ (sendTo s o bytes).cap = s.cap ∧ (sendTo s o bytes).flt = s.flt ∧
    (sendTo s o bytes).tally = s.tally ∧ (sendTo s o bytes).therm = s.therm ∧ (sendTo s o bytes).life = s.life ∧
    (sendTo s o bytes).pins = s.pins ∧ (sendTo s o bytes).nv = s.nv ∧ (sendTo s o bytes).free = s.free ∧
    (sendTo s o bytes).pending = s.pending := by
  simp [sendTo]

@[simp] theorem modSession_keeps (s : State) (m : ℕ) (f : Session → Session) :
    (modSession s m f).time = s.time ∧ (modSession s m f).objs = s.objs ∧ (modSession s m f).clk = s.clk ∧
    (modSession s m f).slots = s.slots ∧ (modSession s m f).gains = s.gains ∧ (modSession s m f).chans = s.chans ∧
    (modSession s m f).rods = s.rods ∧ (modSession s m f).buses = s.buses ∧
    (modSession s m f).routeRefs = s.routeRefs ∧ (modSession s m f).resets = s.resets ∧
    (modSession s m f).exitReports = s.exitReports ∧ (modSession s m f).combSat = s.combSat ∧
    (modSession s m f).mutes = s.mutes ∧ (modSession s m f).commit = s.commit ∧
    (modSession s m f).windows = s.windows ∧ (modSession s m f).gov = s.gov ∧
    (modSession s m f).govSnap = s.govSnap ∧ (modSession s m f).prot = s.prot ∧ (modSession s m f).lic = s.lic ∧
    (modSession s m f).sent = s.sent ∧ (modSession s m f).links = s.links ∧ (modSession s m f).cap = s.cap ∧
    (modSession s m f).flt = s.flt ∧ (modSession s m f).tally = s.tally ∧ (modSession s m f).therm = s.therm ∧
    (modSession s m f).life = s.life ∧ (modSession s m f).pins = s.pins ∧ (modSession s m f).nv = s.nv ∧
    (modSession s m f).out = s.out ∧ (modSession s m f).free = s.free ∧
    (modSession s m f).pending = s.pending := by
  simp [modSession]

@[simp] theorem countOlp_keeps (s : State) (f : Olp → Olp) :
    (countOlp s f).time = s.time ∧ (countOlp s f).objs = s.objs ∧ (countOlp s f).clk = s.clk ∧
    (countOlp s f).slots = s.slots ∧ (countOlp s f).gains = s.gains ∧ (countOlp s f).chans = s.chans ∧
    (countOlp s f).rods = s.rods ∧ (countOlp s f).buses = s.buses ∧ (countOlp s f).routeRefs = s.routeRefs ∧
    (countOlp s f).resets = s.resets ∧ (countOlp s f).exitReports = s.exitReports ∧
    (countOlp s f).combSat = s.combSat ∧ (countOlp s f).mutes = s.mutes ∧ (countOlp s f).commit = s.commit ∧
    (countOlp s f).windows = s.windows ∧ (countOlp s f).gov = s.gov ∧ (countOlp s f).govSnap = s.govSnap ∧
    (countOlp s f).prot = s.prot ∧ (countOlp s f).lic = s.lic ∧ (countOlp s f).sent = s.sent ∧
    (countOlp s f).links = s.links ∧ (countOlp s f).cap = s.cap ∧ (countOlp s f).flt = s.flt ∧
    (countOlp s f).tally = s.tally ∧ (countOlp s f).therm = s.therm ∧ (countOlp s f).life = s.life ∧
    (countOlp s f).pins = s.pins ∧ (countOlp s f).nv = s.nv ∧ (countOlp s f).out = s.out ∧
    (countOlp s f).free = s.free ∧
    (countOlp s f).pending = s.pending := by
  simp [countOlp]

@[simp] theorem reply_keeps (s : State) (status : ℕ) (data : List Byte) :
    (reply s status data).time = s.time ∧ (reply s status data).objs = s.objs ∧ (reply s status data).clk = s.clk ∧
    (reply s status data).slots = s.slots ∧ (reply s status data).gains = s.gains ∧
    (reply s status data).chans = s.chans ∧ (reply s status data).rods = s.rods ∧
    (reply s status data).buses = s.buses ∧ (reply s status data).routeRefs = s.routeRefs ∧
    (reply s status data).resets = s.resets ∧ (reply s status data).exitReports = s.exitReports ∧
    (reply s status data).combSat = s.combSat ∧ (reply s status data).mutes = s.mutes ∧
    (reply s status data).olp = s.olp ∧ (reply s status data).commit = s.commit ∧
    (reply s status data).windows = s.windows ∧ (reply s status data).gov = s.gov ∧
    (reply s status data).govSnap = s.govSnap ∧ (reply s status data).prot = s.prot ∧
    (reply s status data).lic = s.lic ∧ (reply s status data).sent = s.sent ∧
    (reply s status data).links = s.links ∧ (reply s status data).cap = s.cap ∧ (reply s status data).flt = s.flt ∧
    (reply s status data).tally = s.tally ∧ (reply s status data).therm = s.therm ∧
    (reply s status data).life = s.life ∧ (reply s status data).pins = s.pins ∧ (reply s status data).nv = s.nv ∧
    (reply s status data).free = s.free ∧
    (reply s status data).pending = s.pending := by
  simp [reply]

@[simp] theorem relayDropped_keeps (s : State) (lane : ℕ) :
    (relayDropped s lane).time = s.time ∧ (relayDropped s lane).objs = s.objs ∧ (relayDropped s lane).clk = s.clk ∧
    (relayDropped s lane).slots = s.slots ∧ (relayDropped s lane).gains = s.gains ∧
    (relayDropped s lane).chans = s.chans ∧ (relayDropped s lane).rods = s.rods ∧
    (relayDropped s lane).buses = s.buses ∧ (relayDropped s lane).routeRefs = s.routeRefs ∧
    (relayDropped s lane).resets = s.resets ∧ (relayDropped s lane).exitReports = s.exitReports ∧
    (relayDropped s lane).combSat = s.combSat ∧ (relayDropped s lane).mutes = s.mutes ∧
    (relayDropped s lane).olp = s.olp ∧ (relayDropped s lane).commit = s.commit ∧
    (relayDropped s lane).windows = s.windows ∧ (relayDropped s lane).gov = s.gov ∧
    (relayDropped s lane).govSnap = s.govSnap ∧ (relayDropped s lane).prot = s.prot ∧
    (relayDropped s lane).lic = s.lic ∧ (relayDropped s lane).sent = s.sent ∧ (relayDropped s lane).cap = s.cap ∧
    (relayDropped s lane).flt = s.flt ∧ (relayDropped s lane).tally = s.tally ∧
    (relayDropped s lane).therm = s.therm ∧ (relayDropped s lane).life = s.life ∧
    (relayDropped s lane).pins = s.pins ∧ (relayDropped s lane).nv = s.nv ∧ (relayDropped s lane).out = s.out ∧
    (relayDropped s lane).free = s.free ∧
    (relayDropped s lane).pending = s.pending := by
  simp [relayDropped]

@[simp] theorem forward_keeps (s : State) (lane : ℕ) (msg : RelayMsg) :
    (forward s lane msg).time = s.time ∧ (forward s lane msg).objs = s.objs ∧ (forward s lane msg).clk = s.clk ∧
    (forward s lane msg).slots = s.slots ∧ (forward s lane msg).gains = s.gains ∧
    (forward s lane msg).chans = s.chans ∧ (forward s lane msg).rods = s.rods ∧
    (forward s lane msg).buses = s.buses ∧ (forward s lane msg).routeRefs = s.routeRefs ∧
    (forward s lane msg).resets = s.resets ∧ (forward s lane msg).exitReports = s.exitReports ∧
    (forward s lane msg).combSat = s.combSat ∧ (forward s lane msg).mutes = s.mutes ∧
    (forward s lane msg).olp = s.olp ∧ (forward s lane msg).commit = s.commit ∧
    (forward s lane msg).windows = s.windows ∧ (forward s lane msg).gov = s.gov ∧
    (forward s lane msg).govSnap = s.govSnap ∧ (forward s lane msg).prot = s.prot ∧
    (forward s lane msg).lic = s.lic ∧ (forward s lane msg).sent = s.sent ∧ (forward s lane msg).cap = s.cap ∧
    (forward s lane msg).flt = s.flt ∧ (forward s lane msg).tally = s.tally ∧ (forward s lane msg).therm = s.therm ∧
    (forward s lane msg).life = s.life ∧ (forward s lane msg).pins = s.pins ∧ (forward s lane msg).nv = s.nv ∧
    (forward s lane msg).out = s.out ∧ (forward s lane msg).free = s.free ∧
    (forward s lane msg).pending = s.pending := by
  simp [forward]

@[simp] theorem timing_keeps (s : State) (lane : ℕ) (msg : RelayMsg) :
    (timing s lane msg).time = s.time ∧ (timing s lane msg).objs = s.objs ∧ (timing s lane msg).clk = s.clk ∧
    (timing s lane msg).slots = s.slots ∧ (timing s lane msg).gains = s.gains ∧
    (timing s lane msg).chans = s.chans ∧ (timing s lane msg).rods = s.rods ∧ (timing s lane msg).buses = s.buses ∧
    (timing s lane msg).routeRefs = s.routeRefs ∧ (timing s lane msg).resets = s.resets ∧
    (timing s lane msg).exitReports = s.exitReports ∧ (timing s lane msg).combSat = s.combSat ∧
    (timing s lane msg).mutes = s.mutes ∧ (timing s lane msg).olp = s.olp ∧ (timing s lane msg).commit = s.commit ∧
    (timing s lane msg).windows = s.windows ∧ (timing s lane msg).gov = s.gov ∧
    (timing s lane msg).govSnap = s.govSnap ∧ (timing s lane msg).prot = s.prot ∧ (timing s lane msg).lic = s.lic ∧
    (timing s lane msg).sent = s.sent ∧ (timing s lane msg).cap = s.cap ∧ (timing s lane msg).flt = s.flt ∧
    (timing s lane msg).tally = s.tally ∧ (timing s lane msg).therm = s.therm ∧ (timing s lane msg).life = s.life ∧
    (timing s lane msg).pins = s.pins ∧ (timing s lane msg).nv = s.nv ∧ (timing s lane msg).out = s.out ∧
    (timing s lane msg).free = s.free ∧
    (timing s lane msg).pending = s.pending := by
  unfold timing; (repeat' split) <;> simp

@[simp] theorem settleMute_keeps (parts : List (ℕ × List Smp)) (s : State) (g : ℕ) :
    (settleMute parts s g).time = s.time ∧ (settleMute parts s g).objs = s.objs ∧
    (settleMute parts s g).clk = s.clk ∧ (settleMute parts s g).slots = s.slots ∧
    (settleMute parts s g).gains = s.gains ∧ (settleMute parts s g).rods = s.rods ∧
    (settleMute parts s g).routeRefs = s.routeRefs ∧ (settleMute parts s g).resets = s.resets ∧
    (settleMute parts s g).exitReports = s.exitReports ∧ (settleMute parts s g).combSat = s.combSat ∧
    (settleMute parts s g).olp = s.olp ∧ (settleMute parts s g).commit = s.commit ∧
    (settleMute parts s g).windows = s.windows ∧ (settleMute parts s g).gov = s.gov ∧
    (settleMute parts s g).govSnap = s.govSnap ∧ (settleMute parts s g).prot = s.prot ∧
    (settleMute parts s g).lic = s.lic ∧ (settleMute parts s g).sent = s.sent ∧
    (settleMute parts s g).links = s.links ∧ (settleMute parts s g).cap = s.cap ∧
    (settleMute parts s g).flt = s.flt ∧ (settleMute parts s g).tally = s.tally ∧
    (settleMute parts s g).therm = s.therm ∧ (settleMute parts s g).life = s.life ∧
    (settleMute parts s g).pins = s.pins ∧ (settleMute parts s g).nv = s.nv ∧ (settleMute parts s g).free = s.free ∧
    (settleMute parts s g).pending = s.pending := by
  unfold settleMute; (repeat' split) <;> simp

@[simp] theorem settleMutes_keeps (s : State) (ch : ℕ) :
    (settleMutes s ch).time = s.time ∧ (settleMutes s ch).objs = s.objs ∧ (settleMutes s ch).clk = s.clk ∧
    (settleMutes s ch).slots = s.slots ∧ (settleMutes s ch).gains = s.gains ∧ (settleMutes s ch).rods = s.rods ∧
    (settleMutes s ch).routeRefs = s.routeRefs ∧ (settleMutes s ch).resets = s.resets ∧
    (settleMutes s ch).exitReports = s.exitReports ∧ (settleMutes s ch).combSat = s.combSat ∧
    (settleMutes s ch).olp = s.olp ∧ (settleMutes s ch).commit = s.commit ∧ (settleMutes s ch).windows = s.windows ∧
    (settleMutes s ch).gov = s.gov ∧ (settleMutes s ch).govSnap = s.govSnap ∧ (settleMutes s ch).prot = s.prot ∧
    (settleMutes s ch).lic = s.lic ∧ (settleMutes s ch).sent = s.sent ∧ (settleMutes s ch).links = s.links ∧
    (settleMutes s ch).cap = s.cap ∧ (settleMutes s ch).flt = s.flt ∧ (settleMutes s ch).tally = s.tally ∧
    (settleMutes s ch).therm = s.therm ∧ (settleMutes s ch).life = s.life ∧ (settleMutes s ch).pins = s.pins ∧
    (settleMutes s ch).nv = s.nv ∧ (settleMutes s ch).free = s.free ∧
    (settleMutes s ch).pending = s.pending := by
  simp [settleMutes]

@[simp] theorem restoreTxen_keeps (s : State) (ch : ℕ) :
    (restoreTxen s ch).time = s.time ∧ (restoreTxen s ch).objs = s.objs ∧ (restoreTxen s ch).clk = s.clk ∧
    (restoreTxen s ch).slots = s.slots ∧ (restoreTxen s ch).gains = s.gains ∧ (restoreTxen s ch).rods = s.rods ∧
    (restoreTxen s ch).routeRefs = s.routeRefs ∧ (restoreTxen s ch).resets = s.resets ∧
    (restoreTxen s ch).exitReports = s.exitReports ∧ (restoreTxen s ch).combSat = s.combSat ∧
    (restoreTxen s ch).mutes = s.mutes ∧ (restoreTxen s ch).olp = s.olp ∧ (restoreTxen s ch).commit = s.commit ∧
    (restoreTxen s ch).windows = s.windows ∧ (restoreTxen s ch).gov = s.gov ∧
    (restoreTxen s ch).govSnap = s.govSnap ∧ (restoreTxen s ch).prot = s.prot ∧ (restoreTxen s ch).lic = s.lic ∧
    (restoreTxen s ch).sent = s.sent ∧ (restoreTxen s ch).links = s.links ∧ (restoreTxen s ch).cap = s.cap ∧
    (restoreTxen s ch).flt = s.flt ∧ (restoreTxen s ch).tally = s.tally ∧ (restoreTxen s ch).therm = s.therm ∧
    (restoreTxen s ch).life = s.life ∧ (restoreTxen s ch).pins = s.pins ∧ (restoreTxen s ch).nv = s.nv ∧
    (restoreTxen s ch).free = s.free ∧
    (restoreTxen s ch).pending = s.pending := by
  simp [restoreTxen]

@[simp] theorem releaseChannel_keeps (inp : FrameInput) (s : State) (ch : ℕ) :
    (releaseChannel inp s ch).time = s.time ∧ (releaseChannel inp s ch).objs = s.objs ∧
    (releaseChannel inp s ch).clk = s.clk ∧ (releaseChannel inp s ch).slots = s.slots ∧
    (releaseChannel inp s ch).gains = s.gains ∧ (releaseChannel inp s ch).rods = s.rods ∧
    (releaseChannel inp s ch).buses = s.buses ∧ (releaseChannel inp s ch).routeRefs = s.routeRefs ∧
    (releaseChannel inp s ch).resets = s.resets ∧ (releaseChannel inp s ch).combSat = s.combSat ∧
    (releaseChannel inp s ch).mutes = s.mutes ∧ (releaseChannel inp s ch).olp = s.olp ∧
    (releaseChannel inp s ch).commit = s.commit ∧ (releaseChannel inp s ch).windows = s.windows ∧
    (releaseChannel inp s ch).gov = s.gov ∧ (releaseChannel inp s ch).govSnap = s.govSnap ∧
    (releaseChannel inp s ch).prot = s.prot ∧ (releaseChannel inp s ch).lic = s.lic ∧
    (releaseChannel inp s ch).sent = s.sent ∧ (releaseChannel inp s ch).links = s.links ∧
    (releaseChannel inp s ch).cap = s.cap ∧ (releaseChannel inp s ch).flt = s.flt ∧
    (releaseChannel inp s ch).tally = s.tally ∧ (releaseChannel inp s ch).therm = s.therm ∧
    (releaseChannel inp s ch).life = s.life ∧ (releaseChannel inp s ch).pins = s.pins ∧
    (releaseChannel inp s ch).nv = s.nv ∧ (releaseChannel inp s ch).out = s.out ∧
    (releaseChannel inp s ch).free = s.free ∧
    (releaseChannel inp s ch).pending = s.pending := by
  simp [releaseChannel]

@[simp] theorem silenceRef_keeps (prev : State) (s : State) (ch : ℕ) :
    (silenceRef prev s ch).time = s.time ∧ (silenceRef prev s ch).objs = s.objs ∧
    (silenceRef prev s ch).clk = s.clk ∧ (silenceRef prev s ch).slots = s.slots ∧
    (silenceRef prev s ch).gains = s.gains ∧ (silenceRef prev s ch).rods = s.rods ∧
    (silenceRef prev s ch).buses = s.buses ∧ (silenceRef prev s ch).routeRefs = s.routeRefs ∧
    (silenceRef prev s ch).resets = s.resets ∧ (silenceRef prev s ch).exitReports = s.exitReports ∧
    (silenceRef prev s ch).combSat = s.combSat ∧ (silenceRef prev s ch).mutes = s.mutes ∧
    (silenceRef prev s ch).olp = s.olp ∧ (silenceRef prev s ch).commit = s.commit ∧
    (silenceRef prev s ch).windows = s.windows ∧ (silenceRef prev s ch).gov = s.gov ∧
    (silenceRef prev s ch).govSnap = s.govSnap ∧ (silenceRef prev s ch).prot = s.prot ∧
    (silenceRef prev s ch).lic = s.lic ∧ (silenceRef prev s ch).sent = s.sent ∧
    (silenceRef prev s ch).links = s.links ∧ (silenceRef prev s ch).cap = s.cap ∧
    (silenceRef prev s ch).flt = s.flt ∧ (silenceRef prev s ch).tally = s.tally ∧
    (silenceRef prev s ch).therm = s.therm ∧ (silenceRef prev s ch).life = s.life ∧
    (silenceRef prev s ch).pins = s.pins ∧ (silenceRef prev s ch).nv = s.nv ∧ (silenceRef prev s ch).out = s.out ∧
    (silenceRef prev s ch).free = s.free ∧
    (silenceRef prev s ch).pending = s.pending := by
  simp [silenceRef]

@[simp] theorem releaseBlocks_keeps (inp : FrameInput) (prev : State) (s : State) :
    (releaseBlocks inp prev s).time = s.time ∧ (releaseBlocks inp prev s).objs = s.objs ∧
    (releaseBlocks inp prev s).clk = s.clk ∧ (releaseBlocks inp prev s).slots = s.slots ∧
    (releaseBlocks inp prev s).gains = s.gains ∧ (releaseBlocks inp prev s).rods = s.rods ∧
    (releaseBlocks inp prev s).resets = s.resets ∧ (releaseBlocks inp prev s).combSat = s.combSat ∧
    (releaseBlocks inp prev s).olp = s.olp ∧ (releaseBlocks inp prev s).commit = s.commit ∧
    (releaseBlocks inp prev s).windows = s.windows ∧ (releaseBlocks inp prev s).gov = s.gov ∧
    (releaseBlocks inp prev s).govSnap = s.govSnap ∧ (releaseBlocks inp prev s).prot = s.prot ∧
    (releaseBlocks inp prev s).lic = s.lic ∧ (releaseBlocks inp prev s).sent = s.sent ∧
    (releaseBlocks inp prev s).links = s.links ∧ (releaseBlocks inp prev s).cap = s.cap ∧
    (releaseBlocks inp prev s).flt = s.flt ∧ (releaseBlocks inp prev s).tally = s.tally ∧
    (releaseBlocks inp prev s).therm = s.therm ∧ (releaseBlocks inp prev s).life = s.life ∧
    (releaseBlocks inp prev s).pins = s.pins ∧ (releaseBlocks inp prev s).nv = s.nv ∧
    (releaseBlocks inp prev s).free = s.free ∧
    (releaseBlocks inp prev s).pending = s.pending := by
  simp [releaseBlocks]

@[simp] theorem pathParity_keeps (s : State) (h : ParityHit) (action : ℕ) :
    (pathParity s h action).time = s.time ∧ (pathParity s h action).objs = s.objs ∧
    (pathParity s h action).clk = s.clk ∧ (pathParity s h action).slots = s.slots ∧
    (pathParity s h action).gains = s.gains ∧ (pathParity s h action).chans = s.chans ∧
    (pathParity s h action).rods = s.rods ∧ (pathParity s h action).buses = s.buses ∧
    (pathParity s h action).routeRefs = s.routeRefs ∧ (pathParity s h action).resets = s.resets ∧
    (pathParity s h action).exitReports = s.exitReports ∧ (pathParity s h action).combSat = s.combSat ∧
    (pathParity s h action).mutes = s.mutes ∧ (pathParity s h action).olp = s.olp ∧
    (pathParity s h action).commit = s.commit ∧ (pathParity s h action).windows = s.windows ∧
    (pathParity s h action).gov = s.gov ∧ (pathParity s h action).govSnap = s.govSnap ∧
    (pathParity s h action).prot = s.prot ∧ (pathParity s h action).lic = s.lic ∧
    (pathParity s h action).sent = s.sent ∧ (pathParity s h action).links = s.links ∧
    (pathParity s h action).cap = s.cap ∧ (pathParity s h action).therm = s.therm ∧
    (pathParity s h action).life = s.life ∧ (pathParity s h action).pins = s.pins ∧
    (pathParity s h action).nv = s.nv ∧ (pathParity s h action).out = s.out ∧
    (pathParity s h action).free = s.free ∧
    (pathParity s h action).pending = s.pending := by
  simp [pathParity]

@[simp] theorem discardMeasurement_keeps (s : State) (h : ParityHit) :
    (discardMeasurement s h).time = s.time ∧ (discardMeasurement s h).objs = s.objs ∧
    (discardMeasurement s h).clk = s.clk ∧ (discardMeasurement s h).gains = s.gains ∧
    (discardMeasurement s h).chans = s.chans ∧ (discardMeasurement s h).rods = s.rods ∧
    (discardMeasurement s h).buses = s.buses ∧ (discardMeasurement s h).routeRefs = s.routeRefs ∧
    (discardMeasurement s h).resets = s.resets ∧ (discardMeasurement s h).exitReports = s.exitReports ∧
    (discardMeasurement s h).combSat = s.combSat ∧ (discardMeasurement s h).mutes = s.mutes ∧
    (discardMeasurement s h).olp = s.olp ∧ (discardMeasurement s h).commit = s.commit ∧
    (discardMeasurement s h).windows = s.windows ∧ (discardMeasurement s h).gov = s.gov ∧
    (discardMeasurement s h).govSnap = s.govSnap ∧ (discardMeasurement s h).prot = s.prot ∧
    (discardMeasurement s h).lic = s.lic ∧ (discardMeasurement s h).sent = s.sent ∧
    (discardMeasurement s h).links = s.links ∧ (discardMeasurement s h).cap = s.cap ∧
    (discardMeasurement s h).flt = s.flt ∧ (discardMeasurement s h).tally = s.tally ∧
    (discardMeasurement s h).therm = s.therm ∧ (discardMeasurement s h).life = s.life ∧
    (discardMeasurement s h).pins = s.pins ∧ (discardMeasurement s h).nv = s.nv ∧
    (discardMeasurement s h).out = s.out ∧ (discardMeasurement s h).free = s.free ∧
    (discardMeasurement s h).pending = s.pending := by
  simp [discardMeasurement]

@[simp] theorem egressParity_keeps (s : State) (h : ParityHit) :
    (egressParity s h).time = s.time ∧ (egressParity s h).objs = s.objs ∧ (egressParity s h).clk = s.clk ∧
    (egressParity s h).slots = s.slots ∧ (egressParity s h).gains = s.gains ∧ (egressParity s h).chans = s.chans ∧
    (egressParity s h).rods = s.rods ∧ (egressParity s h).buses = s.buses ∧
    (egressParity s h).routeRefs = s.routeRefs ∧ (egressParity s h).resets = s.resets ∧
    (egressParity s h).exitReports = s.exitReports ∧ (egressParity s h).combSat = s.combSat ∧
    (egressParity s h).mutes = s.mutes ∧ (egressParity s h).olp = s.olp ∧ (egressParity s h).commit = s.commit ∧
    (egressParity s h).windows = s.windows ∧ (egressParity s h).gov = s.gov ∧
    (egressParity s h).govSnap = s.govSnap ∧ (egressParity s h).prot = s.prot ∧ (egressParity s h).lic = s.lic ∧
    (egressParity s h).sent = s.sent ∧ (egressParity s h).cap = s.cap ∧ (egressParity s h).therm = s.therm ∧
    (egressParity s h).life = s.life ∧ (egressParity s h).pins = s.pins ∧ (egressParity s h).nv = s.nv ∧
    (egressParity s h).out = s.out ∧ (egressParity s h).free = s.free ∧
    (egressParity s h).pending = s.pending := by
  simp [egressParity]

@[simp] theorem delayParity_keeps (s : State) (ch : ℕ) (g : ℕ) (part : ℕ) :
    (delayParity s ch g part).time = s.time ∧ (delayParity s ch g part).objs = s.objs ∧
    (delayParity s ch g part).clk = s.clk ∧ (delayParity s ch g part).gains = s.gains ∧
    (delayParity s ch g part).rods = s.rods ∧ (delayParity s ch g part).buses = s.buses ∧
    (delayParity s ch g part).routeRefs = s.routeRefs ∧ (delayParity s ch g part).resets = s.resets ∧
    (delayParity s ch g part).exitReports = s.exitReports ∧ (delayParity s ch g part).combSat = s.combSat ∧
    (delayParity s ch g part).mutes = s.mutes ∧ (delayParity s ch g part).olp = s.olp ∧
    (delayParity s ch g part).commit = s.commit ∧ (delayParity s ch g part).windows = s.windows ∧
    (delayParity s ch g part).gov = s.gov ∧ (delayParity s ch g part).govSnap = s.govSnap ∧
    (delayParity s ch g part).prot = s.prot ∧ (delayParity s ch g part).lic = s.lic ∧
    (delayParity s ch g part).sent = s.sent ∧ (delayParity s ch g part).links = s.links ∧
    (delayParity s ch g part).cap = s.cap ∧ (delayParity s ch g part).flt = s.flt ∧
    (delayParity s ch g part).tally = s.tally ∧ (delayParity s ch g part).therm = s.therm ∧
    (delayParity s ch g part).life = s.life ∧ (delayParity s ch g part).pins = s.pins ∧
    (delayParity s ch g part).nv = s.nv ∧ (delayParity s ch g part).out = s.out ∧
    (delayParity s ch g part).free = s.free ∧
    (delayParity s ch g part).pending = s.pending := by
  unfold delayParity; (repeat' split) <;> simp

@[simp] theorem blockParity_keeps (s : State) (h : ParityHit) :
    (blockParity s h).time = s.time ∧ (blockParity s h).objs = s.objs ∧ (blockParity s h).clk = s.clk ∧
    (blockParity s h).gains = s.gains ∧ (blockParity s h).rods = s.rods ∧
    (blockParity s h).routeRefs = s.routeRefs ∧ (blockParity s h).resets = s.resets ∧
    (blockParity s h).exitReports = s.exitReports ∧ (blockParity s h).combSat = s.combSat ∧
    (blockParity s h).olp = s.olp ∧ (blockParity s h).commit = s.commit ∧ (blockParity s h).windows = s.windows ∧
    (blockParity s h).gov = s.gov ∧ (blockParity s h).govSnap = s.govSnap ∧ (blockParity s h).prot = s.prot ∧
    (blockParity s h).lic = s.lic ∧ (blockParity s h).sent = s.sent ∧ (blockParity s h).cap = s.cap ∧
    (blockParity s h).therm = s.therm ∧ (blockParity s h).life = s.life ∧ (blockParity s h).pins = s.pins ∧
    (blockParity s h).nv = s.nv ∧ (blockParity s h).free = s.free ∧
    (blockParity s h).pending = s.pending := by
  unfold blockParity; (repeat' split) <;> simp

@[simp] theorem collectRx_keeps (inp : FrameInput) (s : State) (ch : ℕ) :
    (collectRx inp s ch).time = s.time ∧ (collectRx inp s ch).objs = s.objs ∧ (collectRx inp s ch).clk = s.clk ∧
    (collectRx inp s ch).slots = s.slots ∧ (collectRx inp s ch).gains = s.gains ∧
    (collectRx inp s ch).buses = s.buses ∧ (collectRx inp s ch).routeRefs = s.routeRefs ∧
    (collectRx inp s ch).resets = s.resets ∧ (collectRx inp s ch).exitReports = s.exitReports ∧
    (collectRx inp s ch).combSat = s.combSat ∧ (collectRx inp s ch).mutes = s.mutes ∧
    (collectRx inp s ch).olp = s.olp ∧ (collectRx inp s ch).commit = s.commit ∧
    (collectRx inp s ch).windows = s.windows ∧ (collectRx inp s ch).gov = s.gov ∧
    (collectRx inp s ch).govSnap = s.govSnap ∧ (collectRx inp s ch).prot = s.prot ∧
    (collectRx inp s ch).lic = s.lic ∧ (collectRx inp s ch).sent = s.sent ∧ (collectRx inp s ch).links = s.links ∧
    (collectRx inp s ch).cap = s.cap ∧ (collectRx inp s ch).therm = s.therm ∧ (collectRx inp s ch).life = s.life ∧
    (collectRx inp s ch).pins = s.pins ∧ (collectRx inp s ch).nv = s.nv ∧ (collectRx inp s ch).out = s.out ∧
    (collectRx inp s ch).free = s.free ∧
    (collectRx inp s ch).pending = s.pending := by
  simp [collectRx]

@[simp] theorem equalise_keeps (s : State) (r : ℕ) (xs : List Smp) :
    (equalise s r xs).2.time = s.time ∧ (equalise s r xs).2.objs = s.objs ∧ (equalise s r xs).2.clk = s.clk ∧
    (equalise s r xs).2.slots = s.slots ∧ (equalise s r xs).2.gains = s.gains ∧
    (equalise s r xs).2.chans = s.chans ∧ (equalise s r xs).2.rods = s.rods ∧ (equalise s r xs).2.buses = s.buses ∧
    (equalise s r xs).2.routeRefs = s.routeRefs ∧ (equalise s r xs).2.resets = s.resets ∧
    (equalise s r xs).2.exitReports = s.exitReports ∧ (equalise s r xs).2.combSat = s.combSat ∧
    (equalise s r xs).2.mutes = s.mutes ∧ (equalise s r xs).2.olp = s.olp ∧ (equalise s r xs).2.commit = s.commit ∧
    (equalise s r xs).2.windows = s.windows ∧ (equalise s r xs).2.gov = s.gov ∧
    (equalise s r xs).2.govSnap = s.govSnap ∧ (equalise s r xs).2.prot = s.prot ∧ (equalise s r xs).2.lic = s.lic ∧
    (equalise s r xs).2.sent = s.sent ∧ (equalise s r xs).2.cap = s.cap ∧ (equalise s r xs).2.flt = s.flt ∧
    (equalise s r xs).2.tally = s.tally ∧ (equalise s r xs).2.therm = s.therm ∧ (equalise s r xs).2.life = s.life ∧
    (equalise s r xs).2.pins = s.pins ∧ (equalise s r xs).2.nv = s.nv ∧ (equalise s r xs).2.out = s.out ∧
    (equalise s r xs).2.free = s.free ∧
    (equalise s r xs).2.pending = s.pending := by
  simp [equalise]

@[simp] theorem combineNote_keeps (s : State) (r : ℕ) (fails : Bool) :
    (combineNote s r fails).time = s.time ∧ (combineNote s r fails).objs = s.objs ∧
    (combineNote s r fails).clk = s.clk ∧ (combineNote s r fails).slots = s.slots ∧
    (combineNote s r fails).gains = s.gains ∧ (combineNote s r fails).buses = s.buses ∧
    (combineNote s r fails).routeRefs = s.routeRefs ∧ (combineNote s r fails).resets = s.resets ∧
    (combineNote s r fails).exitReports = s.exitReports ∧ (combineNote s r fails).combSat = s.combSat ∧
    (combineNote s r fails).mutes = s.mutes ∧ (combineNote s r fails).olp = s.olp ∧
    (combineNote s r fails).commit = s.commit ∧ (combineNote s r fails).windows = s.windows ∧
    (combineNote s r fails).gov = s.gov ∧ (combineNote s r fails).govSnap = s.govSnap ∧
    (combineNote s r fails).prot = s.prot ∧ (combineNote s r fails).lic = s.lic ∧
    (combineNote s r fails).sent = s.sent ∧ (combineNote s r fails).links = s.links ∧
    (combineNote s r fails).cap = s.cap ∧ (combineNote s r fails).therm = s.therm ∧
    (combineNote s r fails).life = s.life ∧ (combineNote s r fails).pins = s.pins ∧
    (combineNote s r fails).nv = s.nv ∧ (combineNote s r fails).out = s.out ∧
    (combineNote s r fails).free = s.free ∧
    (combineNote s r fails).pending = s.pending := by
  unfold combineNote; (repeat' split) <;> simp

@[simp] theorem combineCheck_keeps (inp : FrameInput) (s : State) (r : ℕ) (sums : List Smp) :
    (combineCheck inp s r sums).2.time = s.time ∧ (combineCheck inp s r sums).2.objs = s.objs ∧
    (combineCheck inp s r sums).2.clk = s.clk ∧ (combineCheck inp s r sums).2.slots = s.slots ∧
    (combineCheck inp s r sums).2.gains = s.gains ∧ (combineCheck inp s r sums).2.buses = s.buses ∧
    (combineCheck inp s r sums).2.routeRefs = s.routeRefs ∧ (combineCheck inp s r sums).2.resets = s.resets ∧
    (combineCheck inp s r sums).2.exitReports = s.exitReports ∧ (combineCheck inp s r sums).2.combSat = s.combSat ∧
    (combineCheck inp s r sums).2.mutes = s.mutes ∧ (combineCheck inp s r sums).2.olp = s.olp ∧
    (combineCheck inp s r sums).2.commit = s.commit ∧ (combineCheck inp s r sums).2.windows = s.windows ∧
    (combineCheck inp s r sums).2.gov = s.gov ∧ (combineCheck inp s r sums).2.govSnap = s.govSnap ∧
    (combineCheck inp s r sums).2.prot = s.prot ∧ (combineCheck inp s r sums).2.lic = s.lic ∧
    (combineCheck inp s r sums).2.sent = s.sent ∧ (combineCheck inp s r sums).2.links = s.links ∧
    (combineCheck inp s r sums).2.cap = s.cap ∧ (combineCheck inp s r sums).2.therm = s.therm ∧
    (combineCheck inp s r sums).2.life = s.life ∧ (combineCheck inp s r sums).2.pins = s.pins ∧
    (combineCheck inp s r sums).2.nv = s.nv ∧ (combineCheck inp s r sums).2.out = s.out ∧
    (combineCheck inp s r sums).2.free = s.free ∧
    (combineCheck inp s r sums).2.pending = s.pending := by
  simp [combineCheck]

@[simp] theorem combineParity_keeps (inp : FrameInput) (s : State) (r : ℕ) :
    (combineParity inp s r).2.time = s.time ∧ (combineParity inp s r).2.objs = s.objs ∧
    (combineParity inp s r).2.clk = s.clk ∧ (combineParity inp s r).2.slots = s.slots ∧
    (combineParity inp s r).2.gains = s.gains ∧ (combineParity inp s r).2.chans = s.chans ∧
    (combineParity inp s r).2.rods = s.rods ∧ (combineParity inp s r).2.buses = s.buses ∧
    (combineParity inp s r).2.routeRefs = s.routeRefs ∧ (combineParity inp s r).2.resets = s.resets ∧
    (combineParity inp s r).2.exitReports = s.exitReports ∧ (combineParity inp s r).2.combSat = s.combSat ∧
    (combineParity inp s r).2.mutes = s.mutes ∧ (combineParity inp s r).2.olp = s.olp ∧
    (combineParity inp s r).2.commit = s.commit ∧ (combineParity inp s r).2.windows = s.windows ∧
    (combineParity inp s r).2.gov = s.gov ∧ (combineParity inp s r).2.govSnap = s.govSnap ∧
    (combineParity inp s r).2.prot = s.prot ∧ (combineParity inp s r).2.lic = s.lic ∧
    (combineParity inp s r).2.sent = s.sent ∧ (combineParity inp s r).2.links = s.links ∧
    (combineParity inp s r).2.cap = s.cap ∧ (combineParity inp s r).2.therm = s.therm ∧
    (combineParity inp s r).2.life = s.life ∧ (combineParity inp s r).2.pins = s.pins ∧
    (combineParity inp s r).2.nv = s.nv ∧ (combineParity inp s r).2.out = s.out ∧
    (combineParity inp s r).2.free = s.free ∧
    (combineParity inp s r).2.pending = s.pending := by
  unfold combineParity; dsimp only; (repeat' split) <;> simp

@[simp] theorem eqParity_keeps (inp : FrameInput) (s : State) (r : ℕ) (xs : List Smp) :
    (eqParity inp s r xs).2.time = s.time ∧ (eqParity inp s r xs).2.objs = s.objs ∧
    (eqParity inp s r xs).2.clk = s.clk ∧ (eqParity inp s r xs).2.slots = s.slots ∧
    (eqParity inp s r xs).2.gains = s.gains ∧ (eqParity inp s r xs).2.chans = s.chans ∧
    (eqParity inp s r xs).2.rods = s.rods ∧ (eqParity inp s r xs).2.buses = s.buses ∧
    (eqParity inp s r xs).2.routeRefs = s.routeRefs ∧ (eqParity inp s r xs).2.resets = s.resets ∧
    (eqParity inp s r xs).2.exitReports = s.exitReports ∧ (eqParity inp s r xs).2.combSat = s.combSat ∧
    (eqParity inp s r xs).2.mutes = s.mutes ∧ (eqParity inp s r xs).2.olp = s.olp ∧
    (eqParity inp s r xs).2.commit = s.commit ∧ (eqParity inp s r xs).2.windows = s.windows ∧
    (eqParity inp s r xs).2.gov = s.gov ∧ (eqParity inp s r xs).2.govSnap = s.govSnap ∧
    (eqParity inp s r xs).2.prot = s.prot ∧ (eqParity inp s r xs).2.lic = s.lic ∧
    (eqParity inp s r xs).2.sent = s.sent ∧ (eqParity inp s r xs).2.links = s.links ∧
    (eqParity inp s r xs).2.cap = s.cap ∧ (eqParity inp s r xs).2.therm = s.therm ∧
    (eqParity inp s r xs).2.life = s.life ∧ (eqParity inp s r xs).2.pins = s.pins ∧
    (eqParity inp s r xs).2.nv = s.nv ∧ (eqParity inp s r xs).2.out = s.out ∧
    (eqParity inp s r xs).2.free = s.free ∧
    (eqParity inp s r xs).2.pending = s.pending := by
  unfold eqParity; simp

@[simp] theorem egressCheck_keeps (inp : FrameInput) (s : State) (r : ℕ) (code : ℕ) (xs : List Smp) :
    (egressCheck inp s r code xs).2.time = s.time ∧ (egressCheck inp s r code xs).2.objs = s.objs ∧
    (egressCheck inp s r code xs).2.clk = s.clk ∧ (egressCheck inp s r code xs).2.slots = s.slots ∧
    (egressCheck inp s r code xs).2.gains = s.gains ∧ (egressCheck inp s r code xs).2.rods = s.rods ∧
    (egressCheck inp s r code xs).2.buses = s.buses ∧ (egressCheck inp s r code xs).2.routeRefs = s.routeRefs ∧
    (egressCheck inp s r code xs).2.resets = s.resets ∧
    (egressCheck inp s r code xs).2.exitReports = s.exitReports ∧
    (egressCheck inp s r code xs).2.combSat = s.combSat ∧ (egressCheck inp s r code xs).2.mutes = s.mutes ∧
    (egressCheck inp s r code xs).2.olp = s.olp ∧ (egressCheck inp s r code xs).2.commit = s.commit ∧
    (egressCheck inp s r code xs).2.windows = s.windows ∧ (egressCheck inp s r code xs).2.gov = s.gov ∧
    (egressCheck inp s r code xs).2.govSnap = s.govSnap ∧ (egressCheck inp s r code xs).2.prot = s.prot ∧
    (egressCheck inp s r code xs).2.lic = s.lic ∧ (egressCheck inp s r code xs).2.sent = s.sent ∧
    (egressCheck inp s r code xs).2.links = s.links ∧ (egressCheck inp s r code xs).2.cap = s.cap ∧
    (egressCheck inp s r code xs).2.flt = s.flt ∧ (egressCheck inp s r code xs).2.tally = s.tally ∧
    (egressCheck inp s r code xs).2.therm = s.therm ∧ (egressCheck inp s r code xs).2.life = s.life ∧
    (egressCheck inp s r code xs).2.pins = s.pins ∧ (egressCheck inp s r code xs).2.nv = s.nv ∧
    (egressCheck inp s r code xs).2.out = s.out ∧ (egressCheck inp s r code xs).2.free = s.free ∧
    (egressCheck inp s r code xs).2.pending = s.pending := by
  unfold egressCheck; (repeat' split) <;> simp

@[simp] theorem toStream_keeps (inp : FrameInput) (s : State) (r : ℕ) (code : ℕ) (xs : List Smp) :
    (toStream inp s r code xs).time = s.time ∧ (toStream inp s r code xs).objs = s.objs ∧
    (toStream inp s r code xs).clk = s.clk ∧ (toStream inp s r code xs).slots = s.slots ∧
    (toStream inp s r code xs).gains = s.gains ∧ (toStream inp s r code xs).rods = s.rods ∧
    (toStream inp s r code xs).buses = s.buses ∧ (toStream inp s r code xs).routeRefs = s.routeRefs ∧
    (toStream inp s r code xs).resets = s.resets ∧ (toStream inp s r code xs).exitReports = s.exitReports ∧
    (toStream inp s r code xs).combSat = s.combSat ∧ (toStream inp s r code xs).mutes = s.mutes ∧
    (toStream inp s r code xs).commit = s.commit ∧ (toStream inp s r code xs).windows = s.windows ∧
    (toStream inp s r code xs).gov = s.gov ∧ (toStream inp s r code xs).govSnap = s.govSnap ∧
    (toStream inp s r code xs).prot = s.prot ∧ (toStream inp s r code xs).lic = s.lic ∧
    (toStream inp s r code xs).sent = s.sent ∧ (toStream inp s r code xs).cap = s.cap ∧
    (toStream inp s r code xs).flt = s.flt ∧ (toStream inp s r code xs).tally = s.tally ∧
    (toStream inp s r code xs).therm = s.therm ∧ (toStream inp s r code xs).life = s.life ∧
    (toStream inp s r code xs).pins = s.pins ∧ (toStream inp s r code xs).nv = s.nv ∧
    (toStream inp s r code xs).out = s.out ∧ (toStream inp s r code xs).free = s.free ∧
    (toStream inp s r code xs).pending = s.pending := by
  simp [toStream]

@[simp] theorem toSide_keeps (s : State) (g : ℕ) (xs : List Smp) :
    (toSide s g xs).time = s.time ∧ (toSide s g xs).objs = s.objs ∧ (toSide s g xs).clk = s.clk ∧
    (toSide s g xs).gains = s.gains ∧ (toSide s g xs).chans = s.chans ∧ (toSide s g xs).rods = s.rods ∧
    (toSide s g xs).buses = s.buses ∧ (toSide s g xs).routeRefs = s.routeRefs ∧ (toSide s g xs).resets = s.resets ∧
    (toSide s g xs).exitReports = s.exitReports ∧ (toSide s g xs).combSat = s.combSat ∧
    (toSide s g xs).mutes = s.mutes ∧ (toSide s g xs).olp = s.olp ∧ (toSide s g xs).commit = s.commit ∧
    (toSide s g xs).windows = s.windows ∧ (toSide s g xs).gov = s.gov ∧ (toSide s g xs).govSnap = s.govSnap ∧
    (toSide s g xs).prot = s.prot ∧ (toSide s g xs).lic = s.lic ∧ (toSide s g xs).sent = s.sent ∧
    (toSide s g xs).links = s.links ∧ (toSide s g xs).cap = s.cap ∧ (toSide s g xs).flt = s.flt ∧
    (toSide s g xs).tally = s.tally ∧ (toSide s g xs).therm = s.therm ∧ (toSide s g xs).life = s.life ∧
    (toSide s g xs).pins = s.pins ∧ (toSide s g xs).nv = s.nv ∧ (toSide s g xs).out = s.out ∧
    (toSide s g xs).free = s.free ∧
    (toSide s g xs).pending = s.pending := by
  simp [toSide]

@[simp] theorem formRef_keeps (inp : FrameInput) (s : State) (r : ℕ) (xs : List Smp) :
    (formRef inp s r xs).time = s.time ∧ (formRef inp s r xs).objs = s.objs ∧ (formRef inp s r xs).clk = s.clk ∧
    (formRef inp s r xs).slots = s.slots ∧ (formRef inp s r xs).gains = s.gains ∧
    (formRef inp s r xs).chans = s.chans ∧ (formRef inp s r xs).rods = s.rods ∧
    (formRef inp s r xs).buses = s.buses ∧ (formRef inp s r xs).resets = s.resets ∧
    (formRef inp s r xs).exitReports = s.exitReports ∧ (formRef inp s r xs).combSat = s.combSat ∧
    (formRef inp s r xs).mutes = s.mutes ∧ (formRef inp s r xs).olp = s.olp ∧
    (formRef inp s r xs).commit = s.commit ∧ (formRef inp s r xs).windows = s.windows ∧
    (formRef inp s r xs).gov = s.gov ∧ (formRef inp s r xs).govSnap = s.govSnap ∧
    (formRef inp s r xs).prot = s.prot ∧ (formRef inp s r xs).lic = s.lic ∧ (formRef inp s r xs).sent = s.sent ∧
    (formRef inp s r xs).links = s.links ∧ (formRef inp s r xs).cap = s.cap ∧ (formRef inp s r xs).flt = s.flt ∧
    (formRef inp s r xs).tally = s.tally ∧ (formRef inp s r xs).therm = s.therm ∧
    (formRef inp s r xs).life = s.life ∧ (formRef inp s r xs).pins = s.pins ∧ (formRef inp s r xs).nv = s.nv ∧
    (formRef inp s r xs).out = s.out ∧ (formRef inp s r xs).free = s.free ∧
    (formRef inp s r xs).pending = s.pending := by
  simp [formRef]

@[simp] theorem fanOut_keeps (inp : FrameInput) (old : State) (s : State) (r : ℕ) :
    (fanOut inp old s r).time = s.time ∧ (fanOut inp old s r).objs = s.objs ∧ (fanOut inp old s r).clk = s.clk ∧
    (fanOut inp old s r).gains = s.gains ∧ (fanOut inp old s r).rods = s.rods ∧
    (fanOut inp old s r).buses = s.buses ∧ (fanOut inp old s r).resets = s.resets ∧
    (fanOut inp old s r).exitReports = s.exitReports ∧ (fanOut inp old s r).combSat = s.combSat ∧
    (fanOut inp old s r).mutes = s.mutes ∧ (fanOut inp old s r).commit = s.commit ∧
    (fanOut inp old s r).windows = s.windows ∧ (fanOut inp old s r).gov = s.gov ∧
    (fanOut inp old s r).govSnap = s.govSnap ∧ (fanOut inp old s r).prot = s.prot ∧
    (fanOut inp old s r).lic = s.lic ∧ (fanOut inp old s r).sent = s.sent ∧ (fanOut inp old s r).cap = s.cap ∧
    (fanOut inp old s r).therm = s.therm ∧ (fanOut inp old s r).life = s.life ∧ (fanOut inp old s r).pins = s.pins ∧
    (fanOut inp old s r).nv = s.nv ∧ (fanOut inp old s r).out = s.out ∧ (fanOut inp old s r).free = s.free ∧
    (fanOut inp old s r).pending = s.pending := by
  simp [fanOut]

@[simp] theorem fanIn_keeps (inp : FrameInput) (old : State) (s : State) (r : ℕ) :
    (fanIn inp old s r).time = s.time ∧ (fanIn inp old s r).objs = s.objs ∧ (fanIn inp old s r).clk = s.clk ∧
    (fanIn inp old s r).gains = s.gains ∧ (fanIn inp old s r).buses = s.buses ∧
    (fanIn inp old s r).resets = s.resets ∧ (fanIn inp old s r).exitReports = s.exitReports ∧
    (fanIn inp old s r).mutes = s.mutes ∧ (fanIn inp old s r).commit = s.commit ∧
    (fanIn inp old s r).windows = s.windows ∧ (fanIn inp old s r).gov = s.gov ∧
    (fanIn inp old s r).govSnap = s.govSnap ∧ (fanIn inp old s r).prot = s.prot ∧ (fanIn inp old s r).lic = s.lic ∧
    (fanIn inp old s r).sent = s.sent ∧ (fanIn inp old s r).cap = s.cap ∧ (fanIn inp old s r).therm = s.therm ∧
    (fanIn inp old s r).life = s.life ∧ (fanIn inp old s r).pins = s.pins ∧ (fanIn inp old s r).nv = s.nv ∧
    (fanIn inp old s r).out = s.out ∧ (fanIn inp old s r).free = s.free ∧
    (fanIn inp old s r).pending = s.pending := by
  simp [fanIn]

@[simp] theorem sumInput_keeps (s : State) (g : ℕ) :
    (sumInput s g).time = s.time ∧ (sumInput s g).objs = s.objs ∧ (sumInput s g).clk = s.clk ∧
    (sumInput s g).slots = s.slots ∧ (sumInput s g).chans = s.chans ∧ (sumInput s g).rods = s.rods ∧
    (sumInput s g).buses = s.buses ∧ (sumInput s g).routeRefs = s.routeRefs ∧ (sumInput s g).resets = s.resets ∧
    (sumInput s g).exitReports = s.exitReports ∧ (sumInput s g).combSat = s.combSat ∧
    (sumInput s g).mutes = s.mutes ∧ (sumInput s g).olp = s.olp ∧ (sumInput s g).commit = s.commit ∧
    (sumInput s g).windows = s.windows ∧ (sumInput s g).gov = s.gov ∧ (sumInput s g).govSnap = s.govSnap ∧
    (sumInput s g).prot = s.prot ∧ (sumInput s g).lic = s.lic ∧ (sumInput s g).sent = s.sent ∧
    (sumInput s g).links = s.links ∧ (sumInput s g).cap = s.cap ∧ (sumInput s g).flt = s.flt ∧
    (sumInput s g).tally = s.tally ∧ (sumInput s g).therm = s.therm ∧ (sumInput s g).life = s.life ∧
    (sumInput s g).pins = s.pins ∧ (sumInput s g).nv = s.nv ∧ (sumInput s g).out = s.out ∧
    (sumInput s g).free = s.free ∧
    (sumInput s g).pending = s.pending := by
  simp [sumInput]

@[simp] theorem sumStream_keeps (s : State) (code : ℕ) :
    (sumStream s code).time = s.time ∧ (sumStream s code).objs = s.objs ∧ (sumStream s code).clk = s.clk ∧
    (sumStream s code).slots = s.slots ∧ (sumStream s code).gains = s.gains ∧ (sumStream s code).chans = s.chans ∧
    (sumStream s code).rods = s.rods ∧ (sumStream s code).buses = s.buses ∧
    (sumStream s code).routeRefs = s.routeRefs ∧ (sumStream s code).resets = s.resets ∧
    (sumStream s code).exitReports = s.exitReports ∧ (sumStream s code).combSat = s.combSat ∧
    (sumStream s code).mutes = s.mutes ∧ (sumStream s code).olp = s.olp ∧ (sumStream s code).commit = s.commit ∧
    (sumStream s code).windows = s.windows ∧ (sumStream s code).govSnap = s.govSnap ∧
    (sumStream s code).prot = s.prot ∧ (sumStream s code).lic = s.lic ∧ (sumStream s code).sent = s.sent ∧
    (sumStream s code).links = s.links ∧ (sumStream s code).cap = s.cap ∧ (sumStream s code).flt = s.flt ∧
    (sumStream s code).tally = s.tally ∧ (sumStream s code).therm = s.therm ∧ (sumStream s code).life = s.life ∧
    (sumStream s code).pins = s.pins ∧ (sumStream s code).nv = s.nv ∧ (sumStream s code).out = s.out ∧
    (sumStream s code).free = s.free ∧
    (sumStream s code).pending = s.pending := by
  simp [sumStream]

@[simp] theorem takeCode_keeps (s : State) (code : ℕ) :
    (takeCode s code).time = s.time ∧ (takeCode s code).objs = s.objs ∧ (takeCode s code).clk = s.clk ∧
    (takeCode s code).slots = s.slots ∧ (takeCode s code).gains = s.gains ∧ (takeCode s code).chans = s.chans ∧
    (takeCode s code).rods = s.rods ∧ (takeCode s code).buses = s.buses ∧
    (takeCode s code).routeRefs = s.routeRefs ∧ (takeCode s code).resets = s.resets ∧
    (takeCode s code).exitReports = s.exitReports ∧ (takeCode s code).combSat = s.combSat ∧
    (takeCode s code).mutes = s.mutes ∧ (takeCode s code).olp = s.olp ∧ (takeCode s code).commit = s.commit ∧
    (takeCode s code).windows = s.windows ∧ (takeCode s code).gov = s.gov ∧ (takeCode s code).govSnap = s.govSnap ∧
    (takeCode s code).prot = s.prot ∧ (takeCode s code).lic = s.lic ∧ (takeCode s code).sent = s.sent ∧
    (takeCode s code).cap = s.cap ∧ (takeCode s code).flt = s.flt ∧ (takeCode s code).tally = s.tally ∧
    (takeCode s code).therm = s.therm ∧ (takeCode s code).life = s.life ∧ (takeCode s code).pins = s.pins ∧
    (takeCode s code).nv = s.nv ∧ (takeCode s code).out = s.out ∧ (takeCode s code).free = s.free ∧
    (takeCode s code).pending = s.pending := by
  unfold takeCode; (repeat' split) <;> simp

@[simp] theorem crossbar_keeps (inp : FrameInput) (old : State) (s : State) :
    (crossbar inp old s).time = s.time ∧ (crossbar inp old s).objs = s.objs ∧ (crossbar inp old s).clk = s.clk ∧
    (crossbar inp old s).buses = s.buses ∧ (crossbar inp old s).resets = s.resets ∧
    (crossbar inp old s).exitReports = s.exitReports ∧ (crossbar inp old s).mutes = s.mutes ∧
    (crossbar inp old s).commit = s.commit ∧ (crossbar inp old s).windows = s.windows ∧
    (crossbar inp old s).govSnap = s.govSnap ∧ (crossbar inp old s).prot = s.prot ∧
    (crossbar inp old s).lic = s.lic ∧ (crossbar inp old s).sent = s.sent ∧ (crossbar inp old s).therm = s.therm ∧
    (crossbar inp old s).life = s.life ∧ (crossbar inp old s).pins = s.pins ∧ (crossbar inp old s).nv = s.nv ∧
    (crossbar inp old s).out = s.out ∧
    (crossbar inp old s).pending = s.pending := by
  simp [crossbar]

@[simp] theorem rotateRx_keeps (s : State) :
    (rotateRx s).time = s.time ∧ (rotateRx s).objs = s.objs ∧ (rotateRx s).clk = s.clk ∧
    (rotateRx s).gains = s.gains ∧ (rotateRx s).chans = s.chans ∧ (rotateRx s).rods = s.rods ∧
    (rotateRx s).buses = s.buses ∧ (rotateRx s).routeRefs = s.routeRefs ∧ (rotateRx s).resets = s.resets ∧
    (rotateRx s).exitReports = s.exitReports ∧ (rotateRx s).combSat = s.combSat ∧ (rotateRx s).mutes = s.mutes ∧
    (rotateRx s).olp = s.olp ∧ (rotateRx s).commit = s.commit ∧ (rotateRx s).windows = s.windows ∧
    (rotateRx s).gov = s.gov ∧ (rotateRx s).govSnap = s.govSnap ∧ (rotateRx s).prot = s.prot ∧
    (rotateRx s).lic = s.lic ∧ (rotateRx s).sent = s.sent ∧ (rotateRx s).links = s.links ∧
    (rotateRx s).cap = s.cap ∧ (rotateRx s).flt = s.flt ∧ (rotateRx s).tally = s.tally ∧
    (rotateRx s).therm = s.therm ∧ (rotateRx s).life = s.life ∧ (rotateRx s).pins = s.pins ∧
    (rotateRx s).nv = s.nv ∧ (rotateRx s).out = s.out ∧ (rotateRx s).free = s.free ∧
    (rotateRx s).pending = s.pending := by
  simp [rotateRx]

@[simp] theorem quietOnLoss_keeps (s : State) :
    (quietOnLoss s).time = s.time ∧ (quietOnLoss s).objs = s.objs ∧ (quietOnLoss s).clk = s.clk ∧
    (quietOnLoss s).slots = s.slots ∧ (quietOnLoss s).gains = s.gains ∧ (quietOnLoss s).rods = s.rods ∧
    (quietOnLoss s).routeRefs = s.routeRefs ∧ (quietOnLoss s).resets = s.resets ∧
    (quietOnLoss s).exitReports = s.exitReports ∧ (quietOnLoss s).combSat = s.combSat ∧
    (quietOnLoss s).olp = s.olp ∧ (quietOnLoss s).commit = s.commit ∧ (quietOnLoss s).windows = s.windows ∧
    (quietOnLoss s).gov = s.gov ∧ (quietOnLoss s).govSnap = s.govSnap ∧ (quietOnLoss s).prot = s.prot ∧
    (quietOnLoss s).lic = s.lic ∧ (quietOnLoss s).sent = s.sent ∧ (quietOnLoss s).links = s.links ∧
    (quietOnLoss s).flt = s.flt ∧ (quietOnLoss s).therm = s.therm ∧ (quietOnLoss s).pins = s.pins ∧
    (quietOnLoss s).nv = s.nv ∧ (quietOnLoss s).free = s.free ∧
    (quietOnLoss s).pending = s.pending := by
  simp [quietOnLoss]

@[simp] theorem boundary_keeps (s : State) :
    (boundary s).time = s.time ∧ (boundary s).objs = s.objs ∧ (boundary s).clk = s.clk ∧
    (boundary s).slots = s.slots ∧ (boundary s).routeRefs = s.routeRefs ∧ (boundary s).resets = s.resets ∧
    (boundary s).exitReports = s.exitReports ∧ (boundary s).combSat = s.combSat ∧ (boundary s).gov = s.gov ∧
    (boundary s).prot = s.prot ∧ (boundary s).lic = s.lic ∧ (boundary s).sent = s.sent ∧
    (boundary s).links = s.links ∧ (boundary s).therm = s.therm ∧ (boundary s).pins = s.pins ∧
    (boundary s).free = s.free ∧
    (boundary s).pending = s.pending := by
  simp [boundary]

@[simp] theorem datapath_keeps (inp : FrameInput) (prev : State) (s : State) :
    (datapath inp prev s).time = s.time ∧ (datapath inp prev s).objs = s.objs ∧ (datapath inp prev s).clk = s.clk ∧
    (datapath inp prev s).resets = s.resets ∧ (datapath inp prev s).commit = s.commit ∧
    (datapath inp prev s).windows = s.windows ∧ (datapath inp prev s).govSnap = s.govSnap ∧
    (datapath inp prev s).lic = s.lic ∧ (datapath inp prev s).sent = s.sent ∧
    (datapath inp prev s).therm = s.therm ∧ (datapath inp prev s).life = s.life ∧
    (datapath inp prev s).pins = s.pins ∧ (datapath inp prev s).nv = s.nv ∧
    (datapath inp prev s).pending = s.pending := by
  simp [datapath]

end Sys2Proof.Machine
end

