-- ==== Sys2Proof/Laws/Mutes.lean ====
section
/-! SUPPORT. Mutes.lean: what asserting and releasing a mute does to the list of active mutes (R30). -/

namespace Sys2Proof.Machine

variable (s : State) (o : Owner) (sc : Scope) (m : Mute)

/-- A mute that is active already changes nothing. -/
theorem addMute_of_mem (h : (⟨o, sc⟩ : Mute) ∈ s.mutes) : addMute s o sc = s := by
  simp [addMute, h]

/-- A mute asserted joins the others. -/
theorem addMute_mutes_of_not_mem (h : (⟨o, sc⟩ : Mute) ∉ s.mutes) : (addMute s o sc).mutes = s.mutes ++ [⟨o, sc⟩] := by
  simp [addMute, h]

@[simp] theorem mem_addMute : m ∈ (addMute s o sc).mutes ↔ m ∈ s.mutes ∨ m = ⟨o, sc⟩ := by
  by_cases h : (⟨o, sc⟩ : Mute) ∈ s.mutes
  · rw [addMute_of_mem s o sc h]
    exact ⟨.inl, fun hm => hm.elim id fun e => e ▸ h⟩
  · rw [addMute_mutes_of_not_mem s o sc h]; simp

/-- No mute is listed twice. -/
theorem addMute_nodup (h : s.mutes.Nodup) : (addMute s o sc).mutes.Nodup := by
  by_cases hm : (⟨o, sc⟩ : Mute) ∈ s.mutes
  · rwa [addMute_of_mem s o sc hm]
  · rw [addMute_mutes_of_not_mem s o sc hm, List.nodup_append]
    exact ⟨h, List.nodup_singleton _, fun a ha b hb e => hm (by rw [← List.mem_singleton.1 hb, ← e]; exact ha)⟩

/-- A release touches the mutes of its owner alone. -/
@[simp] theorem mem_dropMute : m ∈ (dropMute s o).mutes ↔ m ∈ s.mutes ∧ m.owner ≠ o := by
  simp [dropMute]

theorem dropMute_nodup (h : s.mutes.Nodup) : (dropMute s o).mutes.Nodup := h.filter _

/-- An owner holds a mute after asserting it, and none after releasing it. -/
theorem hasMute_addMute : hasMute (addMute s o sc) o = true := by
  simp only [hasMute, List.any_eq_true, beq_iff_eq]
  exact ⟨⟨o, sc⟩, (mem_addMute s o sc _).2 (.inr rfl), rfl⟩

theorem hasMute_dropMute : hasMute (dropMute s o) o = false := by
  simp [hasMute, dropMute]

end Sys2Proof.Machine
end

