-- ==== Sys2Proof/WellFormed.lean ====
section
/-! DEFINITION. WellFormed.lean: the operands a command may carry. A number of a series lies in the series (R3, R4,
R285, R330, R336); a written value fits the type of its object (Table 2.1); a written or read run has a length a
message can carry. `exec` does not lean on it: a command that is not well formed answers a next state too. -/

namespace Sys2Proof

/-! ### Numbers of the series -/

/-- A manager: OLP managers 0–7, 8 the monitor (R418). -/
def isManager (m : Nat) : Bool := decide (m ≤ 8)
def isRod (r : Nat) : Bool := decide (r < 6)
def isChannel (ch : Nat) : Bool := decide (ch < 96)
def isGlobalSlot (g : Nat) : Bool := decide (g < 768)
/-- A donor port or a chain lane. -/
def isLink (l : Nat) : Bool := decide (l < 16)
def isWindow (w : Nat) : Bool := decide (w < 5)
def isPath (p : Nat) : Bool := decide (p < 8)
def isSource (n : Nat) : Bool := decide (n < 320)
def isTddGroup (n : Nat) : Bool := decide (n < 8)
def isZone (z : Nat) : Bool := decide (z < 7)
/-- An index and a subindex of the Dictionary (R36). -/
def isAddress (index sub : Nat) : Bool := decide (index < 2 ^ 16) && decide (sub < 2 ^ 8)
/-- An endpoint code of a link stream: [15:14] 1 a donor port or 2 a chain lane, [10:7] the link, [6:0] the stream
(Table 6.1). -/
def isStreamCode (code : Nat) : Bool :=
  decide (code % 128 < 96) && (code / 2048 == 8 || code / 2048 == 16)
/-- A value of an object of `n` bytes. -/
def fits (n v : Nat) : Bool := decide (v < 2 ^ (8 * n))
/-- Bytes that one OLP operation can carry (R43). -/
def isPayload (bs : List Byte) : Bool := decide (bs.length < 2 ^ 16)

/-! ### What arrives from outside -/

/-- 144 ADC codes of 14 bits per channel in a frame (Tables 3.1 and 3.6); damage names blocks and places that exist. -/
def FrameInput.wf (inp : FrameInput) : Bool :=
  inp.adc.all (fun e => isChannel e.1 && decide (e.2.length ≤ 144) &&
    e.2.all fun v => decide (-8192 ≤ v.1) && decide (v.1 ≤ 8191) && decide (-8192 ≤ v.2) && decide (v.2 ≤ 8191)) &&
  inp.rxHits.all (fun h => isChannel h.num) && inp.txHits.all (fun h => isChannel h.num) &&
  inp.refHits.all (fun h => isChannel h.num && isPath h.path) && inp.egressHits.all (fun h => isStreamCode h.num) &&
  inp.damage.all (fun d => isChannel d.ch && decide (d.slot ≤ 8)) &&
  inp.parity.all fun h => decide (1 ≤ h.region) && decide (h.region ≤ 13) &&
    (if h.region = 1 ∨ h.region = 13 then decide (h.ch < 4096) else isChannel h.ch && decide (h.slot < 8) && decide (h.part < 24))

def CellMeas.wf (c : CellMeas) : Bool := decide (c.rat < 3) && decide (c.pci < 1008) && decide (c.arrival < 2457600)

/-- Field widths of the eCPRI and Ethernet headers (Table 12.2). -/
def DnFrame.wf (f : DnFrame) : Bool :=
  decide (f.dst < 2 ^ 48) && decide (f.etherType < 2 ^ 16) && decide (f.hdr0 < 256) && decide (f.msgType < 256) &&
  decide (f.size < 2 ^ 16) && decide (f.pcid < 2 ^ 16) && decide (f.seq < 256) && decide (f.sub < 256) &&
  decide (f.measId < 256) && decide (f.action < 256) && f.bad.all fun e => decide (e.1 < 144)

/-- The words of a superframe as its queue holds it (Table 12.4, R314). -/
def Superframe.wf (sf : Superframe) : Bool := decide (456 ≤ sf.blocks.length) && sf.bad.all fun e => decide (e.1 ≤ 432)

/-- Relay blocks of one message (R309): each carries data, and the message is no longer than its length field can say. -/
def relayBlocksWf (bs : List (BitVec 64)) : Bool := decide (bs.length ≤ 9365) && bs.all fun b => decide (2 ^ 63 ≤ b.toNat)

def CollectorInput.wf (c : CollectorInput) : Bool :=
  c.levels.all (fun e => isSource e.1) && c.events.all isSource && decide ((c.refOffset.getD 0).natAbs < 2 ^ 31)

/-! ### The commands -/

/-- The command's operands lie in their series and widths. -/
def Instr.wf : Instr → Bool
  | .reckonerFrame inp => inp.wf
  | .rodDieExitFailure ch _ => isChannel ch
  | .dieLinkAlignmentLoss r _ | .dieLinkErrorFreeExpiry r => isRod r
  | .refclkLoss | .refclkReturn | .corePllUnlock | .coreClockReturn | .supclkLoss | .supclkReturn => true
  | .streamDonorPathLost code | .streamMuteRelease code => isStreamCode code
  | .olpMessage _ bytes => isPayload bytes
  | .read m i sub | .readStaged m i sub | .subscriptionLeaseExpiry m i sub => isManager m && isAddress i sub
  | .write m i sub data | .subscribe m i sub data _ => isManager m && isAddress i sub && isPayload data
  | .notify m => decide (m < 8)
  | .stagingLock m v => isManager m && fits 1 v
  | .commit m | .discard m | .requestHold m | .requestServe m | .requestQuiet m
  | .captureControllerRestart m | .tallyRestart m => isManager m
  | .stagingLockTimeout | .commitChecksDone | .commitApply | .relayResponseTimeout => true
  | .windowSelectorWrite m w v => isManager m && isWindow w && fits 4 v
  | .windowCursorWrite m w v => isManager m && isWindow w && fits 8 v
  | .windowDataWrite m w _ | .windowDataRead m w _ | .windowCrcConfirm m w _ => isManager m && isWindow w
  | .windowClaimTimeout w => isWindow w
  | .bankSeal m _ | .licenceBurn m _ _ | .imageSeal m _ _ | .clearMask m _ => isManager m
  | .tallyWindowRead m _ p => isManager m && p.all (fun k => decide (k < 1024))
  | .relayResponseReturn l bytes => isLink l && isPayload bytes
  | .slotReset m ch v | .channelReset m ch v | .rodReset m ch v | .modelSnapshot m ch v | .tunerStateWrite m ch v =>
    isManager m && isChannel ch && fits 1 v
  | .surveyStop m ch => isManager m && isChannel ch
  | .checkInjection m ch v | .surveyStart m ch v => isManager m && isChannel ch && fits 2 v
  | .swapRequest m g v => isManager m && isGlobalSlot g && fits 1 v
  | .crossFadeEnd g | .powerDetectorWindow g | .donorLossEntry g | .donorLossRelease g => isGlobalSlot g
  | .cancellerUpdatePeriod ch _ => isChannel ch
  | .cancellerModelApply ch | .surveyComplete ch _ _ | .surveyAbandon ch => isChannel ch
  | .trainingTimeout ch p | .pathStale ch p => isChannel ch && isPath p
  | .manualFreeze m ch p v | .modelReset m ch p v => isManager m && isChannel ch && isPath p && fits 1 v
  | .governorTick bad => bad.all fun b => isGlobalSlot b.1
  | .loopRelease m v | .ledgerClear m v | .gateRelease m v | .captureStart m v | .captureStop m v | .faultNDrive m v
  | .lastResortClear m v | .leaveShutdown m v | .activate m v | .confirm m v | .supervisorRestart m v =>
    isManager m && fits 1 v
  | .ledgerPin m v | .ledgerUnpin m v => isManager m && fits 2 v
  | .wallTimeSet m v => isManager m && fits 8 v
  | .searchDwellComplete r g dwell => isRod r && isGlobalSlot g && dwell.cells.all CellMeas.wf
  | .trackingMeasurement entry meas _ => decide (entry < 2 ^ 16) && meas.all CellMeas.wf
  | .identityTest | .helloSend | .faultNPulseEnd | .recordForm | .operatingTimeSave | .thermalDemand | .monitorLock
  | .monitorLevel | .monitorScanOn | .monitorScanOff | .monitorIdleTimeout | .unlockLockoutEnd => true
  | .cellFinderFailure r | .reliefHandover r | .rodRestartComplete r => isRod r
  | .rodRestart m r | .cellFinderRestart m r => isManager m && isRod r
  | .frameSyncInEdge _ pos | .ppsInEdge _ pos => decide (pos < 14745600)
  | .tddEpochMissing grp | .holdoverLimitExpiry grp => isTddGroup grp
  | .radioTransitionEnd ch | .tddTxWindowStart ch | .tddTxWindowEnd ch | .txCommandReject ch | .mismatchProbe ch
  | .tunerSearchStep ch | .reflectedWindowLengthEnd ch _ | .mismatchMeasurement ch _ => isChannel ch
  | .synthLockLoss r n | .synthLock r n => isRod r && decide (n < 8)
  | .rffeTransactionComplete bus _ => decide (bus < 24)
  | .rodCalibrationRequest m ch | .tunerSearchRequest m ch => isManager m && isChannel ch
  | .rodCalibrationComplete r failStep values =>
    isRod r && decide (failStep ≤ 9) && values.all (fun v => isChannel v.ch && v.ch / 16 == r)
  | .licenceGenerationActivate | .licenceShadowCompare _ => true
  | .sentinelFuseRead lost => lost.all fun k => decide (k < 64)
  | .sentinelOverpowerInterval ch _ => isChannel ch
  | .sentinelSpectralWindow ch bins => isChannel ch && bins.length == 64
  | .sentinelSelfTest failed => failed.all isChannel
  | .sentinelSelfCheckFailure kind => decide (kind ≤ 2)
  | .muteNAssert _ | .muteNRelease | .resetNAssert _ => true
  | .portRestartComplete port => decide (port < 32)
  | .dnFrameDiscard p f | .ecpriIqMessage p f | .ecpriDelayRequest p f | .ecpriRemoteDelayRequest p f
  | .ecpriDelayResponse p f => isLink p && f.wf
  | .delayRequest m p v => isManager m && isLink p && fits 1 v
  | .delayResponseTimeout p | .exportPageSend p | .dnPortDown p | .dnPortUp p => isLink p
  | .streamLossTimeout p n | .ecpriEgressMessage p n => isLink p && decide (n < 96)
  | .superframeReceive l sf _ | .throughRepeat l sf => isLink l && sf.wf
  | .laneBlockLockLoss l | .superframeTransmit l | .cableDelayMeasurement l _ _ => isLink l
  | .relayMessageReceive l blocks _ => isLink l && relayBlocksWf blocks
  | .relayAddressAgeOut addr => decide (addr < 2 ^ 16)
  | .queueFlush queue num => decide (queue ≤ 10) && decide (num < 256)
  | .capturePageWrite entry _ _ => decide (entry < 256)
  | .markWrite m k v => isManager m && decide (k < 16) && fits 4 v
  | .manualTrigger m k v => isManager m && decide (k < 16) && fits 1 v
  | .exportSelect m p v => isManager m && isLink p && fits 4 v
  | .replayStart m k v | .replayStop m k v => isManager m && decide (k < 8) && fits 1 v
  | .replayEnd k => decide (k < 8)
  | .ddrChannelFailure n _ => decide (n < 4)
  | .collectorCycle inp => inp.wf
  | .reactionWrite m src v => isManager m && isSource src && fits 1 v
  | .restartWithheldExpiry src => isSource src
  | .summaryRecord code | .tokenRefill code => decide (code < 2 ^ 16)
  | .persistentWrite _ | .ringScan _ => true
  | .snapshotEntryWrite m entry v => isManager m && decide (1 ≤ entry) && decide (entry ≤ 16) && fits 4 v
  | .thermalReading results => decide (results.length ≤ 40)
  | .throttleFreezeEnd z | .automaticResume z | .junctionComparatorTrip z | .junctionComparatorReset z => isZone z
  | .monitorChallenge level => decide (level < 256)
  | .monitorUnlock level response => decide (level < 256) && isPayload response
  | .monitorRd i sub _ => isAddress i sub
  | .monitorWr i sub data => isAddress i sub && isPayload data
  | .monitorMkey level key => decide (level < 256) && isPayload key
  | .monitorOkey slot key => decide (slot < 256) && isPayload key
  | .monitorLifecycle target _ => decide (target < 256)
  | .monitorRecover _ => true
  | .imageProgrammingComplete | .trialLimitExpiry | .lockstepMismatch | .supervisorWatchdogMiss | .supervisorStart
  | .autonomyLimitExpiry | .autonomyWatchdogReset | .supplyMonitorReset | .bootComplete => true
  | .resetNRelease flash => flash.badPages.all fun p => decide (p < 1024)
  | .dnPortRestart m p | .xlLaneRestart m p => isManager m && isLink p
  | .blockRestartComplete kind num => decide (2 ≤ kind) && decide (kind ≤ 6) && isLink num
  | .frameSyncOutPulse | .eventNPulseEnd | .supervisorMemoryParity | .frameSyncOutPulseEnd => true
  | .class1SequenceIssue ch event => isChannel ch && decide (event < 8)

end Sys2Proof
end

