-- ==== Sys2Proof/Tests/Slice0.lean ====
section
/-! SUPPORT. Slice0.lean: states on which the premises of the obligations hold, one theorem per statement, each of its
clauses with a state and operands of its own (test_witness_…); worked examples of the spec; check values of the
standards it names; and for each check of WellFormed a term that it refuses. The theorems are elaborated one after
another: each waits for the kernel's evaluation of its states. -/

open Sys2Proof Sys2Proof.Machine Host

namespace Sys2Proof.Tests

section

set_option Elab.async false

/-- With no mutes the mute term invariant holds of every channel. -/
theorem muteTermInv_of_no_mutes {s : State} (h : s.mutes = []) : MuteTermInv s := by
  intro ch hc; simp [chanMuted, h] at hc

/-- objects with written values -/
def cfgOf (xs : List (Nat × Nat × Nat)) : SMap Nat := xs.foldl (fun o x => cfgSet o (key x.1 x.2.1) x.2.2) []
/-- a device that serves, its supervisor in charge, every rod powered and calibrated -/
def up : State := { State.reset with
  time := 10 ^ 16, clk := { frame := 4096 }, life := { power := .serve, prev := .hold, sup := true },
  rods := (List.range 6).map fun r => (r, { powered := true, cal := 2 }) }
def upObjs (xs : List (Nat × Nat × Nat)) : State := { up with objs := cfgOf xs }
def inPower (p : Power) (s : State) : State := { s with life := { s.life with power := p } }

/-- the staging lock is another manager's -/
def locked : State := { up with commit := { lock := some 5 } }
/-- an instant of the identity test, no rod powered -/
def noRods : State := { up with rods := [], clk := { frame := 2 * 341333 } }
/-- A mask below source 300 leaves the reserved ones alone. -/
theorem low_mask : ∀ n, reservedSrc n = true → (5#320).getLsbD n = false := by
  intro n h
  have h3 : 3 ≤ n := by have : 300 ≤ n := by simpa [reservedSrc] using h
                        omega
  rw [BitVec.getLsbD_ofNat, Nat.testBit_lt_two_pow (Nat.lt_of_lt_of_le (by decide : 5 < 2 ^ 3) (Nat.pow_le_pow_right (by decide) h3)), Bool.and_false]

namespace P2
def k0 : List Byte := [7, 7, 7]
def stLock : State := { up with commit := { lock := some 3, lockAt := 5 } }
def stMine : State := { up with commit := { lock := some 0, lockAt := 5, staged := [(key 0x3000 1, 3)] } }
def stChecking : State := { up with commit := { st := 1 }, olp := { commitBy := some 0 } }
def stCheckFail : State := { up with commit := { st := 1, snapshot := [(key 0x5100 1, 0x30001)], staged := [(key 0x5100 1, 7), (key 0x5100 2, 9)] }, olp := { commitBy := some 0 } }
def stApply : State := { up with commit := { st := 2, held := true, snapshot := [(key 0x3000 1, 3)], staged := [(key 0x5100 2, 9)], lock := some 3 }, olp := { commitBy := some 0 } }
def stWin (w : Nat) (x : Window) (s : State) : State := { s with windows := smSet {} s.windows w x }
def stBank : State := stWin 0 { sel := 1, claim := some 0, cursor := 1 } up
def stBank2 : State := stWin 0 { sel := 3 } up
def stSeal : State := stWin 0 { sel := 1, claim := some 0, cursor := 2, fromZero := true, written := 2, moved := 2, crc := crcWords 0xFFFFFFFF#32 [0x02000001#32, 0x40000000#32] } { up with slots := [(0, { bankB := { words := [(0, 0x02000001#32), (1, 0x40000000#32)] } })] }
def subA : Subscription := { m := 1, index := 0x1012, sub := 1, mode := 2, interval := 1, lease := 5, since := 0, lastSent := none, seen := [], origin := {} }
def stSubs : State := { up with olp := { subs := [subA, { subA with m := 0, since := 10 ^ 16 }] }, nv := { olpKeys := [(0, k0), (1, k0)] } }
def stKeyed : State := { up with nv := { olpKeys := [(0, k0)] } }
/-- request of manager 0: write 2 bytes -/
def reqBody (session seq dev : Nat) : List Byte :=
  beBytes 1 1 ++ beBytes 1 0 ++ beBytes 2 seq ++ beBytes 4 session ++ [0, 1] ++ beBytes 2 12 ++ beBytes 2 dev ++ [0, 0] ++
  [2, 0, 0x30, 0, 1, 0, 0, 2, 0, 1, 0, 0]
def reqMsg (session seq dev : Nat) : List Byte := let b := reqBody session seq dev; b ++ tagOf k0 b
def opBytes (o i sub : Nat) (d : List Byte) (n : Nat := d.length) : List Byte := beBytes 1 o ++ [0] ++ beBytes 2 i ++ beBytes 1 sub ++ [0] ++ beBytes 2 n ++ d
def msgOf (session seq n : Nat) (ops : List Byte) (fl : Nat := 0) : List Byte :=
  let b := beBytes 1 1 ++ beBytes 1 fl ++ beBytes 2 seq ++ beBytes 4 session ++ [0, BitVec.ofNat 8 n] ++ beBytes 2 ops.length ++ beBytes 2 0xFFFF ++ [0, 0] ++ ops
  b ++ tagOf k0 b
def m3 : List Byte := msgOf 1 1 4 (opBytes 1 0x1012 1 [] ++ opBytes 2 0x3000 1 [0,100,0,0] 2 ++ opBytes 3 0x3000 1 [] ++ opBytes 4 0x1012 1 [1,0,0,1,0,60,0,0])
def mBad : List Byte := msgOf 1 1 4 (opBytes 1 0x1012 1 []) 
def mBig : List Byte := msgOf 1 1 1 (opBytes 1 0x6100 3 [] 1440)
def mCommit : List Byte := msgOf 1 1 2 (opBytes 2 0x1010 1 [1,0,0,0] 1 ++ opBytes 1 0x1012 1 [])
def badMsg : List Byte := reqBody 1 1 0xFFFF ++ List.replicate 16 0
def xlUp1 : State := { upObjs [(0x1A00, 1, 1)] with links := { xl := [(0, { up := true, locked := true })] } }
def stWaiting : State := { xlUp1 with olp := { waiting := [{ device := 5, m := 0, session := 1, seq := 2, origin := {}, since := 0 }] } }
def respMsg : List Byte := reqBody 1 2 5 ++ List.replicate 16 0
def stRepeat (ms : List Byte) : State := { stKeyed with nv := { stKeyed.nv with sessions := [(0, 1)] }, olp := { sessions := [(0, { isOpen := true, newest := 1, lastSeq := 1, lastTag := olpTag ms, response := some [1,2,3] })] } }
def stFull : State := { up with commit := { staged := (List.range 8192).map fun i => (i + 1, 0) } }
def stSubRelay : State := { stSubs with olp := { subs := [{ subA with origin := { port := 2, addr := 5 } }, { subA with index := 0x1010, sub := 2 }, { subA with index := 0x1000, sub := 2, origin := { port := 2, addr := 5 } } ] }, links := xlUp1.links, objs := xlUp1.objs }
def w0 : State := State.reset
def w1 : State := stRepeat (reqMsg 1 1 0xFFFF)
def w4 : State := stSubRelay
def w7 : State := { stMine with commit := { lock := some 1, staged := [(key 0x3000 1, 3)] } }
def w11 : State := stChecking
def w12 : State := stCheckFail
def w13 : State := stApply
def w14 : State := stBank
def w16 : State := stSeal
def w19 : State := stWaiting
end P2

namespace P3
/-- a transmitting channel 0 -/
def txChan : Chan := { muteTerm := true, outClear := true, radio := { st := .transmit, txEnable := true, txSynth := some 0 } }
def stTx : State := { up with chans := [(0, txChan)] }
def stRefOff : State := { up with clk := { up.clk with refclk := false, core := false }, flt := { latch276 := true, latch277 := true }, mutes := [⟨.refclk, .device⟩, ⟨.corePll, .device⟩], rods := smSet {} up.rods 3 {} }
def stCoreOff : State := { stRefOff with clk := { up.clk with core := false } }
def stSupOff : State := { up with clk := { up.clk with supclk := false }, life := { up.life with sup := false }, tally := { gap := some 7 }, therm := { zones := [(0, { unrecorded := some 5 })] } }
def stLinkDown : State := { up with rods := smSet {} up.rods 0 { powered := true, cal := 2, linkOk := false }, mutes := [⟨.dieLink 0, .rod 0⟩, ⟨.muteN, .device⟩] }
def stSticky : State := { up with flt := { sticky := 5, evt := [(4, 10 ^ 17)], withheld := [(3, 10)], pulse := true, pulseAt := 3 } }
def stHeldN : State := upObjs [(0x1600, 0xA, 1)]
def stOcc (c : Nat) : State := { up with tally := { queue := [{ code := c, source := 1, args := [1, 2, 3, 4, 5], frame := 9 }], codes := [(c, { pending := 2 })] } }
def stNoTokens (c : Nat) : State := { stOcc c with tally := { (stOcc c).tally with codes := [(c, { pending := 2, tokens := some 0, burst := 1, refillAt := 1 })] } }
def stLast (c : Nat) : State := { up with tally := { codes := [(c, { pending := 2, tokens := some 3, last := some { code := c, source := 1, args := [1], frame := 9 } })] } }
def stWriting : State := { up with tally := { toWrite := [{ seq := 5, code := 1 }], ring := [(3, { seq := 5 })], event := true, lastResort := [{ seq := 9 }] }, nv := { counters := [(1, 0)] } }
def stFlood : State := { stWriting with tally := { stWriting.tally with writes := List.replicate 64 (10 ^ 16) } }
def stScan : State := { up with tally := { ring := [(3, { seq := 5 }), (40, { seq := 6 })], slot := 41 } }
def stLastWin : State := { stWriting with windows := [(2, { sel := 2 })] }
def w0 : State := State.reset
def w1 : State := up
def w3 : State := stRefOff
def w4 : State := stCoreOff
def w5 : State := stSupOff
def w6 : State := stLinkDown
def w7 : State := stSticky
def w9 : State := stOcc 1
def w12 : State := stNoTokens 0x200
def w14 : State := stLast 0x200
def w16 : State := stWriting
def w17 : State := stFlood
def w19 : State := stLastWin
end P3

namespace P4
def txChan4 : Chan := { muteTerm := true, outClear := true, radio := { st := .transmit, txEnable := true, txSynth := some 0 } }
def hold : State := inPower .hold up
/-- a served service route: a transmit side with a donor -/
def stBurn : State := { up with nv := { burned := 2, lifecycle := 1 } }
def stScan4 : State := { hold with life := { hold.life with scan := true } }
def stOwed : State := { inPower .safe up with mutes := [⟨.power, .device⟩], rods := [(0, { powered := true, calPending := true })] }
def stSafe : State := { inPower .safe up with mutes := [⟨.power, .device⟩] }
def parts : List (Nat × Nat × Nat) := [(0x5100, 1, 0), (0x5200, 1, 0), (0x5400, 1, 2), (0x5300, 9, 1), (0x5401, 1, 1), (0x5301, 9, 2)]
def stTrial : State := { up with life := { up.life with trialSt := 1, level := 2 }, nv := { trial := some 0, bootSlot := 1 } }
def stSup : State := { up with commit := { lock := some 2, staged := [(1, 1)] }, windows := [(1, { claim := some 3 })], olp := { subs := [{ m := 1, index := 0x1012, sub := 1, mode := 2, interval := 1, lease := 5, since := 0, lastSent := none, seen := [], origin := {} }] } }
def stAuto : State := { up with life := { up.life with sup := false, autonomy := true, autoCause := 3 } }
def stAuto2 : State := { stAuto with life := { stAuto.life with limitPassed := true, power := .quiet }, mutes := [⟨.power, .device⟩] }
def stAuto3 : State := { stAuto2 with objs := cfgOf [(0x1220, 3, 1)] }
def stLoad : State := { up with windows := [(4, { sel := 1, claim := some 0 })] }
def stProg : State := { up with life := { up.life with load := 2, loadSlot := 1, image := [(0, 5), (3, 4)] } }
def stLoaded : State := { up with life := { up.life with load := 3, loadSlot := 1 } }
def stOff : State := { up with life := { power := .off } }
def stBooted : State := { up with life := { power := .boot, booting := true, sup := true }, therm := { zones := [(0, { temp := 2500, valid := 3 })] } }
def stBooted2 : State := { stBooted with life := { stBooted.life with heldSafe := some 276 } }
def stRodR : State := { up with rods := smSet {} up.rods 0 { powered := true, restarting := true, cal := 2 }, mutes := [⟨.rodRestart 0, .rod 0⟩, ⟨.muteN, .device⟩] }
def stRodC : State := { up with rods := smSet {} up.rods 0 { powered := true, cal := 1 }, mutes := [⟨.rodCal 0, .rod 0⟩], chans := [(3, { sent := { locked := true } })] }
def stBlocks : State := { up with links := { dn := [(0, { restarting := true })], xl := [(0, { restarting := true })] }, cap := { restarting := true, st := 3 }, tally := { restarting := true }, rods := smSet {} up.rods 0 { powered := true, cal := 2, finder := 2 } }
def stCounts : State := { up with chans := [(0, { txChan4 with adcOver := 4, nines := { recomputed := 5 } }), (17, txChan4)], cap := { st := 1, marks := [(1, { st := 1 })], replays := [(0, { st := 1 })] } }
def image64 : List (Nat × Word) := [(0, 0x494D4701), (3, 64), (4, 0x96000000)]
def stSeal : State := { up with windows := [(4, { sel := 1, claim := some 0, cursor := 64, moved := 64, written := 64 })], life := { up.life with load := 1, loadSlot := 1, image := image64 }, nv := { imgA := [1], imgB := [2] } }
def stTrialGone : State := { stTrial with life := { stTrial.life with sup := false, autonomy := true, autoCause := 7 } }
def stHot : State := { stBooted with therm := { zones := [(0, { temp := 12500, valid := 3 })] } }
def stOff2 : State := { stOff with nv := { counters := [(4, 60000), (3, 0)], log := [{ pcc := 5, op := 9 }], burned := 3 }, therm := { zones := [(1, { tripped := true }), (2, { tripped := false, temp := 5 })] }, flt := { sticky := 5, lines := [(275, true), (273, true)] }, pins := { supplies := false, muteN := false } }
def stRodR2 : State := { stRodR with chans := [(0, { notchRe := 5, radio := { trans := some .receive } })] }
def stRodJ : State := { up with rods := smSet {} up.rods 0 { powered := true, cal := 2, rejoin := true }, mutes := [⟨.rodRestart 0, .rod 0⟩, ⟨.muteN, .device⟩] }
def w0 : State := State.reset
def w1 : State := stTrialGone
def w2 : State := stHot
def w3 : State := stOff2
def w4 : State := stRodR2
def w7 : State := hold
def w10 : State := stScan4
def w11 : State := stOwed
def w13 : State := stTrial
def w16 : State := stAuto2
def w18 : State := stLoad
def w19 : State := stProg
def w20 : State := stLoaded
def w22 : State := stBooted
def w24 : State := stRodR
def w25 : State := stRodC
def w26 : State := stBlocks
def w29 : State := upObjs parts
def w31 : State := { inPower .hold (upObjs parts) with flt := { sticky := BitVec.ofNat 320 (2 ^ 268) } }
end P4

namespace P5
def r0 : RadioCh := { st := .standby, trans := some .synth, rxSynth := some 0, txSynth := some 0 }
def withRadio (c : RadioCh) (s : State) : State := { s with chans := [(0, { muteTerm := true, outClear := true, radio := c }), (17, {})] }
def rods5 (st : Nat) : SMap Rod := smSet {} up.rods 0 { powered := true, cal := 2, synths := [(0, { st := st, lo := 2500000 }), (1, { st := 5, lo := 900000 }), (7, { st := 4 })] }
def st5a (st : Nat) : State := withRadio r0 { up with rods := rods5 st }
def cfg5 : SMap Nat := cfgOf [(0x2000, 1, 6), (0x2000, 3, 5), (0x70A0, 0x39, 0), (0x7088, 3, 1228800), (0x7088, 6, 2 * 2^62 + 1228799), (0x5400, 2, 1),
  (0x2002, 1, 0x30000101), (0x2002, 25, 0x30000101), (0x2002, 29, 0x30000102), (0x200E, 1, 26000), (0x2005, 1, 20), (0x2005, 2, 10), (0x2004, 1, 3), (0x2004, 4, 8), (0x2004, 6, 0)]
def st5 (c : RadioCh) (st : Nat) : State := withRadio c { up with rods := rods5 st, objs := cfg5, prot := { up.prot with groups := [(0, { st := 2, applied := some 0 })] } }
def stHeld : State := st5 { r0 with st := .receive, trans := none, held := some 0 } 2
def stWin : State := st5 { r0 with st := .receive, trans := none, held := some 0, inWindow := true } 2
def stWin2 : State := st5 { r0 with st := .receive, trans := none, inWindow := true } 2
def stTxx : State := st5 { r0 with st := .transmit, trans := none, txEnable := true } 3
def mis5 (m : Mismatch) (s : State) : State := { s with chans := [(0, { getChan s 0 with mis := m }), (17, {})] }
def txn5 : Txn := { cls := 2, ch := 0, event := 3, usid := 3, cmd := 0, addr := 1, data := [1], last := true }
def bus5 (b : Bus) (s : State) : State := { s with buses := [(0, b)] }
def gains5 : SMap SlotGain := [(0, { tunerCap := 1200 }), (3, { tunerCap := -32700 })]
def objs5b : SMap Nat := cfgMerge cfg5 (cfgOf [(0x5300, 9, 1), (0x5300, 12, 1)])
/-- a transition that has started, both synthesisers locked -/
def st5a5 (goal : Radio) : State := withRadio { r0 with trans := some goal, go := some 0 } (st5a 3)
/-- synthesiser 1 is due and synthesiser 7, locked, tunes for it -/
def stHand : State := withRadio { r0 with st := .receive, trans := none, txSynth := some 1 } { up with rods := smSet {} up.rods 0 { powered := true, cal := 2, handover := some (1, 7), synths := [(0, { st := 3, lo := 2500000 }), (1, { st := 5, lo := 900000 }), (7, { st := 3, lo := 900000 })] } }
/-- FDD, no front-end sequences -/
def stTxxD (n : Nat) : State := { st5 { r0 with st := .transmit, trans := none, txEnable := true } 3 with objs := cfgOf [(0x2000, 1, n), (0x70A0, 0x39, 0xFF)] }
def stLate : State := { withRadio { r0 with trans := some .receive, st := .synth, go := some 0, known := true } (st5a 3) with buses := [(0, { queue := [{ txn5 with cls := 1 }] })] }
def stComing (b : Bus) : State := { st5 { r0 with st := .receive, trans := none, known := true } 3 with buses := [(0, b)], objs := cfgMerge cfg5 (cfgOf [(0x2000, 1, 1), (0x2002, 17, 0x30000101), (0x2002, 18, 0x40000101), (0x2002, 13, 0x30000105), (0x2002, 9, 0x30000105)]) }
def stWinR (m : Mismatch) : State := { stTxxD 4 with chans := [(0, { getChan (stTxxD 4) 0 with mis := { m with win := 2, winAt := some 0, winOk := true, winPf := -500 } })] }
def stMeas (m : Mismatch) (s : State) : State := { s with chans := [(0, { muteTerm := true, outClear := true, mis := m, radio := { r0 with st := .transmit, trans := none, txEnable := true, highAt := some 0 } }), (17, {})] }
def w0 : State := stMeas {} stTxx
def w6 : State := mis5 { search := true, testing := true, tested := 7, best := some (1, 300) } stTxx
def w7 : State := mis5 { search := true, testing := true, tested := 2, best := some (1, 300) } stTxx
def w10 : State := stLate
def w12 : State := stComing { busy := some txn5 }
def w13 : State := stWinR {}
def w19 : State := { mis5 { st := 2 } stTxx with gains := gains5, objs := cfgMerge objs5b (cfgOf [(0x2004, 6, 1)]) }
def w22 : State := st5a 2
def w26 : State := stHeld
def w31 : State := mis5 { win := 2, winAt := some 0 } stTxx
def w33 : State := mis5 { search := true } stTxx
def w34 : State := mis5 { search := true } (upObjs [])
def w36 : State := mis5 { win := 1 } (bus5 { busy := some { txn5 with event := 6 } } stTxx)
def w38 : State := bus5 { busy := some txn5, queue := [{ txn5 with cls := 3 }, { txn5 with cls := 1, data := [2] }, { txn5 with cls := 1 }] } stTxx
def w39 : State := bus5 { queue := [{ txn5 with cls := 1 }, { txn5 with closing := true }], busy := some txn5 } stTxx
def w40 : State := st5a5 .transmit
def w42 : State := stHand
def w43 : State := { stWin with prot := { stWin.prot with groups := [] } }
end P5

namespace P6
def key32 : List Byte := List.replicate 32 7
def serial8 : List Byte := List.replicate 8 3
def stMon (l : Life) (nv : NonVol) : State := { up with life := l, nv := nv }
def nv6 : NonVol := { obsKey := key32, svcKey := key32, serial := serial8, sessions := [(2, 77)] }
def s6 (l : Life) : State := stMon l nv6
def lf : Life := up.life
def w1 : State := up
def w3 : State := s6 { lf with nonce := some (1, key32, 10 ^ 16 - 5) }
def w6 : State := s6 { lf with lockUntil := 10 ^ 16 - 1, fails := 3 }
def w7 : State := s6 { lf with lockUntil := 10 ^ 16 + 1 }
def w8 : State := s6 { lf with level := 1 }
def w9 : State := s6 { lf with level := 2 }
def w10 : State := s6 { lf with level := 3 }
def w11 : State := s6 { lf with level := 3, power := .hold }
def w12 : State := stMon { lf with level := 3, power := .hold } { nv6 with licHash := true }
def w15 : State := stMon { lf with level := 3, power := .boot, noImage := true, sup := false } {nv6 with lifecycle := 1, burned := 1}
end P6

namespace P7
def tx7 : Chan := { muteTerm := true, outClear := true, radio := { st := .transmit, txEnable := true, txSynth := some 0 } }
def st7 (c : SentCh) (e : Bool) : State := { up with chans := [(0, { tx7 with sent := c, radio := { tx7.radio with txEnable := e } }), (3, {})], mutes := if c.closed then [⟨.sentinel 0, .chan 0⟩, ⟨.muteN, .device⟩] else [] }
def th (s : State) (t : Thermal) : State := { s with therm := t }
def zshut : Zone := { shut := true, temp := 4000, latched := true, leftAt := some 0 }
def z7 (z : Zone) : SMap Zone := (List.range 7).map fun i => (i, z)
def image7 : List (Nat × Word) := [(0, 0x4C494345), (1, 7)]
def stLic : State := { inPower .hold up with nv := { lifecycle := 1, burned := 1, gens := [(1, { consumed := true })] }, lic := { image := image7 }, windows := [(4, { claim := some 0, sel := 0x102, cursor := 2, moved := 2, written := 2, fromZero := true })] }
def zthr (n : Nat) : Zone := { throttle := true, temp := 4000, hottest := n, red := 100, valid := 4, inRun := [0,0,2] }
def w0 : State := State.reset
def w1 : State := th up { demanded := true, zones := (List.range 7).map fun i => (i, zthr ((zoneSensors i).getD 0 0)) }
def w2 : State := th up { demanded := true, zones := z7 { frozen := some 7, red := 300, lost := [3] } }
def w4 : State := th (inPower .shutdown up) { zones := smSet {} (z7 zshut) 3 { zshut with temp := 11000 } }
def w6 : State := st7 {} true
def w9 : State := st7 { lowRun := 1 } false
def w10 : State := st7 { binsOver := [0, 3] } true
def w13 : State := st7 { closed := true, overpower := true, locked := true } true
def w14 : State := { up with pins := { up.pins with muteN := false, muteNRose := 10 ^ 15 }, mutes := [⟨.muteN, .device⟩, ⟨.power, .device⟩] }
def w15 : State := { up with lic := { due := some 1, shadow := [(2, [1])] }, nv := { gens := [(1, { consumed := true, sealed := true, records := [(1, List.replicate 44 5)] })] } }
def w20 : State := th (upObjs [(0x1500, 3, 1)]) { zones := z7 zshut }
def w23 : State := th up { zones := z7 { tripped := true, latched := true } }
end P7

namespace P8
def cfg8 : SMap Nat := cfgOf [(0x1900, 1, 1), (0x1901, 1, 0x80000005), (0x1902, 1, 0x80000009), (0x5100, 1, 0x4000), (0x5200, 1, 0), (0x1A00, 1, 1), (0x1A00, 3, 0), (0x1A01, 1, 0), (0x1A01, 4, 0), (0x5300, 9, 1),
  (0x1A08, 1, 1), (0x1A80, 1, 7), (0x1A00, 2, 255), (0x1A08, 2, 255), (0x1A10, 1, 1), (0x1A10, 3, 255), (0x1A10, 2, 255), (0x1A11, 1, 1), (0x1A11, 2, 0)]
def fr8 : DnFrame := { length := 1200, etherType := 0xAEFE, hdr0 := 0x10, size := 1156, pcid := 5, sub := 0x80, iq := List.replicate 1152 3, seq := 7 }
def fd (a : Nat) : DnFrame := { length := 60, etherType := 0xAEFE, hdr0 := 0x10, msgType := 5, size := 20, action := a, measId := 4, stamp := 999, comp := -5 }
def sm (a : Int) : Smp := { re := a, im := -a }
def st8 (p : DnPort) (x : XlLane) : State := { up with objs := cfg8, links := { dn := [(0, p), (3, { accepted := 3 })], xl := [(0, x), (1, { locked := true, up := true, hops := 3 })], flushing := [2 * 256, 3 * 256, 4 * 256, 5 * 256, 8 * 256, 9 * 256 + 1], learned := [(9, (0, 10 ^ 15)), (300, (1, 10 ^ 16 - 5))], recent := [(2, 77)] }, tally := { } }
def in8 (i : InStream) : DnPort := { link := true, ins := [(0, i)], outs := [(0, { seq := 255, queue := List.replicate 290 (sm 5), items := [(254, List.replicate 288 (sm 4)), (3, [])] })] }
def ln8 : XlLane := { locked := true, up := true, rxSeq := 3, txSeq := 15, streams := [(0, { st := 2, sched := 5000, queue := [sm 1] })], outs := [(0, { queue := List.replicate 300 (sm 9), items := [(0, List.replicate 288 (sm 4))] })], relayQ := [{ dst := 1, src := 2, hop := 3, typ := 0, ident := 9, payload := [1, 2, 3] }, { dst := 1, src := 2, hop := 3, typ := 0, ident := 10, payload := List.replicate 100 1 }], relayAt := 1 }
def quiet8 (s : State) : State := { s with mutes := [⟨.stream 0, .slot 0⟩, ⟨.muteN, .device⟩] }
def respMsg8 : List Byte := [1, 0x80, 0, 2, 0, 0, 0, 1, 0, 1, 0, 0, 0, 5, 0, 0] ++ List.replicate 16 0
def msg8 (d h t : Nat) (p : List Byte) (i : Nat) : RelayMsg := let m : RelayMsg := { dst := d, src := 2, hop := h, typ := t, ident := i, payload := p }; { m with crc := relayCrc m }
def noFlush (s : State) : State := { s with links := { s.links with flushing := [] } }
def lost8 (s : State) : State := { s with links := { s.links with xl := smMod {} s.links.xl 0 fun x => { x with streams := [(0, { st := 3, badSince := 5 })] } } }
def stWait8 : State := { noFlush (st8 (in8 {}) ln8) with olp := { waiting := [{ device := 5, m := 0, session := 1, seq := 2, origin := {}, since := 0 }] } }
def msgs8 : List RelayMsg := [{ dst := 1, src := 2, hop := 3, typ := 0, ident := 9 }, msg8 5 3 0 [1] 9, msg8 9 3 0 [1] 9, msg8 300 3 0 [1] 9, msg8 5 1 0 [1] 9, msg8 7 3 0 [1,2,3,4] 9, msg8 0xFFFF 1 2 [0, 12, 4] 9, msg8 5 3 0 [1] 77, msg8 300 3 1 [1,2] 9, msg8 7 3 0 respMsg8 9]
def w0 : State := State.reset
def w1 : State := stWait8
def w3 : State := st8 (in8 {}) {}
def w4 : State := st8 (in8 { st := 1 }) { locked := true, good := 3, rxSeq := 3 }
def w5 : State := st8 (in8 { st := 2, expected := 7, sched := 4098 }) ln8
def w8 : State := st8 { in8 { st := 3, badSince := 9 } with restarting := true } { ln8 with restarting := true }
def w9 : State := st8 { in8 { st := 3, badSince := 9 } with link := false, delaySt := 1, reqAt := 0 } { ln8 with bad := 15, streams := [] }
def w11 : State := noFlush (st8 (in8 { st := 2, expected := 7, sched := 4098 }) ln8)
def w12 : State := noFlush (st8 (in8 { st := 2, expected := 3, sched := 4096 }) ln8)
def w15 : State := noFlush (st8 { in8 { st := 1, lastAt := 0 } with delaySt := 1, reqId := 4, reqStamp := 1000 } { ln8 with restarting := true })
/-- IQ blocks that bring the CRC register to 0 and keep it there -/
def zeroCrc (n : Nat) : List (BitVec 64) := 0xFFFF000000000000#64 :: List.replicate n 0
theorem crc_of_zeros (n : Nat) : ((List.replicate n (0 : BitVec 64)).flatMap (fun b => beBytes 8 b.toNat)).foldl crc16Byte 0 = 0 := by
  induction n with
  | zero => rfl
  | succ n ih =>
    rw [List.replicate_succ, List.flatMap_cons, List.foldl_append, show (beBytes 8 (0 : BitVec 64).toNat).foldl crc16Byte 0 = 0 by decide +kernel]
    exact ih
theorem superframeCrc_zeroCrc (n t : Nat) : superframeCrc (zeroCrc n) t = (beBytes 4 (t / 2 ^ 24)).foldl crc16Byte 0 := by
  rw [superframeCrc, List.foldl_append, zeroCrc, List.flatMap_cons, List.foldl_append,
    show (beBytes 8 (0xFFFF000000000000#64).toNat).foldl crc16Byte 0xFFFF = 0 by decide +kernel, crc_of_zeros]
/-- a superframe, sequence number 4, hop count 9 -/
def sf4 : Superframe := { blocks := superframeBlocks (zeroCrc 431) (List.replicate 23 0) 18014398510100124#56 1 }
theorem sf4_good : superframeGood sf4 = true := by
  have hf : sf4.formed = true := by decide +kernel
  have hi : sf4.iq = zeroCrc 431 := by decide +kernel
  have ht : sf4.trailer.toNat = 18014398510100124 := by decide +kernel
  have h : superframeCrc sf4.iq sf4.trailer.toNat = bits sf4.trailer.toNat 15 0 := by
    rw [hi, superframeCrc_zeroCrc, ht]; decide +kernel
  rw [superframeGood, h, hf, beq_self_eq_true]; rfl
end P8

namespace P9
def page9 (code k n : Nat) : List Word := let p : List Word := [(code : Word), 0, 0, 0, 0, 0, 4096, BitVec.ofNat 32 (k * 2 ^ 24 + n)] ++ List.replicate 1016 7
  p.take 15 ++ [crcOut (crcWords 0xFFFFFFFF#32 (p.take 15 ++ p.drop 16))] ++ p.drop 16
def cap9 (c : Capture) (os : List (Nat × Nat × Nat)) : State := { up with objs := cfgOf os, cap := c }
def ents : List (Nat × Nat × Nat) := [(0x1810, 1, 0x80004000), (0x1810, 3, 0x80001002), (0x5300, 9, 3), (0x1820, 1, 0x80000000), (0x1842, 1, 0xFFFFFFFF), (0x1900, 1, 2), (0x1830, 1, 0), (0x1830, 2, 0), (0x1830, 3, 0x00004000)]
def srcs9 : SMap CapSrc := [(0, { on := true, buf := [1, 2, 3], startFrame := 3 }), (2, { on := true })]
/-- port 0 exports the region of mark 0, two pages long -/
def st9r (next : Nat) : State := { cap9 { ring := [(3, page9 0x4000 0 4), (4, page9 0x4000 0 5)], pageSeq := 5, marks := [(0, { st := 3, guard := 3, region := 2 })], exports := [(0, { st := 2, next, mark := 0 }), (1, { st := 1 })] } ents with links := { dn := [(0, { link := true })] } }
def w0 : State := State.reset
def w1 : State := up
def w2 : State := cap9 {} ents
def w3 : State := cap9 { st := 3 } ents
def w5 : State := cap9 { st := 1, srcs := srcs9, ready := [(2, page9 0x1002 0 9)], marks := [(0, { st := 1, firings := 5 }), (3, { st := 3 })] } ents
def w6 : State := cap9 { st := 1, srcs := srcs9, ready := [(2, page9 0x1002 0 1008)], wptr := 5, pageSeq := 4, ring := [(4, page9 0x4000 0 4)] } ents
def w7 : State := { cap9 { st := 0, ring := [(3, page9 0x4000 0 4)], pageSeq := 4, exports := [(0, { st := 1, next := 3 })] } ents with links := { dn := [(0, { link := true })] } }
def w8 : State := inPower .quiet (cap9 { ring := [(3, page9 0x4000 0 4), (4, page9 0x4000 0 5)], pageSeq := 5, marks := [(0, { st := 3, guard := 3, region := 3 })] } ents)
def w9 : State := inPower .quiet (cap9 { ring := [(3, page9 0x4000 0 4), (4, page9 0x4000 0 5)], replays := [(0, { st := 1, rest := [{}], all := [{}] })] } ents)
def w10 : State := cap9 { replays := [(0, { st := 1 })], channels := 5, ddrFailed := [1], ready := [(2, [1])], ring := [(3, [1])], st := 1, marks := [(1, { st := 2 })] } ents
def w13 : State := { up with pins := { syncOut := true, syncOutAt := 7 } }
end P9

namespace P10
def sm (a : Int) : Smp := { re := a, im := -a }
def cfg10 : SMap Nat := cfgOf [(0x5300, 9, 3), (0x5300, 10, 2), (0x3004, 1, 2), (0x3002, 9, 5), (0x3003, 9, 7), (0x300A, 1, 0xFE0C), (0x4000, 1, 1), (0x4001, 1, 0), (0x4001, 2, 3), (0x3000, 1, 1), (0x300E, 1, 1), (0x300A, 9, 0), (0x300A, 0x11, 0xFF00)]
def bk (k : Nat) : Bank := { words := [(0, 0x40000000)], header := BitVec.ofNat 32 (0x02000001 + k * 2 ^ 16), sealed := true }
def txChan10 : Chan := { muteTerm := true, outClear := true, radio := { st := .transmit, txEnable := true, txSynth := some 0 } }
def slot10 : SlotPath := { rxChain := [[sm 1]], txChain := [[sm 2]], lineA := [sm 3], lineB := [sm 3], rxHold := [sm 4], detDone := [(500000000, 100), (7, 3)], detSum := 4, detCnt := 1, bankB := { bk 0 with sealed := true } }
def ch10 : Chan := { txChan10 with
    iqLine := [sm 1], ref := List.replicate 144 (sm 100),
    canc := { paths := [(0, { taps := [(1, 1)], st := 2, line := [sm 1], newModel := some ([(3, 3)], 2) }), (1, { st := 3, taps := [(2, 2)] }), (2, { st := 4, oldModel := some ([], 3) })], skip := 0 } }
def st10 (x : SlotPath) (c : Chan) : State := { up with objs := cfg10, slots := [(0, x), (1, slot10), (9, slot10)], chans := [(0, c), (5, ch10)] }
def sealB (b : Bool) : SlotPath := { slot10 with bankB := { slot10.bankB with sealed := b } }
def xf10 (done : Nat) (p : Option Nat) (sealed : Bool) : SlotPath := { sealB sealed with xf := some { target := 1, len := 4, done }, pendSwap := p }
def trainAt (a : Nat) : SMap CPath := [(0, { taps := [(1, 1)], st := 2, line := [sm 1], depth := 3, trainSince := a }), (1, { st := 3, taps := [(2, 2)] }), (2, { st := 4, oldModel := some ([], 3), lastMeas := a })]
def k0 (s : State) : State := { s with objs := cfgSet s.objs (key 0x3004 1) 0 }
/-- five slots of channel 0 active, with banks of 128 taps -/
def full10 : State := { up with
  objs := cfgOf [(0x5300, 9, 3), (0x5300, 10, 3), (0x5300, 11, 3), (0x5300, 12, 3), (0x5300, 13, 3)]
  slots := (List.range 5).map fun g => (g, { bankA := { bk 0 with header := 0x02000080 }, bankB := { bk 0 with header := 0x02000080 } }) }
def w0 : State := k0 (st10 (xf10 2 none true) ch10)
def w8 : State := inPower .hold (st10 slot10 ch10)
def w14 : State := { st10 slot10 ch10 with clk := { up.clk with core := false } }
def w15 : State := st10 slot10 { ch10 with canc := { survState := 1, survProgress := 128, survBelow := 128, survBest := (3, 5), survAt := 77 } }
def w25 : State := { st10 slot10 ch10 with exitReports := [(0, 4095), (5, 4096), (0, 4090), (1, 4034)], objs := cfgSet cfg10 (key 0x3000 1) 1 }
def w27 : State := { st10 slot10 ch10 with time := 250 * 32000000, objs := cfgOf [(0x4000, 1, 1), (0x4000, 7, 200)], chans := [(0, { ch10 with canc := { paths := trainAt (50 * 32000000 - 1), skip := 3, win := some {}, cand := some {} } })] }
end P10

namespace P11
def cfg11 : SMap Nat := cfgOf [(0x5300, 9, 3), (0x5300, 10, 2), (0x5400, 1, 1), (0x5400, 2, 1), (0x7088, 1, 2), (0x7089, 1, 3), (0x708A, 1, 1), (0x70A0, 0x39, 0), (0x70A1, 0x39, 1), (0x7010, 1, 3), (0x5100, 1, 0x3FFF0001), (0x5100, 4, 0x00000003), (0x5200, 1, 0)]
def g11 : SMap TddGroup := [(0, { st := 1, agree := 4, lastEpoch := some 1000 }), (1, { st := 1, agree := 4, lastEpoch := some 1000, diff := 3 })]
def st11 (gs : SMap TddGroup) (ga : SMap SlotGain) (l : SMap LedgerEntry) : State := { up with objs := cfg11, prot := { groups := gs, ledger := l }, gains := ga, chans := [(0, {}), (5, {})] }
def ent (c p f : Nat) : LedgerEntry := { valid := true, ch := c, pci := p, freq := f, rat := 1, rsrp := -9000, detections := 65535 }
def lg : SMap LedgerEntry := [(3, { ent 0 5 1000000 with pinned := true }), (5, ent 0 9 1000000), (7, ent 1 9 1000000), (8, { ent 0 9 1000000 with rat := 0, detections := 3 })]
/-- channel 0 receives at 1 GHz, 5 MHz wide; entry 5 of the Ledger is heard well -/
def cfgHear : SMap Nat := cfgMerge cfg11 (cfgOf [(0x2001, 1, 1000000), (0x3005, 1, 5000)])
def lg2 : SMap LedgerEntry := smMod {} lg 5 fun e => { e with recent := [(10 ^ 16, -5000)], raw := -5000, rawAt := 10 ^ 16 }
def stHear (ga : SMap SlotGain) : State := { st11 g11 ga lg2 with objs := cfgHear, slots := [(0, { rxHold := [{}] })], chans := [(0, { radio := { st := .receive } })] }
/-- group 0's last edge came 10 ms ago -/
def stEdge : State := st11 [(0, { st := 1, agree := 4, lastEpoch := some 1000, epochAt := 10 ^ 16 - 320000000 }), (1, { st := 1, agree := 3, lastEpoch := some 1000 })] [] lg
/-- an enforced record that allows one cell -/
def rec11 (pci : Nat) : List Word :=
  let r : List Word := ((0xA0010000#32 : Word) :: List.replicate 11 0) ++ [BitVec.ofNat 32 (1 * 2 ^ 30 + pci), 1000000] ++ List.replicate 30 0
  r.set 11 (crcOut (crcWords 0xFFFFFFFF#32 (r.take 11 ++ r.drop 12)))
def stId (ok : Bool) : State := { stHear [(0, { serving := some 5 })] with
  objs := cfgMerge cfgHear (cfgOf [(0x5300, 1, 2)]), lic := { shadow := [(2, rec11 (if ok then 9 else 8))] }, clk := { up.clk with frame := 341333 * 2 }
  mutes := [⟨.identity 0, .slot 0⟩] }
/-- a downlink loop from slot 0 to slot 8 on route 3, at tick 1,001: isolation 90 dB, margin `m` -/
def cfgLoop (up : Bool) : SMap Nat := cfgOf ([(0x5300, 9, 3), (0x5301, 9, 3), (0x3005, 1, 5000), (0x3015, 1, 5000), (0x5400, 1, 1), (0x5401, 1, 2), (0x7020, 0x11, 9000), (0x3016, 1, 12000), (0x5301, 1, 0)] ++
  (if up then [(0x5400, 2, 2), (0x5401, 2, 1), (0x5100, 4, 0x00010008), (0x5200, 9, 3), (0x5100, 1, 0xFFFF)] else [(0x5100, 4, 0x00000000), (0x5201, 1, 3), (0x5100, 1, 0xFFFF)]))
def recLoop : List Word :=
  let r : List Word := ((0xA0000000#32 : Word) :: List.replicate 11 0) ++ List.replicate 32 0
  let r := ((r.set 5 0x0BB80FA0).set 6 0x25800000).set 8 0
  r.set 11 (crcOut (crcWords 0xFFFFFFFF#32 (r.take 11 ++ r.drop 12)))
def stLoop (m : Int) (l : Loop) (osc : Bool) (isUp : Bool := false) (fr : Nat := 3416747) : State := { State.reset with
  time := 10 ^ 16, clk := { frame := fr }, life := { power := .serve, prev := .hold, sup := true },
  rods := up.rods, objs := cfgLoop isUp, lic := { shadow := [(0, recLoop)] },
  gains := [(0, { osc := { flag := osc } }), (8, { eff := some ((9000 - m) * 10240), inSum := 5 * 2 ^ 30, inCnt := 72 })],
  gov := { inUse := [3], loops := [(3, l)], tick := 1001 } }
def fullLedger (pin : Nat) : SMap LedgerEntry := (List.range 65536).map fun i => (i, { ent 2 5 (i + 1) with last := i + 10, pinned := decide (i < pin) })
def stDwell (l : SMap LedgerEntry) : State := { stHear [(0, { serving := some 5 })] with
  prot := { ledger := l }, rods := smSet {} up.rods 0 { powered := true, cal := 2, finder := 1, dwellUsable := true, lastSearched := some 1 } }
def w0 : State := stLoop 100 {} false
def w64 : State := stLoop 1800 {} false true
def w70 : State := st11 [(0, { st := 2, applied := some 5, steps := 2 })] [] []
def w71 : State := stDwell []
def w72 : State := stDwell lg
def w78 : State := st11 g11 [] lg
def w80 : State := { st11 [(0, { st := 3 }), (1, { st := 3, heldAt := 3 })] [(0, { serving := some 5, donorLoss := true, goodSince := some 5 })] lg with mutes := [⟨.donorLoss 0, .slot 0⟩, ⟨.muteN, .device⟩] }
def w83 : State := { st11 [] [] [] with gov := { inUse := [3], loops := [(3, { st := 7, locked := true, mutedAt := some 3 }), (4, { locked := true })], tick := 1 }, mutes := [⟨.loop 3, .slot 0⟩, ⟨.loop 4, .slot 1⟩], clk := { frame := 6827 } }
def w86 : State := stHear [(0, { serving := some 5, donorLoss := true, goodSince := some 5 })]
def w87 : State := stEdge
end P11

namespace P12
def shd : State := inPower .shutdown up
end P12

namespace P13
def key32 : List Byte := List.replicate 32 7
def nv6 : NonVol := { obsKey := key32, svcKey := key32, serial := List.replicate 16 3 }
def s6 (l : Life) : State := { up with life := l, nv := nv6 }
def lf : Life := up.life
def w0 : State := State.reset
def w1 : State := up
def w3 : State := { up with commit := { st := 1, lock := some 1 } }
def w5 : State := s6 { lf with nonce := some (1, key32, 10 ^ 16 - 5), fails := 1, level := 1 }
def w8 : State := s6 { lf with lockUntil := 10 ^ 16 + 1 }
end P13

/-! ### The premises of the obligations are met -/

/-- Premises of StepRunsFrontCommand are met. -/
theorem test_witness_StepRunsFrontCommand :
  (∃ (c : Instr) (rest : List Instr) (s : State), s.pending = c :: rest) ∧ (∃ s : State, s.pending = []) :=
  ⟨⟨.helloSend, [.monitorLock], { up with pending := [.helloSend, .monitorLock] }, rfl⟩, ⟨State.reset, rfl⟩⟩

/-- Premises of the invariants' statements are met, in a state that runs a command. -/
theorem test_witness_StepKeeps :
  ∃ s t : State, StagingInv s ∧ MutesInv s ∧ MuteTermInv s ∧ PowerMuteInv s ∧ step s = .next t :=
  ⟨{ up with pending := [.muteNAssert 10] }, _, ⟨by decide +kernel, fun h e => by cases e⟩, List.nodup_nil, muteTermInv_of_no_mutes rfl,
    by simp [PowerMuteInv, up], rfl⟩

/-- Premises of MutedChannelsAreSilent are met. -/
theorem test_witness_MutedChannelsAreSilent :
  ∃ s : State, MuteTermInv s ∧ PowerMuteInv s ∧ chanMuted s 0 = false ∧ s.pins.muteN = false :=
  ⟨{ up with pins := { up.pins with muteN := false } }, muteTermInv_of_no_mutes rfl, by simp [PowerMuteInv, up], rfl, rfl⟩

/-- Premises of ResetStateAndInvariants are met. -/
theorem test_witness_ResetStateAndInvariants : (dictObj 0x3000 1).isSome = true := by decide +kernel

/-- Premises of PowerRequests are met: each request granted, and each refused. -/
theorem test_witness_PowerRequestsGranted :
  (mayWrite up 0 = true ∧ refusalReason up .hold = 0 ∧ up.life.power ≠ .hold) ∧
  (mayWrite up 0 = true ∧ refusalReason up .quiet = 0 ∧ up.life.power ≠ .quiet) ∧
  (mayWrite (inPower .hold (upObjs P4.parts)) 0 = true ∧ refusalReason (inPower .hold (upObjs P4.parts)) .serve = 0 ∧ (inPower .hold (upObjs P4.parts)).life.power ≠ .serve) ∧
  (mayWrite P4.stOwed 0 = true ∧ refusalReason P4.stOwed .hold ≠ 0 ∧ refusalReason P4.stOwed .serve ≠ 0 ∧ refusalReason P4.stOwed .quiet ≠ 0 ∧
    P4.stOwed.life.power = .safe) := by decide +kernel

/-- Premises of ImagesAndActivation are met where the signature verifies. -/
theorem test_witness_ImageSealable (h : ∀ img, Config.signatureOk 0 img = true) :
  mayWrite P4.stSeal 0 = true ∧ windowFree P4.stSeal 0 4 = true ∧ (getWindow P4.stSeal 4).sel = 1 ∧ P4.stSeal.life.running ≠ 1 ∧
  imageSealable P4.stSeal (getWindow P4.stSeal 4) = true := by
  refine ⟨by decide +kernel, by decide +kernel, by decide +kernel, by decide +kernel, ?_⟩
  simp only [imageSealable, imageQualifies, h]
  decide +kernel

/-- Premises of Licences are met where the signature verifies. -/
theorem test_witness_LicenceBurn (_h : ∀ img, Config.signatureOk 1 img = true) :
  mayWrite P7.stLic 0 = true ∧ windowFree P7.stLic 0 4 = true ∧ (getWindow P7.stLic 4).sel = 0x100 + 2 ∧ nextGen P7.stLic = some 2 ∧
  P7.stLic.nv.lifecycle = 1 ∧ P7.stLic.life.power = .hold ∧ sealedGen P7.stLic = 0 ∧ (transferImage P7.stLic).length = 2 ∧
  firstField (fun r => if bit (recWord (imageRecord (transferImage P7.stLic) r) 0) 31 then recordBreach (imageRecord (transferImage P7.stLic) r) else none) = none := by
  decide +kernel

/-- Premises of WriteRefusals are met: no such index, no such subindex, a wrong length, a read-only object, a write in BOOT, an RWH
object in SERVE, a value out of range. -/
theorem test_witness_WriteRefusals :
  (∃ idx, dictIndex idx = none) ∧
  (∃ idx sub f, dictIndex idx = some f ∧ f sub = none) ∧
  (∃ idx sub o, lookup idx sub = (0, some o) ∧ lengthOk o 3 = false) ∧
  (∃ idx sub o, lookup idx sub = (0, some o) ∧ lengthOk o 1 = true ∧ o.acc = .ro) ∧
  (∃ (s : State) (idx sub : Nat) (o : Obj), s.life.sup = true ∧ lookup idx sub = (0, some o) ∧ lengthOk o 2 = true ∧ o.acc ≠ .ro ∧ o.acc ≠ .lk ∧ s.life.power = .boot) ∧
  (∃ (s : State) (idx sub : Nat) (o : Obj), s.life.sup = true ∧ lookup idx sub = (0, some o) ∧ lengthOk o 2 = true ∧ s.nv.lifecycle ≠ 3 ∧ o.acc = .rwh ∧ s.life.power = .serve) ∧
  (∃ (s : State) (idx sub : Nat) (o : Obj), mayWrite s 0 = true ∧ lookup idx sub = (0, some o) ∧ lengthOk o 1 = true ∧ o.acc ≠ .ro ∧ o.acc ≠ .lk ∧ o.acc ≠ .rwh ∧
    o.typ ≠ .dom ∧ o.ok (o.typ.toInt (ofBytes [9])) = false) :=
  ⟨⟨0, rfl⟩, ⟨0x3000, 255, _, rfl, by decide +kernel⟩, ⟨0x3000, 1, _, rfl, by decide +kernel⟩, ⟨0x1010, 3, _, rfl, by decide +kernel⟩,
   ⟨inPower .boot up, 0x3000, 1, _, by decide +kernel, rfl, by decide +kernel⟩, ⟨up, 0x300E, 0xC, _, by decide +kernel, rfl, by decide +kernel⟩,
   ⟨up, 0x2000, 1, _, by decide +kernel, rfl, by decide +kernel⟩⟩

/-- Premises of ResetsAndSwaps on a swap request are met: a commit under way; a running cross-fade to the bank named, to the other, and
a bank that is barred; the bank carried, one barred, one too long, one faded to and one switched to. -/
theorem test_witness_ResetsAndSwapsRequests :
  (∃ s : State, mayWrite s 0 = true ∧ (s.commit.st = 1 ∨ s.commit.held = true)) ∧
  (∃ (s : State) (f : XFade), mayWrite s 0 = true ∧ s.commit.st ≠ 1 ∧ s.commit.held = false ∧ (getSlot s 0).xf = some f ∧ bankBar (getSlot s 0) 1 (kOf s.objs 0) = 0 ∧ 1 = f.target) ∧
  (∃ (s : State) (f : XFade), mayWrite s 0 = true ∧ s.commit.st ≠ 1 ∧ s.commit.held = false ∧ (getSlot s 0).xf = some f ∧ bankBar (getSlot s 0) 0 (kOf s.objs 0) = 0 ∧ 0 ≠ f.target) ∧
  (∃ (s : State) (f : XFade), mayWrite s 0 = true ∧ s.commit.st ≠ 1 ∧ s.commit.held = false ∧ (getSlot s 0).xf = some f ∧ bankBar (getSlot s 0) 0 (kOf s.objs 0) ≠ 0) ∧
  (∃ s : State, mayWrite s 0 = true ∧ s.commit.st ≠ 1 ∧ s.commit.held = false ∧ (getSlot s 0).xf = none ∧ 0 = (getSlot s 0).holds) ∧
  (∃ s : State, mayWrite s 0 = true ∧ s.commit.st ≠ 1 ∧ s.commit.held = false ∧ (getSlot s 0).xf = none ∧ 1 ≠ (getSlot s 0).holds ∧ bankBar (getSlot s 0) 1 (kOf s.objs 0) ≠ 0) ∧
  (∃ s : State, mayWrite s 0 = true ∧ s.commit.st ≠ 1 ∧ s.commit.held = false ∧ (getSlot s 0).xf = none ∧ 1 ≠ (getSlot s 0).holds ∧ bankBar (getSlot s 0) 1 (kOf s.objs 0) = 0 ∧
    (rxActive s.objs 0 && (bankOf (getSlot s 0) (getSlot s 0).holds).sealed) = true ∧ 256 < budgetUse s 0 (some 0)) ∧
  (∃ s : State, mayWrite s 0 = true ∧ s.commit.st ≠ 1 ∧ s.commit.held = false ∧ (getSlot s 0).xf = none ∧ 1 ≠ (getSlot s 0).holds ∧ bankBar (getSlot s 0) 1 (kOf s.objs 0) = 0 ∧
    (rxActive s.objs 0 && (bankOf (getSlot s 0) (getSlot s 0).holds).sealed) = true ∧ budgetUse s 0 (some 0) ≤ 256) ∧
  (∃ s : State, mayWrite s 0 = true ∧ s.commit.st ≠ 1 ∧ s.commit.held = false ∧ (getSlot s 9).xf = none ∧ 1 ≠ (getSlot s 9).holds ∧ bankBar (getSlot s 9) 1 (kOf s.objs 9) = 0 ∧
    (rxActive s.objs 9 && (bankOf (getSlot s 9) (getSlot s 9).holds).sealed) = false ∧ switchedUse s 9 1 ≤ 256) :=
  ⟨⟨{ up with commit := { st := 1 } }, by decide +kernel⟩, ⟨P10.k0 (P10.st10 (P10.xf10 2 none true) P10.ch10), _, by decide +kernel, by decide +kernel, by decide +kernel, rfl, by decide +kernel⟩,
   ⟨P10.k0 (P10.st10 (P10.xf10 2 none true) P10.ch10), _, by decide +kernel, by decide +kernel, by decide +kernel, rfl, by decide +kernel⟩,
   ⟨P10.st10 { P10.xf10 2 none true with bankA := {} } P10.ch10, _, by decide +kernel, by decide +kernel, by decide +kernel, rfl, by decide +kernel⟩,
   ⟨up, by decide +kernel⟩, ⟨up, by decide +kernel⟩, ⟨P10.full10, by decide +kernel⟩, ⟨P10.k0 (P10.st10 P10.slot10 P10.ch10), by decide +kernel⟩, ⟨P10.k0 (P10.st10 P10.slot10 P10.ch10), by decide +kernel⟩⟩

/-- Premises of ResetsAndSwaps on a cross-fade's end are met: none pending, one that starts, and one that has lost its seal. -/
theorem test_witness_ResetsAndSwapsFadeEnds :
  (∃ (s : State) (f : XFade), (getSlot s 0).xf = some f ∧ f.len ≤ f.done ∧ (getSlot s 0).pendSwap = none) ∧
  (∃ (s : State) (f : XFade), (getSlot s 0).xf = some f ∧ f.len ≤ f.done ∧ (getSlot s 0).pendSwap = some 0 ∧ (bankOf (getSlot s 0) 0).sealed = true ∧
    (bankOf (getSlot s 0) f.target).sealed = true ∧ rxActive s.objs 0 = true) ∧
  (∃ (s : State) (f : XFade), (getSlot s 0).xf = some f ∧ f.len ≤ f.done ∧ (getSlot s 0).pendSwap = some 0 ∧ (bankOf (getSlot s 0) 0).sealed = false) :=
  ⟨⟨P10.st10 (P10.xf10 4 none true) P10.ch10, _, rfl, by decide +kernel⟩, ⟨P10.st10 (P10.xf10 4 (some 0) true) P10.ch10, _, rfl, by decide +kernel⟩,
   ⟨P10.st10 { P10.xf10 4 (some 0) true with bankA := {} } P10.ch10, _, rfl, by decide +kernel⟩⟩

/-- The state that a tick gives. -/
def tickOf (s : State) : State := match exec (.governorTick []) s with | .next t => t | _ => s
/-- The premises of a tick j = 1,001 with loop 3 in use. -/
def ticks (s : State) : Prop :=
  coreRuns s = true ∧ s.clk.frame = (10240 * 1001 + 2) / 3 ∧ s.gov.tick ≤ 1001 ∧ s.gov.inUse.Nodup ∧ 3 ∈ s.gov.inUse
/-- Does loop 3 oscillate at the tick? -/
def osc3 (s : State) : Bool := (loopRx s.objs 3).any (oscFlag (tickOf s))

set_option maxRecDepth 100000 in
/-- Premises of GovernorTicks on a loop are met: a lock-out; an oscillation; no estimate; a loop that others mute. -/
theorem test_witness_GovernorTicksLoops :
  (∃ s : State, ticks s ∧ (getLoop s 3).locked = true) ∧
  (∃ s : State, ticks s ∧ (getLoop s 3).locked = false ∧ (getLoop s 3).mutedAt = none ∧ osc3 s = true) ∧
  (∃ s : State, ticks s ∧ (getLoop s 3).locked = false ∧ (getLoop s 3).mutedAt = none ∧ osc3 s = false ∧ (evalLoop s 3).m = none) ∧
  (∃ s : State, ticks s ∧ (getLoop s 3).locked = false ∧ (getLoop s 3).mutedAt = none ∧ osc3 s = false ∧ (evalLoop s 3).m = some 100 ∧
    heldByOthers (tickOf s) 3 = true) := by
  unfold ticks osc3 tickOf
  exact ⟨⟨P11.stLoop 100 { locked := true } false, by decide +kernel⟩,
   ⟨P11.stLoop 100 {} true, by decide +kernel⟩,
   ⟨{ P11.stLoop 100 {} false with gains := [] }, by decide +kernel⟩,
   ⟨{ P11.stLoop 100 {} false with mutes := [⟨.muteN, .device⟩] }, by decide +kernel⟩⟩

set_option maxRecDepth 100000 in
/-- Premises of GovernorTicks on the first rows of Table 8.1 are met: below 3.00 dB; far below the target; and below it, slewing already or not. -/
theorem test_witness_GovernorTicksRows :
  (∃ s : State, ticks s ∧ (getLoop s 3).locked = false ∧ (getLoop s 3).mutedAt = none ∧ osc3 s = false ∧ (evalLoop s 3).m = some 100 ∧
    heldByOthers (tickOf s) 3 = false) ∧
  (∃ s : State, ticks s ∧ (getLoop s 3).locked = false ∧ (getLoop s 3).mutedAt = none ∧ osc3 s = false ∧ (evalLoop s 3).m = some 500 ∧
    500 < (evalLoop s 3).mt - 600 ∧ heldByOthers (tickOf s) 3 = false) ∧
  (∃ s : State, ticks s ∧ (getLoop s 3).locked = false ∧ (getLoop s 3).mutedAt = none ∧ osc3 s = false ∧ (evalLoop s 3).m = some 1000 ∧
    (evalLoop s 3).mt - 600 ≤ 1000 ∧ 1000 < (evalLoop s 3).mt ∧ heldByOthers (tickOf s) 3 = false ∧ (getLoop s 3).slew < 0) ∧
  (∃ s : State, ticks s ∧ (getLoop s 3).locked = false ∧ (getLoop s 3).mutedAt = none ∧ osc3 s = false ∧ (evalLoop s 3).m = some 1000 ∧
    (evalLoop s 3).mt - 600 ≤ 1000 ∧ 1000 < (evalLoop s 3).mt ∧ heldByOthers (tickOf s) 3 = false ∧ 0 ≤ (getLoop s 3).slew) := by
  unfold ticks osc3 tickOf
  exact ⟨⟨P11.stLoop 100 {} false, by decide +kernel⟩,
   ⟨P11.stLoop 500 {} false, by decide +kernel⟩,
   ⟨P11.stLoop 1000 { slew := -1, gov := some 70000000 } false, by decide +kernel⟩,
   ⟨P11.stLoop 1000 {} false, by decide +kernel⟩⟩

set_option maxRecDepth 100000 in
/-- Premises of GovernorTicks on its rows of comfort and of release are met: at ease for 1,000 ms; on the target; a muted loop before and at its release. -/
theorem test_witness_GovernorTicksReleases :
  (∃ s : State, ticks s ∧ (getLoop s 3).locked = false ∧ (getLoop s 3).mutedAt = none ∧ osc3 s = false ∧ (evalLoop s 3).m = some 1800 ∧
    (evalLoop s 3).mt + 200 ≤ 1800 ∧ heldByOthers (tickOf s) 3 = false ∧ (getLoop s 3).comfort = some 1 ∧ (getLoop s 3).gov = some 70000000) ∧
  (∃ s : State, ticks s ∧ (getLoop s 3).locked = false ∧ (getLoop s 3).mutedAt = none ∧ osc3 s = false ∧ (evalLoop s 3).m = some 1600 ∧
    (evalLoop s 3).mt ≤ 1600 ∧ 1600 < (evalLoop s 3).mt + 200 ∧ heldByOthers (tickOf s) 3 = false ∧ (getLoop s 3).gov = some 70000000) ∧
  (∃ s : State, ticks s ∧ (getLoop s 3).locked = false ∧ (getLoop s 3).mutedAt = some 500 ∧ osc3 s = false) ∧
  (∃ s : State, ticks s ∧ (getLoop s 3).locked = false ∧ (getLoop s 3).mutedAt = some 1 ∧ osc3 s = false ∧ (evalLoop s 3).m = some 1800 ∧
    (evalLoop s 3).mt ≤ 1800) := by
  unfold ticks osc3 tickOf
  exact ⟨⟨P11.stLoop 1800 { gov := some 70000000, comfort := some 1 } false, by decide +kernel⟩,
   ⟨P11.stLoop 1600 { gov := some 70000000 } false, by decide +kernel⟩,
   ⟨P11.stLoop 1800 { gov := some 1000, mutedAt := some 500 } false, by decide +kernel⟩,
   ⟨P11.stLoop 1800 { gov := some 1000, mutedAt := some 1 } false, by decide +kernel⟩⟩

set_option maxRecDepth 100000 in
/-- Premises of GovernorTicks on gains are met: a side under a record with an input level and without one, a side under none; a loop's cap
that falls, stands and rises; a side that is new and one that follows its caps. -/
theorem test_witness_GovernorTicksGains :
  (∃ (s : State) (g : Nat) (rec : List Word) (p : Int), ticks s ∧ g / 8 < 96 ∧ txActive s.objs g = true ∧ boundRecord s s.objs g = some rec ∧
    inputLevel (tickOf s) g = some p) ∧
  (∃ (s : State) (g : Nat) (rec : List Word), ticks s ∧ g / 8 < 96 ∧ txActive s.objs g = true ∧ boundRecord s s.objs g = some rec ∧
    inputLevel (tickOf s) g = none) ∧
  (∃ (s : State) (g : Nat), ticks s ∧ g / 8 < 96 ∧ txActive s.objs g = true ∧ boundRecord s s.objs g = none) ∧
  (∃ (s : State) (v : Int), ticks s ∧ (getLoop s 3).gov = some v ∧ (getLoop s 3).slew < 0) ∧
  (∃ (s : State) (v : Int), ticks s ∧ (getLoop s 3).gov = some v ∧ (getLoop s 3).slew = 0) ∧
  (∃ (s : State) (v : Int), ticks s ∧ (getLoop s 3).gov = some v ∧ 0 < (getLoop s 3).slew) ∧
  (∃ (s : State) (g : Nat), ticks s ∧ g < 768 ∧ txActive s.objs g = true ∧ (getGain s g).eff = none) ∧
  (∃ (s : State) (g : Nat) (e : Int), ticks s ∧ g < 768 ∧ txActive s.objs g = true ∧ (getGain s g).eff = some e ∧ (getGain s g).wasMuted = false) := by
  unfold ticks tickOf
  exact ⟨⟨P11.stLoop 1800 {} false, 8, P11.recLoop, -1158, by decide +kernel, by decide +kernel, by decide +kernel, by decide +kernel, by decide +kernel⟩,
   ⟨{ P11.stLoop 1800 {} false with gains := [] }, 8, P11.recLoop, by decide +kernel⟩,
   ⟨{ P11.stLoop 1800 {} false with lic := {} }, 8, by decide +kernel⟩,
   ⟨P11.stLoop 1800 { gov := some 1000, slew := -1 } false, 1000, by decide +kernel⟩, ⟨P11.stLoop 1800 { gov := some 1000 } false, 1000, by decide +kernel⟩,
   ⟨P11.stLoop 1800 { gov := some 1000, slew := 1 } false, 1000, by decide +kernel⟩,
   ⟨{ P11.stLoop 1800 {} false with gains := [] }, 8, by decide +kernel⟩,
   ⟨{ P11.stLoop 1800 {} false with gains := [(8, { eff := some 5, wasMuted := false })] }, 8, 5, by decide +kernel⟩⟩

/-- Reading a map that lists the numbers from `a` on. -/
theorem smGet_range' {α : Type} (d : α) (f : Nat → α) (n a k : Nat) (h₁ : a ≤ k) (h₂ : k < a + n) :
    smGet d ((List.range' a n).map fun i => (i, f i)) k = f k := by
  induction n generalizing a with
  | zero => omega
  | succ n ih =>
    rw [List.range'_succ, List.map_cons, smGet]
    split
    · next h => rw [← h]
    · next h => exact ih (a + 1) (by simp only at h; omega) (by omega)
theorem getEntry_ofRange (f : Nat → LedgerEntry) (n k : Nat) (h : k < n) :
    getEntry (P11.stDwell ((List.range n).map fun i => (i, f i))) k = f k := by
  rw [List.range_eq_range']; exact smGet_range' {} f n 0 k (Nat.zero_le k) (by omega)
theorem getEntry_fullLedger (pin k : Nat) (h : k < 65536) :
    getEntry (P11.stDwell (P11.fullLedger pin)) k = { P11.ent 2 5 (k + 1) with last := k + 10, pinned := decide (k < pin) } :=
  getEntry_ofRange _ _ k h
theorem mem_fullLedger {pin : Nat} {x : Nat × LedgerEntry} (h : x ∈ (P11.stDwell (P11.fullLedger pin)).prot.ledger) :
    x.1 < 65536 ∧ x.2 = { P11.ent 2 5 (x.1 + 1) with last := x.1 + 10, pinned := decide (x.1 < pin) } := by
  simp only [P11.stDwell, P11.fullLedger, List.mem_map] at h
  obtain ⟨i, hi, rfl⟩ := h
  exact ⟨List.mem_range.mp hi, rfl⟩

theorem pinned_ofRange (m n : Nat) (h : m ≤ n) :
    (pinnedEntries (P11.stDwell ((List.range n).map fun i => (i, { P11.ent 2 5 (i + 1) with last := i + 10, pinned := decide (i < m) })))).length = m := by
  simp only [pinnedEntries, P11.stDwell, P11.ent, List.length_map, List.filter_map, Function.comp_def, Bool.true_and]
  rw [← List.countP_eq_length_filter]
  suffices ∀ k, (List.range k).countP (fun i => decide (i < m)) = min m k by rw [this]; omega
  intro k
  induction k with
  | zero => exact (Nat.min_zero m).symm
  | succ k ih => rw [List.range_succ, List.countP_append, ih, List.countP_singleton]; simp only [decide_eq_true_eq]; split <;> omega
theorem pinned_fullLedger : (pinnedEntries (P11.stDwell (P11.fullLedger 4096))).length = 4096 := pinned_ofRange 4096 65536 (by decide)

/-- Premises of CellLedger on a full ledger are met: the entry longest unseen, neither pinned nor serving, is replaced; and with 4,096
pinned a pin is refused. -/
theorem test_witness_CellLedgerFull :
  (∃ (s : State) (r g i : Nat) (c : CellMeas), r < 6 ∧ finderOn s r = true ∧ nextSide (rodSides s.objs r) (getRod s r).lastSearched = some g ∧
    (getRod s r).dwellAt + 40 * 32000000 ≤ s.time ∧ (getRod s r).dwellUsable = true ∧ (s.prot.ledger.map (·.1)).Pairwise (· < ·) ∧
    [c].filter (detectable s g) = [c] ∧
    (∀ x, x ∈ s.prot.ledger → (x.2.valid && x.2.ch == g / 8 && x.2.rat == c.rat && x.2.pci == c.pci && x.2.freq == c.freq) = false) ∧
    (∀ k, k < 65536 → (getEntry s k).valid = true) ∧ i < 65536 ∧ (∀ x, x ∈ s.prot.ledger → x.1 < 65536) ∧
    (getEntry s i).pinned = false ∧ i ∉ servingEntries s ∧
    (∀ x, x ∈ s.prot.ledger → x.2.pinned = false → x.1 ∉ servingEntries s →
      (getEntry s i).last < x.2.last ∨ ((getEntry s i).last = x.2.last ∧ i ≤ x.1))) ∧
  (∃ (s : State) (m i : Nat), mayWrite s m = true ∧ i < 65536 ∧ (getEntry s i).valid = true ∧ (getEntry s i).pinned = false ∧
    4096 ≤ (pinnedEntries s).length) := by
  refine ⟨⟨P11.stDwell (P11.fullLedger 1), 0, 0, 1, { rat := 0, pci := 9, freq := 1000000, level := -8000, sinr := 1000, arrival := 5, ssb := 300 },
    by decide +kernel, by decide +kernel, by decide +kernel, by decide +kernel, by decide +kernel, ?_, by decide +kernel, ?_, ?_, by decide, ?_, ?_,
    by decide +kernel, ?_⟩, ⟨P11.stDwell (P11.fullLedger 4096), 0, 4096, by decide +kernel, by decide, ?_, ?_, ?_⟩⟩
  · simp only [P11.stDwell, P11.fullLedger, List.map_map, Function.comp_def, List.map_id']; exact List.pairwise_lt_range
  · intro x hx; rw [(mem_fullLedger hx).2]; simp [P11.ent]
  · exact fun k hk => congrArg LedgerEntry.valid (getEntry_fullLedger 1 k hk)
  · exact fun x hx => (mem_fullLedger hx).1
  · exact congrArg LedgerEntry.pinned (getEntry_fullLedger 1 1 (by decide))
  · intro x hx hp _
    have e := congrArg LedgerEntry.last (getEntry_fullLedger 1 1 (by decide))
    rw [(mem_fullLedger hx).2] at hp ⊢
    have h : ¬ x.1 = 0 := by simpa using hp
    simp only [e]; omega
  · exact congrArg LedgerEntry.valid (getEntry_fullLedger 4096 4096 (by decide))
  · exact congrArg LedgerEntry.pinned (getEntry_fullLedger 4096 4096 (by decide))
  · rw [pinned_fullLedger]

/-- Premises of StagedWrites are met. -/
theorem test_witness_StagedWrites :
  (∃ (s : State) (m idx sub : Nat) (data : List Byte), mayWrite s m = true ∧ (∃ o, lookup idx sub = (0, some o) ∧ o.acc = .rws ∧ o.typ ≠ .dom ∧
    data.length = o.typ.len ∧ o.ok (o.typ.toInt (ofBytes data)) = true) ∧ lockFree s m = true ∧
    stagedTotal { s.commit with staged := putEntries s.commit.staged [(key (canonIdx idx) sub, ofBytes data)] } ≤ 8192) ∧
  (∃ (s : State) (m idx sub : Nat) (data : List Byte), mayWrite s m = true ∧ (∃ o, lookup idx sub = (0, some o) ∧ o.acc = .rws ∧ o.typ ≠ .dom ∧
    data.length = o.typ.len ∧ o.ok (o.typ.toInt (ofBytes data)) = true) ∧ lockFree s m = true ∧
    8192 < stagedTotal { s.commit with staged := putEntries s.commit.staged [(key (canonIdx idx) sub, ofBytes data)] }) ∧
  (∃ (s : State) (m idx sub : Nat) (data : List Byte), mayWrite s m = true ∧ (∃ o, lookup idx sub = (0, some o) ∧ o.acc = .rws ∧ o.typ ≠ .dom ∧
   
    data.length = o.typ.len ∧ o.ok (o.typ.toInt (ofBytes data)) = true) ∧ lockFree s m = false) ∧
  (∃ (s : State) (m : Nat) (data : List Byte), mayWrite s m = true ∧ (s.life.power = .hold ∨ s.life.power = .quiet) ∧
    ∃ o, lookup 0x1101 1 = (0,
    some o) ∧ data.length = o.typ.len ∧ o.ok (o.typ.toInt (ofBytes data)) = true) ∧
  (∃ (s : State) (m : Nat) (data : List Byte), mayWrite s m = true ∧ s.life.power ≠ .hold ∧ s.life.power ≠ .quiet ∧
    ∃ o, lookup 0x1101 1 = (0, some
    o) ∧ data.length = o.typ.len) :=
  ⟨⟨up, 0, 0x3000, 1, [0, 10], by decide +kernel, ⟨_, rfl, by decide +kernel⟩, by decide +kernel⟩,
   ⟨P2.stFull, 0, 0x3000, 1, [0, 10], by decide +kernel, ⟨_, rfl, by decide +kernel⟩, by decide +kernel⟩,
   ⟨locked, 0, 0x3000, 1, [39, 16], by decide +kernel, ⟨_, rfl, by decide +kernel⟩, by decide +kernel⟩,
   ⟨inPower .hold up, 0, [19, 136], by decide +kernel, by decide +kernel, _, rfl, by decide +kernel⟩,
   ⟨up, 0, [19, 136], by decide +kernel, by decide +kernel, by decide +kernel, _, rfl, by decide +kernel⟩⟩

/-- Premises of StagingLockAndCommitRequests are met. -/
theorem test_witness_StagingLockAndCommitRequests :
  (∃ (s : State), ∃ (m : Nat), mayWrite s m = true ∧ lockFree s m = true) ∧
  (∃ (s : State), ∃ (m : Nat), mayWrite s m = true ∧ lockFree s m = true ∧ s.commit.st ≠ 1 ∧ s.commit.held = false) ∧
  (∃ (s : State), ∃ (h : Nat), s.commit.lock = some h) :=
  ⟨⟨P2.w1, 0, by decide +kernel⟩,
   ⟨P2.w1, 0, by decide +kernel⟩,
   ⟨P2.w7, 1, by decide +kernel⟩⟩

/-- Premises of CommitsEnd are met. -/
theorem test_witness_CommitsEnd :
  (∃ (s : State), ∃ (m : Nat), s.life.sup = true ∧ s.commit.st = 1 ∧ m < 8 ∧ s.olp.commitBy = some m ∧ commitChecks s (cfgMerge s.objs
    s.commit.snapshot) = none) ∧
  (∃ (s : State), ∃ (m : Nat), ∃ reason, ∃ object, s.life.sup = true ∧ s.commit.st = 1 ∧ m < 8 ∧ s.olp.commitBy = some m ∧ commitChecks s (cfgMerge
    s.objs s.commit.snapshot) = some (reason, object) ∧ s.commit.snapshot ≠ []) ∧
  (∃ (s : State), ∃ (m : Nat), coreClock s = true ∧ s.commit.held = true ∧ m < 8 ∧ s.olp.commitBy = some m) :=
  ⟨⟨P2.w11, 0, by decide +kernel⟩,
   ⟨P2.w12, 0, 3, 5308417, by decide +kernel⟩,
   ⟨P2.w13, 0, by decide +kernel⟩⟩

/-- Premises of BusyAndEmptyCommits are met. -/
theorem test_witness_BusyAndEmptyCommits :
  (∃ (s : State), ∃ (m : Nat), mayWrite s m = true ∧ lockFree s m = true ∧ (s.commit.st = 1 ∨ s.commit.held = true)) ∧
  (∃ (s : State), ∃ (m : Nat), mayWrite s m = true ∧ lockFree s m = true ∧ s.commit.st ≠ 1 ∧ s.commit.held = false ∧ s.commit.staged = [] ∧ coreClock s
    = true) :=
  ⟨⟨P13.w3, 1, by decide +kernel⟩,
   ⟨P13.w1, 0, by decide +kernel⟩⟩

/-- Premises of WindowTransfers are met. -/
theorem test_witness_WindowTransfers :
  (∃ (s : State), ∃ (m : Nat), ∃ (w : Nat), ∃ (v : Nat), w < 5 ∧ mayWrite s m = true ∧ windowFree s m w = true ∧ v < 2 ^ 32 ∧ ((v = 0xFFFFFFFF ∨
    selectorOk s w v = true))) ∧
  (∃ (s : State), ∃ (m : Nat), ∃ (w : Nat), ∃ (v : Nat), w < 5 ∧ mayWrite s m = true ∧ windowFree s m w = true ∧ v < 2 ^ 64) ∧
  (∃ (s : State), ∃ (w : Nat), w < 5 ∧ (getWindow s w).claim ≠ none ∧ (getWindow s w).claimAt + 5000 * 32000000 ≤ s.time) ∧
  (∃ (s : State), ∃ (m : Nat), ∃ (ws : List Word), mayWrite s m = true ∧ windowFree s m 0 = true ∧ (getWindow s 0).sel < 1536 ∧ 1 ≤ ws.length ∧
    ws.length ≤ 256 ∧ bankHeld (getSlot s ((getWindow s 0).sel / 2)) ((getWindow s 0).sel % 2) = false ∧ (getWindow s 0).cursor + ws.length ≤
    windowLength s 0) ∧
  (∃ (s : State), ∃ (m : Nat), ∃ (n : Nat), mayWrite s m = true ∧ windowFree s m 0 = true ∧ (getWindow s 0).sel < 1536 ∧ 1 ≤ n ∧ n ≤ 256 ∧ (getWindow s
    0).cursor + n ≤ windowLength s 0) :=
  ⟨⟨P2.w1, 0, 0, 0, by decide +kernel⟩,
   ⟨P2.w1, 0, 0, 0, by decide +kernel⟩,
   ⟨P2.w14, 0, by decide +kernel⟩,
   ⟨P2.w14, 0, [0x00000001#32], by decide +kernel⟩,
   ⟨P2.w1, 0, 1, by decide +kernel⟩⟩

/-- Premises of BankSeals are met. -/
theorem test_witness_BankSeals :
  (∃ (s : State), ∃ (m : Nat), mayWrite s m = true ∧ windowFree s m 0 = true ∧ (getWindow s 0).sel < 1536 ∧ bankSealable (getWindow s 0) (bankOf
    (getSlot s ((getWindow s 0).sel / 2)) ((getWindow s 0).sel % 2)) = true) ∧
  (∃ (s : State), ∃ (m : Nat), ∃ (crc : BitVec 32), mayWrite s m = true ∧ windowFree s m 0 = true ∧ (getWindow s 0).sel < 1536 ∧ bankSealable (getWindow
    s 0) (bankOf (getSlot s ((getWindow s 0).sel / 2)) ((getWindow s 0).sel % 2)) = true ∧ crcOut (getWindow s 0).crc = crc) ∧
  (∃ (s : State), ∃ (m : Nat), ∃ (crc : BitVec 32), mayWrite s m = true ∧ windowFree s m 0 = true ∧ (getWindow s 0).sel < 1536 ∧ bankSealable (getWindow
    s 0) (bankOf (getSlot s ((getWindow s 0).sel / 2)) ((getWindow s 0).sel % 2)) = true ∧ crcOut (getWindow s 0).crc ≠ crc) :=
  ⟨⟨P2.w16, 0, by decide +kernel⟩,
   ⟨P2.w16, 0, 0x8173a999#32, by decide +kernel⟩,
   ⟨P2.w16, 0, 0x00000000#32, by decide +kernel⟩⟩

/-- Premises of ReadsAndSubscriptions are met. -/
theorem test_witness_ReadsAndSubscriptions :
  (∃ (s : State) (m idx sub : Nat), mayWrite s m = true ∧ windowShut s m idx sub = false ∧ idx ≠ 0x1601 ∧ idx ≠ 0x7010 ∧ idx ≠ 0x7011 ∧
    ∃ o, lookup
    idx sub = (0, some o) ∧ o.acc.reads = true ∧ o.typ ≠ .dom) ∧
  (∃ (s : State) (m idx sub : Nat), mayWrite s m = true ∧ windowShut s m idx sub = false ∧ (∀ x, blockValue x idx sub = none) ∧
    ∃ o, lookup idx sub
    = (0, some o) ∧ o.acc.reads = true ∧ o.typ ≠ .dom) ∧
  (∃ (s : State) (m idx sub : Nat) (e : Nat × Nat), mayWrite s m = true ∧ windowShut s m idx sub = false ∧ (∀ x, blockValue x idx sub = none) ∧
   
    s.commit.staged.find? (·.1 == key (canonIdx idx) sub) = some e ∧ ∃ o, lookup idx sub = (0, some o) ∧ o.acc.reads = true ∧ o.typ ≠ .dom) ∧
  (∃ (s : State) (m idx sub : Nat), mayWrite s m = true ∧ windowShut s m idx sub = false ∧ (∀ x, blockValue x idx sub = none) ∧
   
    s.commit.staged.find? (·.1 == key (canonIdx idx) sub) = none ∧ ∃ o, lookup idx sub = (0, some o) ∧ o.acc.reads = true ∧ o.typ ≠ .dom) ∧
  (∃ (s : State), ∃ (m : Nat), ∃ (idx : Nat), ∃ (sub : Nat), mayWrite s m = true ∧ readTest s m idx sub 0 ≠ 0) ∧
  (∃ (s : State), ∃ (m : Nat), mayWrite s m = true) ∧
  (∃ (s : State), ∃ (m : Nat), ∃ (idx : Nat), ∃ (sub : Nat), ∃ (data : List Byte), s.life.sup = true ∧ m < 8 ∧ subscribeTest s m idx sub data = 0 ∧
    windowShut s m idx sub = false ∧ fieldAt data 4 2 ≠ 0 ∧ (s.olp.subs.filter fun x => !(x.m == m && x.index == idx && x.sub == sub)).length < 512 ∧
    ((s.olp.subs.filter fun x => !(x.m == m && x.index == idx && x.sub == sub)).filter (·.m == m)).length < 128) ∧
  (∃ (s : State), ∃ (m : Nat), ∃ (idx : Nat), ∃ (sub : Nat), ∃ (data : List Byte), s.life.sup = true ∧ m < 8 ∧ subscribeTest s m idx sub data = 0 ∧
    windowShut s m idx sub = true) ∧
  (∃ (s : State), ∃ (m : Nat), ∃ (idx : Nat), ∃ (sub : Nat), ∃ (data : List Byte), s.life.sup = true ∧ m < 8 ∧ subscribeTest s m idx sub data = 0 ∧
    windowShut s m idx sub = false ∧ fieldAt data 4 2 = 0) :=
  ⟨⟨up, 0, 0x3000, 1, by decide +kernel, by decide +kernel, by decide +kernel, by decide +kernel, by decide +kernel, _, rfl, by decide +kernel⟩,
   ⟨up, 0, 0x3000, 1, by decide +kernel, by decide +kernel, fun _ => rfl, _, rfl, by decide +kernel⟩,
   ⟨P2.stMine, 0, 0x3000, 1, _, by decide +kernel, by decide +kernel, fun _ => rfl, rfl, _, rfl, by decide +kernel⟩,
   ⟨up, 0, 0x3000, 1, by decide +kernel, by decide +kernel, fun _ => rfl, by decide +kernel, _, rfl, by decide +kernel⟩,
   ⟨P2.w1, 0, 0, 0, by decide +kernel⟩,
   ⟨P2.w1, 0, by decide +kernel⟩,
   ⟨P2.w1, 0, 4114, 0, [0x01#8, 0x00#8, 0x00#8, 0x01#8, 0x00#8, 0x3c#8, 0x00#8, 0x00#8], by decide +kernel⟩,
   ⟨P2.w14, 1, 24832, 1, [0x01#8, 0x00#8, 0x00#8, 0x01#8, 0x00#8, 0x3c#8, 0x00#8, 0x00#8], by decide +kernel⟩,
   ⟨P2.w1, 0, 4114, 0, [0x01#8, 0x00#8, 0x00#8, 0x01#8, 0x00#8, 0x00#8, 0x00#8, 0x00#8], by decide +kernel⟩⟩

/-- Premises of NotificationsAndRelayedRequests are met. -/
theorem test_witness_NotificationsAndRelayedRequests :
  (∃ (s : State), ∃ (m : Nat), (s.olp.subs.filter fun x => x.m == m && subDue s x) = []) ∧
  (∃ (s : State) (m : Nat) (x : Subscription) (xs : List Subscription), (s.olp.subs.filter fun x => x.m == m && subDue s x) = x :: xs ∧
    s.life.sup =
    true ∧ olpKey s m ≠ [] ∧ x.origin.port < 2 ∧ fitReplies s 64 32 (x :: xs.filter (·.origin == x.origin)) ≠ [] ∧
    (replyBytes (subReply s
    x)).length ≤ 1420) ∧
  (∃ (s : State) (lane : Nat) (w : Relayed) (bs : List Byte), (lanesUp s).contains lane = true ∧
    (s.olp.waiting.find? fun w => w.device ==
    (olpHeader bs).device && w.m == (olpHeader bs).m && w.session == (olpHeader bs).session &&
      w.seq == (olpHeader bs).seq) = some w ∧
    w.origin.port < 2) ∧
  (∃ (s : State), ∃ lane, ∃ bs, (lanesUp s).contains lane = true ∧ s.olp.waiting.find? ((fun (w : Relayed) => w.device == (olpHeader bs).device && w.m
    == (olpHeader bs).m && w.session == (olpHeader bs).session && w.seq == (olpHeader bs).seq)) = none) ∧
  (∃ (s : State), ∃ w, ∃ ws, s.olp.waiting = w :: ws ∧ w.since + 500 * 32000000 ≤ s.time) ∧
  (∃ (s : State) (w : Relayed) (ws : List Relayed), s.olp.waiting = w :: ws ∧ s.time < w.since + 500 * 32000000) :=
  ⟨⟨P2.w0, 0, by decide +kernel⟩,
   ⟨P2.stSubs, 1, P2.subA, [], by decide +kernel⟩,
   ⟨P2.stWaiting, 0, _, P2.respMsg, by decide +kernel, rfl, by decide +kernel⟩,
   ⟨P2.w4, 0, [], by decide +kernel⟩,
   ⟨P2.w19, { device := 5, m := 0, session := 1, seq := 2, origin := { port := 0, addr := 0, udp := 0, dst := 19820, v6 := false, bad := false }, since := 0 }, [], by decide +kernel⟩,
   ⟨{ P2.stWaiting with time := 5 }, _, _, rfl, by decide +kernel⟩⟩

/-- Premises of MessageAcceptance are met. -/
theorem test_witness_MessageAcceptance :
  (∃ (s : State), ∃ (origin : Origin), ∃ (bs : List Byte), s.life.sup = true ∧ s.life.power ≠ .off ∧ s.nv.lifecycle ≠ 3 ∧ origin.port < 2 ∧ olpServed s
    origin = true ∧ 32 ≤ bs.length ∧ bs.length ≤ 1452 ∧ (olpHeader bs).version = 1 ∧ (olpHeader bs).device = 0xFFFF ∧ s.olp.rxq = [] ∧ s.olp.busy =
    none ∧ origin.bad = true) ∧
  (∃ (s : State), ∃ (origin : Origin), ∃ (bs : List Byte), s.life.sup = true ∧ s.life.power ≠ .off ∧ s.nv.lifecycle ≠ 3 ∧ origin.port < 2 ∧ olpServed s
    origin = true ∧ 32 ≤ bs.length ∧ bs.length ≤ 1452 ∧ (olpHeader bs).version = 1 ∧ (olpHeader bs).device = 0xFFFF ∧ s.olp.rxq = [] ∧ s.olp.busy =
    none ∧ origin.bad = false ∧ (olpKey s (olpHeader bs).m = [] ∨ (tagOf (olpKey s (olpHeader bs).m) (olpBody bs) ≠ olpTag bs))) ∧
  (∃ (s : State), ∃ (origin : Origin), ∃ (bs : List Byte), ∃ r, s.life.sup = true ∧ s.life.power ≠ .off ∧ s.nv.lifecycle ≠ 3 ∧ origin.port < 2 ∧
    olpServed s origin = true ∧ 32 ≤ bs.length ∧ bs.length ≤ 1452 ∧ (olpHeader bs).version = 1 ∧ (olpHeader bs).device = 0xFFFF ∧ s.olp.rxq = [] ∧
    s.olp.busy = none ∧ origin.bad = false ∧ olpKey s (olpHeader bs).m ≠ [] ∧ ¬ (tagOf (olpKey s (olpHeader bs).m) (olpBody bs) ≠ olpTag bs) ∧
    exactRepeat s (olpHeader bs) (olpTag bs) = true ∧ (getSession s (olpHeader bs).m).response = some r) ∧
  (∃ (s : State), ∃ (origin : Origin), ∃ (bs : List Byte), s.life.sup = true ∧ s.life.power ≠ .off ∧ s.nv.lifecycle ≠ 3 ∧ origin.port < 2 ∧ olpServed s
    origin = true ∧ 32 ≤ bs.length ∧ bs.length ≤ 1452 ∧ (olpHeader bs).version = 1 ∧ (olpHeader bs).device = 0xFFFF ∧ s.olp.rxq = [] ∧ s.olp.busy =
    none ∧ origin.bad = false ∧ olpKey s (olpHeader bs).m ≠ [] ∧ ¬ (tagOf (olpKey s (olpHeader bs).m) (olpBody bs) ≠ olpTag bs) ∧ exactRepeat s
    (olpHeader bs) (olpTag bs) = false ∧ windowTest (storedSession s (olpHeader bs).m) (getSession s (olpHeader bs).m) (olpHeader bs).session
    (olpHeader bs).seq = none) ∧
  (∃ (s : State), ∃ (origin : Origin), ∃ (bs : List Byte), ∃ x, s.life.sup = true ∧ s.life.power ≠ .off ∧ s.nv.lifecycle ≠ 3 ∧ origin.port < 2 ∧
    olpServed s origin = true ∧ 32 ≤ bs.length ∧ bs.length ≤ 1452 ∧ (olpHeader bs).version = 1 ∧ (olpHeader bs).device = 0xFFFF ∧ s.olp.rxq = [] ∧
    s.olp.busy = none ∧ origin.bad = false ∧ olpKey s (olpHeader bs).m ≠ [] ∧ ¬ (tagOf (olpKey s (olpHeader bs).m) (olpBody bs) ≠ olpTag bs) ∧
    exactRepeat s (olpHeader bs) (olpTag bs) = false ∧ windowTest (storedSession s (olpHeader bs).m) (getSession s (olpHeader bs).m) (olpHeader
    bs).session (olpHeader bs).seq = some x ∧ requestOps bs = none) ∧
  (∃ (s : State), ∃ (origin : Origin), ∃ (bs : List Byte), ∃ x, ∃ ops, s.life.sup = true ∧ s.life.power ≠ .off ∧ s.nv.lifecycle ≠ 3 ∧ origin.port < 2 ∧
    olpServed s origin = true ∧ 32 ≤ bs.length ∧ bs.length ≤ 1452 ∧ (olpHeader bs).version = 1 ∧ (olpHeader bs).device = 0xFFFF ∧ s.olp.rxq = [] ∧
    s.olp.busy = none ∧ origin.bad = false ∧ olpKey s (olpHeader bs).m ≠ [] ∧ ¬ (tagOf (olpKey s (olpHeader bs).m) (olpBody bs) ≠ olpTag bs) ∧
    exactRepeat s (olpHeader bs) (olpTag bs) = false ∧ windowTest (storedSession s (olpHeader bs).m) (getSession s (olpHeader bs).m) (olpHeader
    bs).session (olpHeader bs).seq = some x ∧ requestOps bs = some ops) ∧
  (∃ (s : State), ∃ (origin : Origin), ∃ (bs : List Byte), ∃ x, ∃ op, s.life.sup = true ∧ s.life.power ≠ .off ∧ s.nv.lifecycle ≠ 3 ∧ origin.port < 2 ∧
    olpServed s origin = true ∧ 32 ≤ bs.length ∧ bs.length ≤ 1452 ∧ (olpHeader bs).version = 1 ∧ (olpHeader bs).device = 0xFFFF ∧ s.olp.rxq = [] ∧
    s.olp.busy = none ∧ origin.bad = false ∧ olpKey s (olpHeader bs).m ≠ [] ∧ ¬ (tagOf (olpKey s (olpHeader bs).m) (olpBody bs) ≠ olpTag bs) ∧
    exactRepeat s (olpHeader bs) (olpTag bs) = false ∧ windowTest (storedSession s (olpHeader bs).m) (getSession s (olpHeader bs).m) (olpHeader
    bs).session (olpHeader bs).seq = some x ∧ requestOps bs = some [op] ∧ op.opcode = 2 ∧ ¬ (op.index = 0x1010 ∧ op.sub = 1)) :=
  ⟨⟨P2.w1, { port := 0, addr := 0, udp := 0, dst := 19820, v6 := false, bad := true }, [0x01#8, 0x00#8, 0x00#8, 0x01#8, 0x00#8, 0x00#8, 0x00#8, 0x01#8, 0x00#8, 0x01#8, 0x00#8, 0x0c#8, 0xff#8, 0xff#8, 0x00#8, 0x00#8, 0x02#8, 0x00#8, 0x30#8, 0x00#8, 0x01#8, 0x00#8, 0x00#8, 0x02#8, 0x00#8, 0x01#8, 0x00#8, 0x00#8, 0x15#8, 0x51#8, 0xa8#8, 0x84#8, 0x80#8, 0x84#8, 0x6f#8, 0xb4#8, 0xf7#8, 0x0f#8, 0x89#8, 0x8c#8, 0x49#8, 0x94#8, 0x6a#8, 0x69#8], by decide +kernel⟩,
   ⟨P2.w1, { port := 0, addr := 0, udp := 0, dst := 19820, v6 := false, bad := false }, [0x01#8, 0x00#8, 0x00#8, 0x01#8, 0x00#8, 0x00#8, 0x00#8, 0x01#8, 0x00#8, 0x01#8, 0x00#8, 0x0c#8, 0xff#8, 0xff#8, 0x00#8, 0x00#8, 0x02#8, 0x00#8, 0x30#8, 0x00#8, 0x01#8, 0x00#8, 0x00#8, 0x02#8, 0x00#8, 0x01#8, 0x00#8, 0x00#8, 0x00#8, 0x00#8, 0x00#8, 0x00#8, 0x00#8, 0x00#8, 0x00#8, 0x00#8, 0x00#8, 0x00#8, 0x00#8, 0x00#8, 0x00#8, 0x00#8, 0x00#8, 0x00#8], by decide +kernel⟩,
   ⟨P2.w1, { port := 0, addr := 0, udp := 0, dst := 19820, v6 := false, bad := false }, [0x01#8, 0x00#8, 0x00#8, 0x01#8, 0x00#8, 0x00#8, 0x00#8, 0x01#8, 0x00#8, 0x01#8, 0x00#8, 0x0c#8, 0xff#8, 0xff#8, 0x00#8, 0x00#8, 0x02#8, 0x00#8, 0x30#8, 0x00#8, 0x01#8, 0x00#8, 0x00#8, 0x02#8, 0x00#8, 0x01#8, 0x00#8, 0x00#8, 0x15#8, 0x51#8, 0xa8#8, 0x84#8, 0x80#8, 0x84#8, 0x6f#8, 0xb4#8, 0xf7#8, 0x0f#8, 0x89#8, 0x8c#8, 0x49#8, 0x94#8, 0x6a#8, 0x69#8], [0x01#8, 0x02#8, 0x03#8], by decide +kernel⟩,
   ⟨P2.w1, { port := 0, addr := 0, udp := 0, dst := 19820, v6 := false, bad := false }, [0x01#8, 0x00#8, 0x00#8, 0x01#8, 0x00#8, 0x00#8, 0x00#8, 0x00#8, 0x00#8, 0x01#8, 0x00#8, 0x0c#8, 0xff#8, 0xff#8, 0x00#8, 0x00#8, 0x02#8, 0x00#8, 0x30#8, 0x00#8, 0x01#8, 0x00#8, 0x00#8, 0x02#8, 0x00#8, 0x01#8, 0x00#8, 0x00#8, 0x17#8, 0x15#8, 0x95#8, 0x38#8, 0xb2#8, 0xed#8, 0xa9#8, 0xb1#8, 0x1d#8, 0x6a#8, 0xc2#8, 0x6f#8, 0x38#8, 0xda#8, 0x8d#8, 0x0c#8], by decide +kernel⟩,
   ⟨P2.w4, { port := 0, addr := 0, udp := 0, dst := 19820, v6 := false, bad := false }, [0x01#8, 0x00#8, 0x00#8, 0x01#8, 0x00#8, 0x00#8, 0x00#8, 0x01#8, 0x00#8, 0x04#8, 0x00#8, 0x08#8, 0xff#8, 0xff#8, 0x00#8, 0x00#8, 0x01#8, 0x00#8, 0x10#8, 0x12#8, 0x01#8, 0x00#8, 0x00#8, 0x00#8, 0x0b#8, 0xa8#8, 0xcf#8, 0xf7#8, 0xb7#8, 0xdb#8, 0x41#8, 0xb7#8, 0xc4#8, 0x8d#8, 0xb5#8, 0xaf#8, 0xf5#8, 0x0b#8, 0x10#8, 0x85#8], { isOpen := true, newest := 1, seen := [], lastTag := [], lastSeq := 0, response := none, notifySeq := 0 }, by decide +kernel⟩,
   ⟨P2.w4, { port := 0, addr := 0, udp := 0, dst := 19820, v6 := false, bad := false }, [0x01#8, 0x00#8, 0x00#8, 0x01#8, 0x00#8, 0x00#8, 0x00#8, 0x01#8, 0x00#8, 0x01#8, 0x00#8, 0x0c#8, 0xff#8, 0xff#8, 0x00#8, 0x00#8, 0x02#8, 0x00#8, 0x30#8, 0x00#8, 0x01#8, 0x00#8, 0x00#8, 0x02#8, 0x00#8, 0x01#8, 0x00#8, 0x00#8, 0x15#8, 0x51#8, 0xa8#8, 0x84#8, 0x80#8, 0x84#8, 0x6f#8, 0xb4#8, 0xf7#8, 0x0f#8, 0x89#8, 0x8c#8, 0x49#8, 0x94#8, 0x6a#8, 0x69#8], { isOpen := true, newest := 1, seen := [], lastTag := [], lastSeq := 0, response := none, notifySeq := 0 }, [{ opcode := 2, index := 12288, sub := 1, len := 2, data := [0x00#8, 0x01#8] }], by decide +kernel⟩,
   ⟨P2.w4, { port := 0, addr := 0, udp := 0, dst := 19820, v6 := false, bad := false }, [0x01#8, 0x00#8, 0x00#8, 0x01#8, 0x00#8, 0x00#8, 0x00#8, 0x01#8, 0x00#8, 0x01#8, 0x00#8, 0x0c#8, 0xff#8, 0xff#8, 0x00#8, 0x00#8, 0x02#8, 0x00#8, 0x30#8, 0x00#8, 0x01#8, 0x00#8, 0x00#8, 0x02#8, 0x00#8, 0x01#8, 0x00#8, 0x00#8, 0x15#8, 0x51#8, 0xa8#8, 0x84#8, 0x80#8, 0x84#8, 0x6f#8, 0xb4#8, 0xf7#8, 0x0f#8, 0x89#8, 0x8c#8, 0x49#8, 0x94#8, 0x6a#8, 0x69#8], { isOpen := true, newest := 1, seen := [], lastTag := [], lastSeq := 0, response := none, notifySeq := 0 }, { opcode := 2, index := 12288, sub := 1, len := 2, data := [0x00#8, 0x01#8] }, by decide +kernel⟩⟩

/-- Premises of ClockLossesAndReturns are met. -/
theorem test_witness_ClockLossesAndReturns :
  (∃ (s : State), s.life.power ≠ .off ∧ s.clk.refclk = true ∧ MuteTermInv s) ∧
  (∃ (s : State), s.life.power ≠ .off ∧ s.flt.latch277 = false ∧ MuteTermInv s) ∧
  (∃ (s : State), s.life.power ≠ .off ∧ s.clk.supclk = true) ∧
  (∃ (s : State), s.life.power ≠ .off ∧ s.clk.refclk = false) ∧
  (∃ (s : State), s.life.power ≠ .off ∧ s.clk.core = false ∧ s.clk.refclk = true) ∧
  (∃ (s : State), s.life.power ≠ .off ∧ s.clk.supclk = false) :=
  ⟨⟨P3.w0, by decide +kernel, by decide +kernel, muteTermInv_of_no_mutes rfl⟩,
   ⟨P3.w0, by decide +kernel, by decide +kernel, muteTermInv_of_no_mutes rfl⟩,
   ⟨P3.w0, by decide +kernel⟩,
   ⟨P3.w3, by decide +kernel⟩,
   ⟨P3.w4, by decide +kernel⟩,
   ⟨P3.w5, by decide +kernel⟩⟩

/-- Premises of DieLinks are met. -/
theorem test_witness_DieLinks :
  (∃ (s : State), ∃ (r : Nat), s.life.power ≠ .off ∧ r < 6 ∧ (getRod s r).powered = true ∧ MuteTermInv s) ∧
  (∃ (s : State), ∃ (r : Nat), s.life.power ≠ .off ∧ r < 6 ∧ ((getRod s r).linkOk = false ∨ (getRod s r).lanesOk = false) ∧ (getRod s r).linkSince + 10
    * 32000000 ≤ s.time) :=
  ⟨⟨P3.w1, 0, by decide +kernel, by decide +kernel, by decide +kernel, muteTermInv_of_no_mutes rfl⟩,
   ⟨P3.w6, 0, by decide +kernel⟩⟩

/-- Premises of StickyBits are met. -/
theorem test_witness_StickyBits :
  (∃ (s : State), coreClock s = true) ∧
  (∃ (s : State), coreClock s = true) ∧
  (∃ (s : State) (m : Nat) (mask : BitVec 320), coreClock s = true ∧ mayWrite s m = true ∧ ∀ n, reservedSrc n = true → mask.getLsbD n = false) :=
  ⟨⟨P3.w0, by decide +kernel⟩,
   ⟨P3.w0, by decide +kernel⟩,
   ⟨up, 0, 5, by decide +kernel, by decide +kernel, low_mask⟩⟩

/-- Premises of ReservedSources are met. -/
theorem test_witness_ReservedSources :
  (∃ n, 300 ≤ n ∧ n < 320) ∧
  (∃ s t : State, step s = .next t ∧ (∀ n, 300 ≤ n → n < 320 → s.flt.sticky.getLsbD n = false)) ∧
  (∃ mask mask' : BitVec 320, mask ≠ mask' ∧ ∀ n, n < 300 → mask.getLsbD n = mask'.getLsbD n) :=
  ⟨⟨300, by decide +kernel⟩,
   ⟨State.reset, _, rfl, fun n _ _ => by simp [State.reset]⟩,
   ⟨5, BitVec.ofNat 320 (2 ^ 300 + 5), by decide +kernel⟩⟩

/-- Premises of FaultControls are met. -/
theorem test_witness_FaultControls :
  (∃ (s : State), ∃ m, ∃ v, mayWrite s m = true ∧ v ≤ 1) ∧
  (∃ (s : State), s.flt.pulse = true ∧ s.flt.pulseAt + 10 * 32000 ≤ s.time) ∧
  (∃ (s : State), ∃ m, ∃ src, ∃ v, mayWrite s m = true ∧ src < 300 ∧ v < 256 ∧ (srcRow src).permitted.contains v = true) ∧
  (∃ (s : State), ∃ src, smGet 0 s.flt.withheld src ≠ 0 ∧ smGet 0 s.flt.withheld src ≤ s.time) :=
  ⟨⟨P3.w1, 0, 0, by decide +kernel⟩,
   ⟨P3.w7, by decide +kernel⟩,
   ⟨P3.w1, 0, 0, 1, by decide +kernel⟩,
   ⟨P3.w7, 3, by decide +kernel⟩⟩

/-- Premises of RecordsAndTokens are met. -/
theorem test_witness_RecordsAndTokens :
  (∃ (s : State), ∃ o, ∃ rest, s.tally.queue = o :: rest ∧ tallyRuns s = true ∧ s.tally.excluded = [] ∧ s.tally.slot < 32768 ∧ (unlimitedCodes.contains
    o.code = true ∨ 0 < tokensOf s o.code)) ∧
  (∃ (s : State), ∃ o, ∃ rest, s.tally.queue = o :: rest ∧ tallyRuns s = true ∧ s.tally.excluded = [] ∧ s.tally.slot < 32768 ∧ unlimitedCodes.contains
    o.code = false ∧ tokensOf s o.code = 0) ∧
  (∃ (s : State), ∃ (code : Nat), ∃ o, (getCode s code).last = some o ∧ o.code = code ∧ tallyRuns s = true ∧ (getCode s code).pending ≠ 0 ∧
    s.tally.excluded = [] ∧ s.tally.slot < 32768 ∧ ((unlimitedCodes.contains code = true ∨ 0 < tokensOf s code)) ∧ (getCode s code).lastAt + 1000 *
    32000000 ≤ s.time) ∧
  (∃ (s : State), ∃ (code : Nat), tokensOf s code < burstOf s code ∧ (getCode s code).refillAt + refillOf s code * 32000000 ≤ s.time) ∧
  (∃ (s : State), s.tally.event = true ∧ s.tally.eventAt + 2 * 32000 ≤ s.time) :=
  ⟨⟨P3.w9, { code := 1, source := 1, args := [1, 2, 3, 4, 5], frame := 9, snap := [], force := false }, [], by decide +kernel⟩,
   ⟨P3.w12, { code := 512, source := 1, args := [1, 2, 3, 4, 5], frame := 9, snap := [], force := false }, [], by decide +kernel⟩,
   ⟨P3.w14, 512, { code := 512, source := 1, args := [1], frame := 9, snap := [], force := false }, by decide +kernel⟩,
   ⟨P3.w12, 512, by decide +kernel⟩,
   ⟨P3.w16, by decide +kernel⟩⟩

/-- Premises of PersistentTierAndControls are met. -/
theorem test_witness_PersistentTierAndControls :
  (∃ (s : State), ∃ r, ∃ rest, tallyRuns s = true ∧ s.tally.toWrite = r :: rest ∧ (s.tally.writes.filter fun t => decide (s.time < t + 1000 *
    32000000)).length < 64) ∧
  (∃ (s : State), ∃ r, ∃ rest, tallyRuns s = true ∧ s.tally.toWrite = r :: rest ∧ 64 ≤ (s.tally.writes.filter fun t => decide (s.time < t + 1000 *
    32000000)).length) ∧
  (∃ (s : State), tallyRuns s = true ∧ savedTime s < opMs s / 60000 * 60000) ∧
  (∃ s : State, tallyRuns s = true ∧ opMs s / 60000 * 60000 ≤ savedTime s) ∧
  (∃ (s : State), tallyRuns s = true ∧ s.tally.scan < 1024 ∧ s.tally.excluded.contains s.tally.scan = false) ∧
  (∃ (s : State), ∃ m, ∃ v, mayWrite s m = true ∧ v < 2 ^ 64 ∧ v % 2 ^ 32 ≤ 999999999 ∧ s.clk.supclk = true ∧ s.tally.restarting = false) ∧
  (∃ (s : State), ∃ m, mayWrite s m = true) ∧
  (∃ (s : State), ∃ m, ∃ entry, mayWrite s m = true ∧ 1 ≤ entry ∧ entry ≤ 16 ∧ cfgNat s.objs 0x1710 0 ≠ 0x0100) ∧
  (∃ (s : State), ∃ m, ∃ r, mayWrite s m = true ∧ windowFree s m 2 = true ∧ (getWindow s 2).sel = 2 ∧ (getWindow s 2).cursor = 0 ∧ (getWindow s
    2).offset = 0 ∧ s.tally.lastResort.head? = some r) :=
  ⟨⟨P3.w16, { seq := 5, pcc := 0, op := 0, wall := 0, frame := 0, code := 1, source := 0, suppressed := 0, args := [], snap := [], persistent := false, lastResort := false, wallUnset := false, summary := false, incomplete := false, withheld := false }, [], by decide +kernel⟩,
   ⟨P3.w17, { seq := 5, pcc := 0, op := 0, wall := 0, frame := 0, code := 1, source := 0, suppressed := 0, args := [], snap := [], persistent := false, lastResort := false, wallUnset := false, summary := false, incomplete := false, withheld := false }, [], by decide +kernel⟩,
   ⟨P3.w1, by decide +kernel⟩,
   ⟨{ up with nv := { counters := [(0, 10 ^ 13)] } }, by decide +kernel⟩,
   ⟨P3.w1, by decide +kernel⟩,
   ⟨P3.w1, 0, 0, by decide +kernel⟩,
   ⟨P3.w1, 0, by decide +kernel⟩,
   ⟨P3.w1, 0, 1, by decide +kernel⟩,
   ⟨P3.w19, 0, { seq := 9, pcc := 0, op := 0, wall := 0, frame := 0, code := 0, source := 0, suppressed := 0, args := [], snap := [], persistent := false, lastResort := false, wallUnset := false, summary := false, incomplete := false, withheld := false }, by decide +kernel⟩⟩

/-- Premises of PowerRequests are met. -/
theorem test_witness_PowerRequests :
  (∃ (s : State), s.nv.lifecycle ≠ 3 ∧ s.nv.burned ≠ s.nv.lifecycle) ∧
  (∃ (s : State), s.nv.lifecycle ≠ 3 ∧ s.nv.burned = s.nv.lifecycle ∧ s.life.scan = true) ∧
  (∃ (s : State), s.nv.lifecycle ≠ 3 ∧ s.nv.burned = s.nv.lifecycle ∧ s.life.scan = false ∧ s.life.power = .safe ∧ ((∃ r, r < 6 ∧ (getRod s r).powered =
    true ∧ (getRod s r).calPending = true))) ∧
  (∃ (s : State), s.nv.lifecycle ≠ 3 ∧ s.nv.burned = s.nv.lifecycle ∧ s.life.scan = false ∧ ((s.life.power ≠ .safe ∨ ∀ r, r < 6 → (getRod s r).powered =
    false ∨ (getRod s r).calPending = false)) ∧ partsPresent s = false) ∧
  (∃ s : State, s.nv.lifecycle ≠ 3 ∧ s.nv.burned = s.nv.lifecycle ∧ s.life.scan = false ∧ s.life.power ≠ .safe ∧ partsPresent s = true ∧
   
    s.flt.sticky.getLsbD 268 = true) ∧
  (∃ (s : State), s.nv.lifecycle ≠ 3 ∧ s.nv.burned = s.nv.lifecycle ∧ s.life.scan = false ∧ ((s.life.power ≠ .safe ∨ ∀ r, r < 6 → (getRod s r).powered =
    false ∨ (getRod s r).calPending = false)) ∧ partsPresent s = true ∧ ((∀ n, n ∈ [268, 269, 270, 271, 273, 274, 276, 277, 278, 279, 284, 292, 295] →
    s.flt.sticky.getLsbD n = false))) :=
  ⟨⟨P4.w3, by decide +kernel⟩,
   ⟨P4.w10, by decide +kernel⟩,
   ⟨P4.w11, by decide +kernel⟩,
   ⟨P4.w0, by decide +kernel⟩,
   ⟨P4.w31, by decide +kernel⟩,
   ⟨P4.w29, by decide +kernel⟩⟩

/-- Premises of SupervisorStopsAndAutonomy are met. -/
theorem test_witness_SupervisorStopsAndAutonomy :
  (∃ (s : State), s.life.power ≠ .off ∧ s.life.sup = true ∧ trialRuns s = false) ∧
  (∃ (s : State), s.life.power ≠ .off ∧ s.life.sup = true ∧ trialRuns s = true) ∧
  (∃ (s : State), s.life.power ≠ .off ∧ s.life.sup = true ∧ trialRuns s = true ∧ s.life.trialSince + 1000 * cfgNat s.objs 0x1210 8 * 32000000 ≤ s.time) ∧
  (∃ (s : State), s.life.power ≠ .off ∧ trialRuns s = true ∧ s.life.trialSince + 1000 * cfgNat s.objs 0x1210 8 * 32000000 ≤ s.time) ∧
  (∃ (s : State), s.life.autonomy = true ∧ s.life.power ≠ .off ∧ s.life.sup = false ∧ s.clk.supclk = true ∧ s.life.held = false ∧ s.life.autoCause ≠ 1) ∧
  (∃ (s : State), s.life.autonomy = true ∧ s.life.power ≠ .off ∧ s.life.limitPassed = false ∧ s.life.autoSince + 1000 * cfgNat s.objs 0x1220 1 *
    32000000 ≤ s.time) ∧
  (∃ (s : State), s.life.autonomy = true ∧ s.life.power ≠ .off ∧ s.life.limitPassed = true ∧ cfgBool s.objs 0x1220 3 = true ∧ s.clk.supclk = true ∧
    s.life.autoSince + (1000 * cfgNat s.objs 0x1220 1 + 600000) * 32000000 ≤ s.time) :=
  ⟨⟨P4.w2, by decide +kernel⟩,
   ⟨P4.w13, by decide +kernel⟩,
   ⟨P4.w13, by decide +kernel⟩,
   ⟨P4.w1, by decide +kernel⟩,
   ⟨P4.w1, by decide +kernel⟩,
   ⟨P4.w1, by decide +kernel⟩,
   ⟨P4.w16, by decide +kernel⟩⟩

/-- Premises of ImagesAndActivation are met. -/
theorem test_witness_ImagesAndActivation :
  (∃ (s : State), ∃ m, ∃ crc, mayWrite s m = true ∧ windowFree s m 4 = true ∧ (getWindow s 4).sel ≤ 1 ∧ s.life.running ≠ (getWindow s 4).sel ∧ crcOut
    (getWindow s 4).crc = crc ∧ imageSealable s (getWindow s 4) = false) ∧
  (∃ (s : State), s.life.load = 2 ∧ s.life.loadSlot ≤ 1 ∧ s.life.power ≠ .off) ∧
  (∃ (s : State), ∃ (m : Nat), ∃ v, mayWrite s m = true ∧ v ≤ 1 ∧ s.commit.st ≠ 1 ∧ s.commit.held = false ∧ s.life.load = 3 ∧ s.life.loadSlot = v ∧
    s.life.running ≠ v) ∧
  (∃ (s : State), ∃ (m : Nat), mayWrite s m = true ∧ trialRuns s = true) ∧
  (∃ (s : State), ∃ (m : Nat), mayWrite s m = true ∧ trialRuns s = false) ∧
  (∃ (s : State), ∃ (m : Nat), mayWrite s m = true) :=
  ⟨⟨P4.w18, 0, 0x00000000#32, by decide +kernel⟩,
   ⟨P4.w19, by decide +kernel⟩,
   ⟨P4.w20, 0, 1, by decide +kernel⟩,
   ⟨P4.w13, 0, by decide +kernel⟩,
   ⟨P4.w4, 0, by decide +kernel⟩,
   ⟨P4.w4, 0, by decide +kernel⟩⟩

/-- Premises of ResetAndBoot are met. -/
theorem test_witness_ResetAndBoot :
  (∃ lowNs, 1000 ≤ lowNs) ∧
  (∃ lowNs, lowNs < 200) ∧
  (∃ s : State, s.life.power = .off) ∧
  (∃ (s : State), s.life.power = .boot ∧ s.life.booting = true ∧ s.life.sup = true ∧ coreRuns s = true ∧ zoneRead s 0 = true ∧ ((∀ r, r < 6 → (getRod s
    r).powered = false ∨ (getRod s r).cal ≠ 1)) ∧ (getZone s 0).shut = false ∧ (getZone s 0).temp ≤ releaseLevel s.objs 0) ∧
  (∃ (s : State), s.life.power = .boot ∧ s.life.booting = true ∧ s.life.sup = true ∧ coreRuns s = true ∧ zoneRead s 0 = true ∧ ((∀ r, r < 6 → (getRod s
    r).powered = false ∨ (getRod s r).cal ≠ 1)) ∧ (getZone s 0).shut = false ∧ releaseLevel s.objs 0 < (getZone s 0).temp) :=
  ⟨⟨1000, by decide +kernel⟩,
   ⟨0, by decide +kernel⟩,
   ⟨P4.stOff, by decide +kernel⟩,
   ⟨P4.w22, by decide +kernel⟩,
   ⟨P4.w2, by decide +kernel⟩⟩

/-- Premises of RestartsOfRodsAndBlocks are met. -/
theorem test_witness_RestartsOfRodsAndBlocks :
  (∃ (s : State) (r m : Nat), r < 6 ∧ mayWrite s m = true ∧ (getRod s r).powered = true ∧ (getRod s r).restarting = false ∧ MuteTermInv s) ∧
  (∃ (s : State), ∃ (r : Nat), ∃ m, ∃ ch, r < 6 ∧ ch < 96 ∧ ch / 16 = r ∧ mayWrite s m = true ∧ ((s.life.power = .hold ∨ s.life.power = .quiet)) ∧
    (getRod s r).powered = true ∧ (getRod s r).cal ≠ 1 ∧ (getRod s r).restarting = false) ∧
  (∃ (s : State), ∃ (r : Nat), r < 6 ∧ (getRod s r).restarting = true ∧ rodReady s r = false) ∧
  (∃ (s : State), ∃ (r : Nat), r < 6 ∧ (getRod s r).restarting = true ∧ ((getRod s r).cal = 1 ∨ (getRod s r).linkOk = false ∨ (getRod s r).pll = false ∨
    coreRuns s = false ∨ (∃ ch, ch ∈ rodChannels r ∧ (getChan s ch).radio.trans ≠ none))) ∧
  (∃ (s : State), ∃ (r : Nat), r < 6 ∧ (getRod s r).restarting = true ∧ rodReady s r = true) ∧
  (∃ (s : State) (r : Nat), r < 6 ∧ (getRod s r).rejoin = true) ∧
  (∃ (s : State), ∃ (r : Nat), r < 6 ∧ (getRod s r).cal = 1 ∧ (getRod s r).powered = true ∧ coreRuns s = true) ∧
  (∃ (s : State), ∃ (r : Nat), ∃ step, r < 6 ∧ (getRod s r).cal = 1 ∧ (getRod s r).powered = true ∧ coreRuns s = true ∧ 1 ≤ step ∧ step ≤ 15) ∧
  (∃ (s : State), ∃ m, ∃ n, mayWrite s m = true ∧ n < 16 ∧ (getDn s n).restarting = false) ∧
  (∃ (s : State), ∃ m, ∃ n, mayWrite s m = true ∧ n < 16 ∧ (getXl s n).restarting = false) ∧
  (∃ (s : State), ∃ m, mayWrite s m = true ∧ s.cap.restarting = false) ∧
  (∃ (s : State), ∃ m, mayWrite s m = true ∧ s.tally.restarting = false) ∧
  (∃ (s : State), ∃ m, ∃ n, mayWrite s m = true ∧ n < 6 ∧ (getRod s n).restarting = true) ∧
  (∃ (s : State), ∃ m, ∃ n, mayWrite s m = true ∧ n < 16 ∧ (getDn s n).restarting = true) ∧
  (∃ (s : State), ∃ m, ∃ n, mayWrite s m = true ∧ n < 16 ∧ (getXl s n).restarting = true) ∧
  (∃ (s : State), ∃ (m : Nat), mayWrite s m = true ∧ s.cap.restarting = true) ∧
  (∃ (s : State), ∃ (m : Nat), mayWrite s m = true ∧ s.tally.restarting = true) ∧
  (∃ (s : State), ∃ m, ∃ n, mayWrite s m = true ∧ n < 6 ∧ (getRod s n).finder = 2) ∧
  (∃ (s : State), ∃ m, ∃ r, mayWrite s m = true ∧ r < 6 ∧ (getRod s r).finder ≠ 2) ∧
  (∃ (s : State), ∃ n, s.life.power ≠ .off ∧ n < 16 ∧ (getDn s n).restarting = true) ∧
  (∃ (s : State), ∃ n, s.life.power ≠ .off ∧ n < 16 ∧ (getXl s n).restarting = true) ∧
  (∃ (s : State), s.life.power ≠ .off ∧ s.cap.restarting = true) ∧
  (∃ (s : State), s.life.power ≠ .off ∧ s.tally.restarting = true) ∧
  (∃ (s : State), ∃ r, s.life.power ≠ .off ∧ r < 6 ∧ (getRod s r).finder = 2) :=
  ⟨⟨up, 0, 0, by decide +kernel, by decide +kernel, by decide +kernel, by decide +kernel, muteTermInv_of_no_mutes rfl⟩,
   ⟨P4.w7, 0, 0, 0, by decide +kernel⟩,
   ⟨P4.w4, 0, by decide +kernel⟩,
   ⟨P4.w4, 0, by decide +kernel⟩,
   ⟨P4.w24, 0, by decide +kernel⟩,
   ⟨{ up with rods := smSet {} up.rods 0 { rejoin := true } }, 0, by decide +kernel⟩,
   ⟨P4.w25, 0, by decide +kernel⟩,
   ⟨P4.w25, 0, 1, by decide +kernel⟩,
   ⟨P4.w4, 0, 0, by decide +kernel⟩,
   ⟨P4.w4, 0, 0, by decide +kernel⟩,
   ⟨P4.w4, 0, by decide +kernel⟩,
   ⟨P4.w4, 0, by decide +kernel⟩,
   ⟨P4.w4, 0, 0, by decide +kernel⟩,
   ⟨P4.w26, 0, 0, by decide +kernel⟩,
   ⟨P4.w26, 0, 0, by decide +kernel⟩,
   ⟨P4.w26, 0, by decide +kernel⟩,
   ⟨P4.w26, 0, by decide +kernel⟩,
   ⟨P4.w26, 0, 0, by decide +kernel⟩,
   ⟨P4.w4, 0, 0, by decide +kernel⟩,
   ⟨P4.w26, 0, by decide +kernel⟩,
   ⟨P4.w26, 0, by decide +kernel⟩,
   ⟨P4.w26, by decide +kernel⟩,
   ⟨P4.w26, by decide +kernel⟩,
   ⟨P4.w26, 0, by decide +kernel⟩⟩

/-- Premises of RadioTransitionsAndWindows are met. -/
theorem test_witness_RadioTransitionsAndWindows :
  (∃ (s : State), ∃ (ch : Nat), ∃ goal, ((getChan s ch).radio.known = false ∨ class1Pending s ch = false) ∧ (getChan s ch).radio.trans = some goal ∧
    inTransition s ch = true ∧ (goal.rank < 2 ∨ bothLocked s ch = true)) ∧
  (∃ (s : State), ∃ (ch : Nat), ∃ goal, ((getChan s ch).radio.known = false ∨ class1Pending s ch = false) ∧ (getChan s ch).radio.trans = some goal ∧ 2 ≤
    goal.rank ∧ (getChan s ch).radio.st.rank < goal.rank ∧ bothLocked s ch = false) ∧
  (∃ (s : State), ∃ (ch : Nat), (getChan s ch).radio.known = true ∧ class1Pending s ch = true ∧ inTransition s ch = true) ∧
  (∃ (s : State), ∃ (ch : Nat), inTransition s ch = false) ∧
  (∃ (s : State), ∃ (ch : Nat), ∃ event, event ∈ comingEvents s ch ∧ event ∉ (getChan s ch).radio.issued) ∧
  (∃ (s : State), ∃ (ch : Nat), ∃ since, (getChan s ch).radio.held = some since ∧ txSynthLocked s ch = false ∧ since + cfgNat s.objs (radIdx ch 0) 3 *
    32000 ≤ s.time) ∧
  (∃ (s : State), ∃ (ch : Nat), ∃ d, coreRuns s = true ∧ reqState s.objs ch = 6 ∧ groupTimed s ch = true ∧ (getChan s ch).radio.inWindow = false ∧
    windowStart s ch = some d) ∧
  (∃ (s : State), ∃ (ch : Nat), (getChan s ch).radio.inWindow = true ∧ (reqState s.objs ch ≠ 6 ∨ groupTimed s ch = false ∨ windowRuns s ch = false)) :=
  ⟨⟨P5.w40, 0, Sys2Proof.Machine.Radio.transmit, by decide +kernel⟩,
   ⟨P5.w22, 0, Sys2Proof.Machine.Radio.synth, by decide +kernel⟩,
   ⟨P5.w10, 0, by decide +kernel⟩,
   ⟨P5.w0, 0, by decide +kernel⟩,
   ⟨P5.w10, 0, 3, by decide +kernel⟩,
   ⟨P5.w26, 0, 0, by decide +kernel⟩,
   ⟨P5.w0, 0, 0, by decide +kernel⟩,
   ⟨P5.w43, 0, by decide +kernel⟩⟩

/-- Premises of Synthesisers are met. -/
theorem test_witness_Synthesisers :
  (∃ (s : State), ∃ (r : Nat), ∃ (n : Nat), r < 6 ∧ n < 8 ∧ (getRod s r).powered = true ∧ ((getSynth s r n).st = 1 ∨ (getSynth s r n).st = 2 ∨ (getSynth
    s r n).st = 6)) ∧
  (∃ (s : State), ∃ (r : Nat), ∃ (n : Nat), r < 6 ∧ n < 8 ∧ synthLocked s r n = true) ∧
  (∃ (s : State), ∃ (r : Nat), ∃ (n : Nat), ∃ b, r < 6 ∧ n < 8 ∧ (getRod s r).handover = some (n, b) ∧ b ≠ n ∧ (getSynth s r b).st = 3 ∧ ((∀ k, k < 8 →
    k ≠ n → (getSynth s r k).st ≠ 5)) ∧ coreRuns s = true ∧ (getRod s r).powered = true) :=
  ⟨⟨P5.w22, 0, 0, by decide +kernel⟩,
   ⟨P5.w0, 0, 0, by decide +kernel⟩,
   ⟨P5.w42, 0, 1, 7, by decide +kernel⟩⟩

/-- Premises of RffeBus are met. -/
theorem test_witness_RffeBus :
  (∃ (s : State), ∃ (b : Nat), ∃ (u : Txn), (getBus s b).busy = some u ∧ u.event ≠ 6 ∧ u.event ≠ 7 ∧ pickTxn (getBus s b).queue = none) ∧
  (∃ (s : State), ∃ (b : Nat), ∃ (u : Txn), ∃ v, ∃ rest, (getBus s b).busy = some u ∧ u.event ≠ 6 ∧ u.event ≠ 7 ∧ pickTxn (getBus s b).queue = some (v,
    rest)) ∧
  (∃ (s : State), ∃ (b : Nat), ∃ (u : Txn), (getBus s b).busy = some u ∧ u.event = 6 ∧ u.last = true ∧ (getMis s u.ch).win = 1) ∧
  (∃ (s : State), ∃ (b : Nat), ∃ (u : Txn), ∃ v, ∃ rest, (getBus s b).busy = some u ∧ pickTxn (getBus s b).queue = some (v, rest)) ∧
  (∃ (s : State), ∃ (b : Nat), ∃ (u : Txn), ∃ v, ∃ rest, (getBus s b).busy = some u ∧ pickTxn (getBus s b).queue = some (v, rest) ∧ ((∃ x, x ∈ (getBus s
    b).queue ∧ x.closing = true))) ∧
  (∃ (s : State) (b : Nat), (∃ u, (getBus s b).busy = some u) ∧ (∃ v rest, pickTxn (getBus s b).queue = some (v, rest)) ∧
    (∀ x, x ∈ (getBus s
    b).queue → x.closing = false) ∧ ∃ x, x ∈ (getBus s b).queue ∧ x.cls < 4) :=
  ⟨⟨P5.w12, 0, { cls := 2, ch := 0, event := 3, usid := 3, cmd := 0, addr := 1, data := [1], last := true, at_ := 0, closing := false }, by decide +kernel⟩,
   ⟨P5.w38, 0, { cls := 2, ch := 0, event := 3, usid := 3, cmd := 0, addr := 1, data := [1], last := true, at_ := 0, closing := false }, { cls := 1, ch := 0, event := 3, usid := 3, cmd := 0, addr := 1, data := [2], last := true, at_ := 0, closing := false }, [{ cls := 3, ch := 0, event := 3, usid := 3, cmd := 0, addr := 1, data := [1], last := true, at_ := 0, closing := false }, { cls := 1, ch := 0, event := 3, usid := 3, cmd := 0, addr := 1, data := [1], last := true, at_ := 0, closing := false }], by decide +kernel⟩,
   ⟨P5.w36, 0, { cls := 2, ch := 0, event := 6, usid := 3, cmd := 0, addr := 1, data := [1], last := true, at_ := 0, closing := false }, by decide +kernel⟩,
   ⟨P5.w38, 0, { cls := 2, ch := 0, event := 3, usid := 3, cmd := 0, addr := 1, data := [1], last := true, at_ := 0, closing := false }, { cls := 1, ch := 0, event := 3, usid := 3, cmd := 0, addr := 1, data := [2], last := true, at_ := 0, closing := false }, [{ cls := 3, ch := 0, event := 3, usid := 3, cmd := 0, addr := 1, data := [1], last := true, at_ := 0, closing := false }, { cls := 1, ch := 0, event := 3, usid := 3, cmd := 0, addr := 1, data := [1], last := true, at_ := 0, closing := false }], by decide +kernel⟩,
   ⟨P5.w39, 0, { cls := 2, ch := 0, event := 3, usid := 3, cmd := 0, addr := 1, data := [1], last := true, at_ := 0, closing := false }, { cls := 2, ch := 0, event := 3, usid := 3, cmd := 0, addr := 1, data := [1], last := true, at_ := 0, closing := true }, [{ cls := 1, ch := 0, event := 3, usid := 3, cmd := 0, addr := 1, data := [1], last := true, at_ := 0, closing := false }], by decide +kernel⟩,
   ⟨P5.bus5 { busy := some P5.txn5, queue := [{ P5.txn5 with cls := 3 }] } P5.stTxx, 0, ⟨_, rfl⟩, ⟨_, _, rfl⟩, by decide +kernel, ⟨{ P5.txn5 with cls := 3 }, by decide +kernel⟩⟩⟩

/-- Premises of MismatchMeasurements are met. -/
theorem test_witness_MismatchMeasurements :
  (∃ (s : State), ∃ (ch : Nat), ∃ (p : Int), coreRuns s = true ∧ measurementDue s ch = true ∧ (getMis s ch).win = 0 ∧ windowAllowed s ch (forwardAtBall
    s ch p) = true) ∧
  (∃ (s : State), ∃ (ch : Nat), coreRuns s = true ∧ measurementDue s ch = true ∧ (getMis s ch).win = 0) ∧
  (∃ (s : State), ∃ (ch : Nat), coreRuns s = true ∧ (getMis s ch).st = 2 ∧ (getMis s ch).probing = false ∧ (getMis s ch).lastProbe + cfgNat s.objs
    (radIdx ch 5) 7 * 32000000 ≤ s.time) ∧
  (∃ (s : State), ∃ (ch : Nat), ∃ since, (getMis s ch).winAt = some since ∧ (getMis s ch).win = 2 ∧ since + cfgNat s.objs (radIdx ch 5) 1 * 32000 ≤
    s.time ∧ sequenceTxns s.objs ch 7 0 ≠ []) ∧
  (∃ (s : State), ∃ (ch : Nat), ∃ since, (getMis s ch).winAt = some since ∧ (getMis s ch).win = 2 ∧ since + cfgNat s.objs (radIdx ch 5) 1 * 32000 ≤
    s.time ∧ sequenceTxns s.objs ch 7 0 = []) ∧
  (∃ (s : State) (ch : Nat), (getMis s ch).due = some 2) ∧
  (∃ (s : State) (ch g : Nat) (e : Int), (getMis s ch).due = some 1 ∧ g ∈ chanTx s ch ∧ (getGain s g).eff = some e) ∧
  (∃ (s : State) (ch : Nat), (getMis s ch).due = some 0) ∧
  (∃ (s : State) (ch g : Nat) (c : Int), (getMis s ch).due = some 3 ∧ (getMis s ch).probing = true ∧ g ∈ chanSlots ch ∧ (getGain s g).tunerKept = some
    c) :=
  ⟨⟨P5.w0, 0, 0, by decide +kernel⟩,
   ⟨P5.w0, 0, by decide +kernel⟩,
   ⟨P5.w19, 0, by decide +kernel⟩,
   ⟨P5.w31, 0, 0, by decide +kernel⟩,
   ⟨P5.w13, 0, 0, by decide +kernel⟩,
   ⟨P5.mis5 { due := some 2 } P5.stTxx, 0, by decide +kernel⟩,
   ⟨{ P5.mis5 { due := some 1 } P5.stTxx with objs := P5.objs5b, gains := [(0, { eff := some 10240000 })] }, 0, 0, 10240000, by decide +kernel⟩,
   ⟨P5.mis5 { st := 1, due := some 0 } P5.stTxx, 0, by decide +kernel⟩,
   ⟨{ P5.mis5 { st := 2, due := some 3, probing := true } P5.stTxx with gains := [(0, { tunerKept := some 77 })] }, 0, 0, 77, by decide +kernel⟩⟩

/-- Premises of Tuners are met. -/
theorem test_witness_Tuners :
  (∃ (s : State), ∃ (ch : Nat), ∃ m, ∃ v, ch < 96 ∧ mayWrite s m = true ∧ v < 64 ∧ (getMis s ch).search = false) ∧
  (∃ (s : State), ∃ (ch : Nat), ∃ m, ∃ v, ch < 96 ∧ mayWrite s m = true ∧ v < 64 ∧ (getMis s ch).search = true) ∧
  (∃ (s : State), ∃ (ch : Nat), ∃ m, ch < 96 ∧ mayWrite s m = true ∧ tunerStates s.objs ch ≠ 0 ∧ (getMis s ch).search = false) ∧
  (∃ (s : State), ∃ (ch : Nat), ch < 96 ∧ coreRuns s = true ∧ (getMis s ch).search = true ∧ (getMis s ch).testing = false ∧ (getMis s ch).st ≠ 2 ∧
    (getMis s ch).searchAt + 10 * 32000000 ≤ s.time ∧ b2n (getMis s ch).usedKnown < tunerStates s.objs ch) ∧
  (∃ (s : State), ∃ (ch : Nat), ch < 96 ∧ coreRuns s = true ∧ (getMis s ch).search = true ∧ (getMis s ch).testing = false ∧ (getMis s ch).st ≠ 2 ∧
    (getMis s ch).searchAt + 10 * 32000000 ≤ s.time ∧ tunerStates s.objs ch ≤ b2n (getMis s ch).usedKnown) ∧
  (∃ (s : State), ∃ (ch : Nat), ch < 96 ∧ (getMis s ch).search = true ∧ (getMis s ch).testing = true ∧ tunerStates s.objs ch ≤ (getMis s ch).tested + 1
    + b2n (getMis s ch).usedKnown) ∧
  (∃ (s : State), ∃ (ch : Nat), ch < 96 ∧ (getMis s ch).search = true ∧ (getMis s ch).testing = true ∧ (getMis s ch).tested + 1 + b2n (getMis s
    ch).usedKnown < tunerStates s.objs ch) :=
  ⟨⟨P5.w0, 0, 0, 0, by decide +kernel⟩,
   ⟨P5.w6, 0, 0, 0, by decide +kernel⟩,
   ⟨P5.w0, 0, 0, by decide +kernel⟩,
   ⟨P5.w33, 0, by decide +kernel⟩,
   ⟨P5.w34, 0, by decide +kernel⟩,
   ⟨P5.w6, 0, by decide +kernel⟩,
   ⟨P5.w7, 0, by decide +kernel⟩⟩

/-- Premises of MonitorUnlocks are met. -/
theorem test_witness_MonitorUnlocks :
  (∃ (s : State), ∃ (level : Nat), monitorServed s = true ∧ 1 ≤ level ∧ level ≤ 3) ∧
  (∃ (s : State), ∃ (level : Nat), ∃ n, ∃ since, monitorServed s = true ∧ 1 ≤ level ∧ level ≤ 3 ∧ s.life.nonce = some (level, n, since) ∧ s.time < since
    + 60000 * 32000000 ∧ levelKey s level ≠ [] ∧ s.life.lockUntil ≤ s.time) ∧
  (∃ (s : State), ∃ (level : Nat), ∃ response, monitorServed s = true ∧ 1 ≤ level ∧ level ≤ 3 ∧ unlockOk s level response = false ∧ s.life.lockUntil ≤
    s.time) ∧
  (∃ (s : State), ∃ (level : Nat), monitorServed s = true ∧ 1 ≤ level ∧ level ≤ 3 ∧ s.time < s.life.lockUntil) ∧
  (∃ (s : State), ∃ (level : Nat), monitorServed s = true ∧ 1 ≤ level ∧ level ≤ 3 ∧ s.life.lockUntil ≠ 0 ∧ s.life.lockUntil ≤ s.time) :=
  ⟨⟨P6.w1, 1, by decide +kernel⟩,
   ⟨P6.w3, 1, [0x07#8, 0x07#8, 0x07#8, 0x07#8, 0x07#8, 0x07#8, 0x07#8, 0x07#8, 0x07#8, 0x07#8, 0x07#8, 0x07#8, 0x07#8, 0x07#8, 0x07#8, 0x07#8, 0x07#8,
    0x07#8, 0x07#8, 0x07#8, 0x07#8, 0x07#8, 0x07#8, 0x07#8, 0x07#8, 0x07#8, 0x07#8, 0x07#8, 0x07#8, 0x07#8, 0x07#8, 0x07#8], 9999999999999995,
    by decide +kernel⟩,
   ⟨P6.w1, 1, [], by decide +kernel⟩,
   ⟨P6.w7, 1, by decide +kernel⟩,
   ⟨P6.w6, 1, by decide +kernel⟩⟩

/-- Premises of FailedUnlocks are met. -/
theorem test_witness_FailedUnlocks :
  (∃ (s : State), ∃ (level : Nat), monitorServed s = true ∧ 1 ≤ level ∧ level ≤ 3 ∧ s.time < s.life.lockUntil) ∧
  (∃ (s : State), ∃ (level : Nat), ∃ (response : List Byte), monitorServed s = true ∧ 1 ≤ level ∧ level ≤ 3 ∧ s.life.lockUntil ≤ s.time ∧ unlockOk s
    level response = false) ∧
  (∃ (s : State), ∃ (level : Nat), ∃ (response : List Byte), monitorServed s = true ∧ 1 ≤ level ∧ level ≤ 3 ∧ s.life.lockUntil ≤ s.time ∧ unlockOk s
    level response = true) ∧
  (∃ (s : State) (level : Nat), monitorServed s = true ∧ 1 ≤ level ∧ level ≤ 3) :=
  ⟨⟨P13.w8, 1, by decide +kernel⟩,
   ⟨P13.w1, 1, [], by decide +kernel⟩,
   ⟨P13.w5, 1, [0x29#8, 0x61#8, 0xdf#8, 0x57#8, 0x8d#8, 0x5c#8, 0x36#8, 0x48#8, 0x78#8, 0x3b#8, 0x93#8, 0x22#8, 0xf7#8, 0xba#8, 0x27#8, 0x21#8],
    by decide +kernel⟩,
   ⟨up, 3, by decide +kernel⟩⟩

/-- Premises of MonitorSessionAndKeys are met. -/
theorem test_witness_MonitorSessionAndKeys :
  (∃ (s : State), monitorServed s = true ∧ s.life.power ≠ .boot) ∧
  (∃ (s : State), monitorServed s = true ∧ s.life.power ≠ .boot ∧ s.life.level = 3 ∧ s.nv.lifecycle = 0 ∧ s.life.power = .hold) ∧
  (∃ (s : State), monitorServed s = true ∧ s.life.power ≠ .boot ∧ (s.life.level < 3 ∨ s.nv.lifecycle ≠ 0 ∨ s.life.power ≠ .hold)) ∧
  (∃ (s : State), monitorServed s = true ∧ s.life.power ≠ .boot ∧ s.life.level = 3) ∧
  (∃ (s : State), monitorServed s = true ∧ s.life.level ≠ 0 ∧ s.life.lastCmd + 60000 * cfgNat s.objs 0x1230 2 * 32000000 ≤ s.time) ∧
  (∃ (s : State), ∃ (k : List Byte), s.life.sup = true ∧ openPower s.life.power = true ∧ keysPermitted s = true ∧ k.length = 32) :=
  ⟨⟨P6.w1, by decide +kernel⟩,
   ⟨P6.w11, by decide +kernel⟩,
   ⟨P6.w1, by decide +kernel⟩,
   ⟨P6.w10, by decide +kernel⟩,
   ⟨P6.w8, by decide +kernel⟩,
   ⟨P6.w10, [0x07#8, 0x07#8, 0x07#8, 0x07#8, 0x07#8, 0x07#8, 0x07#8, 0x07#8, 0x07#8, 0x07#8, 0x07#8, 0x07#8, 0x07#8, 0x07#8, 0x07#8, 0x07#8, 0x07#8,
    0x07#8, 0x07#8, 0x07#8, 0x07#8, 0x07#8, 0x07#8, 0x07#8, 0x07#8, 0x07#8, 0x07#8, 0x07#8, 0x07#8, 0x07#8, 0x07#8, 0x07#8], by decide +kernel⟩⟩

/-- Premises of MonitorObjectsAndLifecycle are met. -/
theorem test_witness_MonitorObjectsAndLifecycle :
  (∃ (s : State), s.life.sup = true ∧ openPower s.life.power = true ∧ 1 ≤ s.life.level) ∧
  (∃ (s : State), s.life.sup = true ∧ openPower s.life.power = true ∧ s.life.level = 0) ∧
  (∃ (s : State), ∃ v, s.life.sup = true ∧ openPower s.life.power = true ∧ 1 ≤ v ∧ v ≤ 60 ∧ 2 ≤ s.life.level) ∧
  (∃ (s : State), ∃ (data : List Byte), s.life.sup = true ∧ openPower s.life.power = true ∧ data.length = 1 ∧ s.life.level < 2) ∧
  (∃ (s : State), s.life.sup = true ∧ openPower s.life.power = true) ∧
  (∃ (s : State) (idx sub : Nat), s.life.sup = true ∧ openPower s.life.power = true ∧ windowShut s 8 idx sub = false ∧ 1 ≤ s.life.level ∧
    idx ≠ 0x1601 ∧ idx ≠ 0x7010 ∧ idx ≠ 0x7011 ∧ ∃ o, lookup idx sub = (0, some o) ∧ o.acc.reads = true ∧ o.typ ≠ .dom) ∧
  (∃ (s : State) (idx sub : Nat) (data : List Byte), s.life.sup = true ∧ openPower s.life.power = true ∧ 2 ≤ s.life.level ∧ lockFree s 8 = true ∧
    stagedTotal { s.commit with staged := putEntries s.commit.staged [(key (canonIdx idx) sub, ofBytes data)] } ≤ 8192 ∧
    ∃ o, lookup idx sub = (0, some o) ∧ o.acc = .rws ∧ o.typ ≠ .dom ∧ data.length = o.typ.len ∧ o.ok (o.typ.toInt (ofBytes data)) = true) ∧
  (∃ (s : State), ∃ target, ∃ token, ∃ l, monitorServed s = true ∧ transitionLevel s target = some l ∧ l ≤ s.life.level ∧ s.life.power = .hold ∧
    transitionReady s target token = true) ∧
  (∃ (s : State), ∃ (image : List Word), monitorServed s = true ∧ romServes s = true ∧ 2 ≤ s.life.level ∧ image ≠ [] ∧ image.length ≤ 1048576) :=
  ⟨⟨P6.w8, by decide +kernel⟩,
   ⟨P6.w1, by decide +kernel⟩,
   ⟨P6.w9, 1, by decide +kernel⟩,
   ⟨P6.w1, [0x01#8], by decide +kernel⟩,
   ⟨P6.w9, by decide +kernel⟩,
   ⟨P6.w8, 0x3000, 1, by decide +kernel, by decide +kernel, by decide +kernel, by decide +kernel, by decide +kernel, by decide +kernel, by decide +kernel,
    _, rfl, by decide +kernel⟩,
   ⟨P6.w9, 0x3000, 1, [0, 10], by decide +kernel, by decide +kernel, by decide +kernel, by decide +kernel, by decide +kernel, _, rfl, by decide +kernel⟩,
   ⟨P6.w12, 1, [], 3, by decide +kernel⟩,
   ⟨P6.w15, [0x00000001#32], by decide +kernel⟩⟩

/-- Premises of SentinelTripsAndReleases are met. -/
theorem test_witness_SentinelTripsAndReleases :
  (∃ (s : State), ∃ (ch : Nat), ∃ fb, s.life.power ≠ .off ∧ ch < 96 ∧ reflected s ch = false ∧ txen s ch = true ∧ ((getChan s ch).sent).overpower =
    false ∧ ((ceiling s ch + 600 ≤ ballPower s ch fb ∨ (ceiling s ch < ballPower s ch fb ∧ 1 ≤ ((getChan s ch).sent).overRun)))) ∧
  (∃ (s : State), ∃ (ch : Nat), ∃ fb, s.life.power ≠ .off ∧ ch < 96 ∧ reflected s ch = false ∧ txen s ch = true ∧ ceiling s ch < ballPower s ch fb ∧
    ballPower s ch fb < ceiling s ch + 600 ∧ ((getChan s ch).sent).overRun = 0) ∧
  (∃ (s : State), ∃ (ch : Nat), ∃ fb, s.life.power ≠ .off ∧ ch < 96 ∧ reflected s ch = false ∧ txen s ch = false ∧ -3000 < ballPower s ch fb ∧ 1 ≤
    ((getChan s ch).sent).lowRun ∧ rodTripped s (ch / 16) = false) ∧
  (∃ (s : State), ∃ (ch : Nat), ∃ (bins : List Int), ∃ b, ∃ v, ∃ l, s.life.power ≠ .off ∧ ch < 96 ∧ txen s ch = true ∧ b < 64 ∧ bins[b]? = some v ∧
    binLimit s ch b = some l ∧ l < ballPower s ch v ∧ ((getChan s ch).sent).spectral = false ∧ b ∈ ((getChan s ch).sent).binsOver) ∧
  (∃ (s : State), ∃ (ch : Nat), ∃ (bins : List Int), ∃ b, ∃ v, ∃ l, s.life.power ≠ .off ∧ ch < 96 ∧ txen s ch = true ∧ b < 64 ∧ bins[b]? = some v ∧
    binLimit s ch b = some l ∧ l < ballPower s ch v ∧ ((getChan s ch).sent).spectral = false ∧ ((getChan s ch).sent).binsOver = []) ∧
  (∃ (s : State) (m ch : Nat), mayWrite s m = true ∧ ch < 96 ∧ (getChan s ch).sent.locked = false ∧
    (∀ c, c / 16 = ch / 16 → (getChan s
    c).sent.locked = false ∨ (getChan s c).sent.txLow = false)) ∧
  (∃ (s : State) (m ch : Nat), mayWrite s m = true ∧ ch < 96 ∧ (getChan s ch).sent.locked = true) :=
  ⟨⟨P7.w6, 0, 0, by decide +kernel⟩,
   ⟨P7.w6, 0, (-900), by decide +kernel⟩,
   ⟨P7.w9, 0, 0, by decide +kernel⟩,
   ⟨P7.w10, 0, [2500, 2500, 2500, 2500, 2500, 2500, 2500, 2500, 2500, 2500, 2500, 2500, 2500, 2500, 2500, 2500, 2500, 2500, 2500, 2500, 2500, 2500, 2500,
    2500, 2500, 2500, 2500, 2500, 2500, 2500, 2500, 2500, 2500, 2500, 2500, 2500, 2500, 2500, 2500, 2500], 0, 2500, (-1000), by decide +kernel⟩,
   ⟨P7.w6, 0, [2500, 2500, 2500, 2500, 2500, 2500, 2500, 2500, 2500, 2500, 2500, 2500, 2500, 2500, 2500, 2500, 2500, 2500, 2500, 2500, 2500, 2500, 2500,
    2500, 2500, 2500, 2500, 2500, 2500, 2500, 2500, 2500, 2500, 2500, 2500, 2500, 2500, 2500, 2500, 2500], 0, 2500, (-1000), by decide +kernel⟩,
   ⟨up, 0, 95, by decide +kernel, by decide +kernel, by decide +kernel, fun _ _ => .inl rfl⟩,
   ⟨P7.w13, 0, 0, by decide +kernel⟩⟩

/-- Premises of SentinelSelfAndMuteN are met. -/
theorem test_witness_SentinelSelfAndMuteN :
  (∃ (s : State), s.life.power ≠ .off) ∧
  (∃ (s : State), ∃ (failed : List Nat), ∃ ch, s.life.power ≠ .off ∧ ch < 96 ∧ ch ∈ failed) ∧
  (∃ (s : State), ∃ kind, s.life.power ≠ .off ∧ kind < 2 ∧ s.sent.failed = false) ∧
  (∃ (s : State), ∃ r, s.life.power ≠ .off ∧ r < 64) ∧
  (∃ (s : State), ∃ lowNs, s.life.power ≠ .off ∧ 200 ≤ lowNs) ∧
  (∃ (s : State), ∃ lowNs, s.life.power ≠ .off ∧ lowNs < 50) ∧
  (∃ (s : State), s.life.power ≠ .off ∧ s.pins.muteN = false ∧ s.pins.muteNRose + 10 * 32000000 ≤ s.time ∧ coreClock s = true) :=
  ⟨⟨P7.w0, by decide +kernel⟩,
   ⟨P7.w0, [3], 3, by decide +kernel⟩,
   ⟨P7.w0, 0, by decide +kernel⟩,
   ⟨P7.w0, 0, by decide +kernel⟩,
   ⟨P7.w0, 300, by decide +kernel⟩,
   ⟨P7.w0, 0, by decide +kernel⟩,
   ⟨P7.w14, by decide +kernel⟩⟩

/-- Premises of Licences are met. -/
theorem test_witness_Licences :
  (∃ (s : State), ∃ g, s.lic.due = some g ∧ coreClock s = true) ∧
  (∃ (s : State), s.life.power ≠ .off ∧ s.lic.due = none) :=
  ⟨⟨P7.w15, 1, by decide +kernel⟩,
   ⟨P7.w0, by decide +kernel⟩⟩

/-- Premises of ThermalReadings are met. -/
theorem test_witness_ThermalReadings :
  (∃ (s : State), thermalRuns s = true ∧ s.therm.demanded = false ∧ s.therm.lastDemand + demandPeriod s * 32000000 ≤ s.time) ∧
  (∃ (s : State), ∃ (results : List Int), thermalRuns s = true ∧ results.length = 40 ∧ s.therm.demanded = true) ∧
  (∃ (s : State), ∃ (results : List Int), thermalRuns s = true ∧ results.length = 40 ∧ ((∀ v, v ∈ results → v = 2500)) ∧ s.therm.demanded = true ∧ ((∀
    n, n < 40 → (getSensor s n).flagged = false)) ∧ ((∀ z, z < 7 → (getZone s z).frozen = none ∧ (getZone s z).lost = []))) :=
  ⟨⟨P7.w4, by decide +kernel⟩,
   ⟨P7.w1, [2500, 2500, 2500, 2500, 2500, 2500, 2500, 2500, 2500, 2500, 2500, 2500, 2500, 2500, 2500, 2500, 2500, 2500, 2500, 2500, 2500, 2500, 2500,
    2500, 2500, 2500, 2500, 2500, 2500, 2500, 2500, 2500, 2500, 2500, 2500, 2500, 2500, 2500, 2500, 2500], by decide +kernel⟩,
   ⟨P7.w1, [2500, 2500, 2500, 2500, 2500, 2500, 2500, 2500, 2500, 2500, 2500, 2500, 2500, 2500, 2500, 2500, 2500, 2500, 2500, 2500, 2500, 2500, 2500,
    2500, 2500, 2500, 2500, 2500, 2500, 2500, 2500, 2500, 2500, 2500, 2500, 2500, 2500, 2500, 2500, 2500], by decide +kernel⟩⟩

/-- Premises of ShutdownAndJunctionLimit are met. -/
theorem test_witness_ShutdownAndJunctionLimit :
  (∃ (s : State), ∃ z, ∃ since, thermalRuns s = true ∧ z < 7 ∧ (getZone s z).frozen = some since ∧ since + 10000 * 32000000 ≤ s.time) ∧
  (∃ (s : State), ∃ m, ∃ v, thermalRuns s = true ∧ (mayWrite s m = true ∨ (s.life.sup = true ∧ m < 8 ∧ s.nv.lifecycle ≠ 3 ∧ s.life.power = .shutdown)) ∧
    1 ≤ v ∧ v < 128 ∧ ((∀ z, z < 7 → bit v z = true → ((fun (z : Nat) => (getZone s z).shut = true ∧ (getZone s z).noValid = false ∧ (getZone s
    z).temp ≤ releaseLevel s.objs z)) z))) ∧
  (∃ (s : State), ∃ m, ∃ v, ∃ z, thermalRuns s = true ∧ (mayWrite s m = true ∨ (s.life.sup = true ∧ m < 8 ∧ s.nv.lifecycle ≠ 3 ∧ s.life.power =
    .shutdown)) ∧ 1 ≤ v ∧ v < 128 ∧ z < 7 ∧ bit v z = true ∧ ¬ ((fun (z : Nat) => (getZone s z).shut = true ∧ (getZone s z).noValid = false ∧ (getZone
    s z).temp ≤ releaseLevel s.objs z)) z) ∧
  (∃ (s : State), ∃ z, ∃ since, thermalRuns s = true ∧ z < 7 ∧ (getZone s z).leftAt = some since ∧ cfgBool s.objs 0x1500 3 = true ∧ (getZone s z).shut =
    true ∧ since + 1000 * cfgNat s.objs 0x1500 4 * 32000000 ≤ s.time ∧ (recentExits s).length < 3) ∧
  (∃ (s : State) (z since : Nat), thermalRuns s = true ∧ z < 7 ∧ (getZone s z).leftAt = some since ∧ cfgBool s.objs 0x1500 3 = true ∧ (getZone s z).shut
    = true ∧
    since + 1000 * cfgNat s.objs 0x1500 4 * 32000000 ≤ s.time ∧ 3 ≤ (recentExits s).length) ∧
  (∃ (s : State), ∃ (z : Nat), z < 7 ∧ s.life.power ≠ .off ∧ (getZone s z).tripped = false) ∧
  (∃ (s : State), ∃ (z : Nat), z < 7 ∧ s.life.power ≠ .off ∧ (getZone s z).tripped = true) :=
  ⟨⟨P7.w2, 0, 7, by decide +kernel⟩,
   ⟨P7.w4, 0, 1, by decide +kernel⟩,
   ⟨P7.w1, 0, 1, 0, by decide +kernel⟩,
   ⟨P7.w20, 0, 0, by decide +kernel⟩,
   ⟨P7.th (upObjs [(0x1500, 3, 1)]) { zones := P7.z7 P7.zshut, exits := [10 ^ 17, 10 ^ 17, 10 ^ 17] }, 0, 0, by decide +kernel⟩,
   ⟨P7.w0, 0, by decide +kernel⟩,
   ⟨P7.w23, 0, by decide +kernel⟩⟩

/-- Premises of PortsAndStreams are met. -/
theorem test_witness_PortsAndStreams :
  (∃ (s : State), ∃ (l : Nat), l < 16 ∧ (getDn s l).link = true) ∧
  (∃ (s : State), ∃ (l : Nat), l < 16 ∧ (getDn s l).link = false) ∧
  (∃ (s : State), ∃ (l : Nat), l < 16 ∧ s.life.power ≠ .off ∧ (getDn s l).restarting = true) ∧
  (∃ (s : State), ∃ (l : Nat), l < 16 ∧ s.life.power ≠ .off ∧ (getXl s l).restarting = true) ∧
  (∃ (s : State), ∃ (l : Nat), ∃ queue, l < 16 ∧ s.links.flushing.contains (queue * 256 + l) = true) ∧
  (∃ (s : State), ∃ (l : Nat), ∃ (n : Nat), l < 16 ∧ n < 96 ∧ (streamRate s.objs (streamCode 1 l n) 1).isSome = true ∧ ((getIn s (streamCode 1 l n)).st
    = 1 ∨ (getIn s (streamCode 1 l n)).st = 2) ∧ (getIn s (streamCode 1 l n)).lastAt + 32000000 ≤ s.time) ∧
  (∃ (s : State), ∃ (l : Nat), ∃ (n : Nat), l < 16 ∧ n < 96 ∧ coreRuns s = true ∧ (getIn s (streamCode 1 l n)).st = 2 ∧ (getIn s (streamCode 1 l
    n)).runSince + 10 * 32000000 ≤ s.time) ∧
  (∃ (s : State), ∃ (l : Nat), ∃ (n : Nat), l < 16 ∧ n < 96 ∧ ((getIn s (streamCode 1 l n)).st = 1 ∨ (getIn s (streamCode 1 l n)).st = 3) ∧ (getIn s
    (streamCode 1 l n)).badSince + 100 * 32000000 ≤ s.time ∧ routesFrom s.objs (streamCode 1 l n) ≠ []) :=
  ⟨⟨P8.w1, 0, by decide +kernel⟩,
   ⟨P8.w0, 0, by decide +kernel⟩,
   ⟨P8.w8, 0, by decide +kernel⟩,
   ⟨P8.w8, 0, by decide +kernel⟩,
   ⟨P8.w3, 0, 2, by decide +kernel⟩,
   ⟨P8.w4, 0, 0, by decide +kernel⟩,
   ⟨P8.w5, 0, 0, by decide +kernel⟩,
   ⟨P8.w4, 0, 0, by decide +kernel⟩⟩

/-- Premises of DonorMessages are met. -/
theorem test_witness_DonorMessages :
  (∃ (s : State), ∃ (l : Nat), ∃ (f : DnFrame), l < 16 ∧ coreRuns s = true ∧ dnUp s l = true ∧ dnAccepts s l f = false) ∧
  (∃ (s : State), ∃ (l : Nat), ∃ (f : DnFrame), l < 16 ∧ coreRuns s = true ∧ dnUp s l = true ∧ dnAccepts s l f = true ∧ f.msgType = 0 ∧ flushPending s 2
    l = true) ∧
  (∃ (s : State), ∃ (l : Nat), ∃ (f : DnFrame), ∃ n, l < 16 ∧ coreRuns s = true ∧ dnUp s l = true ∧ dnAccepts s l f = true ∧ f.msgType = 0 ∧
    flushPending s 2 l = false ∧ pcidStream s.objs l f.pcid = some n ∧ (getIn s (streamCode 1 l n)).st ≠ 2) ∧
  (∃ (s : State), ∃ (l : Nat), ∃ (f : DnFrame), ∃ n, l < 16 ∧ coreRuns s = true ∧ dnUp s l = true ∧ dnAccepts s l f = true ∧ f.msgType = 0 ∧
    flushPending s 2 l = false ∧ pcidStream s.objs l f.pcid = some n ∧ (getIn s (streamCode 1 l n)).st = 2 ∧ ((f.seq + 256 - (getIn s (streamCode 1 l
    n)).expected) % 256) = 0 ∧ s.clk.frame * 9375 + rxDelay s.objs l ≤ (getIn s (streamCode 1 l n)).sched * 9375 ∧ ((getIn s (streamCode 1 l n)).sched
    - s.clk.frame) * 9375 ≤ 2 * playoutDepth s.objs l + 4 * 2 ^ (bits (dnStreamWord s.objs l 1 n) 18 16) * 9375) ∧
  (∃ (s : State), ∃ (l : Nat), ∃ (f : DnFrame), ∃ n, l < 16 ∧ coreRuns s = true ∧ dnUp s l = true ∧ dnAccepts s l f = true ∧ f.msgType = 0 ∧
    flushPending s 2 l = false ∧ pcidStream s.objs l f.pcid = some n ∧ (getIn s (streamCode 1 l n)).st = 2 ∧ 1 ≤ ((f.seq + 256 - (getIn s (streamCode
    1 l n)).expected) % 256) ∧ ((f.seq + 256 - (getIn s (streamCode 1 l n)).expected) % 256) ≤ 127) ∧
  (∃ (s : State), ∃ (l : Nat), ∃ (f : DnFrame), ∃ n, l < 16 ∧ coreRuns s = true ∧ dnUp s l = true ∧ dnAccepts s l f = true ∧ f.msgType = 0 ∧
    flushPending s 2 l = false ∧ pcidStream s.objs l f.pcid = some n ∧ (getIn s (streamCode 1 l n)).st = 2 ∧ 128 ≤ ((f.seq + 256 - (getIn s
    (streamCode 1 l n)).expected) % 256)) ∧
  (∃ (s : State), ∃ (l : Nat), ∃ n, ∃ seq, ∃ xs, ∃ rest, l < 16 ∧ coreRuns s = true ∧ dnUp s l = true ∧ n < 96 ∧ (streamRate s.objs (streamCode 1 l n)
    2).isSome = true ∧ (getOut s (streamCode 1 l n)).items = (seq, xs) :: rest) :=
  ⟨⟨P8.w1, 0, {}, by decide +kernel⟩,
   ⟨P8.w3, 0, (P8.fr8), by decide +kernel⟩,
   ⟨P8.w1, 0, (P8.fr8), 0, by decide +kernel⟩,
   ⟨P8.w11, 0, (P8.fr8), 0, by decide +kernel⟩,
   ⟨P8.w12, 0, (P8.fr8), 0, by decide +kernel⟩,
   ⟨P8.w11, 0, { P8.fr8 with seq := 200 }, 0, by decide +kernel⟩,
   ⟨P8.w1, 0, 0, 254, [{ re := 4, im := -4, resI := 0, resQ := 0, poison := false, settle := false, invalid := false }, { re := 4, im := -4, resI := 0, resQ := 0, poison := false, settle := false, invalid := false }, { re := 4, im := -4, resI := 0, resQ := 0, poison := false, settle := false, invalid := false }, { re := 4, im := -4, resI := 0, resQ := 0, poison := false, settle := false, invalid := false }, { re := 4, im := -4, resI := 0, resQ := 0, poison := false, settle := false, invalid := false }, { re := 4, im := -4, resI := 0, resQ := 0, poison := false, settle := false, invalid := false }, { re := 4, im := -4, resI := 0, resQ := 0, poison := false, settle := false, invalid := false }, { re := 4, im := -4, resI := 0, resQ := 0, poison := false, settle := false, invalid := false }, { re := 4, im := -4, resI := 0, resQ := 0, poison := false, settle := false, invalid := false }, { re := 4, im := -4, resI := 0, resQ := 0, poison := false, settle := false, invalid := false }, { re := 4, im := -4, resI := 0, resQ := 0, poison := false, settle := false, invalid := false }, { re := 4, im := -4, resI := 0, resQ := 0, poison := false, settle := false, invalid := false }, { re := 4, im := -4, resI := 0, resQ := 0, poison := false, settle := false, invalid := false }, { re := 4, im := -4, resI := 0, resQ := 0, poison := false, settle := false, invalid := false }, { re := 4, im := -4, resI := 0, resQ := 0, poison := false, settle := false, invalid := false }, { re := 4, im := -4, resI := 0, resQ := 0, poison := false, settle := false, invalid := false }, { re := 4, im := -4, resI := 0, resQ := 0, poison := false, settle := false, invalid := false }, { re := 4, im := -4, resI := 0, resQ := 0, poison := false, settle := false, invalid := false }, { re := 4, im := -4, resI := 0, resQ := 0, poison := false, settle := false, invalid := false }, { re := 4, im := -4, resI := 0, resQ := 0, poison := false, settle := false, invalid := false }, { re := 4, im := -4, resI := 0, resQ := 0, poison := false, settle := false, invalid := false }, { re := 4, im := -4, resI := 0, resQ := 0, poison := false, settle := false, invalid := false }, { re := 4, im := -4, resI := 0, resQ := 0, poison := false, settle := false, invalid := false }, { re := 4, im := -4, resI := 0, resQ := 0, poison := false, settle := false, invalid := false }, { re := 4, im := -4, resI := 0, resQ := 0, poison := false, settle := false, invalid := false }, { re := 4, im := -4, resI := 0, resQ := 0, poison := false, settle := false, invalid := false }, { re := 4, im := -4, resI := 0, resQ := 0, poison := false, settle := false, invalid := false }, { re := 4, im := -4, resI := 0, resQ := 0, poison := false, settle := false, invalid := false }, { re := 4, im := -4, resI := 0, resQ := 0, poison := false, settle := false, invalid := false }, { re := 4, im := -4, resI := 0, resQ := 0, poison := false, settle := false, invalid := false }, { re := 4, im := -4, resI := 0, resQ := 0, poison := false, settle := false, invalid := false }, { re := 4, im := -4, resI := 0, resQ := 0, poison := false, settle := false, invalid := false }, { re := 4, im := -4, resI := 0, resQ := 0, poison := false, settle := false, invalid := false }, { re := 4, im := -4, resI := 0, resQ := 0, poison := false, settle := false, invalid := false }, { re := 4, im := -4, resI := 0, resQ := 0, poison := false, settle := false, invalid := false }, { re := 4, im := -4, resI := 0, resQ := 0, poison := false, settle := false, invalid := false }, { re := 4, im := -4, resI := 0, resQ := 0, poison := false, settle := false, invalid := false }, { re := 4, im := -4, resI := 0, resQ := 0, poison := false, settle := false, invalid := false }, { re := 4, im := -4, resI := 0, resQ := 0, poison := false, settle := false, invalid := false }, { re := 4, im := -4, resI := 0, resQ := 0, poison := false, settle := false, invalid := false }, { re := 4, im := -4, resI := 0, resQ := 0, poison := false, settle := false, invalid := false }, { re := 4, im := -4, resI := 0, resQ := 0, poison := false, settle := false, invalid := false }, { re := 4, im := -4, resI := 0, resQ := 0, poison := false, settle := false, invalid := false }, { re := 4, im := -4, resI := 0, resQ := 0, poison := false, settle := false, invalid := false }, { re := 4, im := -4, resI := 0, resQ := 0, poison := false, settle := false, invalid := false }, { re := 4, im := -4, resI := 0, resQ := 0, poison := false, settle := false, invalid := false }, { re := 4, im := -4, resI := 0, resQ := 0, poison := false, settle := false, invalid := false }, { re := 4, im := -4, resI := 0, resQ := 0, poison := false, settle := false, invalid := false }, { re := 4, im := -4, resI := 0, resQ := 0, poison := false, settle := false, invalid := false }, { re := 4, im := -4, resI := 0, resQ := 0, poison := false, settle := false, invalid := false }, { re := 4, im := -4, resI := 0, resQ := 0, poison := false, settle := false, invalid := false }, { re := 4, im := -4, resI := 0, resQ := 0, poison := false, settle := false, invalid := false }, { re := 4, im := -4, resI := 0, resQ := 0, poison := false, settle := false, invalid := false }, { re := 4, im := -4, resI := 0, resQ := 0, poison := false, settle := false, invalid := false }, { re := 4, im := -4, resI := 0, resQ := 0, poison := false, settle := false, invalid := false }, { re := 4, im := -4, resI := 0, resQ := 0, poison := false, settle := false, invalid := false }, { re := 4, im := -4, resI := 0, resQ := 0, poison := false, settle := false, invalid := false }, { re := 4, im := -4, resI := 0, resQ := 0, poison := false, settle := false, invalid := false }, { re := 4, im := -4, resI := 0, resQ := 0, poison := false, settle := false, invalid := false }, { re := 4, im := -4, resI := 0, resQ := 0, poison := false, settle := false, invalid := false }, { re := 4, im := -4, resI := 0, resQ := 0, poison := false, settle := false, invalid := false }, { re := 4, im := -4, resI := 0, resQ := 0, poison := false, settle := false, invalid := false }, { re := 4, im := -4, resI := 0, resQ := 0, poison := false, settle := false, invalid := false }, { re := 4, im := -4, resI := 0, resQ := 0, poison := false, settle := false, invalid := false }, { re := 4, im := -4, resI := 0, resQ := 0, poison := false, settle := false, invalid := false }, { re := 4, im := -4, resI := 0, resQ := 0, poison := false, settle := false, invalid := false }, { re := 4, im := -4, resI := 0, resQ := 0, poison := false, settle := false, invalid := false }, { re := 4, im := -4, resI := 0, resQ := 0, poison := false, settle := false, invalid := false }, { re := 4, im := -4, resI := 0, resQ := 0, poison := false, settle := false, invalid := false }, { re := 4, im := -4, resI := 0, resQ := 0, poison := false, settle := false, invalid := false }, { re := 4, im := -4, resI := 0, resQ := 0, poison := false, settle := false, invalid := false }, { re := 4, im := -4, resI := 0, resQ := 0, poison := false, settle := false, invalid := false }, { re := 4, im := -4, resI := 0, resQ := 0, poison := false, settle := false, invalid := false }, { re := 4, im := -4, resI := 0, resQ := 0, poison := false, settle := false, invalid := false }, { re := 4, im := -4, resI := 0, resQ := 0, poison := false, settle := false, invalid := false }, { re := 4, im := -4, resI := 0, resQ := 0, poison := false, settle := false, invalid := false }, { re := 4, im := -4, resI := 0, resQ := 0, poison := false, settle := false, invalid := false }, { re := 4, im := -4, resI := 0, resQ := 0, poison := false, settle := false, invalid := false }, { re := 4, im := -4, resI := 0, resQ := 0, poison := false, settle := false, invalid := false }, { re := 4, im := -4, resI := 0, resQ := 0, poison := false, settle := false, invalid := false }, { re := 4, im := -4, resI := 0, resQ := 0, poison := false, settle := false, invalid := false }, { re := 4, im := -4, resI := 0, resQ := 0, poison := false, settle := false, invalid := false }, { re := 4, im := -4, resI := 0, resQ := 0, poison := false, settle := false, invalid := false }, { re := 4, im := -4, resI := 0, resQ := 0, poison := false, settle := false, invalid := false }, { re := 4, im := -4, resI := 0, resQ := 0, poison := false, settle := false, invalid := false }, { re := 4, im := -4, resI := 0, resQ := 0, poison := false, settle := false, invalid := false }, { re := 4, im := -4, resI := 0, resQ := 0, poison := false, settle := false, invalid := false }, { re := 4, im := -4, resI := 0, resQ := 0, poison := false, settle := false, invalid := false }, { re := 4, im := -4, resI := 0, resQ := 0, poison := false, settle := false, invalid := false }, { re := 4, im := -4, resI := 0, resQ := 0, poison := false, settle := false, invalid := false }, { re := 4, im := -4, resI := 0, resQ := 0, poison := false, settle := false, invalid := false }, { re := 4, im := -4, resI := 0, resQ := 0, poison := false, settle := false, invalid := false }, { re := 4, im := -4, resI := 0, resQ := 0, poison := false, settle := false, invalid := false }, { re := 4, im := -4, resI := 0, resQ := 0, poison := false, settle := false, invalid := false }, { re := 4, im := -4, resI := 0, resQ := 0, poison := false, settle := false, invalid := false }, { re := 4, im := -4, resI := 0, resQ := 0, poison := false, settle := false, invalid := false }, { re := 4, im := -4, resI := 0, resQ := 0, poison := false, settle := false, invalid := false }, { re := 4, im := -4, resI := 0, resQ := 0, poison := false, settle := false, invalid := false }, { re := 4, im := -4, resI := 0, resQ := 0, poison := false, settle := false, invalid := false }, { re := 4, im := -4, resI := 0, resQ := 0, poison := false, settle := false, invalid := false }, { re := 4, im := -4, resI := 0, resQ := 0, poison := false, settle := false, invalid := false }, { re := 4, im := -4, resI := 0, resQ := 0, poison := false, settle := false, invalid := false }, { re := 4, im := -4, resI := 0, resQ := 0, poison := false, settle := false, invalid := false }, { re := 4, im := -4, resI := 0, resQ := 0, poison := false, settle := false, invalid := false }, { re := 4, im := -4, resI := 0, resQ := 0, poison := false, settle := false, invalid := false }, { re := 4, im := -4, resI := 0, resQ := 0, poison := false, settle := false, invalid := false }, { re := 4, im := -4, resI := 0, resQ := 0, poison := false, settle := false, invalid := false }, { re := 4, im := -4, resI := 0, resQ := 0, poison := false, settle := false, invalid := false }, { re := 4, im := -4, resI := 0, resQ := 0, poison := false, settle := false, invalid := false }, { re := 4, im := -4, resI := 0, resQ := 0, poison := false, settle := false, invalid := false }, { re := 4, im := -4, resI := 0, resQ := 0, poison := false, settle := false, invalid := false }, { re := 4, im := -4, resI := 0, resQ := 0, poison := false, settle := false, invalid := false }, { re := 4, im := -4, resI := 0, resQ := 0, poison := false, settle := false, invalid := false }, { re := 4, im := -4, resI := 0, resQ := 0, poison := false, settle := false, invalid := false }, { re := 4, im := -4, resI := 0, resQ := 0, poison := false, settle := false, invalid := false }, { re := 4, im := -4, resI := 0, resQ := 0, poison := false, settle := false, invalid := false }, { re := 4, im := -4, resI := 0, resQ := 0, poison := false, settle := false, invalid := false }, { re := 4, im := -4, resI := 0, resQ := 0, poison := false, settle := false, invalid := false }, { re := 4, im := -4, resI := 0, resQ := 0, poison := false, settle := false, invalid := false }, { re := 4, im := -4, resI := 0, resQ := 0, poison := false, settle := false, invalid := false }, { re := 4, im := -4, resI := 0, resQ := 0, poison := false, settle := false, invalid := false }, { re := 4, im := -4, resI := 0, resQ := 0, poison := false, settle := false, invalid := false }, { re := 4, im := -4, resI := 0, resQ := 0, poison := false, settle := false, invalid := false }, { re := 4, im := -4, resI := 0, resQ := 0, poison := false, settle := false, invalid := false }, { re := 4, im := -4, resI := 0, resQ := 0, poison := false, settle := false, invalid := false }, { re := 4, im := -4, resI := 0, resQ := 0, poison := false, settle := false, invalid := false }, { re := 4, im := -4, resI := 0, resQ := 0, poison := false, settle := false, invalid := false }, { re := 4, im := -4, resI := 0, resQ := 0, poison := false, settle := false, invalid := false }, { re := 4, im := -4, resI := 0, resQ := 0, poison := false, settle := false, invalid := false }, { re := 4, im := -4, resI := 0, resQ := 0, poison := false, settle := false, invalid := false }, { re := 4, im := -4, resI := 0, resQ := 0, poison := false, settle := false, invalid := false }, { re := 4, im := -4, resI := 0, resQ := 0, poison := false, settle := false, invalid := false }, { re := 4, im := -4, resI := 0, resQ := 0, poison := false, settle := false, invalid := false }, { re := 4, im := -4, resI := 0, resQ := 0, poison := false, settle := false, invalid := false }, { re := 4, im := -4, resI := 0, resQ := 0, poison := false, settle := false, invalid := false }, { re := 4, im := -4, resI := 0, resQ := 0, poison := false, settle := false, invalid := false }, { re := 4, im := -4, resI := 0, resQ := 0, poison := false, settle := false, invalid := false }, { re := 4, im := -4, resI := 0, resQ := 0, poison := false, settle := false, invalid := false }, { re := 4, im := -4, resI := 0, resQ := 0, poison := false, settle := false, invalid := false }, { re := 4, im := -4, resI := 0, resQ := 0, poison := false, settle := false, invalid := false }, { re := 4, im := -4, resI := 0, resQ := 0, poison := false, settle := false, invalid := false }, { re := 4, im := -4, resI := 0, resQ := 0, poison := false, settle := false, invalid := false }, { re := 4, im := -4, resI := 0, resQ := 0, poison := false, settle := false, invalid := false }, { re := 4, im := -4, resI := 0, resQ := 0, poison := false, settle := false, invalid := false }, { re := 4, im := -4, resI := 0, resQ := 0, poison := false, settle := false, invalid := false }, { re := 4, im := -4, resI := 0, resQ := 0, poison := false, settle := false, invalid := false }, { re := 4, im := -4, resI := 0, resQ := 0, poison := false, settle := false, invalid := false }, { re := 4, im := -4, resI := 0, resQ := 0, poison := false, settle := false, invalid := false }, { re := 4, im := -4, resI := 0, resQ := 0, poison := false, settle := false, invalid := false }, { re := 4, im := -4, resI := 0, resQ := 0, poison := false, settle := false, invalid := false }, { re := 4, im := -4, resI := 0, resQ := 0, poison := false, settle := false, invalid := false }, { re := 4, im := -4, resI := 0, resQ := 0, poison := false, settle := false, invalid := false }, { re := 4, im := -4, resI := 0, resQ := 0, poison := false, settle := false, invalid := false }, { re := 4, im := -4, resI := 0, resQ := 0, poison := false, settle := false, invalid := false }, { re := 4, im := -4, resI := 0, resQ := 0, poison := false, settle := false, invalid := false }, { re := 4, im := -4, resI := 0, resQ := 0, poison := false, settle := false, invalid := false }, { re := 4, im := -4, resI := 0, resQ := 0, poison := false, settle := false, invalid := false }, { re := 4, im := -4, resI := 0, resQ := 0, poison := false, settle := false, invalid := false }, { re := 4, im := -4, resI := 0, resQ := 0, poison := false, settle := false, invalid := false }, { re := 4, im := -4, resI := 0, resQ := 0, poison := false, settle := false, invalid := false }, { re := 4, im := -4, resI := 0, resQ := 0, poison := false, settle := false, invalid := false }, { re := 4, im := -4, resI := 0, resQ := 0, poison := false, settle := false, invalid := false }, { re := 4, im := -4, resI := 0, resQ := 0, poison := false, settle := false, invalid := false }, { re := 4, im := -4, resI := 0, resQ := 0, poison := false, settle := false, invalid := false }, { re := 4, im := -4, resI := 0, resQ := 0, poison := false, settle := false, invalid := false }, { re := 4, im := -4, resI := 0, resQ := 0, poison := false, settle := false, invalid := false }, { re := 4, im := -4, resI := 0, resQ := 0, poison := false, settle := false, invalid := false }, { re := 4, im := -4, resI := 0, resQ := 0, poison := false, settle := false, invalid := false }, { re := 4, im := -4, resI := 0, resQ := 0, poison := false, settle := false, invalid := false }, { re := 4, im := -4, resI := 0, resQ := 0, poison := false, settle := false, invalid := false }, { re := 4, im := -4, resI := 0, resQ := 0, poison := false, settle := false, invalid := false }, { re := 4, im := -4, resI := 0, resQ := 0, poison := false, settle := false, invalid := false }, { re := 4, im := -4, resI := 0, resQ := 0, poison := false, settle := false, invalid := false }, { re := 4, im := -4, resI := 0, resQ := 0, poison := false, settle := false, invalid := false }, { re := 4, im := -4, resI := 0, resQ := 0, poison := false, settle := false, invalid := false }, { re := 4, im := -4, resI := 0, resQ := 0, poison := false, settle := false, invalid := false }, { re := 4, im := -4, resI := 0, resQ := 0, poison := false, settle := false, invalid := false }, { re := 4, im := -4, resI := 0, resQ := 0, poison := false, settle := false, invalid := false }, { re := 4, im := -4, resI := 0, resQ := 0, poison := false, settle := false, invalid := false }, { re := 4, im := -4, resI := 0, resQ := 0, poison := false, settle := false, invalid := false }, { re := 4, im := -4, resI := 0, resQ := 0, poison := false, settle := false, invalid := false }, { re := 4, im := -4, resI := 0, resQ := 0, poison := false, settle := false, invalid := false }, { re := 4, im := -4, resI := 0, resQ := 0, poison := false, settle := false, invalid := false }, { re := 4, im := -4, resI := 0, resQ := 0, poison := false, settle := false, invalid := false }, { re := 4, im := -4, resI := 0, resQ := 0, poison := false, settle := false, invalid := false }, { re := 4, im := -4, resI := 0, resQ := 0, poison := false, settle := false, invalid := false }, { re := 4, im := -4, resI := 0, resQ := 0, poison := false, settle := false, invalid := false }, { re := 4, im := -4, resI := 0, resQ := 0, poison := false, settle := false, invalid := false }, { re := 4, im := -4, resI := 0, resQ := 0, poison := false, settle := false, invalid := false }, { re := 4, im := -4, resI := 0, resQ := 0, poison := false, settle := false, invalid := false }, { re := 4, im := -4, resI := 0, resQ := 0, poison := false, settle := false, invalid := false }, { re := 4, im := -4, resI := 0, resQ := 0, poison := false, settle := false, invalid := false }, { re := 4, im := -4, resI := 0, resQ := 0, poison := false, settle := false, invalid := false }, { re := 4, im := -4, resI := 0, resQ := 0, poison := false, settle := false, invalid := false }, { re := 4, im := -4, resI := 0, resQ := 0, poison := false, settle := false, invalid := false }, { re := 4, im := -4, resI := 0, resQ := 0, poison := false, settle := false, invalid := false }, { re := 4, im := -4, resI := 0, resQ := 0, poison := false, settle := false, invalid := false }, { re := 4, im := -4, resI := 0, resQ := 0, poison := false, settle := false, invalid := false }, { re := 4, im := -4, resI := 0, resQ := 0, poison := false, settle := false, invalid := false }, { re := 4, im := -4, resI := 0, resQ := 0, poison := false, settle := false, invalid := false }, { re := 4, im := -4, resI := 0, resQ := 0, poison := false, settle := false, invalid := false }, { re := 4, im := -4, resI := 0, resQ := 0, poison := false, settle := false, invalid := false }, { re := 4, im := -4, resI := 0, resQ := 0, poison := false, settle := false, invalid := false }, { re := 4, im := -4, resI := 0, resQ := 0, poison := false, settle := false, invalid := false }, { re := 4, im := -4, resI := 0, resQ := 0, poison := false, settle := false, invalid := false }, { re := 4, im := -4, resI := 0, resQ := 0, poison := false, settle := false, invalid := false }, { re := 4, im := -4, resI := 0, resQ := 0, poison := false, settle := false, invalid := false }, { re := 4, im := -4, resI := 0, resQ := 0, poison := false, settle := false, invalid := false }, { re := 4, im := -4, resI := 0, resQ := 0, poison := false, settle := false, invalid := false }, { re := 4, im := -4, resI := 0, resQ := 0, poison := false, settle := false, invalid := false }, { re := 4, im := -4, resI := 0, resQ := 0, poison := false, settle := false, invalid := false }, { re := 4, im := -4, resI := 0, resQ := 0, poison := false, settle := false, invalid := false }, { re := 4, im := -4, resI := 0, resQ := 0, poison := false, settle := false, invalid := false }, { re := 4, im := -4, resI := 0, resQ := 0, poison := false, settle := false, invalid := false }, { re := 4, im := -4, resI := 0, resQ := 0, poison := false, settle := false, invalid := false }, { re := 4, im := -4, resI := 0, resQ := 0, poison := false, settle := false, invalid := false }, { re := 4, im := -4, resI := 0, resQ := 0, poison := false, settle := false, invalid := false }, { re := 4, im := -4, resI := 0, resQ := 0, poison := false, settle := false, invalid := false }, { re := 4, im := -4, resI := 0, resQ := 0, poison := false, settle := false, invalid := false }, { re := 4, im := -4, resI := 0, resQ := 0, poison := false, settle := false, invalid := false }, { re := 4, im := -4, resI := 0, resQ := 0, poison := false, settle := false, invalid := false }, { re := 4, im := -4, resI := 0, resQ := 0, poison := false, settle := false, invalid := false }, { re := 4, im := -4, resI := 0, resQ := 0, poison := false, settle := false, invalid := false }, { re := 4, im := -4, resI := 0, resQ := 0, poison := false, settle := false, invalid := false }, { re := 4, im := -4, resI := 0, resQ := 0, poison := false, settle := false, invalid := false }, { re := 4, im := -4, resI := 0, resQ := 0, poison := false, settle := false, invalid := false }, { re := 4, im := -4, resI := 0, resQ := 0, poison := false, settle := false, invalid := false }, { re := 4, im := -4, resI := 0, resQ := 0, poison := false, settle := false, invalid := false }, { re := 4, im := -4, resI := 0, resQ := 0, poison := false, settle := false, invalid := false }, { re := 4, im := -4, resI := 0, resQ := 0, poison := false, settle := false, invalid := false }, { re := 4, im := -4, resI := 0, resQ := 0, poison := false, settle := false, invalid := false }, { re := 4, im := -4, resI := 0, resQ := 0, poison := false, settle := false, invalid := false }, { re := 4, im := -4, resI := 0, resQ := 0, poison := false, settle := false, invalid := false }, { re := 4, im := -4, resI := 0, resQ := 0, poison := false, settle := false, invalid := false }, { re := 4, im := -4, resI := 0, resQ := 0, poison := false, settle := false, invalid := false }, { re := 4, im := -4, resI := 0, resQ := 0, poison := false, settle := false, invalid := false }, { re := 4, im := -4, resI := 0, resQ := 0, poison := false, settle := false, invalid := false }, { re := 4, im := -4, resI := 0, resQ := 0, poison := false, settle := false, invalid := false }, { re := 4, im := -4, resI := 0, resQ := 0, poison := false, settle := false, invalid := false }, { re := 4, im := -4, resI := 0, resQ := 0, poison := false, settle := false, invalid := false }, { re := 4, im := -4, resI := 0, resQ := 0, poison := false, settle := false, invalid := false }, { re := 4, im := -4, resI := 0, resQ := 0, poison := false, settle := false, invalid := false }, { re := 4, im := -4, resI := 0, resQ := 0, poison := false, settle := false, invalid := false }, { re := 4, im := -4, resI := 0, resQ := 0, poison := false, settle := false, invalid := false }, { re := 4, im := -4, resI := 0, resQ := 0, poison := false, settle := false, invalid := false }, { re := 4, im := -4, resI := 0, resQ := 0, poison := false, settle := false, invalid := false }, { re := 4, im := -4, resI := 0, resQ := 0, poison := false, settle := false, invalid := false }, { re := 4, im := -4, resI := 0, resQ := 0, poison := false, settle := false, invalid := false }, { re := 4, im := -4, resI := 0, resQ := 0, poison := false, settle := false, invalid := false }, { re := 4, im := -4, resI := 0, resQ := 0, poison := false, settle := false, invalid := false }, { re := 4, im := -4, resI := 0, resQ := 0, poison := false, settle := false, invalid := false }, { re := 4, im := -4, resI := 0, resQ := 0, poison := false, settle := false, invalid := false }, { re := 4, im := -4, resI := 0, resQ := 0, poison := false, settle := false, invalid := false }, { re := 4, im := -4, resI := 0, resQ := 0, poison := false, settle := false, invalid := false }, { re := 4, im := -4, resI := 0, resQ := 0, poison := false, settle := false, invalid := false }, { re := 4, im := -4, resI := 0, resQ := 0, poison := false, settle := false, invalid := false }, { re := 4, im := -4, resI := 0, resQ := 0, poison := false, settle := false, invalid := false }, { re := 4, im := -4, resI := 0, resQ := 0, poison := false, settle := false, invalid := false }, { re := 4, im := -4, resI := 0, resQ := 0, poison := false, settle := false, invalid := false }, { re := 4, im := -4, resI := 0, resQ := 0, poison := false, settle := false, invalid := false }, { re := 4, im := -4, resI := 0, resQ := 0, poison := false, settle := false, invalid := false }, { re := 4, im := -4, resI := 0, resQ := 0, poison := false, settle := false, invalid := false }, { re := 4, im := -4, resI := 0, resQ := 0, poison := false, settle := false, invalid := false }, { re := 4, im := -4, resI := 0, resQ := 0, poison := false, settle := false, invalid := false }, { re := 4, im := -4, resI := 0, resQ := 0, poison := false, settle := false, invalid := false }, { re := 4, im := -4, resI := 0, resQ := 0, poison := false, settle := false, invalid := false }, { re := 4, im := -4, resI := 0, resQ := 0, poison := false, settle := false, invalid := false }, { re := 4, im := -4, resI := 0, resQ := 0, poison := false, settle := false, invalid := false }, { re := 4, im := -4, resI := 0, resQ := 0, poison := false, settle := false, invalid := false }, { re := 4, im := -4, resI := 0, resQ := 0, poison := false, settle := false, invalid := false }, { re := 4, im := -4, resI := 0, resQ := 0, poison := false, settle := false, invalid := false }, { re := 4, im := -4, resI := 0, resQ := 0, poison := false, settle := false, invalid := false }, { re := 4, im := -4, resI := 0, resQ := 0, poison := false, settle := false, invalid := false }, { re := 4, im := -4, resI := 0, resQ := 0, poison := false, settle := false, invalid := false }, { re := 4, im := -4, resI := 0, resQ := 0, poison := false, settle := false, invalid := false }, { re := 4, im := -4, resI := 0, resQ := 0, poison := false, settle := false, invalid := false }, { re := 4, im := -4, resI := 0, resQ := 0, poison := false, settle := false, invalid := false }, { re := 4, im := -4, resI := 0, resQ := 0, poison := false, settle := false, invalid := false }, { re := 4, im := -4, resI := 0, resQ := 0, poison := false, settle := false, invalid := false }, { re := 4, im := -4, resI := 0, resQ := 0, poison := false, settle := false, invalid := false }, { re := 4, im := -4, resI := 0, resQ := 0, poison := false, settle := false, invalid := false }, { re := 4, im := -4, resI := 0, resQ := 0, poison := false, settle := false, invalid := false }, { re := 4, im := -4, resI := 0, resQ := 0, poison := false, settle := false, invalid := false }, { re := 4, im := -4, resI := 0, resQ := 0, poison := false, settle := false, invalid := false }, { re := 4, im := -4, resI := 0, resQ := 0, poison := false, settle := false, invalid := false }, { re := 4, im := -4, resI := 0, resQ := 0, poison := false, settle := false, invalid := false }, { re := 4, im := -4, resI := 0, resQ := 0, poison := false, settle := false, invalid := false }, { re := 4, im := -4, resI := 0, resQ := 0, poison := false, settle := false, invalid := false }], [(3, [])], by decide +kernel⟩⟩

/-- Premises of DelayMeasurements are met. -/
theorem test_witness_DelayMeasurements :
  (∃ (s : State), ∃ (l : Nat), ∃ f, l < 16 ∧ coreRuns s = true ∧ dnUp s l = true ∧ dnAccepts s l f = true ∧ f.msgType = 5 ∧ flushPending s 2 l = false ∧
    f.bad = [] ∧ f.action = 0) ∧
  (∃ (s : State), ∃ (l : Nat), ∃ f, l < 16 ∧ coreRuns s = true ∧ dnUp s l = true ∧ dnAccepts s l f = true ∧ f.msgType = 5 ∧ flushPending s 2 l = false ∧
    f.bad = [] ∧ f.action = 3) ∧
  (∃ (s : State), ∃ (l : Nat), ∃ f, l < 16 ∧ coreRuns s = true ∧ dnUp s l = true ∧ dnAccepts s l f = true ∧ f.msgType = 5 ∧ flushPending s 2 l = false ∧
    f.bad = [] ∧ f.action = 2 ∧ (getDn s l).delaySt = 1 ∧ (getDn s l).reqId = f.measId) ∧
  (∃ (s : State) (l : Nat) (f : DnFrame), l < 16 ∧ coreRuns s = true ∧ dnUp s l = true ∧ dnAccepts s l f = true ∧ f.msgType = 5 ∧ flushPending s 2 l =
    false ∧ f.bad ≠ []) ∧
  (∃ (s : State), ∃ (l : Nat), ∃ m, l < 16 ∧ mayWrite s m = true ∧ coreRuns s = true ∧ dnUp s l = true ∧ dnMode s.objs l = 1) ∧
  (∃ (s : State), ∃ (l : Nat), ∃ m, l < 16 ∧ mayWrite s m = true ∧ (dnUp s l = false ∨ dnMode s.objs l ≠ 1)) ∧
  (∃ (s : State), ∃ (l : Nat), l < 16 ∧ (getDn s l).delaySt = 1 ∧ (getDn s l).reqAt + 100 * 32000000 ≤ s.time) :=
  ⟨⟨P8.w1, 0, { fcsOk := true, length := 60, dst := 0, tag := none, etherType := 44798, hdr0 := 16, msgType := 5, size := 20, pcid := 0, seq := 0, sub := 0, iq := [], measId := 4, action := 0, stamp := 999, comp := -5, bad := [] }, by decide +kernel⟩,
   ⟨P8.w1, 0, { fcsOk := true, length := 60, dst := 0, tag := none, etherType := 44798, hdr0 := 16, msgType := 5, size := 20, pcid := 0, seq := 0, sub := 0, iq := [], measId := 4, action := 3, stamp := 999, comp := -5, bad := [] }, by decide +kernel⟩,
   ⟨P8.w15, 0, { fcsOk := true, length := 60, dst := 0, tag := none, etherType := 44798, hdr0 := 16, msgType := 5, size := 20, pcid := 0, seq := 0, sub := 0, iq := [], measId := 4, action := 2, stamp := 999, comp := -5, bad := [] }, by decide +kernel⟩,
   ⟨P8.w11, 0, { P8.fd 0 with bad := [(0, 40)] }, by decide +kernel⟩,
   ⟨P8.w1, 0, 0, by decide +kernel⟩,
   ⟨P8.w1, 1, 0, by decide +kernel⟩,
   ⟨P8.w9, 0, by decide +kernel⟩⟩

/-- Premises of ChainLanes are met. -/
theorem test_witness_ChainLanes :
  (∃ (s : State), ∃ (l : Nat), ∃ (sf : Superframe), l < 16 ∧ coreRuns s = true ∧ xlMode s.objs l = 1 ∧ (getXl s l).restarting = false ∧ superframeGood
    sf = true ∧ (bits sf.trailer.toNat 55 52) = ((getXl s l).rxSeq + 1) % 16 ∧ (getXl s l).up = false ∧ (getXl s l).good = 3) ∧
  (∃ (s : State), ∃ (l : Nat), ∃ (sf : Superframe), ∃ (drift : Int), l < 16 ∧ coreRuns s = true ∧ xlMode s.objs l = 1 ∧ (getXl s l).restarting = false ∧
    superframeGood sf = true ∧ flushPending s 4 l = false ∧ (bits sf.trailer.toNat 55 52) = ((getXl s l).rxSeq + 1) % 16 ∧ (getXl s l).up = true ∧
    (getXl s l).bad < 16 ∧ ringPartner s l = none ∧ drift = (getXl s l).driftBase ∧ (getXl s l).phase ≤ 29297 ∧ cfgNat s.objs (xlObj l 0) 2 = 0xFF ∧
    ((getXl s l).done = 0 ∨ (getXl s l).done = (getXl s l).rxIdx)) ∧
  (∃ (s : State), ∃ (l : Nat), ∃ (sf : Superframe), l < 16 ∧ coreRuns s = true ∧ xlMode s.objs l = 1 ∧ (getXl s l).restarting = false ∧ superframeGood
    sf = false ∧ (getXl s l).up = true ∧ (getXl s l).bad = 15 ∧ ringPartner s l = none) ∧
  (∃ (s : State), ∃ (l : Nat), l < 16 ∧ coreRuns s = true ∧ xlMode s.objs l = 1 ∧ (getXl s l).restarting = false ∧ (getXl s l).up = true ∧ ringPartner s
    l = none) ∧
  (∃ (s : State), ∃ (l : Nat), l < 16 ∧ coreRuns s = true ∧ xlMode s.objs l = 1 ∧ (getXl s l).restarting = false ∧ 16 ≤ cfgNat s.objs (xlObj l 0) 3 ∧
    (getXl s l).txDone < (s.clk.frame + 1) / 4) ∧
  (∃ (s : State) (l : Nat) (sf : Superframe), l < 16 ∧ coreRuns s = true ∧ xlMode s.objs l = 1 ∧ (getXl s l).restarting = false ∧
    cfgNat s.objs
    (xlObj l 0) 3 < 16 ∧ xlMode s.objs (cfgNat s.objs (xlObj l 0) 3) = 1 ∧ flushPending s 6 l = false ∧ ∃ o, (432, o) ∈ sf.bad) ∧
  (∃ (s : State), ∃ (l : Nat), ∃ (sf : Superframe), l < 16 ∧ coreRuns s = true ∧ xlMode s.objs l = 1 ∧ (getXl s l).restarting = false ∧ cfgNat s.objs
    (xlObj l 0) 3 < 16 ∧ xlMode s.objs (cfgNat s.objs (xlObj l 0) 3) = 1 ∧ flushPending s 6 l = false ∧ sf.bad = []) ∧
  (∃ (s : State), ∃ (l : Nat), l < 16 ∧ coreRuns s = true ∧ xlMode s.objs l = 1 ∧ (getXl s l).restarting = false ∧ (getXl s l).up = true) :=
  ⟨⟨P8.w4, 0, P8.sf4, by decide +kernel, by decide +kernel, by decide +kernel, by decide +kernel, P8.sf4_good, by decide +kernel, by decide +kernel,
    by decide +kernel⟩,
   ⟨P8.w1, 0, P8.sf4, 0, by decide +kernel, by decide +kernel, by decide +kernel, by decide +kernel, P8.sf4_good, by decide +kernel, by decide +kernel,
    by decide +kernel, by decide +kernel, by decide +kernel, by decide +kernel, by decide +kernel, by decide +kernel, by decide +kernel⟩,
   ⟨P8.w9, 0, {}, by decide +kernel⟩,
   ⟨P8.w1, 0, by decide +kernel⟩,
   ⟨P8.w1, 1, by decide +kernel⟩,
   ⟨P8.w1, 0, { bad := [(432, 8)] }, by decide +kernel, by decide +kernel, by decide +kernel, by decide +kernel, by decide +kernel, by decide +kernel, by decide +kernel, 8, by decide +kernel⟩,
   ⟨P8.w1, 0, {}, by decide +kernel⟩,
   ⟨P8.w1, 0, by decide +kernel⟩⟩

/-- Premises of Relay are met. -/
theorem test_witness_Relay :
  (∃ (msg : RelayMsg), msg.dst < 65536 ∧ msg.src < 65536 ∧ msg.hop < 256 ∧ msg.typ < 256 ∧ msg.ident < 65536 ∧ msg.payload.length < 65536) ∧
  (∃ (s : State), ∃ (lane : Nat), lane ∈ lanesUp s) ∧
  (∃ (s : State), ∃ (lane : Nat), ∃ (blocks : List (BitVec 64)), lane ∈ lanesUp s ∧ relayParse blocks = none) ∧
  (∃ (s : State), ∃ (lane : Nat), ∃ (blocks : List (BitVec 64)), ∃ msg, lane ∈ lanesUp s ∧ relayParse blocks = some msg ∧ (msg.crc ≠ relayCrc msg ∨
    (msg.src, msg.ident) ∈ s.links.recent)) ∧
  (∃ (s : State), ∃ (lane : Nat), ∃ (blocks : List (BitVec 64)), ∃ msg, lane ∈ lanesUp s ∧ relayParse blocks = some msg ∧ msg.crc = relayCrc msg ∧
    (msg.src, msg.ident) ∉ s.links.recent ∧ s.links.learned.length < 256 ∧ msg.typ = 2) ∧
  (∃ (s : State), ∃ (lane : Nat), ∃ (blocks : List (BitVec 64)), ∃ msg, lane ∈ lanesUp s ∧ relayParse blocks = some msg ∧ msg.crc = relayCrc msg ∧
    (msg.src, msg.ident) ∉ s.links.recent ∧ s.links.learned.length < 256 ∧ msg.typ = 1) ∧
  (∃ (s : State) (lane : Nat) (blocks : List (BitVec 64)) (msg : RelayMsg) (w : Relayed), lane ∈ lanesUp s ∧ relayParse blocks = some msg ∧ msg.crc =
    relayCrc msg ∧
    (msg.src, msg.ident) ∉ s.links.recent ∧ s.links.learned.length < 256 ∧ msg.typ = 0 ∧ isOwnAddr s msg.dst = true ∧ bit
    (olpHeader msg.payload).flags 7 = true ∧
    (s.olp.waiting.find? fun w => w.device == (olpHeader msg.payload).device && w.m == (olpHeader
    msg.payload).m && w.session == (olpHeader msg.payload).session &&
      w.seq == (olpHeader msg.payload).seq) = some w ∧ w.origin.port < 2) ∧
  (∃ (s : State), ∃ (lane : Nat), ∃ (blocks : List (BitVec 64)), ∃ msg, lane ∈ lanesUp s ∧ relayParse blocks = some msg ∧ msg.crc = relayCrc msg ∧
    (msg.src, msg.ident) ∉ s.links.recent ∧ s.links.learned.length < 256 ∧ msg.typ = 0 ∧ isOwnAddr s msg.dst = false ∧ msg.dst ≠ msg.src ∧ 1 <
    msg.hop) ∧
  (∃ (s : State), ∃ (lane : Nat), ∃ (blocks : List (BitVec 64)), ∃ msg, lane ∈ lanesUp s ∧ relayParse blocks = some msg ∧ msg.crc = relayCrc msg ∧
    (msg.src, msg.ident) ∉ s.links.recent ∧ s.links.learned.length < 256 ∧ msg.typ = 0 ∧ isOwnAddr s msg.dst = false ∧ msg.dst ≠ msg.src ∧ msg.hop ≤
    1) ∧
  (∃ (s : State), ∃ addr, (learnedAt s addr).1 < 16 ∧ (learnedAt s addr).2 + 60000 * 32000000 ≤ s.time) :=
  ⟨⟨{dst := 1, src := 2, hop := 3, typ := 0, ident := 9}, by decide +kernel⟩,
   ⟨P8.w1, 0, by decide +kernel⟩,
   ⟨P8.w1, 0, [0x0000000000000001#64, 0x0000000000000002#64], by decide +kernel⟩,
   ⟨P8.w1, 0, [0xc600010002030000#64, 0x8609000000000000#64, 0xa100000000000000#64], { dst := 1, src := 2, hop := 3, typ := 0, ident := 9, payload := [], crc := 0x00000000#32 }, by decide +kernel⟩,
   ⟨P8.w1, 0, [0xc6ffff0002010200#64, 0x860900030000000c#64, 0xa404ef4b71ce0000#64], { dst := 65535, src := 2, hop := 1, typ := 2, ident := 9, payload := [0x00#8, 0x0c#8, 0x04#8], crc := 0xef4b71ce#32 }, by decide +kernel⟩,
   ⟨P8.w1, 0, [0xc6012c0002030100#64, 0x8609000200000102#64, 0xa3d91d3ae0000000#64], { dst := 300, src := 2, hop := 3, typ := 1, ident := 9, payload := [0x01#8, 0x02#8], crc := 0xd91d3ae0#32 }, by decide +kernel⟩,
   ⟨P8.stWait8, 1, relayWords (P8.msg8 7 3 0 P8.respMsg8 9), P8.msg8 7 3 0 P8.respMsg8 9, { device := 5, m := 0, session := 1, seq := 2, origin := {}, since := 0 }, by decide +kernel⟩,
   ⟨P8.w1, 0, [0xc600050002030000#64, 0x8609000100000142#64, 0xa21bdb5100000000#64], { dst := 5, src := 2, hop := 3, typ := 0, ident := 9, payload := [0x01#8], crc := 0x421bdb51#32 }, by decide +kernel⟩,
   ⟨P8.w1, 0, [0xc600050002010000#64, 0x860900010000016c#64, 0xa2edf3d700000000#64], { dst := 5, src := 2, hop := 1, typ := 0, ident := 9, payload := [0x01#8], crc := 0x6cedf3d7#32 }, by decide +kernel⟩,
   ⟨P8.w1, 9, by decide +kernel⟩⟩

/-- Premises of CaptureRuns are met. -/
theorem test_witness_CaptureRuns :
  (∃ (s : State), ∃ m, mayWrite s m = true ∧ capEntries s.objs ≠ [] ∧ (sumMap (capEntries s.objs) fun e => srcUnits s.objs e.2) ≤ admittedLimit s ∧
    s.cap.restarting = false ∧ (s.cap.st = 0 ∨ s.cap.st = 2)) ∧
  (∃ (s : State), ∃ m, mayWrite s m = true ∧ capEntries s.objs ≠ [] ∧ (sumMap (capEntries s.objs) fun e => srcUnits s.objs e.2) ≤ admittedLimit s ∧
    s.cap.restarting = false ∧ s.cap.st = 3) ∧
  (∃ (s : State), ∃ m, mayWrite s m = true ∧ capEntries s.objs = []) ∧
  (∃ (s : State), ∃ m, mayWrite s m = true ∧ s.cap.st = 1) ∧
  (∃ (s : State) (e : Nat) (p : List Word) (rest : List (Nat × List Word)), s.cap.ready = (e, p) :: rest ∧ coreRuns s = true ∧ s.cap.st < 2 ∧
    s.cap.restarting = false) ∧
  (∃ (s : State) (e : Nat) (p : List Word) (rest : List (Nat × List Word)), s.cap.ready = (e, p) :: rest ∧ coreRuns s = true ∧ s.cap.st < 2 ∧
    s.cap.restarting = false ∧
    p.length = 1024 ∧ s.cap.marks = [] ∧ s.cap.pageSeq < 2 ^ 64) :=
  ⟨⟨P9.w2, 0, by decide +kernel⟩,
   ⟨P9.w3, 0, by decide +kernel⟩,
   ⟨P9.w1, 0, by decide +kernel⟩,
   ⟨P9.w5, 0, by decide +kernel⟩,
   ⟨P9.w5, 2, _, [], rfl, by decide +kernel⟩,
   ⟨P9.w6, 2, P9.page9 0x1002 0 1008, [], rfl, by decide +kernel⟩⟩

/-- Premises of MarksAndExport are met. -/
theorem test_witness_MarksAndExport :
  (∃ (s : State), ∃ (m : Nat), ∃ k, mayWrite s m = true ∧ k < 16) ∧
  (∃ (s : State), ∃ (m : Nat), ∃ k, mayWrite s m = true ∧ k < 16 ∧ s.cap.st = 1) ∧
  (∃ (s : State), ∃ (m : Nat), ∃ k, mayWrite s m = true ∧ k < 16 ∧ markArmed s 0 k = true) ∧
  (∃ (s : State), ∃ (m : Nat), ∃ k, mayWrite s m = true ∧ k < 16 ∧ markArmed s 0 k = false) ∧
  (∃ (s : State), ∃ (m : Nat), ∃ l, mayWrite s m = true ∧ l < 16) ∧
  (∃ (s : State) (m l : Nat), mayWrite s m = true ∧ l < 16 ∧ smGet [] s.cap.ring ((getExport s l).next % max 1 (ringPages s)) ≠ [] ∧ coreRuns s = true
    ∧
    dnUp s l = true ∧ dnMode s.objs l = 2 ∧ s.cap.st ≠ 3 ∧ s.cap.restarting = false ∧ (getExport s l).st = 1 ∧
    (getExport s l).next <
    s.cap.pageSeq ∧ s.cap.pageSeq ≤ (getExport s l).next + ringPages s) ∧
  (∃ (s : State) (m l : Nat), mayWrite s m = true ∧ l < 16 ∧ smGet [] s.cap.ring (((getMark s (getExport s l).mark).guard + (getExport s l).next) % max
    1 (ringPages s)) ≠ [] ∧
    coreRuns s = true ∧ dnUp s l = true ∧ dnMode s.objs l = 2 ∧ s.cap.st ≠ 3 ∧ s.cap.restarting = false ∧ (getExport s
    l).st = 2 ∧ (getExport s l).last = 0 ∧
    ((getMark s (getExport s l).mark).st = 3 ∨ (getMark s (getExport s l).mark).st = 5) ∧ (getExport s
    l).next + 1 = (getMark s (getExport s l).mark).region) :=
  ⟨⟨P9.w1, 0, 0, by decide +kernel⟩,
   ⟨P9.w5, 0, 0, by decide +kernel⟩,
   ⟨P9.w5, 0, 0, by decide +kernel⟩,
   ⟨P9.w1, 0, 0, by decide +kernel⟩,
   ⟨P9.w1, 0, 0, by decide +kernel⟩,
   ⟨P9.w7, 0, 0, by decide +kernel⟩,
   ⟨P9.st9r 1, 0, 0, by decide +kernel⟩⟩

/-- Premises of ReplaysAndStoreFailure are met. -/
theorem test_witness_ReplaysAndStoreFailure :
  (∃ (s : State) (r m : Nat) (p : Nat × List Word) (rest : List (Nat × List Word)), r < 8 ∧ mayWrite s m = true ∧ s.life.power = .quiet ∧ cfgNat s.objs
    (0x1830 + r) 3 ≠ 0xFFFFFFFF ∧
    ((getMark s (bits (cfgNat s.objs (0x1830 + r) 3) 31 24)).st = 3 ∨ (getMark s (bits (cfgNat s.objs (0x1830 + r)
    3) 31 24)).st = 5) ∧
    (srcKind (bits (cfgNat s.objs (0x1830 + r) 3) 15 0) = 4 ∨ srcKind (bits (cfgNat s.objs (0x1830 + r) 3) 15 0) = 5) ∧
   
    srcNum (bits (cfgNat s.objs (0x1830 + r) 3) 15 0) < 768 ∧ cfgNat s.objs (0x1830 + r) 2 < 768 ∧
    ((regionRing s (bits (cfgNat s.objs (0x1830 +
    r) 3) 31 24)).filter fun p => pageCode p.2 == bits (cfgNat s.objs (0x1830 + r) 3) 15 0) = p :: rest ∧
    bits (pageWord p.2 7) 31 24 = kOf s.objs
    (cfgNat s.objs (0x1830 + r) 2) ∧ txActive s.objs (cfgNat s.objs (0x1830 + r) 2) = true ∧
    ddrTraffic s + 99864 / 2 ^ kOf s.objs (cfgNat s.objs
    (0x1830 + r) 2) ≤ 4000000 * ddrCount s) ∧
  (∃ (s : State), ∃ (r : Nat), ∃ m, r < 8 ∧ (getReplay s r).st = 1 ∧ mayWrite s m = true) ∧
  (∃ (s : State), ∃ (r : Nat), r < 8 ∧ (getReplay s r).st = 1 ∧ (getReplay s r).rest = [] ∧ replayLoops s r = false) ∧
  (∃ (s : State), ∃ n, s.life.power ≠ .off ∧ bit s.cap.channels n = true) ∧
  (∃ s : State, coreClock s = true ∧ (∃ i, s.clk.frame * 72 ≤ i * 2457600 ∧ i * 2457600 < (s.clk.frame + 1) * 72) ∧ s.pins.syncOut = false) ∧
  (∃ s : State, ¬ ∃ i, s.clk.frame * 72 ≤ i * 2457600 ∧ i * 2457600 < (s.clk.frame + 1) * 72) ∧
  (∃ (s : State), s.pins.syncOut = true ∧ s.pins.syncOutAt + 32000 ≤ s.time) :=
  ⟨⟨P9.w8, 0, 0, _, _, by decide +kernel, by decide +kernel, by decide +kernel, by decide +kernel, by decide +kernel, by decide +kernel,
    by decide +kernel, by decide +kernel, rfl, by decide +kernel⟩,
   ⟨P9.w9, 0, 0, by decide +kernel⟩,
   ⟨P9.w10, 0, by decide +kernel⟩,
   ⟨P9.w0, 0, by decide +kernel⟩,
   ⟨{ up with clk := { frame := 34133 } }, by decide +kernel, ⟨1, by decide +kernel⟩, by decide +kernel⟩,
   ⟨up, by rintro ⟨i, h⟩; simp only [up] at h; omega⟩,
   ⟨P9.w13, by decide +kernel⟩⟩

/-- Premises of StageArithmetic are met. -/
theorem test_witness_StageArithmetic :
  (∃ (m : Nat), m ≤ 32 ∧ 1 ≤ m) ∧
  (∃ (m : Nat), m ≤ 32 ∧ m = 0) ∧
  (∃ (m : Nat), m ≤ 32) ∧
  (∃ (m : Nat), ∃ (acc : Int), m ≤ 32 ∧ -32768 ≤ roundQ m acc ∧ roundQ m acc ≤ 32767) ∧
  (∃ (m : Nat), m ≤ 32) ∧
  (∃ (m : Nat), m ≤ 32) ∧
  (∃ (m : Nat), ∃ (tags : Smp), m ≤ 32 ∧ tags.poison = true) :=
  ⟨⟨1, by decide +kernel⟩,
   ⟨0, by decide +kernel⟩,
   ⟨0, by decide +kernel⟩,
   ⟨0, 0, by decide +kernel⟩,
   ⟨0, by decide +kernel⟩,
   ⟨0, by decide +kernel⟩,
   ⟨0, { re := 0, im := 0, resI := 0, resQ := 0, poison := true, settle := true, invalid := false }, by decide +kernel⟩⟩

/-- Premises of FramesAndChecks are met. -/
theorem test_witness_FramesAndChecks :
  (∃ (s : State), coreClock s = true) ∧
  (∃ (s : State), coreClock s = false) ∧
  (∃ (s : State), ∃ (ch : Nat), ∃ g, ∃ sum, ∃ a, ∃ rest, ch < 96 ∧ g / 8 = ch ∧ (getSlot s g).detDone = (sum, a) :: rest ∧ rxActive s.objs g = true) ∧
  (∃ (s : State), ∃ (ch : Nat), ∃ m, ∃ v, ch < 96 ∧ mayWrite s m = true ∧ (s.life.power = .hold ∨ s.life.power = .quiet) ∧ 1 ≤ v / 256 ∧ v / 256 ≤ 0x0C
    ∧ v % 256 ≤ 2) ∧
  (∃ (s : State), ∃ (ch : Nat), ∃ frame, ch < 96 ∧ (ch, frame) ∈ s.exitReports) :=
  ⟨⟨P10.w0, by decide +kernel⟩,
   ⟨P10.w14, by decide +kernel⟩,
   ⟨P10.w0, 0, 0, 500000000, 100, [(7, 3)], by decide +kernel⟩,
   ⟨P10.w8, 0, 0, 258, by decide +kernel⟩,
   ⟨P10.w25, 0, 4090, by decide +kernel⟩⟩

/-- Premises of ResetsAndSwaps are met. -/
theorem test_witness_ResetsAndSwaps :
  (∃ (s : State), ∃ (m : Nat), ∃ (g : Nat), ∃ v, g < 768 ∧ mayWrite s m = true ∧ v < 256) ∧
  (∃ (s : State), ∃ (m : Nat), ∃ (g : Nat), g < 768 ∧ mayWrite s m = true) :=
  ⟨⟨P10.w0, 0, 0, 0, by decide +kernel⟩,
   ⟨P10.w0, 0, 0, by decide +kernel⟩⟩

/-- Premises of Canceller are met. -/
theorem test_witness_Canceller :
  (∃ (s : State), ∃ (ch : Nat), ∃ (bad : Option Nat), ∃ w, ch < 96 ∧ coreRuns s = true ∧ (getRod s (ch / 16)).powered = true ∧ (getRod s (ch /
    16)).restarting = false ∧ cancOn s.objs ch = true ∧ (decide (((getChan s ch).canc).skip + 1 < throttleDivisor s)) = false ∧ ((getChan s
    ch).canc).cand = some w ∧ bad ≠ none) ∧
  (∃ (s : State), ∃ (ch : Nat), ∃ (bad : Option Nat), ∃ w, ch < 96 ∧ coreRuns s = true ∧ (getRod s (ch / 16)).powered = true ∧ (getRod s (ch /
    16)).restarting = false ∧ cancOn s.objs ch = true ∧ (decide (((getChan s ch).canc).skip + 1 < throttleDivisor s)) = false ∧ ((getChan s
    ch).canc).cand = some w ∧ bad = none ∧ ((getChan s ch).canc).lastCr = none ∧ (w.paths.map (·.path)).Nodup) ∧
  (∃ (s : State), ∃ (ch : Nat), ch < 96 ∧ coreRuns s = true ∧ (getRod s (ch / 16)).powered = true ∧ (getRod s (ch / 16)).restarting = false ∧ cancOn
    s.objs ch = true ∧ ((decide (((getChan s ch).canc).skip + 1 < throttleDivisor s)) = true ∨ ((getChan s ch).canc).cand = none) ∧ ((getChan s
    ch).canc).periodAt + updatePeriod s ch * 3200000 ≤ s.time) ∧
  (∃ (s : State) (ch : Nat), ch < 96 ∧ coreRuns s = true ∧ (getRod s (ch / 16)).powered = true ∧ (getRod s (ch / 16)).restarting = false ∧ cancOn s.objs
    ch = true ∧
    ((getChan s ch).canc).cand = none ∧ s.time < ((getChan s ch).canc).periodAt + updatePeriod s ch * 3200000) ∧
  (∃ (s : State), ∃ (ch : Nat), ch < 96 ∧ coreRuns s = true ∧ ((∃ p, p < 8 ∧ (getPath s ch p).newModel ≠ none))) ∧
  (∃ (s : State), ∃ (ch : Nat), ∃ p, ch < 96 ∧ (getPath s ch p).st = 2 ∧ (getPath s ch p).trainSince + 200 * 32000000 ≤ s.time) ∧
  (∃ (s : State), ∃ (ch : Nat), ∃ p, ch < 96 ∧ (getPath s ch p).st = 4 ∧ (getPath s ch p).lastMeas + cfgNat s.objs (0x4000 + 16 * ch) 7 * 32000000 <
    s.time) ∧
  (∃ (s : State), ∃ (ch : Nat), ∃ m, ∃ v, ch < 96 ∧ mayWrite s m = true ∧ (v < 96 ∨ (0x1000 ≤ v ∧ v < 0x2000))) ∧
  (∃ (s : State), ∃ (ch : Nat), ∃ m, ch < 96 ∧ mayWrite s m = true) ∧
  (∃ (s : State), ∃ (ch : Nat), ∃ m, ∃ p, ∃ v, ch < 96 ∧ mayWrite s m = true ∧ p < 8 ∧ v < 2) ∧
  (∃ (s : State), ∃ (ch : Nat), ∃ m, ∃ p, ch < 96 ∧ mayWrite s m = true ∧ p < 8) ∧
  (∃ (s : State), ∃ (ch : Nat), ch < 96 ∧ ((getChan s ch).canc).survState = 1 ∧ ((getChan s ch).canc).survProgress = 128) ∧
  (∃ (s : State), ∃ (ch : Nat), ∃ (a : Option Nat), ∃ (b : Option Nat), ch < 96 ∧ ((getChan s ch).canc).survState = 1 ∧ ((getChan s
    ch).canc).survProgress = 128 ∧ (a ≠ none ∨ b ≠ none)) ∧
  (∃ (s : State), ∃ (ch : Nat), ch < 96 ∧ ((getChan s ch).canc).survState = 1 ∧ 128 ≤ ((getChan s ch).canc).survBelow) :=
  ⟨⟨P10.w27, 0, (some 0), { n := 0, count := 0, first := 0, last := 0, pe := 0, ptot := 0, paths := [], survey := none }, by decide +kernel⟩,
   ⟨P10.w27, 0, none, { n := 0, count := 0, first := 0, last := 0, pe := 0, ptot := 0, paths := [], survey := none }, by decide +kernel⟩,
   ⟨P10.w0, 0, by decide +kernel⟩,
   ⟨P10.st10 P10.slot10 { P10.ch10 with canc := { periodAt := 10 ^ 16 } }, 0, by decide +kernel⟩,
   ⟨P10.w0, 0, by decide +kernel⟩,
   ⟨P10.w0, 0, 0, by decide +kernel⟩,
   ⟨P10.w0, 0, 2, by decide +kernel⟩,
   ⟨P10.w0, 0, 0, 0, by decide +kernel⟩,
   ⟨P10.w0, 0, 0, by decide +kernel⟩,
   ⟨P10.w0, 0, 0, 0, 0, by decide +kernel⟩,
   ⟨P10.w0, 0, 0, 0, by decide +kernel⟩,
   ⟨P10.w15, 0, by decide +kernel⟩,
   ⟨P10.w15, 0, none, (some 0), by decide +kernel⟩,
   ⟨P10.w15, 0, by decide +kernel⟩⟩

/-- Premises of GovernorTicks are met. -/
theorem test_witness_GovernorTicks :
  (∃ (s : State), coreRuns s = true ∧ tickFrame (3 * s.clk.frame / 10240) ≠ s.clk.frame) ∧
  (∃ (s : State), ∃ j, coreRuns s = true ∧ s.clk.frame = (10240 * j + 2) / 3 ∧ s.gov.tick ≤ j) ∧
  (∃ (s : State), ∃ m, coreRuns s = true ∧ mayWrite s m = true ∧ (cfgNat s.objs 0x7010 1) ∈ s.gov.inUse ∧ (getLoop s (cfgNat s.objs 0x7010 1)).locked =
    true) :=
  ⟨⟨P11.w70, by decide +kernel⟩,
   ⟨P11.w0, 1001, by decide +kernel⟩,
   ⟨P11.w83, 0, by decide +kernel⟩⟩

/-- Premises of CellLedger are met. -/
theorem test_witness_CellLedger :
  (∃ (s : State), ∃ (r : Nat), ∃ (g : Nat), r < 6 ∧ finderOn s r = true ∧ nextSide (rodSides s.objs r) (getRod s r).lastSearched = some g ∧ (getRod s
    r).dwellAt + 40 * 32000000 ≤ s.time) ∧
  (∃ (s : State), ∃ (r : Nat), ∃ (g : Nat), ∃ (cells : List CellMeas), ∃ c, ∃ i, r < 6 ∧ finderOn s r = true ∧ nextSide (rodSides s.objs r) (getRod s
    r).lastSearched = some g ∧ (getRod s r).dwellAt + 40 * 32000000 ≤ s.time ∧ (getRod s r).dwellUsable = true ∧ (s.prot.ledger.map (·.1)).Pairwise (·
    < ·) ∧ cells.filter (detectable s g) = [c] ∧ ((fun (e : LedgerEntry) => e.valid && e.ch == g / 8 && e.rat == c.rat && e.pci == c.pci && e.freq ==
    c.freq)) (getEntry s i) = true ∧ ((∀ x, x ∈ s.prot.ledger → ((fun (e : LedgerEntry) => e.valid && e.ch == g / 8 && e.rat == c.rat && e.pci ==
    c.pci && e.freq == c.freq)) x.2 = true → x.1 = i))) ∧
  (∃ (s : State), ∃ (r : Nat), ∃ (g : Nat), ∃ (cells : List CellMeas), ∃ c, ∃ i, r < 6 ∧ finderOn s r = true ∧ nextSide (rodSides s.objs r) (getRod s
    r).lastSearched = some g ∧ (getRod s r).dwellAt + 40 * 32000000 ≤ s.time ∧ (getRod s r).dwellUsable = true ∧ (s.prot.ledger.map (·.1)).Pairwise (·
    < ·) ∧ cells.filter (detectable s g) = [c] ∧ ((∀ x, x ∈ s.prot.ledger → ((fun (e : LedgerEntry) => e.valid && e.ch == g / 8 && e.rat == c.rat &&
    e.pci == c.pci && e.freq == c.freq)) x.2 = false)) ∧ i < 65536 ∧ (getEntry s i).valid = false ∧ ((∀ k, k < i → (getEntry s k).valid = true))) ∧
  (∃ (s : State), ∃ (r : Nat), ∃ (g : Nat), r < 6 ∧ finderOn s r = true ∧ nextSide (rodSides s.objs r) (getRod s r).lastSearched = some g ∧ (getRod s
    r).dwellAt + 40 * 32000000 ≤ s.time) ∧
  (∃ (s : State), ∃ (i : Nat), finderOn s ((getEntry s i).ch / 16) = true ∧ (getEntry s i).valid = true ∧ i ∈ trackedCells s ((getEntry s i).ch / 16) ∧
    ((getEntry s i).occAt = 0 ∨ (getEntry s i).occAt + 20 * 32000000 ≤ s.time)) ∧
  (∃ (s : State), ∃ (i : Nat), ∃ (meas : Option CellMeas), finderOn s ((getEntry s i).ch / 16) = true ∧ (getEntry s i).valid = true ∧ i ∈ trackedCells s
    ((getEntry s i).ch / 16) ∧ ((getEntry s i).occAt = 0 ∨ (getEntry s i).occAt + 20 * 32000000 ≤ s.time) ∧ (meas = none ∨ hearingSide s (getEntry s
    i) = none ∨ rxValid s (getEntry s i).ch = false ∨ (∀ g, hearingSide s (getEntry s i) = some g → hasUsable s g = false))) ∧
  (∃ (s : State), ∃ (i : Nat), ∃ (g : Nat), finderOn s ((getEntry s i).ch / 16) = true ∧ (getEntry s i).valid = true ∧ i ∈ trackedCells s ((getEntry s
    i).ch / 16) ∧ ((getEntry s i).occAt = 0 ∨ (getEntry s i).occAt + 20 * 32000000 ≤ s.time) ∧ hearingSide s (getEntry s i) = some g ∧ rxValid s
    (getEntry s i).ch = true ∧ hasUsable s g = true ∧ ((∀ x, x ∈ s.prot.ledger → x.2.valid = true → x.2.ch = (getEntry s i).ch → x.2.rat = (getEntry s
    i).rat → x.2.pci = (getEntry s i).pci → x.2.freq = (getEntry s i).freq → x.1 = i))) ∧
  (∃ (s : State), ∃ m, ∃ i, mayWrite s m = true ∧ i < 65536 ∧ (getEntry s i).valid = true ∧ (pinnedEntries s).length < 4096) ∧
  (∃ (s : State), ∃ m, ∃ i, mayWrite s m = true ∧ i < 65536 ∧ (getEntry s i).valid = false) ∧
  (∃ (s : State), ∃ m, ∃ i, mayWrite s m = true ∧ i < 65536) ∧
  (∃ (s : State), ∃ r, r < 6 ∧ s.life.power ≠ .off ∧ (getRod s r).finder ≠ 3) :=
  ⟨⟨P11.w0, 0, 0, by decide +kernel⟩,
   ⟨P11.w72, 0, 0, [{ rat := 0, pci := 9, freq := 1000000, tdd := false, level := -8000, sinr := 1000, arrival := 5, ssb := 300 }], { rat := 0, pci := 9, freq := 1000000, tdd := false, level := -8000, sinr := 1000, arrival := 5, ssb := 300 }, 8, by decide +kernel⟩,
   ⟨P11.w71, 0, 0, [{ rat := 0, pci := 9, freq := 1000000, tdd := false, level := -8000, sinr := 1000, arrival := 5, ssb := 300 }], { rat := 0, pci := 9, freq := 1000000, tdd := false, level := -8000, sinr := 1000, arrival := 5, ssb := 300 }, 0, by decide +kernel⟩,
   ⟨P11.w0, 0, 0, by decide +kernel⟩,
   ⟨P11.w72, 3, by decide +kernel⟩,
   ⟨P11.w72, 3, none, by decide +kernel⟩,
   ⟨P11.w72, 3, 0, by decide +kernel⟩,
   ⟨P11.w72, 0, 3, by decide +kernel⟩,
   ⟨P11.w0, 0, 0, by decide +kernel⟩,
   ⟨P11.w0, 0, 0, by decide +kernel⟩,
   ⟨P11.w0, 0, by decide +kernel⟩⟩

/-- Premises of DonorProtection are met. -/
theorem test_witness_DonorProtection :
  (∃ (s : State), ∃ (g : Nat), coreRuns s = true ∧ g ∈ uplinkDonors s.objs ∧ (getGain s g).donorLoss = false ∧ (donorFallback s g = false ∨ lastKnown s
    (servingSide s.objs g) = false) ∧ lossDue s g = true ∧ hasMute s (.donorLoss g) = false) ∧
  (∃ (s : State), ∃ (g : Nat), ∃ i, ∃ since, coreRuns s = true ∧ (getGain s g).donorLoss = true ∧ (g ∉ uplinkDonors s.objs ∨ ((getGain s (servingSide
    s.objs g)).serving = some i ∧ (getGain s g).goodSince = some since ∧ since + cfgNat s.objs 0x7080 3 * 32000000 ≤ s.time ∧ lossDue s g = false ∧
    donorFallback s g = false))) ∧
  (∃ (s : State), coreRuns s = true ∧ s.clk.frame % 341333 ≠ 0) ∧
  (∃ s : State, coreRuns s = true ∧ s.clk.frame % 341333 = 0 ∧ ∀ r, (getRod s r).fallback = false) :=
  ⟨⟨P11.w64, 8, by decide +kernel⟩,
   ⟨P11.w86, 0, 5, 5, by decide +kernel⟩,
   ⟨P11.w0, by decide +kernel⟩,
   ⟨noRods, by decide +kernel, by decide +kernel, fun _ => rfl⟩⟩

/-- Premises of TddGroups are met. -/
theorem test_witness_TddGroups :
  (∃ (s : State), ∃ (i : Nat), ∃ (highNs : Nat), coreRuns s = true ∧ i < 8 ∧ 100 ≤ highNs) ∧
  (∃ (s : State), ∃ (i : Nat), ∃ (highNs : Nat), ∃ (pos : Nat), ∃ p, coreRuns s = true ∧ i < 8 ∧ 100 ≤ highNs ∧ pos < 14745600 ∧ (getGroup s i).st = 1 ∧
    (getGroup s i).agree = 4 ∧ (getGroup s i).lastEpoch = some p ∧ (gridDiff pos p).natAbs ≤ 732 ∧ groupSource s.objs i = 2 ∧ s.time ≤ (getGroup s
    i).epochAt + 320064000) ∧
  (∃ (s : State), ∃ (i : Nat), ∃ (highNs : Nat), ∃ (pos : Nat), ∃ p, coreRuns s = true ∧ i < 8 ∧ 100 ≤ highNs ∧ pos < 14745600 ∧ (getGroup s i).st = 1 ∧
    (getGroup s i).agree = 4 ∧ (getGroup s i).lastEpoch = some p ∧ (gridDiff pos p).natAbs ≤ 732 ∧ groupSource s.objs i = 3) ∧
  (∃ (s : State), ∃ (i : Nat), ∃ (highNs : Nat), ∃ (pos : Nat), ∃ a, coreRuns s = true ∧ i < 8 ∧ 100 ≤ highNs ∧ pos < 14745600 ∧ (getGroup s i).st = 2 ∧
    (getGroup s i).applied = some a ∧ groupSource s.objs i = 2 ∧ (gridDiff pos a).natAbs ≤ 2952) ∧
  (∃ (s : State), ∃ (i : Nat), ∃ (highNs : Nat), coreRuns s = true ∧ i < 8 ∧ highNs < 100) ∧
  (∃ (s : State), ∃ (i : Nat), coreRuns s = true ∧ i < 8 ∧ (getGroup s i).st = 2 ∧ epochMissing s i = true) ∧
  (∃ (s : State), ∃ (i : Nat), coreRuns s = true ∧ i < 8 ∧ (getGroup s i).st = 3 ∧ (getGroup s i).heldAt + cfgNat s.objs (0x7088 + i) 0xE * 32000000 ≤
    s.time) :=
  ⟨⟨P11.w0, 0, 100, by decide +kernel⟩,
   ⟨P11.w87, 0, 100, 1001, 1000, by decide +kernel⟩,
   ⟨P11.w78, 1, 100, 1001, 1000, by decide +kernel⟩,
   ⟨P11.w70, 0, 100, 0, 5, by decide +kernel⟩,
   ⟨P11.w0, 0, 0, by decide +kernel⟩,
   ⟨P11.w70, 0, by decide +kernel⟩,
   ⟨P11.w80, 0, by decide +kernel⟩⟩



/-! ### Worked examples of the spec -/

/-- The carrier FIR of Table 5.2: header, h = 32,768, 65,536, 32,768, and its I inputs, newest first. -/
def fir52 : Bank := { header := 0x02200003#32, words := [(1, 0x20000000#32), (2, 0x40000000#32)] }
def line52 : List Smp := [mkSmp 1234 0, mkSmp (-2001) 0, mkSmp 517 0]

/-- Table 5.2: the accumulator with the residue 22 predicted for it, the quotient and the remainder of the worked stage. -/
theorem test_stage_of_table_5_2 :
    (dotComplex (bankCoefs fir52) line52).1 = { val := -73760768, res := 22 } ∧ roundQ 17 (-73760768) = -563 ∧ roundT 17 (-73760768) = 98304 := by
  decide +kernel
/-- Table 5.2: the residues 22, 202 and 129, and the sample passes and leaves with its own residue. -/
theorem test_residues_of_table_5_2 : residue (-73760768) = 22 ∧ issuedResidue false (-563) = 202 ∧ residue 98304 = 129 ∧
    stageRule 17 22 (-563) 98304 = true ∧ formPart 17 { val := -73760768, res := 22 } {} = { out := -563, res := 202, sat := false, ok := true } := by
  decide +kernel
/-- Chapter 5: damage of 16 fails the sample, damage of 255 passes unseen; an inverted saturation indicator fails it (R128). -/
theorem test_damage_of_chapter_5 :
    (formPart 17 { val := -73760768, res := 22 } { err := 16 }).ok = false ∧ (formPart 17 { val := -73760768, res := 22 } { err := 255 }).ok = true ∧
    (formPart 17 { val := -73760768, res := 22 } { flip := true }).ok = false := by decide +kernel
/-- R128: a saturated output is clamped and leaves with the residue 127. -/
theorem test_saturated_output : formPart 17 { val := 2 ^ 33, res := residue (2 ^ 33) } {} = { out := 32767, res := 127, sat := true, ok := true } := by decide +kernel

/-- Channel 12 of Table 3.5, slot 0 with `n` taps. -/
def arenaBank (n : Nat) : SlotPath := { bankA := { header := BitVec.ofNat 32 (17 * 2 ^ 21 + n) } }
def arena (n : Nat) : State := { State.reset with
  objs := cfgOf [(0x530C, 9, 3), (0x530C, 10, 3), (0x530C, 11, 3), (0x530C, 12, 3), (0x530C, 13, 3),
    (0x30C4, 1, 1), (0x30C4, 2, 2), (0x30C4, 3, 3), (0x30C4, 4, 3), (0x30C4, 5, 4)],
  slots := [(96, arenaBank n), (97, arenaBank 64), (98, arenaBank 128), (99, arenaBank 128), (100, arenaBank 128)] }
/-- Table 3.5: the budget use is 194 and the headroom −12. -/
theorem test_budget_of_table_3_5 : budgetUse (arena 128) 12 = 194 ∧ fadeHeadroom (arena 128) 12 = -12 := by decide +kernel
/-- With 96 taps in slot 0 the use is 178, the headroom 20, and slot 0's own cross-fade needs 236. -/
theorem test_budget_of_the_shorter_slot : budgetUse (arena 96) 12 = 178 ∧ fadeHeadroom (arena 96) 12 = 20 ∧
    budgetUse (arena 96) 12 (some 96) = 236 := by decide +kernel
/-- Chapter 4's example: slot 4 widened to k = 3 brings the use to 184. -/
theorem test_budget_of_the_wider_slot :
    budgetUse { arena 96 with objs := cfgSet (arena 96).objs (key 0x30C4 5) 3 } 12 = 184 := by decide +kernel
/-- Table 4.8: header, coefficients and count of words of bank B of slot 4. -/
theorem test_header_of_table_4_8 : hdrValid 0x0E200080 = true ∧ hdrK 0x0E200080 = 3 ∧ hdrM 0x0E200080 = 17 ∧
    hdrN 0x0E200080 = 128 ∧ hdrCoefs 0x0E200080 = 64 ∧ coefOf 0xFFF6C000 = -37 ∧ coefOf 0x1C200000 = 28800 := by
  decide +kernel

/-- Table 9.3: 10·log10 of 18 MHz, the frequency correction, the noise-rise term and the cap of slot 16. -/
theorem test_levels_of_table_9_3 : dbOf 18000000 1 = 7255 ∧ db20 1747500 1842500 = -46 ∧
    dbOfPow (powRatio 100 - 2 ^ 64) = -587 ∧ dbOfPow (powRatio (-978 - -7500) - 2 ^ 64) + -7500 - -7666 = 6688 := by
  decide +kernel

/-- Global slot 430 is slot 6 of channel 53, whose requested gains stand at 0x3356 (R4, chapter 2). -/
theorem test_slot_430 : isGlobalSlot 430 = true ∧ (chanSlots 53).getD 6 0 = 430 ∧ sigIdx 53 6 = 0x3356 := by decide +kernel

/-- The manager of chapter 2's example stages 35.00 dB for slot 6 of channel 53 under its lock. -/
theorem test_staging_of_chapter_2 :
    (match exec (.write 2 0x3356 7 [0x0D#8, 0xAC#8]) { up with commit := { lock := some 2 } } with
      | .next t => t.commit.staged | _ => []) = [(key 0x3356 7, 0x0DAC)] := by decide +kernel
/-- Without the lock, while another manager holds it, the write is refused with 0x08 and nothing is staged. -/
theorem test_staging_refused_under_another_lock :
    (match exec (.write 2 0x3356 7 [0x0D#8, 0xAC#8]) locked with
      | .next t => (t.commit.staged, t.out.getLast?) | _ => ([], none)) =
    ([], some (.reply 2 { opcode := 2, status := 8, index := 0x3356, sub := 7 })) := by decide +kernel

/-- Rods 0–2 on the air, carrier slot 0 of each channel transmitting. -/
def onAir : State := { upObjs ((List.range 48).map fun ch => (0x5300 + ch, 9, 1)) with
  chans := (List.range 48).map fun ch => (ch, P3.txChan) }
/-- Chapter 1's example: a mute of rod 2 drops TXEN32–TXEN47 at once and leaves the other rods' on. -/
theorem test_rod_mute_drops_its_txen :
    (match exec (.dieLinkAlignmentLoss 2 false) onAir with
      | .next t => ((List.range 48).map (txen t)) | _ => []) =
    List.replicate 32 true ++ List.replicate 16 false := by decide +kernel

/-! ### Check values of the standards the spec names -/

/-- CRC-32 of the nine digits, as R63's parameters give it. -/
theorem test_crc32_check_value : crc32 [0x31, 0x32, 0x33, 0x34, 0x35, 0x36, 0x37, 0x38, 0x39] = 0xCBF43926#32 := by decide +kernel
/-- CRC-16 of the nine digits with polynomial 0x1021 and initial 0xFFFF. -/
theorem test_crc16_check_value :
    ([0x31, 0x32, 0x33, 0x34, 0x35, 0x36, 0x37, 0x38, 0x39] : List Byte).foldl crc16Byte 0xFFFF = 0x29B1 := by decide +kernel
/-- SHA-256 of "abc" (FIPS 180-4): its first eight bytes. -/
theorem test_sha256_of_abc : (sha256 [0x61, 0x62, 0x63]).take 8 = beBytes 8 0xBA7816BF8F01CFEA := by decide +kernel

/-! ### Words and the queue -/

/-- No row of the table gives bits, so no word spells a command. -/
theorem test_no_word_spells_a_command : decodeTableWord 32 0x12345678 = none := rfl
/-- On an empty queue a frame of time passes. -/
theorem test_idle_step_passes_a_frame :
    (match step State.reset with | .next t => (t.time, t.clk.frame) | _ => (0, 0)) = (9375, 0) := by decide +kernel

/-! ### Relay queues -/

/-- An OLP message of 212 bytes takes 31 relay blocks: 23 in one superframe (Table 12.4), the rest in the next. -/
def relayed : RelayMsg := { dst := 3, src := 1, hop := 4, typ := 0, ident := 7, payload := List.replicate 196 0 }
theorem test_relay_blocks_of_a_superframe :
    ((relayDrain [relayed] 0 23).1, (relayDrain [relayed] 0 23).2.2, (relayDrain [relayed] 23 23).1) = ([], 23, [relayed]) := by decide +kernel
/-- R309: a hello goes before an OLP message that waits, behind one that is being sent. -/
theorem test_hello_before_olp :
    (relayInsert false { relayed with typ := 2 } [relayed]).map (·.typ) = [2, 0] ∧
    (relayInsert true { relayed with typ := 2 } [relayed]).map (·.typ) = [0, 2] := by decide +kernel

/-! ### Balls -/

/-- The example of R441: channel 53 and its bus RFFE13. -/
theorem test_balls_of_channel_53 :
    (Signal.txOut 53).pos = (6, 53) ∧ (Signal.rxIn 53).pos = (6, 51) ∧ (Signal.fbIn 53).pos = (6, 49) ∧
    (Signal.txen 53).pos = (6, 45) ∧ (Signal.rffeSclk 13).pos = (7, 47) ∧ (Signal.rffeSdata 13).pos = (7, 44) := by decide +kernel
/-- R436, Table 19.2: the groups of balls fill the 60 by 60 field. -/
theorem test_ball_groups_fill_the_field : (BallGroup.all.map BallGroup.balls).foldl (· + ·) 0 = 3600 := by decide +kernel
/-- Table 19.3: DN0_TXP and XL15_RXN. -/
theorem test_balls_of_links : (Signal.dn 0 false false).pos = (16, 18) ∧ (Signal.xl 15 true true).pos = (23, 33) := by decide +kernel
/-- R440: RF field balls with and without a signal. -/
theorem test_rf_field_grounds : [(1, 1), (2, 2), (2, 3), (6, 53), (2, 14)].map rfGround = [true, false, true, false, false] := by decide +kernel
/-- Table 19.10: FRAME_SYNC_OUT without supplies, in RESET_N low, and from BOOT on. -/
theorem test_frame_sync_out_before_service :
    [{ State.reset with pins := { State.reset.pins with supplies := false } },
     { State.reset with pins := { State.reset.pins with resetN := false } }, State.reset].map frameSyncOutBall = [.highZ, .low, .low] := by decide +kernel
/-- R451: SHUTDOWN holds THERM_TRIP_N low. -/
theorem test_shutdown_holds_therm_trip :
    thermTripNBall { State.reset with life := { State.reset.life with power := .shutdown } } = .low := by decide +kernel

/-! ### Well-formed operands: each check refuses an ill-formed term -/

theorem test_ill_formed_manager : Instr.wf (.commit 9) = false := by decide +kernel
theorem test_ill_formed_rod : Instr.wf (.dieLinkAlignmentLoss 6 false) = false := by decide +kernel
theorem test_ill_formed_channel : Instr.wf (.surveyAbandon 96) = false := by decide +kernel
theorem test_ill_formed_slot : Instr.wf (.crossFadeEnd 768) = false := by decide +kernel
theorem test_ill_formed_link : Instr.wf (.dnPortDown 16) = false := by decide +kernel
theorem test_ill_formed_window : Instr.wf (.windowClaimTimeout 5) = false := by decide +kernel
theorem test_ill_formed_path : Instr.wf (.pathStale 0 8) = false := by decide +kernel
theorem test_ill_formed_source : Instr.wf (.restartWithheldExpiry 320) = false := by decide +kernel
theorem test_ill_formed_group : Instr.wf (.tddEpochMissing 8) = false := by decide +kernel
theorem test_ill_formed_zone : Instr.wf (.throttleFreezeEnd 7) = false := by decide +kernel
theorem test_ill_formed_index : Instr.wf (.read 0 65536 0) = false := by decide +kernel
theorem test_ill_formed_subindex : Instr.wf (.read 0 0x1000 256) = false := by decide +kernel
theorem test_ill_formed_stream_kind : Instr.wf (.streamMuteRelease 5) = false := by decide +kernel
theorem test_ill_formed_stream : Instr.wf (.streamLossTimeout 0 96) = false := by decide +kernel
theorem test_ill_formed_byte_value : Instr.wf (.stagingLock 0 256) = false := by decide +kernel
theorem test_ill_formed_word_value : Instr.wf (.ledgerPin 0 65536) = false := by decide +kernel
theorem test_ill_formed_long_value : Instr.wf (.windowSelectorWrite 0 0 (2 ^ 32)) = false := by decide +kernel
theorem test_ill_formed_wall_time : Instr.wf (.wallTimeSet 0 (2 ^ 64)) = false := by decide +kernel
theorem test_ill_formed_notify_manager : Instr.wf (.notify 8) = false := by decide +kernel
theorem test_ill_formed_page : Instr.wf (.tallyWindowRead 0 1 (some 1024)) = false := by decide +kernel
theorem test_ill_formed_ledger_entry : Instr.wf (.trackingMeasurement 65536 none false) = false := by decide +kernel
theorem test_ill_formed_edge_position : Instr.wf (.ppsInEdge 200 14745600) = false := by decide +kernel
theorem test_ill_formed_synthesiser : Instr.wf (.synthLock 0 8) = false := by decide +kernel
theorem test_ill_formed_bus : Instr.wf (.rffeTransactionComplete 24 none) = false := by decide +kernel
theorem test_ill_formed_calibration_step : Instr.wf (.rodCalibrationComplete 0 10 []) = false := by decide +kernel
theorem test_ill_formed_calibration_rod : Instr.wf (.rodCalibrationComplete 0 0 [{ ch := 16 }]) = false := by decide +kernel
theorem test_ill_formed_record : Instr.wf (.sentinelFuseRead [64]) = false := by decide +kernel
theorem test_ill_formed_spectral_bins : Instr.wf (.sentinelSpectralWindow 0 []) = false := by decide +kernel
theorem test_ill_formed_self_tested_channel : Instr.wf (.sentinelSelfTest [96]) = false := by decide +kernel
theorem test_ill_formed_self_check : Instr.wf (.sentinelSelfCheckFailure 3) = false := by decide +kernel
theorem test_ill_formed_port : Instr.wf (.portRestartComplete 32) = false := by decide +kernel
theorem test_ill_formed_queue : Instr.wf (.queueFlush 11 0) = false := by decide +kernel
theorem test_ill_formed_source_entry : Instr.wf (.capturePageWrite 256 false false) = false := by decide +kernel
theorem test_ill_formed_mark : Instr.wf (.markWrite 0 16 0) = false := by decide +kernel
theorem test_ill_formed_replay : Instr.wf (.replayEnd 8) = false := by decide +kernel
theorem test_ill_formed_store_channel : Instr.wf (.ddrChannelFailure 4 true) = false := by decide +kernel
theorem test_ill_formed_code : Instr.wf (.tokenRefill 65536) = false := by decide +kernel
theorem test_ill_formed_snapshot_entry : Instr.wf (.snapshotEntryWrite 0 0 0) = false := by decide +kernel
theorem test_ill_formed_results : Instr.wf (.thermalReading (List.replicate 41 0)) = false := by decide +kernel
theorem test_ill_formed_level : Instr.wf (.monitorChallenge 256) = false := by decide +kernel
theorem test_ill_formed_key_slot : Instr.wf (.monitorOkey 256 []) = false := by decide +kernel
theorem test_ill_formed_target : Instr.wf (.monitorLifecycle 256 []) = false := by decide +kernel
theorem test_ill_formed_block_kind : Instr.wf (.blockRestartComplete 1 0) = false := by decide +kernel
theorem test_ill_formed_event : Instr.wf (.class1SequenceIssue 0 8) = false := by decide +kernel
theorem test_ill_formed_relay_address : Instr.wf (.relayAddressAgeOut 65536) = false := by decide +kernel
theorem test_ill_formed_relay_message : Instr.wf (.relayMessageReceive 0 [1] none) = false := by decide +kernel
theorem test_ill_formed_frame_field : Instr.wf (.ecpriIqMessage 0 { seq := 256 }) = false := by decide +kernel
theorem test_ill_formed_cell : Instr.wf (.searchDwellComplete 0 0 { cells := [{ rat := 0, pci := 1008, freq := 0, level := 0, sinr := 0 }] }) = false := by decide +kernel
theorem test_ill_formed_tick_side : Instr.wf (.governorTick [(768, 0)]) = false := by decide +kernel
theorem test_ill_formed_period : Instr.wf (.cancellerUpdatePeriod 96 none) = false := by decide +kernel
theorem test_ill_formed_collector_level : Instr.wf (.collectorCycle { levels := [(320, true)] }) = false := by decide +kernel
theorem test_ill_formed_block_length : Instr.wf (.reckonerFrame { adc := [(0, List.replicate 145 (0, 0))] }) = false := by decide +kernel
theorem test_ill_formed_code_range : Instr.wf (.reckonerFrame { adc := [(0, [(8192, 0)])] }) = false := by decide +kernel
theorem test_ill_formed_word_hit : Instr.wf (.reckonerFrame { refHits := [{ num := 0, path := 8, pos := 0, mask := 1 }] }) = false := by decide +kernel
theorem test_ill_formed_egress_hit : Instr.wf (.reckonerFrame { egressHits := [{ num := 5, pos := 0, mask := 1 }] }) = false := by decide +kernel
theorem test_ill_formed_bad_word : Instr.wf (.ecpriIqMessage 0 { bad := [(144, 0)] }) = false := by decide +kernel
theorem test_ill_formed_superframe_word : Instr.wf (.throughRepeat 0 { blocks := [0x30000000000000000#66], bad := [] }) = false := by decide +kernel
theorem test_ill_formed_damage_slot : Instr.wf (.reckonerFrame { damage := [{ ch := 0, slot := 9, stage := 0 }] }) = false := by decide +kernel
theorem test_ill_formed_parity_region : Instr.wf (.reckonerFrame { parity := [{ region := 14, offset := 0 }] }) = false := by decide +kernel
theorem test_ill_formed_payload : isPayload (List.replicate 65536 0) = false := by
  rw [isPayload, List.length_replicate]; decide
/-- A well-formed command of each shape passes. -/
theorem test_well_formed : ([.commit 8, .dieLinkAlignmentLoss 5 true, .surveyAbandon 95, .crossFadeEnd 767, .dnPortDown 15, .windowClaimTimeout 4,
    .streamMuteRelease (streamCode 2 15 11), .streamLossTimeout 15 95, .wallTimeSet 0 (2 ^ 64 - 1), .queueFlush 10 0,
    .reckonerFrame {}, .snapshotEntryWrite 7 16 0] : List Instr).all Instr.wf = true := by decide +kernel

end

end Sys2Proof.Tests
end

namespace Sys2Proof.Machine

/-- A running supervisor before the command LOCKSTEP_MISMATCH, with a commit that has passed its checks: the snapshot lists one
object `n` times, and the staging area holds an entry of the same object. -/
def repeatedSnapshot (n : Nat) : State :=
  { commit := { staged := [(0, 0)], snapshot := List.replicate n (0, 0), held := true }
    life := { sup := true, power := .hold }
    pending := [.lockstepMismatch] }

/-- The staging area's entry hides every entry of the snapshot, so that the two together count as one. -/
theorem repeatedSnapshot_stagingInv (n : Nat) : StagingInv (repeatedSnapshot n) := by
  have hidden : (List.replicate n ((0 : Nat), (0 : Nat))).filter (fun e => [((0 : Nat), (0 : Nat))].all fun x => x.1 != e.1) = [] := by
    rw [List.filter_replicate]; rfl
  refine ⟨?_, fun h hl => by cases hl⟩
  simp only [stagedTotal, repeatedSnapshot, hidden]
  decide

/-- A stop of the supervisor empties the staging area and keeps a checked commit's snapshot (R60). -/
theorem stopSupervisor_commit_of_held {s : State} (cause : Nat) (hs : s.life.sup = true) (hh : s.commit.held = true) :
    (stopSupervisor s cause).commit.staged = [] ∧ (stopSupervisor s cause).commit.snapshot = s.commit.snapshot := by
  unfold stopSupervisor
  rw [if_neg (by simp [hs])]
  dsimp only
  by_cases hr : (trialRuns s && decide (3 ≤ cause) && decide (cause ≤ 6)) = true
  · simp [hr, loseStaging, hh, revertTrial]
  · simp [hr, loseStaging, hh]

/-- After the supervisor's stop the whole snapshot counts. -/
theorem repeatedSnapshot_step (n : Nat) : ∃ t, step (repeatedSnapshot n) = .next t ∧ stagedTotal t.commit = n := by
  obtain ⟨hst, hsn⟩ := stopSupervisor_commit_of_held (s := faultEvent { repeatedSnapshot n with pending := [] } 268) 3 rfl rfl
  refine ⟨_, rfl, ?_⟩
  rw [stagedTotal, hst, hsn]
  simp [repeatedSnapshot]

/-- Refutes O4: the bound of the staging area counts an object listed in staging area and snapshot once, but a snapshot that
lists one object 8,193 times is hidden whole behind one staged entry. A lockstep mismatch while a checked commit awaits its
boundary empties the staging area and keeps the snapshot (R60), whose 8,193 entries then all count. -/
theorem not_stepKeepsStagingAndMutesInv : ¬ Obligations.StepKeepsStagingAndMutesInv := by
  rintro ⟨h, -⟩
  obtain ⟨t, hstep, htotal⟩ := repeatedSnapshot_step 8193
  have bound := (h _ t (repeatedSnapshot_stagingInv 8193) hstep).1
  omega

end Sys2Proof.Machine


namespace Sys2Proof.Machine

/-! ### TXEN -/

/-- TXEN is the AND of its terms (R13): each of them low keeps it low. -/
theorem txen_of_muteTerm {s : State} {ch : Nat} (h : (getChan s ch).muteTerm = false) : txen s ch = false := by
  simp [txen, h]

theorem txen_of_muteN {s : State} {ch : Nat} (h : s.pins.muteN = false) : txen s ch = false := by
  simp [txen, h]

/-- A device-scope mute covers every channel. -/
theorem chanMuted_of_device {s : State} {o : Owner} (h : muteAt s o .device) (ch : Nat) : chanMuted s ch = true :=
  List.any_eq_true.2 ⟨_, h, rfl⟩

/-- A rod-scope mute covers the channels of its rod. -/
theorem chanMuted_of_rod {s : State} {o : Owner} {r ch : Nat} (h : muteAt s o (.rod r)) (hch : ch / 16 = r) : chanMuted s ch = true :=
  List.any_eq_true.2 ⟨_, h, by simp [Scope.coversChan, hch]⟩

/-- Settles O8: a covered channel's mute term is low by the one invariant, and the power states of the other cover every channel. -/
theorem mutedChannelsAreSilent : Obligations.MutedChannelsAreSilent := by
  intro s ch hterm hpower h
  have silent (hm : chanMuted s ch = true) : txen s ch = false := txen_of_muteTerm (hterm ch hm)
  rcases h with h | h | h | h | h
  · exact silent h
  · exact silent (chanMuted_of_device (hpower (.inl h)) ch)
  · exact silent (chanMuted_of_device (hpower (.inr (.inl h))) ch)
  · exact silent (chanMuted_of_device (hpower (.inr (.inr h))) ch)
  · exact txen_of_muteN h

end Sys2Proof.Machine


namespace Sys2Proof.Machine

/-! ### The stages' arithmetic -/

/-- Two values have one residue exactly where 255 divides their difference. -/
theorem residue_eq_residue_add {v d : Int} : residue v = residue (v + d) ↔ (255 : Int) ∣ d := by
  rw [← Int.natCast_inj, residue_cast, residue_cast, eq_comm, Int.emod_eq_emod_iff_emod_sub_eq_zero, add_sub_cancel_left,
    Int.dvd_iff_emod_eq_zero]

/-- The quotient's place between the accumulator's neighbours: nearest, halves up (R73). -/
theorem roundQ_nearest {m : Nat} (hm : m ≠ 0) (acc : Int) :
    roundQ m acc * 2 ^ m ≤ acc + 2 ^ (m - 1) ∧ acc + 2 ^ (m - 1) < (roundQ m acc + 1) * 2 ^ m := by
  have hsum := roundQ_roundT hm acc
  obtain ⟨hlo, hhi⟩ := roundT_range hm acc
  constructor
  · omega
  · rw [add_mul, one_mul]; omega

@[simp] theorem roundQ_zero (acc : Int) : roundQ 0 acc = acc := if_pos rfl

/-- An error added to an accumulator passes the stage rule exactly where 255 divides it, with every shift (R127). -/
theorem stageRule_error_iff_dvd (m : Nat) (acc d : Int) :
    stageRule m (residue acc) (roundQ m (acc + d)) (roundT m (acc + d)) = true ↔ (255 : Int) ∣ d := by
  by_cases hm : m = 0
  · subst hm
    rw [stageRule, if_pos rfl, beq_iff_eq, roundQ_zero, residue_eq_residue_add]
  · rw [stageRule_error hm, Int.modEq_zero_iff_dvd]

/-- An indicator inverted differs from the saturation it stands for. -/
theorem bne_true_beq_self (b : Bool) : ((b != true) == b) = false := by cases b <;> rfl

/-- Settles O53: the rounding lies between its neighbours, the check's verdict is that of the error alone, and an inverted
indicator disagrees with the saturation it is compared with. -/
theorem stageArithmetic : Obligations.StageArithmetic := by
  intro m acc _
  refine ⟨fun hm => roundQ_nearest (Nat.ne_of_gt hm) acc, fun hm => by rw [hm, roundQ_zero], (sat16_range _).1, (sat16_range _).2,
    sat16_of_range, ?_, fun err => ?_, fun err => ?_, fun a stage p tags sub htags => ?_⟩
  · have pass : stageRule m (residue acc) (roundQ m acc) (roundT m acc) = true := by
      simpa using (stageRule_error_iff_dvd m acc 0).2 (dvd_zero _)
    simp [formPart, issuedResidue, pass]
  · simp [formPart, stageRule_error_iff_dvd]
  · simp only [formPart, bne_true_beq_self, Bool.and_false]
  · rw [formSmp, if_pos htags]

end Sys2Proof.Machine


namespace Sys2Proof.Machine

/-! ### Reset -/

/-- An object's key gives its index and its subindex back. -/
@[simp] theorem key_div {sub : Nat} (idx : Nat) (h : sub < 256) : key idx sub / 256 = idx := by unfold key; omega
@[simp] theorem key_mod {sub : Nat} (idx : Nat) (h : sub < 256) : key idx sub % 256 = sub := by unfold key; omega

/-- What an unlisted object reads as is its table's default. -/
theorem dfltOf_key {idx sub : Nat} {o : Obj} (h : sub < 256) (ho : dictObj idx sub = some o) : dfltOf (key idx sub) = o.dflt := by
  simp [dfltOf, h, ho]

/-- With no mute active no channel is covered by one. -/
theorem muteTermInv_of_no_mutes {s : State} (h : s.mutes = []) : MuteTermInv s := by
  intro ch hm
  simp [chanMuted, h] at hm

/-- Settles O2: no table of the reset state lists anything, so that everything reads as its default. -/
theorem resetStateAndInvariants : Obligations.ResetStateAndInvariants := by
  refine ⟨⟨rfl, rfl, rfl, rfl, rfl, fun ch => ⟨rfl, rfl⟩, fun g => ⟨rfl, rfl, rfl, rfl⟩, fun idx sub o hsub ho => ?_, rfl⟩,
    ⟨by decide, fun h hl => by cases hl⟩, List.nodup_nil, muteTermInv_of_no_mutes rfl, fun h => ?_⟩
  · exact dfltOf_key hsub ho
  · rcases h with h | h | h <;> cases h

end Sys2Proof.Machine

namespace Sys2Proof.Machine

/-! ### Covered channels and their mute terms (R31, R32) -/

/-- The mute terms that a table of channels holds. -/
def muteTerms (cs : SMap Chan) (ch : Nat) : Bool := (smGet {} cs ch).muteTerm

/-- Every channel that one of the mutes covers has its term low. -/
def CoveredLow (ms : List Mute) (terms : Nat → Bool) : Prop := ∀ ch, (ms.any fun m => m.scope.coversChan ch) = true → terms ch = false

/-- The invariant of R31 and R32, read from the two fields of State it speaks of. -/
@[simp] abbrev TermsLow (s : State) : Prop := CoveredLow s.mutes (muteTerms s.chans)

theorem muteTermInv_iff (s : State) : MuteTermInv s ↔ TermsLow s := Iff.rfl

/-- Where mutes end, every channel still covered was covered before. -/
@[simp] theorem CoveredLow.filter {ms : List Mute} {terms : Nat → Bool} (h : CoveredLow ms terms) (p : Mute → Bool) :
    CoveredLow (ms.filter p) terms := fun ch hm =>
  h ch (by
    obtain ⟨m, hmem, hc⟩ := List.any_eq_true.1 hm
    exact List.any_eq_true.2 ⟨m, (List.mem_filter.1 hmem).1, hc⟩)

@[simp] theorem CoveredLow.nil (terms : Nat → Bool) : CoveredLow [] terms := fun _ h => by cases h

@[simp] theorem muteTerms_ite (c : Prop) [Decidable c] (a b : SMap Chan) :
    muteTerms (if c then a else b) = if c then muteTerms a else muteTerms b := by split <;> rfl

/-- A channel given the mute term it has leaves every mute term. -/
theorem muteTerms_modChan_of_eq (s : State) (ch : Nat) (f : Chan → Chan) (hf : (f (getChan s ch)).muteTerm = muteTerms s.chans ch) :
    muteTerms (modChan s ch f).chans = muteTerms s.chans := by
  funext k
  show (getChan (modChan s ch f) k).muteTerm = (getChan s k).muteTerm
  by_cases hk : k = ch
  · rw [hk, getChan_modChan, hf]; rfl
  · rw [getChan_modChan_ne _ _ _ _ hk]

@[simp] theorem coveredLow_ite_mutes (c : Prop) [Decidable c] (ms ms' : List Mute) (terms : Nat → Bool) :
    CoveredLow (if c then ms else ms') terms ↔ (c → CoveredLow ms terms) ∧ (¬c → CoveredLow ms' terms) := by
  split <;> simp_all

theorem termsLow_ite (c : Prop) [Decidable c] {a b : State} (ha : c → TermsLow a) (hb : ¬c → TermsLow b) : TermsLow (if c then a else b) := by
  split
  · exact ha ‹_›
  · exact hb ‹_›

/-- A change of a channel that leaves its mute term leaves every mute term. -/
@[simp] theorem muteTerms_modChan (s : State) (ch : Nat) (f : Chan → Chan) (hf : ∀ c, (f c).muteTerm = c.muteTerm) :
    muteTerms (modChan s ch f).chans = muteTerms s.chans := muteTerms_modChan_of_eq s ch f (hf _)

@[simp] theorem muteTerms_modCanc (s : State) (ch : Nat) (f : Canceller → Canceller) : muteTerms (modCanc s ch f).chans = muteTerms s.chans :=
  muteTerms_modChan s ch _ fun _ => rfl
@[simp] theorem muteTerms_modPath (s : State) (ch p : Nat) (f : CPath → CPath) : muteTerms (modPath s ch p f).chans = muteTerms s.chans :=
  muteTerms_modCanc s ch _
@[simp] theorem muteTerms_modNines (s : State) (ch : Nat) (f : Nines → Nines) : muteTerms (modNines s ch f).chans = muteTerms s.chans :=
  muteTerms_modChan s ch _ fun _ => rfl
@[simp] theorem muteTerms_modRadio (s : State) (ch : Nat) (f : RadioCh → RadioCh) : muteTerms (modRadio s ch f).chans = muteTerms s.chans :=
  muteTerms_modChan s ch _ fun _ => rfl
@[simp] theorem muteTerms_modMis (s : State) (ch : Nat) (f : Mismatch → Mismatch) : muteTerms (modMis s ch f).chans = muteTerms s.chans :=
  muteTerms_modChan s ch _ fun _ => rfl
@[simp] theorem muteTerms_modSent (s : State) (ch : Nat) (f : SentCh → SentCh) : muteTerms (modSent s ch f).chans = muteTerms s.chans :=
  muteTerms_modChan s ch _ fun _ => rfl

/-- What each step of a loop leaves of the mute terms, the loop leaves. -/
@[simp] theorem muteTerms_forEach {α : Type} (xs : List α) (f : State → α → State) (s : State)
    (h : ∀ u x, muteTerms (f u x).chans = muteTerms u.chans) : muteTerms (forEach xs s f).chans = muteTerms s.chans :=
  forEach_keep (fun u => muteTerms u.chans) xs f h s

/-- A state whose covered terms are low. -/
abbrev LowState : Type := { u : State // TermsLow u }

@[simp] theorem LowState.termsLow (u : LowState) : TermsLow u.1 := u.2

/-- A loop each of whose steps keeps the covered terms low keeps them low. -/
@[simp] theorem termsLow_forEach {α : Type} (xs : List α) (f : State → α → State) (s : State)
    (h : ∀ (u : LowState) x, TermsLow (f u.1 x)) (hs : TermsLow s) : TermsLow (forEach xs s f) :=
  forEach_inv TermsLow xs f (fun u x hu => h ⟨u, hu⟩ x) s hs

/-- A state whose mutes cover only channels of low terms, the terms being given. -/
abbrev LowUnder (terms : Nat → Bool) : Type := { u : State // CoveredLow u.mutes terms }

@[simp] theorem LowUnder.coveredLow {terms : Nat → Bool} (u : LowUnder terms) : CoveredLow u.1.mutes terms := u.2

/-- A loop that covers no channel anew, whatever the terms. -/
@[simp] theorem coveredLow_forEach {α : Type} (xs : List α) (f : State → α → State) (s : State) {terms : Nat → Bool}
    (h : ∀ (u : LowUnder terms) x, CoveredLow (f u.1 x).mutes terms) (hs : CoveredLow s.mutes terms) :
    CoveredLow (forEach xs s f).mutes terms :=
  forEach_inv (fun u => CoveredLow u.mutes terms) xs f (fun u x hu => h ⟨u, hu⟩ x) s hs

/-- What holds of the state that an outcome goes on with. -/
def Ends (P : State → Prop) (o : Host.Outcome State Fault Refusal) : Prop := ∀ t, o = .next t → P t

@[simp] theorem ends_next (P : State → Prop) (t : State) : Ends P (.next t) ↔ P t :=
  ⟨fun h => h t rfl, fun h _ e => by cases e; exact h⟩

@[simp] theorem ends_ite (P : State → Prop) (c : Prop) [Decidable c] (a b : Host.Outcome State Fault Refusal) :
    Ends P (if c then a else b) ↔ (c → Ends P a) ∧ (¬c → Ends P b) := by
  split <;> simp_all

/-! ### Mutes asserted and released -/

@[simp] theorem txenLow_muteTerms (s : State) (ch : Nat) : muteTerms (txenLow s ch).chans = muteTerms s.chans := by simp [txenLow]

@[simp] theorem txenDrops_muteTerms (before s : State) : muteTerms (txenDrops before s).chans = muteTerms s.chans := by
  simp [txenDrops]

@[simp] theorem txenFalls_muteTerms (before s : State) : muteTerms (txenFalls before s).chans = muteTerms s.chans := by
  simp [txenFalls]

/-- A number that a table does not list reads as its default. -/
theorem smGet_of_not_mem {α : Type} (d : α) {m : SMap α} {k : Nat} (h : k ∉ m.map (·.1)) : smGet d m k = d := by
  induction m with
  | nil => rfl
  | cons e m ih =>
    rw [List.map_cons, List.mem_cons, not_or] at h
    rw [smGet, if_neg (Ne.symm h.1), ih h.2]

/-- A loop over channels that lowers each one's term has lowered those it names and raised none. -/
theorem muteTerms_lower (xs : List Nat) (s : State) (ch : Nat) :
    muteTerms (forEach xs s fun s ch => modChan s ch fun c => { c with muteTerm := false, outClear := false }).chans ch =
      (muteTerms s.chans ch && !xs.contains ch) := by
  induction xs generalizing s with
  | nil => simp [forEach]
  | cons x xs ih =>
    have step : muteTerms (modChan s x fun c => { c with muteTerm := false, outClear := false }).chans ch =
        (muteTerms s.chans ch && !(ch == x)) := by
      show (getChan (modChan s x _) ch).muteTerm = ((getChan s ch).muteTerm && _)
      by_cases hx : ch = x
      · simp [hx]
      · simp [getChan_modChan_ne _ _ _ _ hx, hx]
    rw [forEach, List.foldl_cons, ← forEach, ih, step, List.contains_cons]
    cases muteTerms s.chans ch <;> cases (ch == x) <;> rfl

/-- With the mute terms dropped where the mutes no longer permit them, every covered channel's is low (R32). -/
theorem dropMuteTerms_termsLow (s : State) : TermsLow (dropMuteTerms s) := by
  intro ch hm
  have same : (dropMuteTerms s).mutes = s.mutes := by simp
  rw [same] at hm
  rw [dropMuteTerms, muteTerms_lower]
  cases ht : muteTerms s.chans ch with
  | false => rfl
  | true =>
    have listed : ch ∈ s.chans.map (·.1) := by
      by_contra hmem
      rw [muteTerms, smGet_of_not_mem _ hmem] at ht
      cases ht
    have dropped : ((getChan s ch).muteTerm && !mutePermits s ch) = true := by
      rw [show (getChan s ch).muteTerm = true from ht, mutePermits, show chanMuted s ch = true from hm]; rfl
    rw [List.contains_iff_mem.2 (List.mem_filter.2 ⟨listed, dropped⟩)]; rfl

/-- A mute asserted finds the terms it covers low, and leaves them low. -/
@[simp] theorem addMute_termsLow (s : State) (o : Owner) (sc : Scope) (h : TermsLow s) : TermsLow (addMute s o sc) := by
  unfold addMute
  dsimp only
  split
  · exact h
  · simpa using dropMuteTerms_termsLow { s with mutes := s.mutes ++ [⟨o, sc⟩] }

/-- A release leaves no more covered channels than there were, whatever the terms. -/
@[simp] theorem dropMute_coveredLow (s : State) (o : Owner) {terms : Nat → Bool} (h : CoveredLow s.mutes terms) :
    CoveredLow (dropMute s o).mutes terms := h.filter _

theorem tallyEvent_termsLow {s : State} (h : TermsLow s) (code source : Nat) (args : List Nat) : TermsLow (tallyEvent s code source args) := by
  simpa using h

theorem dropMute_termsLow (s : State) (o : Owner) (h : TermsLow s) : TermsLow (dropMute s o) := by simp [h]

/-! ### What each operation does to mutes and mute terms

In the order of the model's files: an operation that touches neither, one that leaves every mute term, one that keeps the
covered terms low. -/

/-! #### Nines.lean -/

@[simp] theorem countLost_muteTerms (s : State) (ch : Nat) (word : Nat) (f : Nines → Nines) :
    muteTerms (countLost s ch word f).chans = muteTerms s.chans := by
  simp [countLost]
@[simp] theorem recordFailure_muteTerms (s : State) (ch : Nat) (word : Nat) :
    muteTerms (recordFailure s ch word).chans = muteTerms s.chans := by
  simp [recordFailure]
@[simp] theorem recordFails_muteTerms (s : State) (ch : Nat) (inject : Option (Nat × Nat)) (fails : List (Nat × Nat)) :
    muteTerms (recordFails s ch inject fails).2.chans = muteTerms s.chans := by
  unfold recordFails; (repeat' split) <;> simp

/-! #### SamplePath.lean -/

/-- A block's work written back leaves the mute terms where the work holds the channel's own. -/
@[simp] theorem writeBack_muteTerms (s : State) (ch : Nat) (w : Work) (hw : w.chan.muteTerm = muteTerms s.chans ch) :
    muteTerms (writeBack s ch w).chans = muteTerms s.chans := by
  unfold writeBack
  dsimp only
  rw [foldl_chans _ _ _ (fun u x => by simp)]
  exact muteTerms_modChan_of_eq s ch _ hw
@[simp] theorem writeBackPoisoned_muteTerms (s : State) (ch : Nat) (w : Work) (hw : w.chan.muteTerm = muteTerms s.chans ch) :
    muteTerms (writeBackPoisoned s ch w).chans = muteTerms s.chans := by
  simp [writeBackPoisoned, hw]

/-! #### Syntax.lean -/

/-- The computation of a block takes the channel's mute term over. -/
@[simp] theorem computeWork_muteTerm (inp : FrameInput) (s : State) (ch : Nat) (prx ptx second : Bool) :
    (computeWork inp s ch prx ptx second).chan.muteTerm = muteTerms s.chans ch := by
  unfold computeWork receiveCsr
  cases prx <;> rfl
@[simp] theorem failedBlock_muteTerms (inp : FrameInput) (st : RodRun) (ch : Nat) (inject : Option (Nat × Nat)) (double : Bool) (fails : List (Nat × Nat)) :
    muteTerms (failedBlock inp st ch inject double fails).1.chans = muteTerms st.1.chans := by
  have back (s : State) (prx ptx second : Bool) : muteTerms (writeBackPoisoned s ch (computeWork inp s ch prx ptx second)).chans = muteTerms s.chans := by
    simp
  unfold failedBlock
  dsimp only
  (repeat' split) <;> simp [back]

/-! #### Ops.lean -/

@[simp] theorem foldWall_mutes_chans (s : State) : (foldWall s).mutes = s.mutes ∧ (foldWall s).chans = s.chans := by
  simp [foldWall]
@[simp] theorem alignStamp_mutes_chans (s : State) : (alignStamp s).mutes = s.mutes ∧ (alignStamp s).chans = s.chans := by
  simp [alignStamp]

/-! #### Nines.lean -/

@[simp] theorem inheritedBlock_muteTerms (inp : FrameInput) (s : State) (ch : Nat) (inject : Option (Nat × Nat)) (entry inherited : Bool) (w : Work)
    (hw : w.chan.muteTerm = muteTerms s.chans ch) : muteTerms (inheritedBlock inp s ch inject entry inherited w).chans = muteTerms s.chans := by
  unfold inheritedBlock
  cases entry <;> cases inherited <;> simp [hw]
@[simp] theorem ninesBlock_muteTerms (inp : FrameInput) (st : RodRun) (ch : Nat) :
    muteTerms (ninesBlock inp st ch).1.chans = muteTerms st.1.chans := by
  unfold ninesBlock
  dsimp only
  (repeat' split) <;> simp
@[simp] theorem ninesFrame_muteTerms (inp : FrameInput) (s : State) : muteTerms (ninesFrame inp s).chans = muteTerms s.chans := by
  refine muteTerms_forEach _ _ s fun u r => ?_
  split
  · exact foldFst_keep (fun v => muteTerms v.chans) _ (ninesBlock_muteTerms inp) _ _
  · rfl
@[simp] theorem execRodDieExitFailure_termsLow (ch : Nat) (frame : Nat) (s : State) (h : TermsLow s) :
    Ends TermsLow (execRodDieExitFailure ch frame s) := by
  simp [execRodDieExitFailure, h]

/-! #### Loops.lean -/

@[simp] theorem muteSides_termsLow (s : State) (r : Nat) (h : TermsLow s) : TermsLow (muteSides s r) := by
  simp [muteSides, h]
@[simp] theorem loopMute_termsLow (s : State) (r : Nat) (row : Nat) (e : Eval) (h : TermsLow s) : TermsLow (loopMute s r row e) := by
  simp [loopMute, h]
@[simp] theorem loopUnmute_termsLow (s : State) (r : Nat) (e : Eval) (h : TermsLow s) : TermsLow (loopUnmute s r e) := by
  simp [loopUnmute, h]
@[simp] theorem endLoop_termsLow (s : State) (r : Nat) (h : TermsLow s) : TermsLow (endLoop s r) := by
  simp [endLoop, h]

/-! #### Protection.lean -/

@[simp] theorem pinEntry_mutes_chans (s : State) (i : Nat) : (pinEntry s i).2.mutes = s.mutes ∧ (pinEntry s i).2.chans = s.chans := by
  simp [pinEntry]
@[simp] theorem unpinEntry_mutes_chans (s : State) (i : Nat) : (unpinEntry s i).mutes = s.mutes ∧ (unpinEntry s i).chans = s.chans := by
  simp [unpinEntry]
@[simp] theorem clearLedger_mutes_chans (s : State) : (clearLedger s).mutes = s.mutes ∧ (clearLedger s).chans = s.chans := by
  simp [clearLedger]
@[simp] theorem protMute_termsLow (s : State) (o : Owner) (g : Nat) (rule : Nat) (h : TermsLow s) : TermsLow (protMute s o g rule) := by
  unfold protMute; (repeat' split) <;> simp [h]
@[simp] theorem protRelease_coveredLow (s : State) (o : Owner) (g : Nat) (rule : Nat) {terms : Nat → Bool} (h : CoveredLow s.mutes terms) :
    CoveredLow (protRelease s o g rule).mutes terms := by
  simp [protRelease, h]
@[simp] theorem enterLoss_termsLow (s : State) (g : Nat) (h : TermsLow s) : TermsLow (enterLoss s g) := by
  simp [enterLoss, h]
@[simp] theorem execDonorLossEntry_termsLow (g : Nat) (s : State) (h : TermsLow s) : Ends TermsLow (execDonorLossEntry g s) := by
  simp [execDonorLossEntry, h]
@[simp] theorem execDonorLossRelease_termsLow (g : Nat) (s : State) (h : TermsLow s) : Ends TermsLow (execDonorLossRelease g s) := by
  unfold execDonorLossRelease; (repeat' split) <;> simp [h]
@[simp] theorem setIdentity_termsLow (s : State) (g : Nat) (ok : Bool) (h : TermsLow s) : TermsLow (setIdentity s g ok) := by
  unfold setIdentity; (repeat' split) <;> simp [h]
@[simp] theorem execIdentityTest_termsLow (s : State) (h : TermsLow s) : Ends TermsLow (execIdentityTest s) := by
  unfold execIdentityTest
  dsimp only
  split
  · simp [h]
  · rw [ends_next]
    refine termsLow_forEach _ _ _ (fun u x => ?_) (by simp [h])
    (repeat' split) <;> simp
@[simp] theorem shownRise_mutes_chans (s : State) (g : Nat) (k : Int) (ntx : Int) (pl : Int) (ncell : Int) :
    (shownRise s g k ntx pl ncell).mutes = s.mutes ∧ (shownRise s g k ntx pl ncell).chans = s.chans := by
  unfold shownRise; (repeat' split) <;> simp
@[simp] theorem noiseRiseTick_termsLow (s : State) (g : Nat) (h : TermsLow s) : TermsLow (noiseRiseTick s g) := by
  unfold noiseRiseTick; dsimp only; (repeat' split) <;> simp [h]
@[simp] theorem noiseRise_termsLow (s : State) (h : TermsLow s) : TermsLow (noiseRise s) := by
  unfold noiseRise
  refine termsLow_forEach _ _ _ (fun u g => by simp) (termsLow_forEach _ _ _ (fun u g => by simp) h)
@[simp] theorem setGroup_termsLow (s : State) (i : Nat) (st : Nat) (h : TermsLow s) : TermsLow (setGroup s i st) := by
  unfold setGroup; (repeat' split) <;> simp [h]
@[simp] theorem tidyGroup_termsLow (s : State) (i : Nat) (h : TermsLow s) : TermsLow (tidyGroup s i) := by
  simp [tidyGroup, h]
@[simp] theorem lockedEpoch_termsLow (s : State) (i : Nat) (pos : Nat) (g : TddGroup) (h : TermsLow s) :
    TermsLow (lockedEpoch s i pos g) := by
  unfold lockedEpoch; dsimp only; (repeat' split) <;> simp [h]
@[simp] theorem tddEpoch_termsLow (s : State) (i : Nat) (pos : Nat) (h : TermsLow s) : TermsLow (tddEpoch s i pos) := by
  unfold tddEpoch; dsimp only; (repeat' split) <;> simp [h]
@[simp] theorem ppsEpoch_termsLow (s : State) (i : Nat) (h : TermsLow s) : TermsLow (ppsEpoch s i) := by
  unfold ppsEpoch; dsimp only; (repeat' split) <;> simp [h]
@[simp] theorem groupsFrame_termsLow (s : State) (h : TermsLow s) : TermsLow (groupsFrame s) := by
  simp [groupsFrame, h]
@[simp] theorem execFrameSyncInEdge_termsLow (highNs : Nat) (pos : Nat) (s : State) (h : TermsLow s) :
    Ends TermsLow (execFrameSyncInEdge highNs pos s) := by
  simp [execFrameSyncInEdge, h]
@[simp] theorem execPpsInEdge_termsLow (highNs : Nat) (pos : Nat) (s : State) (h : TermsLow s) : Ends TermsLow (execPpsInEdge highNs pos s) := by
  simp [execPpsInEdge, h]
@[simp] theorem execTddEpochMissing_termsLow (grp : Nat) (s : State) (h : TermsLow s) : Ends TermsLow (execTddEpochMissing grp s) := by
  simp [execTddEpochMissing, h]
@[simp] theorem execHoldoverLimitExpiry_termsLow (grp : Nat) (s : State) (h : TermsLow s) : Ends TermsLow (execHoldoverLimitExpiry grp s) := by
  simp [execHoldoverLimitExpiry, h]
@[simp] theorem endFallback_mutes_chans (s : State) (r : Nat) :
    (endFallback s r).mutes = s.mutes ∧ (endFallback s r).chans = s.chans := by
  simp [endFallback]
@[simp] theorem execSearchDwellComplete_termsLow (r : Nat) (g : Nat) (dwell : Dwell) (s : State) (h : TermsLow s) :
    Ends TermsLow (execSearchDwellComplete r g dwell s) := by
  simp [execSearchDwellComplete, h]
@[simp] theorem missedOccasion_mutes_chans (s : State) (entry : Nat) :
    (missedOccasion s entry).mutes = s.mutes ∧ (missedOccasion s entry).chans = s.chans := by
  simp [missedOccasion]
@[simp] theorem execTrackingMeasurement_termsLow (entry : Nat) (meas : Option CellMeas) (parity : Bool) (s : State) (h : TermsLow s) :
    Ends TermsLow (execTrackingMeasurement entry meas parity s) := by
  unfold execTrackingMeasurement; dsimp only; (repeat' split) <;> simp [h]
@[simp] theorem finderLost_termsLow (s : State) (r : Nat) (st : Nat) (h : TermsLow s) : TermsLow (finderLost s r st) := by
  simp [finderLost, h]
@[simp] theorem execCellFinderFailure_termsLow (r : Nat) (s : State) (h : TermsLow s) : Ends TermsLow (execCellFinderFailure r s) := by
  simp [execCellFinderFailure, h]

/-! #### Radio.lean -/

@[simp] theorem staleBands_mutes_chans (s : State) (r : Nat) : (staleBands s r).mutes = s.mutes ∧ (staleBands s r).chans = s.chans := by
  simp [staleBands]
@[simp] theorem noteBand_mutes_chans (s : State) (r : Nat) (lo : Nat) :
    (noteBand s r lo).mutes = s.mutes ∧ (noteBand s r lo).chans = s.chans := by
  simp [noteBand]
@[simp] theorem tuneSynth_mutes_chans (s : State) (r : Nat) (n : Nat) (lo : Nat) :
    (tuneSynth s r n lo).mutes = s.mutes ∧ (tuneSynth s r n lo).chans = s.chans := by
  simp [tuneSynth]
@[simp] theorem dropHandover_mutes_chans (s : State) (r : Nat) :
    (dropHandover s r).mutes = s.mutes ∧ (dropHandover s r).chans = s.chans := by
  unfold dropHandover; (repeat' split) <;> simp
@[simp] theorem freeSynths_mutes_chans (s : State) (r : Nat) : (freeSynths s r).mutes = s.mutes ∧ (freeSynths s r).chans = s.chans := by
  unfold freeSynths; (repeat' split) <;> simp
@[simp] theorem fillSynths_mutes_chans (s : State) (r : Nat) : (fillSynths s r).mutes = s.mutes ∧ (fillSynths s r).chans = s.chans := by
  unfold fillSynths
  dsimp only
  generalize htuned : forEach _ s _ = t
  have tuned : t.mutes = s.mutes ∧ t.chans = s.chans := by
    rw [← htuned]
    exact forEach_inv (fun u : State => u.mutes = s.mutes ∧ u.chans = s.chans) _ _ (fun u lo hu => by split <;> simp [hu]) s ⟨rfl, rfl⟩
  (repeat' split) <;> simp [tuned]
@[simp] theorem assignChan_mutes_muteTerms (s : State) (ch : Nat) :
    (assignChan s ch).mutes = s.mutes ∧ muteTerms (assignChan s ch).chans = muteTerms s.chans := by
  simp [assignChan]
@[simp] theorem assignSynths_mutes_muteTerms (s : State) (r : Nat) :
    (assignSynths s r).mutes = s.mutes ∧ muteTerms (assignSynths s r).chans = muteTerms s.chans := by
  simp [assignSynths]
@[simp] theorem beginLead_muteTerms (s : State) (ch : Nat) : muteTerms (beginLead s ch).chans = muteTerms s.chans := by
  simp [beginLead]
@[simp] theorem noteLate_muteTerms (s : State) (ch : Nat) : muteTerms (noteLate s ch).chans = muteTerms s.chans := by
  simp [noteLate]
@[simp] theorem noteLates_muteTerms (s : State) : muteTerms (noteLates s).chans = muteTerms s.chans := by
  simp [noteLates]
@[simp] theorem startTransition_muteTerms (s : State) (ch : Nat) (t : Radio) :
    muteTerms (startTransition s ch t).chans = muteTerms s.chans := by
  simp [startTransition]
@[simp] theorem startDrop_muteTerms (s : State) (ch : Nat) (t : Radio) (drop : Bool) :
    muteTerms (startDrop s ch t drop).chans = muteTerms s.chans := by
  simp [startDrop]
@[simp] theorem callOff_muteTerms (s : State) (ch : Nat) (goal : Radio) : muteTerms (callOff s ch goal).chans = muteTerms s.chans := by
  simp [callOff]
@[simp] theorem stepRadio_muteTerms (s : State) (ch : Nat) (goal : Radio) :
    muteTerms (stepRadio s ch goal).chans = muteTerms s.chans := by
  simp [stepRadio]
@[simp] theorem driveRadio_muteTerms (s : State) (ch : Nat) : muteTerms (driveRadio s ch).chans = muteTerms s.chans := by
  unfold driveRadio; (repeat' split) <;> simp
@[simp] theorem driveAll_mutes_muteTerms (s : State) (chs : List Nat) :
    (driveAll s chs).mutes = s.mutes ∧ muteTerms (driveAll s chs).chans = muteTerms s.chans := by
  simp [driveAll]
@[simp] theorem driveFree_muteTerms (s : State) (chs : List Nat) : muteTerms (driveFree s chs).chans = muteTerms s.chans := by
  simp [driveFree]
@[simp] theorem retrimChan_mutes_muteTerms (s : State) (ch : Nat) :
    (retrimChan s ch).mutes = s.mutes ∧ muteTerms (retrimChan s ch).chans = muteTerms s.chans := by
  unfold retrimChan; (repeat' split) <;> simp
@[simp] theorem dropToSynth_muteTerms (s : State) (ch : Nat) : muteTerms (dropToSynth s ch).chans = muteTerms s.chans := by
  simp [dropToSynth]
@[simp] theorem interrupt_muteTerms (s : State) (ch : Nat) : muteTerms (interrupt s ch).chans = muteTerms s.chans := by
  simp [interrupt]
@[simp] theorem recalDue_muteTerms (s : State) (r : Nat) : muteTerms (recalDue s r).chans = muteTerms s.chans := by
  unfold recalDue; (repeat' split) <;> simp
@[simp] theorem execRadioTransitionEnd_termsLow (ch : Nat) (s : State) (h : TermsLow s) : Ends TermsLow (execRadioTransitionEnd ch s) := by
  unfold execRadioTransitionEnd; dsimp only; (repeat' split) <;> simp [h]
@[simp] theorem execClass1SequenceIssue_termsLow (ch : Nat) (event : Nat) (s : State) (h : TermsLow s) :
    Ends TermsLow (execClass1SequenceIssue ch event s) := by
  simp [execClass1SequenceIssue, h]
@[simp] theorem execTxCommandReject_termsLow (ch : Nat) (s : State) (h : TermsLow s) : Ends TermsLow (execTxCommandReject ch s) := by
  unfold execTxCommandReject; (repeat' split) <;> simp [h]
@[simp] theorem execSynthLock_termsLow (r : Nat) (n : Nat) (s : State) (h : TermsLow s) : Ends TermsLow (execSynthLock r n s) := by
  simp [execSynthLock, h]
@[simp] theorem execSynthLockLoss_termsLow (r : Nat) (n : Nat) (s : State) (h : TermsLow s) : Ends TermsLow (execSynthLockLoss r n s) := by
  simp [execSynthLockLoss, h]
@[simp] theorem execReliefHandover_termsLow (r : Nat) (s : State) (h : TermsLow s) : Ends TermsLow (execReliefHandover r s) := by
  unfold execReliefHandover; (repeat' split) <;> simp [h]
@[simp] theorem dueSynths_mutes_muteTerms (s : State) (r : Nat) :
    (dueSynths s r).mutes = s.mutes ∧ muteTerms (dueSynths s r).chans = muteTerms s.chans := by
  unfold dueSynths
  dsimp only
  simp only [recalDue_keeps, recalDue_muteTerms]
  rw [forEach_mutes, forEach_chans]
  · simp
  all_goals intro u n; (repeat' split) <;> simp
@[simp] theorem freshSynths_mutes_chans (s : State) (r : Nat) :
    (freshSynths s r).mutes = s.mutes ∧ (freshSynths s r).chans = s.chans := by
  simp [freshSynths]
@[simp] theorem sleepChannel_mutes_muteTerms (s : State) (ch : Nat) :
    (sleepChannel s ch).mutes = s.mutes ∧ muteTerms (sleepChannel s ch).chans = muteTerms s.chans := by
  simp [sleepChannel]
@[simp] theorem radioOff_mutes_muteTerms (s : State) (r : Nat) :
    (radioOff s r).mutes = s.mutes ∧ muteTerms (radioOff s r).chans = muteTerms s.chans := by
  simp [radioOff]
@[simp] theorem execTddTxWindowStart_termsLow (ch : Nat) (s : State) (h : TermsLow s) : Ends TermsLow (execTddTxWindowStart ch s) := by
  unfold execTddTxWindowStart; (repeat' split) <;> simp [h]
@[simp] theorem execTddTxWindowEnd_termsLow (ch : Nat) (s : State) (h : TermsLow s) : Ends TermsLow (execTddTxWindowEnd ch s) := by
  simp [execTddTxWindowEnd, h]
@[simp] theorem writeTuner_mutes_chans (s : State) (ch : Nat) (st : Nat) :
    (writeTuner s ch st).mutes = s.mutes ∧ (writeTuner s ch st).chans = s.chans := by
  simp [writeTuner]
@[simp] theorem startSearch_muteTerms (s : State) (ch : Nat) : muteTerms (startSearch s ch).chans = muteTerms s.chans := by
  simp [startSearch]
@[simp] theorem searchStep_mutes_muteTerms (s : State) (ch : Nat) :
    (searchStep s ch).mutes = s.mutes ∧ muteTerms (searchStep s ch).chans = muteTerms s.chans := by
  simp [searchStep]
@[simp] theorem searchResult_mutes_muteTerms (s : State) (ch : Nat) (rl : Int) :
    (searchResult s ch rl).mutes = s.mutes ∧ muteTerms (searchResult s ch rl).chans = muteTerms s.chans := by
  simp [searchResult]
@[simp] theorem setMismatch_muteTerms (s : State) (ch : Nat) (st : Nat) : muteTerms (setMismatch s ch st).chans = muteTerms s.chans := by
  simp [setMismatch]
@[simp] theorem enterCapped_muteTerms (s : State) (ch : Nat) : muteTerms (enterCapped s ch).chans = muteTerms s.chans := by
  simp [enterCapped]
@[simp] theorem enterMuted_termsLow (s : State) (ch : Nat) (h : TermsLow s) : TermsLow (enterMuted s ch) := by
  simp [enterMuted, h]
@[simp] theorem enterNormal_muteTerms (s : State) (ch : Nat) : muteTerms (enterNormal s ch).chans = muteTerms s.chans := by
  simp [enterNormal]
@[simp] theorem turnDue_muteTerms (s : State) (ch : Nat) (st : Nat) : muteTerms (turnDue s ch st).chans = muteTerms s.chans := by
  simp [turnDue]
@[simp] theorem endProbe_termsLow (s : State) (ch : Nat) (h : TermsLow s) : TermsLow (endProbe s ch) := by
  unfold endProbe; (repeat' split) <;> simp [h]
@[simp] theorem mismatchTurn_termsLow (s : State) (ch : Nat) (h : TermsLow s) : TermsLow (mismatchTurn s ch) := by
  unfold mismatchTurn; dsimp only; (repeat' split) <;> simp [h]
@[simp] theorem mismatchTurns_termsLow (s : State) (h : TermsLow s) : TermsLow (mismatchTurns s) := by
  simp [mismatchTurns, h]
@[simp] theorem mismatchResult_mutes_muteTerms (s : State) (ch : Nat) :
    (mismatchResult s ch).mutes = s.mutes ∧ muteTerms (mismatchResult s ch).chans = muteTerms s.chans := by
  unfold mismatchResult; dsimp only; (repeat' split) <;> simp
@[simp] theorem skipMeasurement_muteTerms (s : State) (ch : Nat) : muteTerms (skipMeasurement s ch).chans = muteTerms s.chans := by
  simp [skipMeasurement]
@[simp] theorem openWindow_mutes_muteTerms (s : State) (ch : Nat) (p : Int) :
    (openWindow s ch p).mutes = s.mutes ∧ muteTerms (openWindow s ch p).chans = muteTerms s.chans := by
  simp [openWindow]
@[simp] theorem switchTest_termsLow (s : State) (ch : Nat) (p : Int) (h : TermsLow s) : TermsLow (switchTest s ch p) := by
  unfold switchTest; dsimp only; (repeat' split) <;> simp [h]
@[simp] theorem execMismatchMeasurement_termsLow (ch : Nat) (power : Option Int) (s : State) (h : TermsLow s) :
    Ends TermsLow (execMismatchMeasurement ch power s) := by
  unfold execMismatchMeasurement; dsimp only; (repeat' split) <;> simp [h]
@[simp] theorem closeWindow_termsLow (s : State) (ch : Nat) (power : Option Int) (h : TermsLow s) :
    TermsLow (closeWindow s ch power) := by
  unfold closeWindow; (repeat' split) <;> simp [h]
@[simp] theorem execReflectedWindowLengthEnd_termsLow (ch : Nat) (power : Int) (s : State) (h : TermsLow s) :
    Ends TermsLow (execReflectedWindowLengthEnd ch power s) := by
  unfold execReflectedWindowLengthEnd; dsimp only; (repeat' split) <;> simp [h]
@[simp] theorem txnDone_mutes_muteTerms (s : State) (t : Txn) :
    (txnDone s t).mutes = s.mutes ∧ muteTerms (txnDone s t).chans = muteTerms s.chans := by
  simp [txnDone]
@[simp] theorem execRffeTransactionComplete_termsLow (bus : Nat) (power : Option Int) (s : State) (h : TermsLow s) :
    Ends TermsLow (execRffeTransactionComplete bus power s) := by
  unfold execRffeTransactionComplete; dsimp only; (repeat' split) <;> simp [h]
@[simp] theorem execMismatchProbe_termsLow (ch : Nat) (s : State) (h : TermsLow s) : Ends TermsLow (execMismatchProbe ch s) := by
  simp [execMismatchProbe, h]
@[simp] theorem probeLimit_muteTerms (s : State) : muteTerms (probeLimit s).chans = muteTerms s.chans := by
  simp [probeLimit]
@[simp] theorem execTunerSearchStep_termsLow (ch : Nat) (s : State) (h : TermsLow s) : Ends TermsLow (execTunerSearchStep ch s) := by
  simp [execTunerSearchStep, h]
@[simp] theorem tunerStateWrite_mutes_muteTerms (s : State) (ch : Nat) (v : Nat) :
    (tunerStateWrite s ch v).2.mutes = s.mutes ∧ muteTerms (tunerStateWrite s ch v).2.chans = muteTerms s.chans := by
  simp [tunerStateWrite]
@[simp] theorem startRodCal_termsLow (s : State) (r : Nat) (h : TermsLow s) : TermsLow (startRodCal s r) := by
  simp [startRodCal, h]
@[simp] theorem calRequest_termsLow (s : State) (ch : Nat) (v : Nat) (h : TermsLow s) : TermsLow (calRequest s ch v).2 := by
  unfold calRequest; (repeat' split) <;> simp [h]
@[simp] theorem trimRefs_mutes_chans (s : State) (r : Nat) : (trimRefs s r).mutes = s.mutes ∧ (trimRefs s r).chans = s.chans := by
  simp [trimRefs]
@[simp] theorem retrimRod_mutes_muteTerms (s : State) (r : Nat) :
    (retrimRod s r).mutes = s.mutes ∧ muteTerms (retrimRod s r).chans = muteTerms s.chans := by
  simp [retrimRod]

/-! #### Canceller.lean -/

@[simp] theorem cancellerRod_mutes_muteTerms (s : State) (r : Nat) (contribToo : Bool) :
    (cancellerRod s r contribToo).mutes = s.mutes ∧ muteTerms (cancellerRod s r contribToo).chans = muteTerms s.chans := by
  simp [cancellerRod]
@[simp] theorem modelParity_muteTerms (s : State) (ch : Nat) (p : Nat) (active : Bool) :
    muteTerms (modelParity s ch p active).chans = muteTerms s.chans := by
  simp [modelParity]
@[simp] theorem channelFigures_muteTerms (s : State) (ch : Nat) (n : Nat) (w : ObsWindow) :
    muteTerms (channelFigures s ch n w).chans = muteTerms s.chans := by
  simp [channelFigures]
@[simp] theorem revert_muteTerms (s : State) (ch : Nat) : muteTerms (revert s ch).chans = muteTerms s.chans := by
  simp [revert]
@[simp] theorem unmeasured_muteTerms (s : State) (ch : Nat) (ps : List Nat) :
    muteTerms (unmeasured s ch ps).chans = muteTerms s.chans := by
  simp [unmeasured]
@[simp] theorem surveySpan_muteTerms (s : State) (ch : Nat) (n : Nat) (w : ObsWindow) :
    muteTerms (surveySpan s ch n w).chans = muteTerms s.chans := by
  unfold surveySpan; (repeat' split) <;> simp
@[simp] theorem runWindow_muteTerms (s : State) (ch : Nat) (w : ObsWindow) : muteTerms (runWindow s ch w).chans = muteTerms s.chans := by
  simp [runWindow]
@[simp] theorem watchChannel_muteTerms (s : State) (ch : Nat) : muteTerms (watchChannel s ch).chans = muteTerms s.chans := by
  simp [watchChannel]
@[simp] theorem guardBefore_muteTerms (s : State) (ch : Nat) : muteTerms (guardBefore s ch).chans = muteTerms s.chans := by
  simp [guardBefore]
@[simp] theorem watchFrame_muteTerms (s : State) : muteTerms (watchFrame s).chans = muteTerms s.chans := by
  simp [watchFrame]
@[simp] theorem idlePaths_muteTerms (s : State) : muteTerms (idlePaths s).chans = muteTerms s.chans := by
  simp [idlePaths]
@[simp] theorem workPeriod_muteTerms (s : State) (ch : Nat) (bad : Option Nat) (w : ObsWindow) :
    muteTerms (workPeriod s ch bad w).chans = muteTerms s.chans := by
  unfold workPeriod; (repeat' split) <;> simp
@[simp] theorem endPeriod_mutes_muteTerms (s : State) (ch : Nat) (skips : Bool) :
    (endPeriod s ch skips).mutes = s.mutes ∧ muteTerms (endPeriod s ch skips).chans = muteTerms s.chans := by
  simp [endPeriod]
@[simp] theorem execCancellerUpdatePeriod_termsLow (ch : Nat) (bad : Option Nat) (s : State) (h : TermsLow s) :
    Ends TermsLow (execCancellerUpdatePeriod ch bad s) := by
  unfold execCancellerUpdatePeriod; dsimp only; (repeat' split) <;> simp [h]
@[simp] theorem applyModels_muteTerms (s : State) (ch : Nat) : muteTerms (applyModels s ch).chans = muteTerms s.chans := by
  simp [applyModels]
@[simp] theorem execCancellerModelApply_termsLow (ch : Nat) (s : State) (h : TermsLow s) : Ends TermsLow (execCancellerModelApply ch s) := by
  simp [execCancellerModelApply, h]
@[simp] theorem engineLimit_muteTerms (s : State) (ch : Nat) : muteTerms (engineLimit s ch).chans = muteTerms s.chans := by
  unfold engineLimit; dsimp only; (repeat' split) <;> simp
@[simp] theorem engineLimits_muteTerms (s : State) : muteTerms (engineLimits s).chans = muteTerms s.chans := by
  simp [engineLimits]
@[simp] theorem execTrainingTimeout_termsLow (ch : Nat) (p : Nat) (s : State) (h : TermsLow s) : Ends TermsLow (execTrainingTimeout ch p s) := by
  simp [execTrainingTimeout, h]
@[simp] theorem execPathStale_termsLow (ch : Nat) (p : Nat) (s : State) (h : TermsLow s) : Ends TermsLow (execPathStale ch p s) := by
  simp [execPathStale, h]
@[simp] theorem execSurveyComplete_termsLow (ch : Nat) (badDelay : Option Nat) (badGain : Option Nat) (s : State) (h : TermsLow s) :
    Ends TermsLow (execSurveyComplete ch badDelay badGain s) := by
  simp [execSurveyComplete, h]
@[simp] theorem execSurveyAbandon_termsLow (ch : Nat) (s : State) (h : TermsLow s) : Ends TermsLow (execSurveyAbandon ch s) := by
  simp [execSurveyAbandon, h]
@[simp] theorem surveyWrite_mutes_muteTerms (s : State) (ch : Nat) (v : Nat) :
    (surveyWrite s ch v).2.mutes = s.mutes ∧ muteTerms (surveyWrite s ch v).2.chans = muteTerms s.chans := by
  simp [surveyWrite]
@[simp] theorem freezeWrite_mutes_muteTerms (s : State) (ch : Nat) (p : Nat) (v : Nat) :
    (freezeWrite s ch p v).mutes = s.mutes ∧ muteTerms (freezeWrite s ch p v).chans = muteTerms s.chans := by
  simp [freezeWrite]
@[simp] theorem modelResetWrite_mutes_muteTerms (s : State) (ch : Nat) (p : Nat) (v : Nat) :
    (modelResetWrite s ch p v).2.mutes = s.mutes ∧ muteTerms (modelResetWrite s ch p v).2.chans = muteTerms s.chans := by
  simp [modelResetWrite]
@[simp] theorem snapshotWrite_mutes_muteTerms (s : State) (ch : Nat) (v : Nat) :
    (snapshotWrite s ch v).2.mutes = s.mutes ∧ muteTerms (snapshotWrite s ch v).2.chans = muteTerms s.chans := by
  simp [snapshotWrite]

/-! #### Links.lean -/

@[simp] theorem setStream_termsLow (s : State) (code : Nat) (st : Nat) (h : TermsLow s) : TermsLow (setStream s code st) := by
  unfold setStream; dsimp only; (repeat' split) <;> simp [h]
@[simp] theorem releaseStreamMutes_coveredLow (s : State) {terms : Nat → Bool} (h : CoveredLow s.mutes terms) :
    CoveredLow (releaseStreamMutes s).mutes terms := by
  simp [releaseStreamMutes, h]
@[simp] theorem pushBlock_mutes_chans (s : State) (code : Nat) (k : Nat) (frames : Nat) (xs : List Smp) :
    (pushBlock s code k frames xs).mutes = s.mutes ∧ (pushBlock s code k frames xs).chans = s.chans := by
  simp [pushBlock]
@[simp] theorem pushPoison_mutes_chans (s : State) (code : Nat) (k : Nat) (frames : Nat) (n : Nat) :
    (pushPoison s code k frames n).mutes = s.mutes ∧ (pushPoison s code k frames n).chans = s.chans := by
  simp [pushPoison]
@[simp] theorem itemArrives_termsLow (s : State) (queue num : Nat) (lost go : State → State) (hl : ∀ u : LowState, TermsLow (lost u.1))
    (hg : ∀ u : LowState, TermsLow (go u.1)) (h : TermsLow s) : TermsLow (itemArrives s queue num lost go) :=
  termsLow_ite _ (fun _ => hl ⟨flushQueue s queue num, by simp [h]⟩) fun _ => hg ⟨s, h⟩
@[simp] theorem losePort_termsLow (s : State) (kind : Nat) (l : Nat) (h : TermsLow s) : TermsLow (losePort s kind l) := by
  simp [losePort, h]
@[simp] theorem acquirePort_termsLow (s : State) (kind l : Nat) (h : TermsLow s) : TermsLow (acquirePort s kind l) := by
  refine termsLow_forEach _ _ _ (fun u n => ?_) h
  dsimp only
  split <;> simp
@[simp] theorem dnDown_termsLow (s : State) (l : Nat) (h : TermsLow s) : TermsLow (dnDown s l) := by
  simp [dnDown, h]
@[simp] theorem restartDn_termsLow (s : State) (l : Nat) (h : TermsLow s) : TermsLow (restartDn s l) := by
  simp [restartDn, h]
@[simp] theorem xlDown_termsLow (s : State) (l : Nat) (keepLock : Bool) (h : TermsLow s) : TermsLow (xlDown s l keepLock) := by
  unfold xlDown; dsimp only; (repeat' split) <;> simp [h]
@[simp] theorem laneDown_termsLow (s : State) (l : Nat) (h : TermsLow s) : TermsLow (laneDown s l) := by
  simp [laneDown, h]
@[simp] theorem restartXl_termsLow (s : State) (l : Nat) (h : TermsLow s) : TermsLow (restartXl s l) := by
  simp [restartXl, h]
@[simp] theorem flushPort_mutes_chans (s : State) (queues : List Nat) (l : Nat) :
    (flushPort s queues l).mutes = s.mutes ∧ (flushPort s queues l).chans = s.chans := by
  simp [flushPort]
@[simp] theorem restartSeqs_mutes_chans (s : State) (l : Nat) :
    (restartSeqs s l).mutes = s.mutes ∧ (restartSeqs s l).chans = s.chans := by
  simp [restartSeqs]
@[simp] theorem forgetLane_mutes_chans (s : State) (l : Nat) : (forgetLane s l).mutes = s.mutes ∧ (forgetLane s l).chans = s.chans := by
  simp [forgetLane]
@[simp] theorem endPllRestart_mutes_chans (s : State) : (endPllRestart s).mutes = s.mutes ∧ (endPllRestart s).chans = s.chans := by
  simp [endPllRestart]
@[simp] theorem portRestarted_termsLow (s : State) (port : Nat) (h : TermsLow s) : TermsLow (portRestarted s port) := by
  unfold portRestarted; dsimp only; (repeat' split) <;> simp [h]
@[simp] theorem execPortRestartComplete_termsLow (port : Nat) (s : State) (h : TermsLow s) : Ends TermsLow (execPortRestartComplete port s) := by
  simp [execPortRestartComplete, h]
@[simp] theorem execDnPortDown_termsLow (l : Nat) (s : State) (h : TermsLow s) : Ends TermsLow (execDnPortDown l s) := by
  simp [execDnPortDown, h]
@[simp] theorem execDnPortUp_termsLow (l : Nat) (s : State) (h : TermsLow s) : Ends TermsLow (execDnPortUp l s) := by
  unfold execDnPortUp; dsimp only; (repeat' split) <;> simp [h]
@[simp] theorem execQueueFlush_termsLow (queue : Nat) (num : Nat) (s : State) (h : TermsLow s) : Ends TermsLow (execQueueFlush queue num s) := by
  simp [execQueueFlush, h]
@[simp] theorem readFrame_termsLow (s : State) (l : Nat) (f : DnFrame) (go : State → State) (hg : ∀ u : LowState, TermsLow (go u.1))
    (h : TermsLow s) : TermsLow (readFrame s l f go) :=
  termsLow_ite _ (fun _ => by simp [h]) fun _ => hg ⟨linkParity s 1 l (if f.msgType = 0 then 0 else 1) (f.bad.map (·.2)), by simp [h]⟩
@[simp] theorem takeFrame_termsLow (s : State) (l : Nat) (f : DnFrame) (typ : Nat) (go : State → State) (hg : ∀ u : LowState, TermsLow (go u.1))
    (h : TermsLow s) : TermsLow (takeFrame s l f typ go) :=
  termsLow_ite _ (fun _ => h) fun _ => termsLow_ite _ (fun _ => by simp [h]) fun _ => termsLow_ite _ (fun _ => h) fun _ =>
    itemArrives_termsLow _ _ _ _ _ (fun u => u.2) (fun u => readFrame_termsLow _ _ _ _ hg u.2) (by simp [h])
@[simp] theorem execDnFrameDiscard_termsLow (port : Nat) (frame : DnFrame) (s : State) (h : TermsLow s) :
    Ends TermsLow (execDnFrameDiscard port frame s) := by
  unfold execDnFrameDiscard; (repeat' split) <;> simp [h]
@[simp] theorem resyncStream_termsLow (s : State) (code : Nat) (h : TermsLow s) : TermsLow (resyncStream s code) := by
  simp [resyncStream, h]
@[simp] theorem acquireStream_termsLow (s : State) (code : Nat) (k : Nat) (seq : Nat) (xs : List Smp) (h : TermsLow s) :
    TermsLow (acquireStream s code k seq xs) := by
  simp [acquireStream, h]
@[simp] theorem scheduleMessage_termsLow (s : State) (code : Nat) (k : Nat) (seq : Nat) (xs : List Smp) (h : TermsLow s) :
    TermsLow (scheduleMessage s code k seq xs) := by
  unfold scheduleMessage; dsimp only; (repeat' split) <;> simp [h]
@[simp] theorem execEcpriIqMessage_termsLow (port : Nat) (frame : DnFrame) (s : State) (h : TermsLow s) : Ends TermsLow (execEcpriIqMessage port frame s) := by
  unfold execEcpriIqMessage
  rw [ends_next]
  refine takeFrame_termsLow _ _ _ _ _ (fun u => ?_) h
  dsimp only
  (repeat' split) <;> simp
@[simp] theorem execEcpriDelayRequest_termsLow (port : Nat) (frame : DnFrame) (s : State) (h : TermsLow s) :
    Ends TermsLow (execEcpriDelayRequest port frame s) := by
  simp [execEcpriDelayRequest, h]
@[simp] theorem execEcpriRemoteDelayRequest_termsLow (port : Nat) (frame : DnFrame) (s : State) (h : TermsLow s) :
    Ends TermsLow (execEcpriRemoteDelayRequest port frame s) := by
  simp [execEcpriRemoteDelayRequest, h]
@[simp] theorem execEcpriDelayResponse_termsLow (port : Nat) (frame : DnFrame) (s : State) (h : TermsLow s) :
    Ends TermsLow (execEcpriDelayResponse port frame s) := by
  simp [execEcpriDelayResponse, h]
@[simp] theorem delayWrite_mutes_chans (s : State) (l : Nat) (v : Nat) :
    (delayWrite s l v).2.mutes = s.mutes ∧ (delayWrite s l v).2.chans = s.chans := by
  simp [delayWrite]
@[simp] theorem execDelayResponseTimeout_termsLow (port : Nat) (s : State) (h : TermsLow s) :
    Ends TermsLow (execDelayResponseTimeout port s) := by
  simp [execDelayResponseTimeout, h]
@[simp] theorem execStreamLossTimeout_termsLow (port : Nat) (str : Nat) (s : State) (h : TermsLow s) :
    Ends TermsLow (execStreamLossTimeout port str s) := by
  simp [execStreamLossTimeout, h]
@[simp] theorem execStreamMuteRelease_termsLow (code : Nat) (s : State) (h : TermsLow s) : Ends TermsLow (execStreamMuteRelease code s) := by
  simp [execStreamMuteRelease, h]
@[simp] theorem execStreamDonorPathLost_termsLow (code : Nat) (s : State) (h : TermsLow s) : Ends TermsLow (execStreamDonorPathLost code s) := by
  simp [execStreamDonorPathLost, h]
@[simp] theorem execEcpriEgressMessage_termsLow (port : Nat) (str : Nat) (s : State) (h : TermsLow s) :
    Ends TermsLow (execEcpriEgressMessage port str s) := by
  unfold execEcpriEgressMessage; dsimp only; (repeat' split) <;> simp [h]
@[simp] theorem relayShare_mutes_chans (s : State) (l : Nat) : (relayShare s l).mutes = s.mutes ∧ (relayShare s l).chans = s.chans := by
  simp [relayShare]
@[simp] theorem sendSuperframe_mutes_chans (s : State) (l : Nat) (iq : List (BitVec 64)) (trailer : BitVec 56) (m : Nat) :
    (sendSuperframe s l iq trailer m).mutes = s.mutes ∧ (sendSuperframe s l iq trailer m).chans = s.chans := by
  simp [sendSuperframe]
@[simp] theorem deliverQuarters_termsLow (s : State) (l rel flags : Nat) (qs : SMap (List Smp)) (h : TermsLow s) :
    TermsLow (deliverQuarters s l rel flags qs) := by
  refine termsLow_forEach _ _ _ (fun u n => ?_) h
  dsimp only
  split <;> simp
@[simp] theorem missSuperframes_mutes_chans (s : State) (l : Nat) (n : Nat) :
    (missSuperframes s l n).mutes = s.mutes ∧ (missSuperframes s l n).chans = s.chans := by
  simp [missSuperframes]
@[simp] theorem patchQuarters_mutes_chans (s : State) (l : Nat) (back : Nat) (flags : Nat) (qs : SMap (List Smp)) :
    (patchQuarters s l back flags qs).mutes = s.mutes ∧ (patchQuarters s l back flags qs).chans = s.chans := by
  simp [patchQuarters]
@[simp] theorem noteSwitch_mutes_chans (s : State) (l : Nat) (n : Nat) :
    (noteSwitch s l n).mutes = s.mutes ∧ (noteSwitch s l n).chans = s.chans := by
  simp [noteSwitch]
@[simp] theorem laneUp_termsLow (s : State) (l : Nat) (drift : Int) (h : TermsLow s) : TermsLow (laneUp s l drift) := by
  unfold laneUp; dsimp only; (repeat' split) <;> simp [h]
@[simp] theorem laneDrift_mutes_chans (s : State) (l : Nat) (drift : Int) :
    (laneDrift s l drift).mutes = s.mutes ∧ (laneDrift s l drift).chans = s.chans := by
  simp [laneDrift]
@[simp] theorem delayLane_mutes_chans (s : State) (l : Nat) (rel : Nat) :
    (delayLane s l rel).mutes = s.mutes ∧ (delayLane s l rel).chans = s.chans := by
  simp [delayLane]
@[simp] theorem shareBoundary_mutes_chans (s : State) (l : Nat) :
    (shareBoundary s l).mutes = s.mutes ∧ (shareBoundary s l).chans = s.chans := by
  simp [shareBoundary]
@[simp] theorem placeQuarters_termsLow (s : State) (a : Nat) (l : Nat) (n : Nat) (flags : Nat) (qs : SMap (List Smp)) (h : TermsLow s) :
    TermsLow (placeQuarters s a l n flags qs) := by
  unfold placeQuarters; dsimp only; (repeat' split) <;> simp [h]
@[simp] theorem skipSwitches_mutes_chans (s : State) (l : Nat) (skipped : Nat) :
    (skipSwitches s l skipped).mutes = s.mutes ∧ (skipSwitches s l skipped).chans = s.chans := by
  simp [skipSwitches]
@[simp] theorem deliverSuperframe_termsLow (s : State) (l : Nat) (sf : Superframe) (good : Bool) (skipped : Nat) (h : TermsLow s) :
    TermsLow (deliverSuperframe s l sf good skipped) := by
  unfold deliverSuperframe; dsimp only; (repeat' split) <;> simp [h]
@[simp] theorem execSuperframeReceive_termsLow (lane : Nat) (sf : Superframe) (drift : Int) (s : State) (h : TermsLow s) :
    Ends TermsLow (execSuperframeReceive lane sf drift s) := by
  unfold execSuperframeReceive; dsimp only; (repeat' split) <;> simp [h]
@[simp] theorem execLaneBlockLockLoss_termsLow (lane : Nat) (s : State) (h : TermsLow s) : Ends TermsLow (execLaneBlockLockLoss lane s) := by
  simp [execLaneBlockLockLoss, h]
@[simp] theorem execSuperframeTransmit_termsLow (lane : Nat) (s : State) (h : TermsLow s) : Ends TermsLow (execSuperframeTransmit lane s) := by
  simp [execSuperframeTransmit, h]
@[simp] theorem execThroughRepeat_termsLow (lane : Nat) (sf : Superframe) (s : State) (h : TermsLow s) :
    Ends TermsLow (execThroughRepeat lane sf s) := by
  simp [execThroughRepeat, h]

/-! #### Capture.lean -/

@[simp] theorem suspendSources_mutes_chans (s : State) : (suspendSources s).mutes = s.mutes ∧ (suspendSources s).chans = s.chans := by
  unfold suspendSources
  constructor
  · exact foldl_mutes _ _ _ fun u e => by split <;> simp
  · exact foldl_chans _ _ _ fun u e => by split <;> simp
@[simp] theorem resumeSources_mutes_chans (s : State) (es : List (Nat × Nat)) :
    (resumeSources s es).mutes = s.mutes ∧ (resumeSources s es).chans = s.chans := by
  simp [resumeSources]
@[simp] theorem noteFit_mutes_chans (s : State) : (noteFit s).mutes = s.mutes ∧ (noteFit s).chans = s.chans := by
  simp [noteFit]
@[simp] theorem fitSources_mutes_chans (s : State) : (fitSources s).mutes = s.mutes ∧ (fitSources s).chans = s.chans := by
  simp [fitSources]
@[simp] theorem captureControl_mutes_chans (s : State) (v : Nat) :
    (captureControl s v).2.mutes = s.mutes ∧ (captureControl s v).2.chans = s.chans := by
  simp [captureControl]
@[simp] theorem markControl_mutes_chans (s : State) (m : Nat) (v : Nat) :
    (markControl s m v).mutes = s.mutes ∧ (markControl s m v).chans = s.chans := by
  simp [markControl]
@[simp] theorem unuseMarks_mutes_chans (s : State) : (unuseMarks s).mutes = s.mutes ∧ (unuseMarks s).chans = s.chans := by
  simp [unuseMarks]
@[simp] theorem manualFire_mutes_chans (s : State) (m : Nat) : (manualFire s m).mutes = s.mutes ∧ (manualFire s m).chans = s.chans := by
  simp [manualFire]
@[simp] theorem noteBadPage_mutes_chans (s : State) (n : Nat) :
    (noteBadPage s n).mutes = s.mutes ∧ (noteBadPage s n).chans = s.chans := by
  simp [noteBadPage]
@[simp] theorem replayControl_mutes_chans (s : State) (r : Nat) (v : Nat) :
    (replayControl s r v).2.mutes = s.mutes ∧ (replayControl s r v).2.chans = s.chans := by
  unfold replayControl; dsimp only; (repeat' split) <;> simp
@[simp] theorem exportControl_mutes_chans (s : State) (l : Nat) (v : Nat) :
    (exportControl s l v).mutes = s.mutes ∧ (exportControl s l v).chans = s.chans := by
  simp [exportControl]
@[simp] theorem exportPage_mutes_chans (s : State) (port : Nat) (p : List Word) (endFlag : Bool) :
    (exportPage s port p endFlag).mutes = s.mutes ∧ (exportPage s port p endFlag).chans = s.chans := by
  unfold exportPage
  exact ⟨forEach_mutes _ _ _ fun u f => rfl, forEach_chans _ _ _ fun u f => rfl⟩
@[simp] theorem execExportPageSend_termsLow (port : Nat) (s : State) (h : TermsLow s) : Ends TermsLow (execExportPageSend port s) := by
  unfold execExportPageSend; dsimp only; (repeat' split) <;> simp [h]
@[simp] theorem reachMarks_mutes_chans (s : State) (hit : List Nat) :
    (reachMarks s hit).mutes = s.mutes ∧ (reachMarks s hit).chans = s.chans := by
  simp [reachMarks]
@[simp] theorem noteClosed_mutes_chans (s : State) (e : Nat) (p : List Word) (m : Nat) :
    (noteClosed s e p m).mutes = s.mutes ∧ (noteClosed s e p m).chans = s.chans := by
  simp [noteClosed]
@[simp] theorem fillMarks_mutes_chans (s : State) (e : Nat) (p : List Word) :
    (fillMarks s e p).mutes = s.mutes ∧ (fillMarks s e p).chans = s.chans := by
  simp [fillMarks]
@[simp] theorem execCapturePageWrite_termsLow (entry : Nat) (parity : Bool) (overflow : Bool) (s : State) (h : TermsLow s) :
    Ends TermsLow (execCapturePageWrite entry parity overflow s) := by
  unfold execCapturePageWrite; (repeat' split) <;> simp [h]
@[simp] theorem execReplayEnd_termsLow (rep : Nat) (s : State) (h : TermsLow s) : Ends TermsLow (execReplayEnd rep s) := by
  simp [execReplayEnd, h]
@[simp] theorem spoilPage_mutes_chans (s : State) (n : Nat) : (spoilPage s n).mutes = s.mutes ∧ (spoilPage s n).chans = s.chans := by
  unfold spoilPage; dsimp only; (repeat' split) <;> simp
@[simp] theorem execDdrChannelFailure_termsLow (n : Nat) (trainingOrPhy : Bool) (s : State) (h : TermsLow s) :
    Ends TermsLow (execDdrChannelFailure n trainingOrPhy s) := by
  simp [execDdrChannelFailure, h]
@[simp] theorem retrainDdr_mutes_chans (s : State) (n : Nat) : (retrainDdr s n).mutes = s.mutes ∧ (retrainDdr s n).chans = s.chans := by
  simp [retrainDdr]
@[simp] theorem formRing_mutes_chans (s : State) : (formRing s).mutes = s.mutes ∧ (formRing s).chans = s.chans := by
  simp [formRing]

/-! #### Filters.lean -/

@[simp] theorem resetSlot_mutes_chans (s : State) (g : Nat) (chanScope : Bool) :
    (resetSlot s g chanScope).mutes = s.mutes ∧ (resetSlot s g chanScope).chans = s.chans := by
  simp [resetSlot]
@[simp] theorem noteReset_mutes_muteTerms (s : State) (ch : Nat) :
    (noteReset s ch).mutes = s.mutes ∧ muteTerms (noteReset s ch).chans = muteTerms s.chans := by
  simp [noteReset]
@[simp] theorem resetSlots_mutes_muteTerms (s : State) (ch : Nat) (gs : List Nat) :
    (resetSlots s ch gs).mutes = s.mutes ∧ muteTerms (resetSlots s ch gs).chans = muteTerms s.chans := by
  simp [resetSlots]
@[simp] theorem resetChannel_mutes_muteTerms (s : State) (ch : Nat) :
    (resetChannel s ch).mutes = s.mutes ∧ muteTerms (resetChannel s ch).chans = muteTerms s.chans := by
  simp [resetChannel]
@[simp] theorem resetRod_mutes_muteTerms (s : State) (r : Nat) :
    (resetRod s r).mutes = s.mutes ∧ muteTerms (resetRod s r).chans = muteTerms s.chans := by
  simp [resetRod]
@[simp] theorem resetBy_mutes_muteTerms (s : State) (ch sub v : Nat) :  (resetBy s ch sub v).mutes = s.mutes ∧ muteTerms (resetBy s ch sub v).chans = muteTerms s.chans := by
  unfold resetBy
  split <;> simp
@[simp] theorem resetWrite_mutes_muteTerms (s : State) (ch : Nat) (sub : Nat) (v : Nat) :
    (resetWrite s ch sub v).mutes = s.mutes ∧ muteTerms (resetWrite s ch sub v).chans = muteTerms s.chans := by
  simp [resetWrite]
@[simp] theorem sealMute_termsLow (s : State) (g : Nat) (h : TermsLow s) : TermsLow (sealMute s g) := by
  unfold sealMute; (repeat' split) <;> simp [h]
@[simp] theorem bankParity_termsLow (s : State) (g : Nat) (b : Nat) (h : TermsLow s) : TermsLow (bankParity s g b) := by
  simp [bankParity, h]
@[simp] theorem switchBank_termsLow (s : State) (g : Nat) (t : Nat) (h : TermsLow s) : TermsLow (switchBank s g t) := by
  simp [switchBank, h]
@[simp] theorem launchSwap_termsLow (s : State) (g : Nat) (t : Nat) (h : TermsLow s) : TermsLow (launchSwap s g t) := by
  unfold launchSwap; dsimp only; (repeat' split) <;> simp [h]
@[simp] theorem queueSwap_mutes_chans (s : State) (g : Nat) (t : Nat) (f : XFade) :
    (queueSwap s g t f).mutes = s.mutes ∧ (queueSwap s g t f).chans = s.chans := by
  simp [queueSwap]
@[simp] theorem swapWrite_termsLow (s : State) (g : Nat) (t : Nat) (h : TermsLow s) : TermsLow (swapWrite s g t).2 := by
  unfold swapWrite; dsimp only; (repeat' split) <;> simp [h]
@[simp] theorem dropSwap_termsLow (s : State) (g : Nat) (h : TermsLow s) : TermsLow (dropSwap s g) := by
  simp [dropSwap, h]
@[simp] theorem endFade_termsLow (s : State) (g : Nat) (f : XFade) (go : State → Nat → State) (hg : ∀ (u : LowState) t, TermsLow (go u.1 t))
    (h : TermsLow s) : TermsLow (endFade s g f go) := by
  unfold endFade
  dsimp only
  (repeat' split)
  · simp [h]
  · exact sealMute_termsLow _ _ (hg ⟨_, by simpa using h⟩ _)
  · simp [h]
@[simp] theorem execCrossFadeEnd_termsLow (g : Nat) (s : State) (h : TermsLow s) : Ends TermsLow (execCrossFadeEnd g s) := by
  unfold execCrossFadeEnd; (repeat' split) <;> simp [h]
@[simp] theorem completeSwaps_termsLow (s : State) (g : Nat) (h : TermsLow s) : TermsLow (completeSwaps s g) := by
  unfold completeSwaps; (repeat' split) <;> simp [h]
@[simp] theorem judgeThresholds_mutes_chans (s : State) (g : Nat) :
    (judgeThresholds s g).mutes = s.mutes ∧ (judgeThresholds s g).chans = s.chans := by
  simp [judgeThresholds]
@[simp] theorem execPowerDetectorWindow_termsLow (g : Nat) (s : State) (h : TermsLow s) : Ends TermsLow (execPowerDetectorWindow g s) := by
  unfold execPowerDetectorWindow; (repeat' split) <;> simp [h]

/-! #### Licence.lean -/

@[simp] theorem licenceTest_termsLow (s : State) (h : TermsLow s) : TermsLow (licenceTest s) := by
  refine termsLow_forEach _ _ _ (fun u x => ?_) h
  split <;> simp
@[simp] theorem burnLicence_mutes_chans (s : State) (g : Nat) (readBackOk : Bool) :
    (burnLicence s g readBackOk).2.mutes = s.mutes ∧ (burnLicence s g readBackOk).2.chans = s.chans := by
  unfold burnLicence; dsimp only; (repeat' split) <;> simp
@[simp] theorem loadShadow_mutes_chans (s : State) : (loadShadow s).mutes = s.mutes ∧ (loadShadow s).chans = s.chans := by
  simp [loadShadow]
@[simp] theorem bootShadow_mutes_chans (s : State) : (bootShadow s).mutes = s.mutes ∧ (bootShadow s).chans = s.chans := by
  simp [bootShadow]
@[simp] theorem execLicenceGenerationActivate_termsLow (s : State) (h : TermsLow s) : Ends TermsLow (execLicenceGenerationActivate s) := by
  unfold execLicenceGenerationActivate; (repeat' split) <;> simp [h]
@[simp] theorem execLicenceShadowCompare_termsLow (shadowOk : Bool) (s : State) (h : TermsLow s) :
    Ends TermsLow (execLicenceShadowCompare shadowOk s) := by
  simp [execLicenceShadowCompare, h]

/-! #### Sentinel.lean -/

@[simp] theorem trip_termsLow (s : State) (ch : Nat) (kind : Nat) (h : TermsLow s) : TermsLow (trip s ch kind) := by
  unfold trip; dsimp only; (repeat' split) <;> simp [h]
@[simp] theorem execSentinelOverpowerInterval_termsLow (ch : Nat) (fb : Int) (s : State) (h : TermsLow s) :
    Ends TermsLow (execSentinelOverpowerInterval ch fb s) := by
  unfold execSentinelOverpowerInterval; dsimp only; (repeat' split) <;> simp [h]
@[simp] theorem execSentinelSpectralWindow_termsLow (ch : Nat) (bins : List Int) (s : State) (h : TermsLow s) :
    Ends TermsLow (execSentinelSpectralWindow ch bins s) := by
  unfold execSentinelSpectralWindow; dsimp only; (repeat' split) <;> simp [h]
@[simp] theorem gateWrite_termsLow (s : State) (ch : Nat) (h : TermsLow s) : TermsLow (gateWrite s ch).2 := by
  unfold gateWrite
  dsimp only
  (repeat' split)
  · exact h
  · exact h
  · exact tallyEvent_termsLow (dropMute_termsLow _ _ (dropMute_termsLow _ _ (by simp [h]))) _ _ _
  · exact dropMute_termsLow _ _ (dropMute_termsLow _ _ (by simp [h]))
@[simp] theorem sentinelFail_termsLow (s : State) (h : TermsLow s) : TermsLow (sentinelFail s) := by
  unfold sentinelFail; (repeat' split) <;> simp [h]
@[simp] theorem execSentinelSelfTest_termsLow (failed : List Nat) (s : State) (h : TermsLow s) :
    Ends TermsLow (execSentinelSelfTest failed s) := by
  unfold execSentinelSelfTest; dsimp only; (repeat' split) <;> simp [h]
@[simp] theorem execSentinelSelfCheckFailure_termsLow (kind : Nat) (s : State) (h : TermsLow s) :
    Ends TermsLow (execSentinelSelfCheckFailure kind s) := by
  simp [execSentinelSelfCheckFailure, h]
@[simp] theorem execSentinelFuseRead_termsLow (lost : List Nat) (s : State) (h : TermsLow s) : Ends TermsLow (execSentinelFuseRead lost s) := by
  simp [execSentinelFuseRead, h]
@[simp] theorem execMuteNAssert_termsLow (lowNs : Nat) (s : State) (h : TermsLow s) : Ends TermsLow (execMuteNAssert lowNs s) := by
  unfold execMuteNAssert; dsimp only; (repeat' split) <;> simp [h]
@[simp] theorem execMuteNRelease_termsLow (s : State) (h : TermsLow s) : Ends TermsLow (execMuteNRelease s) := by
  simp [execMuteNRelease, h]

/-! #### Power.lean -/

@[simp] theorem changePower_termsLow (s : State) (new : Power) (source : optParam Nat 0) (h : TermsLow s) :
    TermsLow (changePower s new source) := by
  unfold changePower; dsimp only; (repeat' split) <;> simp [h]
@[simp] theorem enterSafe_termsLow (s : State) (cause : Nat) (h : TermsLow s) : TermsLow (enterSafe s cause) := by
  unfold enterSafe; (repeat' split) <;> simp [h]
@[simp] theorem enterQuiet_termsLow (s : State) (h : TermsLow s) : TermsLow (enterQuiet s) := by
  unfold enterQuiet; (repeat' split) <;> simp [h]
@[simp] theorem muteLostRoutes_termsLow (s : State) (h : TermsLow s) : TermsLow (muteLostRoutes s) := by
  unfold muteLostRoutes; (repeat' split) <;> simp [h]
@[simp] theorem donorPathMutes_termsLow (s : State) (h : TermsLow s) : TermsLow (donorPathMutes s) := by
  exact muteLostRoutes_termsLow _ (termsLow_forEach _ _ _ (fun u g => by simp) h)
@[simp] theorem lastRod_termsLow (before : State) (s : State) (cause : Nat) (h : TermsLow s) : TermsLow (lastRod before s cause) := by
  unfold lastRod; (repeat' split) <;> simp [h]
@[simp] theorem abandonCal_termsLow (s : State) (r : Nat) (h : TermsLow s) : TermsLow (abandonCal s r) := by
  simp [abandonCal, h]
@[simp] theorem powerDownRod_termsLow (s : State) (r : Nat) (h : TermsLow s) : TermsLow (powerDownRod s r) := by
  have muted := abandonCal_termsLow _ r (addMute_termsLow s (.rodShutdown r) (.rod r) h)
  simpa [powerDownRod] using dropMute_coveredLow _ (.rodRestart r) muted
@[simp] theorem powerUpRod_termsLow (s : State) (r : Nat) (h : TermsLow s) : TermsLow (powerUpRod s r) := by
  unfold powerUpRod
  dsimp only
  split
  · exact h
  · have swapped : TermsLow (forEach ((rodChannels r).flatMap chanSlots) (modRod s r fun x => { x with powered := true, linkSince := s.time }) completeSwaps) :=
      by simp [h]
    exact dropMute_termsLow _ _ (startRodCal_termsLow _ _ (by simpa using swapped))
@[simp] theorem clearRodCounters_mutes_muteTerms (s : State) (r : Nat) :
    (clearRodCounters s r).mutes = s.mutes ∧ muteTerms (clearRodCounters s r).chans = muteTerms s.chans := by
  simp [clearRodCounters]
@[simp] theorem clearRodLines_mutes_muteTerms (s : State) (r : Nat) :
    (clearRodLines s r).mutes = s.mutes ∧ muteTerms (clearRodLines s r).chans = muteTerms s.chans := by
  simp [clearRodLines]
@[simp] theorem restartRod_termsLow (s : State) (r : Nat) (cause : Nat) (h : TermsLow s) : TermsLow (restartRod s r cause) := by
  unfold restartRod
  dsimp only
  split
  · exact h
  · refine lastRod_termsLow _ _ _ (startRodCal_termsLow _ _ (termsLow_forEach _ _ _ (fun u i => by simp) ?_))
    simp [h]
@[simp] theorem execRodRestartComplete_termsLow (r : Nat) (s : State) (h : TermsLow s) : Ends TermsLow (execRodRestartComplete r s) := by
  simp [execRodRestartComplete, h]
@[simp] theorem rejoinRods_coveredLow (s : State) {terms : Nat → Bool} (h : CoveredLow s.mutes terms) :
    CoveredLow (rejoinRods s).mutes terms := by
  simp [rejoinRods, h]
@[simp] theorem afterCal_mutes_muteTerms (s : State) (r : Nat) :
    (afterCal s r).mutes = s.mutes ∧ muteTerms (afterCal s r).chans = muteTerms s.chans := by
  simp [afterCal]
@[simp] theorem failCal_termsLow (s : State) (r : Nat) (step : Nat) (h : TermsLow s) : TermsLow (failCal s r step) := by
  simp [failCal, h]
@[simp] theorem execRodCalibrationComplete_termsLow (r : Nat) (failStep : Nat) (values : List CalValues) (s : State) (h : TermsLow s) :
    Ends TermsLow (execRodCalibrationComplete r failStep values s) := by
  simp [execRodCalibrationComplete, h]
@[simp] theorem powerRequest_termsLow (s : State) (m : Nat) (v : Nat) (h : TermsLow s) : TermsLow (powerRequest s m v).2 := by
  unfold powerRequest; dsimp only; (repeat' split) <;> simp [h]

/-! #### Thermal.lean -/

@[simp] theorem execThermalDemand_termsLow (s : State) (h : TermsLow s) : Ends TermsLow (execThermalDemand s) := by
  simp [execThermalDemand, h]
@[simp] theorem modSensor_mutes_chans (s : State) (n : Nat) (f : Sensor → Sensor) :
    (modSensor s n f).mutes = s.mutes ∧ (modSensor s n f).chans = s.chans := by
  simp [modSensor]
@[simp] theorem takeResult_mutes_chans (get : Nat → Int) (s : State) (n : Nat) :
    (takeResult get s n).mutes = s.mutes ∧ (takeResult get s n).chans = s.chans := by
  simp [takeResult]
@[simp] theorem countRuns_mutes_chans (s : State) (z : Nat) (k : Nat) (v : Int) :
    (countRuns s z k v).mutes = s.mutes ∧ (countRuns s z k v).chans = s.chans := by
  simp [countRuns]
@[simp] theorem judgeState_mutes_chans (s : State) (z : Nat) (k : Nat) (v : Int) :
    (judgeState s z k v).mutes = s.mutes ∧ (judgeState s z k v).chans = s.chans := by
  simp [judgeState]
@[simp] theorem enterShutdown_termsLow (s : State) (h : TermsLow s) : TermsLow (enterShutdown s) := by
  unfold enterShutdown; (repeat' split) <;> simp [h]
@[simp] theorem shutZone_termsLow (s : State) (z : Nat) (h : TermsLow s) : TermsLow (shutZone s z) := by
  unfold shutZone; (repeat' split) <;> simp [h]
@[simp] theorem judgeShut_termsLow (s : State) (z : Nat) (v : Int) (h : TermsLow s) : TermsLow (judgeShut s z v) := by
  unfold judgeShut; dsimp only; (repeat' split) <;> simp [h]
@[simp] theorem setReduction_mutes_chans (s : State) (z : Nat) (t : Int) :
    (setReduction s z t).mutes = s.mutes ∧ (setReduction s z t).chans = s.chans := by
  simp [setReduction]
@[simp] theorem noteLost_mutes_chans (wasFlagged : Nat → Bool) (s : State) (z : Nat) :
    (noteLost wasFlagged s z).mutes = s.mutes ∧ (noteLost wasFlagged s z).chans = s.chans := by
  simp [noteLost]
@[simp] theorem noSensor_mutes_chans (s : State) (z : Nat) : (noSensor s z).mutes = s.mutes ∧ (noSensor s z).chans = s.chans := by
  simp [noSensor]
@[simp] theorem holdReduction_mutes_chans (s : State) (z : Nat) :
    (holdReduction s z).mutes = s.mutes ∧ (holdReduction s z).chans = s.chans := by
  unfold holdReduction; (repeat' split) <;> simp
@[simp] theorem readZone_termsLow (s : State) (z : Nat) (top : Int) (hot : Nat) (valid : Nat) (h : TermsLow s) :
    TermsLow (readZone s z top hot valid) := by
  unfold readZone; dsimp only; (repeat' split) <;> simp [h]
@[simp] theorem evalZone_termsLow (wasFlagged : Nat → Bool) (s : State) (z : Nat) (h : TermsLow s) :
    TermsLow (evalZone wasFlagged s z) := by
  unfold evalZone; dsimp only; (repeat' split) <;> simp [h]
@[simp] theorem compensate_mutes_chans (s : State) : (compensate s).mutes = s.mutes ∧ (compensate s).chans = s.chans := by
  unfold compensate; (repeat' split) <;> simp
@[simp] theorem execThermalReading_termsLow (results : List Int) (s : State) (h : TermsLow s) : Ends TermsLow (execThermalReading results s) := by
  unfold execThermalReading
  dsimp only
  split
  · simp [h]
  · rw [ends_next]
    refine termsLow_forEach _ _ _ (fun u r => by split <;> simp) ?_
    simp [h]
@[simp] theorem execThrottleFreezeEnd_termsLow (z : Nat) (s : State) (h : TermsLow s) : Ends TermsLow (execThrottleFreezeEnd z s) := by
  unfold execThrottleFreezeEnd; (repeat' split) <;> simp [h]
@[simp] theorem setThermGates_muteTerms (s : State) : muteTerms (setThermGates s).chans = muteTerms s.chans := by
  simp [setThermGates]
@[simp] theorem leaveZone_termsLow (s : State) (z : Nat) (h : TermsLow s) : TermsLow (leaveZone s z) := by
  unfold leaveZone
  dsimp only
  split
  · refine termsLow_forEach _ _ _ (fun u r => by split <;> simp) (termsLow_ite _ (fun _ => by simp [h]) fun _ => by simp [h])
  · split <;> simp [h]
@[simp] theorem leaveWrite_termsLow (s : State) (v : Nat) (h : TermsLow s) : TermsLow (leaveWrite s v).2 := by
  unfold leaveWrite; dsimp only; (repeat' split) <;> simp [h]
@[simp] theorem execAutomaticResume_termsLow (z : Nat) (s : State) (h : TermsLow s) : Ends TermsLow (execAutomaticResume z s) := by
  unfold execAutomaticResume; (repeat' split) <;> simp [h]
@[simp] theorem execJunctionComparatorTrip_termsLow (z : Nat) (s : State) (h : TermsLow s) : Ends TermsLow (execJunctionComparatorTrip z s) := by
  unfold execJunctionComparatorTrip; dsimp only; (repeat' split) <;> simp [h]
@[simp] theorem execJunctionComparatorReset_termsLow (z : Nat) (s : State) (h : TermsLow s) :
    Ends TermsLow (execJunctionComparatorReset z s) := by
  simp [execJunctionComparatorReset, h]

/-! #### Lines.lean -/

@[simp] theorem holdLines_mutes_chans (s : State) : (holdLines s).mutes = s.mutes ∧ (holdLines s).chans = s.chans := by
  simp [holdLines]

/-! #### Restart.lean -/

@[simp] theorem restartCapture_mutes_chans (s : State) : (restartCapture s).mutes = s.mutes ∧ (restartCapture s).chans = s.chans := by
  simp [restartCapture]
@[simp] theorem restartLinks_termsLow (s : State) (h : TermsLow s) : TermsLow (restartLinks s) := by
  simp only [restartLinks, endPllRestart_mutes_chans, TermsLow]
  refine termsLow_forEach _ _ _ (fun u l => by simp) (termsLow_forEach _ _ _ (fun u l => by simp) h)
@[simp] theorem restartBlock_termsLow (s : State) (kind : Nat) (n : Nat) (cause : Nat) (h : TermsLow s) :
    TermsLow (restartBlock s kind n cause) := by
  unfold restartBlock; (repeat' split) <;> simp [h]
@[simp] theorem blockRestartWrite_termsLow (s : State) (v : Nat) (h : TermsLow s) : TermsLow (blockRestartWrite s v).2 := by
  unfold blockRestartWrite; dsimp only; (repeat' split) <;> simp [h]
@[simp] theorem execBlockRestartComplete_termsLow (kind : Nat) (num : Nat) (s : State) (h : TermsLow s) :
    Ends TermsLow (execBlockRestartComplete kind num s) := by
  unfold execBlockRestartComplete; (repeat' split) <;> simp [h]
@[simp] theorem reactionRestart_termsLow (s : State) (n : Nat) (h : TermsLow s) : TermsLow (reactionRestart s n) := by
  unfold reactionRestart; dsimp only; (repeat' split) <;> simp [h]
@[simp] theorem execRestartWithheldExpiry_termsLow (src : Nat) (s : State) (h : TermsLow s) :
    Ends TermsLow (execRestartWithheldExpiry src s) := by
  simp [execRestartWithheldExpiry, h]

/-! #### Collector.lean -/

@[simp] theorem faultPulse_mutes_chans (s : State) : (faultPulse s).mutes = s.mutes ∧ (faultPulse s).chans = s.chans := by
  simp [faultPulse]
@[simp] theorem execFaultNPulseEnd_termsLow (s : State) (h : TermsLow s) : Ends TermsLow (execFaultNPulseEnd s) := by
  simp [execFaultNPulseEnd, h]
@[simp] theorem episodeOcc_mutes_chans (s : State) (o : Occ) : (episodeOcc s o).mutes = s.mutes ∧ (episodeOcc s o).chans = s.chans := by
  simp [episodeOcc]
@[simp] theorem openEpisode_mutes_chans (s : State) (new : BitVec 320) :
    (openEpisode s new).mutes = s.mutes ∧ (openEpisode s new).chans = s.chans := by
  simp [openEpisode]
@[simp] theorem closeEpisode_mutes_chans (s : State) : (closeEpisode s).mutes = s.mutes ∧ (closeEpisode s).chans = s.chans := by
  simp [closeEpisode]
@[simp] theorem evalEpisode_mutes_chans (s : State) (new : BitVec 320) :
    (evalEpisode s new).mutes = s.mutes ∧ (evalEpisode s new).chans = s.chans := by
  simp [evalEpisode]
@[simp] theorem namedMutes_termsLow (s : State) (n : Nat) (mk : Nat → Scope) (h : TermsLow s) : TermsLow (namedMutes s n mk) := by
  simp [namedMutes, h]
@[simp] theorem reactionAct_termsLow (s : State) (n : Nat) (code : Nat) (h : TermsLow s) : TermsLow (reactionAct s n code) := by
  unfold reactionAct; (repeat' split) <;> simp [h]
@[simp] theorem react_termsLow (merged : Bool) (s : State) (n : Nat) (h : TermsLow s) : TermsLow (react merged s n) := by
  unfold react; dsimp only; (repeat' split) <;> simp [h]
@[simp] theorem extendNamed_termsLow (s : State) (h : TermsLow s) : TermsLow (extendNamed s) := by
  refine termsLow_forEach _ _ _ (fun u n => ?_) h
  split <;> simp
@[simp] theorem releaseSource_termsLow (s : State) (n : Nat) (h : TermsLow s) : TermsLow (releaseSource s n) := by
  simp [releaseSource, h]
@[simp] theorem collect_termsLow (s : State) (mask : BitVec 320) (h : TermsLow s) : TermsLow (collect s mask) := by
  unfold collect
  dsimp only
  refine extendNamed_termsLow _ (termsLow_forEach _ _ _ (fun u n => by simp) ?_)
  simp only [TermsLow, evalEpisode_mutes_chans]
  exact termsLow_forEach _ _ _ (fun u n => by simp) h
@[simp] theorem takeLevel_mutes_chans (s : State) (e : Nat × Bool) :
    (takeLevel s e).mutes = s.mutes ∧ (takeLevel s e).chans = s.chans := by
  unfold takeLevel; (repeat' split) <;> simp
@[simp] theorem checker_termsLow (s : State) (disagree : Bool) (h : TermsLow s) : TermsLow (checker s disagree) := by
  have lowered (u : State) (hm : u.mutes = s.mutes) (hc : u.chans = s.chans) (xs : List Nat) :
      TermsLow (forEach xs u fun s ch => modChan s ch fun c => { c with muteTerm := false, outClear := false }) := fun ch hch => by
    rw [muteTerms_lower, hc, h ch (by simpa [hm] using hch)]; rfl
  refine termsLow_ite _ (fun _ => by simp [h]) fun _ => enterSafe_termsLow _ _ ?_
  simp only [TermsLow, txenDrops_keeps, txenDrops_muteTerms]
  exact lowered _ (by simp) (by simp) _
@[simp] theorem execCollectorCycle_termsLow (inp : CollectorInput) (s : State) (h : TermsLow s) : Ends TermsLow (execCollectorCycle inp s) := by
  unfold execCollectorCycle
  dsimp only
  split
  · simp [h]
  · exact (ends_next _ _).2 (collect_termsLow _ _ (checker_termsLow _ _ (by simp [h])))
@[simp] theorem clearWrite_termsLow (s : State) (v : Nat) (h : TermsLow s) : TermsLow (clearWrite s v).2 := by
  unfold clearWrite; (repeat' split) <;> simp [h]

/-! #### Clocks.lean -/

@[simp] theorem execDieLinkAlignmentLoss_termsLow (r : Nat) (sentinelLanes : Bool) (s : State) (h : TermsLow s) :
    Ends TermsLow (execDieLinkAlignmentLoss r sentinelLanes s) := by
  simp [execDieLinkAlignmentLoss, h]
@[simp] theorem execDieLinkErrorFreeExpiry_termsLow (r : Nat) (s : State) (h : TermsLow s) : Ends TermsLow (execDieLinkErrorFreeExpiry r s) := by
  simp [execDieLinkErrorFreeExpiry, h]
@[simp] theorem execRefclkLoss_termsLow (s : State) (h : TermsLow s) : Ends TermsLow (execRefclkLoss s) := by
  simp [execRefclkLoss, h]
@[simp] theorem execRefclkReturn_termsLow (s : State) (h : TermsLow s) : Ends TermsLow (execRefclkReturn s) := by
  simp [execRefclkReturn, h]
@[simp] theorem execCorePllUnlock_termsLow (s : State) (h : TermsLow s) : Ends TermsLow (execCorePllUnlock s) := by
  simp [execCorePllUnlock, h]
@[simp] theorem execCoreClockReturn_termsLow (s : State) (h : TermsLow s) : Ends TermsLow (execCoreClockReturn s) := by
  simp [execCoreClockReturn, h]
@[simp] theorem execSupclkLoss_termsLow (s : State) (h : TermsLow s) : Ends TermsLow (execSupclkLoss s) := by
  simp [execSupclkLoss, h]
@[simp] theorem execSupclkReturn_termsLow (s : State) (h : TermsLow s) : Ends TermsLow (execSupclkReturn s) := by
  simp [execSupclkReturn, h]

/-! #### Tally.lean -/

@[simp] theorem formRecord_mutes_chans (s : State) (o : Occ) (summary : Bool) :
    (formRecord s o summary).mutes = s.mutes ∧ (formRecord s o summary).chans = s.chans := by
  simp [formRecord]
@[simp] theorem drawToken_mutes_chans (s : State) (code : Nat) :
    (drawToken s code).mutes = s.mutes ∧ (drawToken s code).chans = s.chans := by
  simp [drawToken]
@[simp] theorem burstChange_termsLow (s : State) (codes : List Nat) (change : State → State) (h : TermsLow (change s)) : TermsLow (burstChange s codes change) := by
  unfold burstChange
  refine termsLow_forEach _ _ _ (fun u code => by simp) h
@[simp] theorem execRecordForm_termsLow (s : State) (h : TermsLow s) : Ends TermsLow (execRecordForm s) := by
  unfold execRecordForm; (repeat' split) <;> simp [h]
@[simp] theorem execTokenRefill_termsLow (code : Nat) (s : State) (h : TermsLow s) : Ends TermsLow (execTokenRefill code s) := by
  simp [execTokenRefill, h]
@[simp] theorem execSummaryRecord_termsLow (code : Nat) (s : State) (h : TermsLow s) : Ends TermsLow (execSummaryRecord code s) := by
  unfold execSummaryRecord; dsimp only; (repeat' split) <;> simp [h]
@[simp] theorem execEventNPulseEnd_termsLow (s : State) (h : TermsLow s) : Ends TermsLow (execEventNPulseEnd s) := by
  simp [execEventNPulseEnd, h]
@[simp] theorem markWithheld_mutes_chans (s : State) (seq : Nat) :
    (markWithheld s seq).mutes = s.mutes ∧ (markWithheld s seq).chans = s.chans := by
  simp [markWithheld]
@[simp] theorem execPersistentWrite_termsLow (ok : Bool) (s : State) (h : TermsLow s) : Ends TermsLow (execPersistentWrite ok s) := by
  unfold execPersistentWrite; (repeat' split) <;> simp [h]
@[simp] theorem execOperatingTimeSave_termsLow (s : State) (h : TermsLow s) : Ends TermsLow (execOperatingTimeSave s) := by
  simp [execOperatingTimeSave, h]
@[simp] theorem excludePage_mutes_chans (s : State) (page : Nat) :
    (excludePage s page).mutes = s.mutes ∧ (excludePage s page).chans = s.chans := by
  unfold excludePage; dsimp only; (repeat' split) <;> simp
@[simp] theorem execRingScan_termsLow (parity : Bool) (s : State) (h : TermsLow s) : Ends TermsLow (execRingScan parity s) := by
  simp [execRingScan, h]
@[simp] theorem wallWrite_mutes_chans (s : State) (m : Nat) (v : Nat) :
    (wallWrite s m v).mutes = s.mutes ∧ (wallWrite s m v).chans = s.chans := by
  simp [wallWrite]
@[simp] theorem snapEntryWrite_mutes_chans (s : State) (entry : Nat) (v : Nat) :
    (snapEntryWrite s entry v).2.mutes = s.mutes ∧ (snapEntryWrite s entry v).2.chans = s.chans := by
  unfold snapEntryWrite; (repeat' split) <;> simp

/-! #### Life.lean -/

@[simp] theorem setSlot_mutes_chans (s : State) (slot : Nat) (img : List Word) :
    (setSlot s slot img).mutes = s.mutes ∧ (setSlot s slot img).chans = s.chans := by
  simp [setSlot]
@[simp] theorem execImageProgrammingComplete_termsLow (s : State) (h : TermsLow s) : Ends TermsLow (execImageProgrammingComplete s) := by
  simp [execImageProgrammingComplete, h]
@[simp] theorem imageFault_mutes_chans (s : State) : (imageFault s).mutes = s.mutes ∧ (imageFault s).chans = s.chans := by
  simp [imageFault]
@[simp] theorem execSupervisorStart_termsLow (s : State) (h : TermsLow s) : Ends TermsLow (execSupervisorStart s) := by
  simp [execSupervisorStart, h]
@[simp] theorem execLockstepMismatch_termsLow (s : State) (h : TermsLow s) : Ends TermsLow (execLockstepMismatch s) := by
  simp [execLockstepMismatch, h]
@[simp] theorem execSupervisorMemoryParity_termsLow (s : State) (h : TermsLow s) : Ends TermsLow (execSupervisorMemoryParity s) := by
  simp [execSupervisorMemoryParity, h]
@[simp] theorem execSupervisorWatchdogMiss_termsLow (s : State) (h : TermsLow s) : Ends TermsLow (execSupervisorWatchdogMiss s) := by
  simp [execSupervisorWatchdogMiss, h]
@[simp] theorem execTrialLimitExpiry_termsLow (s : State) (h : TermsLow s) : Ends TermsLow (execTrialLimitExpiry s) := by
  simp [execTrialLimitExpiry, h]
@[simp] theorem activateWrite_mutes_chans (s : State) (v : Nat) :
    (activateWrite s v).2.mutes = s.mutes ∧ (activateWrite s v).2.chans = s.chans := by
  simp [activateWrite]
@[simp] theorem confirmWrite_mutes_chans (s : State) : (confirmWrite s).2.mutes = s.mutes ∧ (confirmWrite s).2.chans = s.chans := by
  simp [confirmWrite]
@[simp] theorem execAutonomyLimitExpiry_termsLow (s : State) (h : TermsLow s) : Ends TermsLow (execAutonomyLimitExpiry s) := by
  simp [execAutonomyLimitExpiry, h]
@[simp] theorem dieReset_termsLow (s : State) (power : Power) (cause : Nat) (h : TermsLow s) : TermsLow (dieReset s power cause) := by
  simp [dieReset, h]
@[simp] theorem startTally_mutes_chans (s : State) (flash : BootFlash) :
    (startTally s flash).mutes = s.mutes ∧ (startTally s flash).chans = s.chans := by
  simp [startTally]
@[simp] theorem freeFlash_mutes_chans (s : State) : (freeFlash s).2.mutes = s.mutes ∧ (freeFlash s).2.chans = s.chans := by
  simp [freeFlash]
@[simp] theorem bootLifecycle_mutes_chans (s : State) : (bootLifecycle s).mutes = s.mutes ∧ (bootLifecycle s).chans = s.chans := by
  simp [bootLifecycle]
@[simp] theorem bootStart_termsLow (s : State) (flash : BootFlash) (h : TermsLow s) : TermsLow (bootStart s flash) := by
  unfold bootStart; dsimp only; (repeat' split) <;> simp [h]
@[simp] theorem execResetNAssert_termsLow (lowNs : Nat) (s : State) (h : TermsLow s) : Ends TermsLow (execResetNAssert lowNs s) := by
  unfold execResetNAssert; dsimp only; (repeat' split) <;> simp [h]
@[simp] theorem execSupplyMonitorReset_termsLow (s : State) (h : TermsLow s) : Ends TermsLow (execSupplyMonitorReset s) := by
  simp [execSupplyMonitorReset, h]
@[simp] theorem execResetNRelease_termsLow (flash : BootFlash) (s : State) (h : TermsLow s) : Ends TermsLow (execResetNRelease flash s) := by
  simp [execResetNRelease, h]
@[simp] theorem execAutonomyWatchdogReset_termsLow (s : State) (h : TermsLow s) : Ends TermsLow (execAutonomyWatchdogReset s) := by
  simp [execAutonomyWatchdogReset, h]
@[simp] theorem execBootComplete_termsLow (s : State) (h : TermsLow s) : Ends TermsLow (execBootComplete s) := by
  unfold execBootComplete; dsimp only; (repeat' split) <;> simp [h]
@[simp] theorem shutdownReturn_termsLow (s : State) (h : TermsLow s) : TermsLow (shutdownReturn s) := by
  unfold shutdownReturn; dsimp only; (repeat' split) <;> simp [h]

/-! #### BulkWindows.lean -/

@[simp] theorem takeClaim_mutes_chans (s : State) (m : Nat) (w : Nat) :
    (takeClaim s m w).mutes = s.mutes ∧ (takeClaim s m w).chans = s.chans := by
  simp [takeClaim]
@[simp] theorem selectorWrite_mutes_chans (s : State) (m : Nat) (w : Nat) (v : Nat) :
    (selectorWrite s m w v).2.mutes = s.mutes ∧ (selectorWrite s m w v).2.chans = s.chans := by
  simp [selectorWrite]
@[simp] theorem cursorWrite_mutes_chans (s : State) (m : Nat) (w : Nat) (v : Nat) :
    (cursorWrite s m w v).2.mutes = s.mutes ∧ (cursorWrite s m w v).2.chans = s.chans := by
  simp [cursorWrite]
@[simp] theorem execWindowClaimTimeout_termsLow (w : Nat) (s : State) (h : TermsLow s) : Ends TermsLow (execWindowClaimTimeout w s) := by
  simp [execWindowClaimTimeout, h]
@[simp] theorem modBank_mutes_chans (s : State) (g : Nat) (b : Nat) (f : Bank → Bank) :
    (modBank s g b f).mutes = s.mutes ∧ (modBank s g b f).chans = s.chans := by
  simp [modBank]
@[simp] theorem dataWrite_mutes_chans (s : State) (m : Nat) (w : Nat) (ws : List Word) :
    (dataWrite s m w ws).2.mutes = s.mutes ∧ (dataWrite s m w ws).2.chans = s.chans := by
  simp [dataWrite]
@[simp] theorem crcMismatch_mutes_chans (s : State) (w : Nat) :
    (crcMismatch s w).2.mutes = s.mutes ∧ (crcMismatch s w).2.chans = s.chans := by
  simp [crcMismatch]
@[simp] theorem crcConfirm_mutes_chans (s : State) (m : Nat) (w : Nat) (crc : BitVec 32) (event : Bool) :
    (crcConfirm s m w crc event).2.mutes = s.mutes ∧ (crcConfirm s m w crc event).2.chans = s.chans := by
  simp [crcConfirm]

/-! #### Governor.lean -/

@[simp] theorem detectOsc_mutes_chans (s : State) : (detectOsc s).mutes = s.mutes ∧ (detectOsc s).chans = s.chans := by
  simp [detectOsc]
@[simp] theorem measureInputs_mutes_chans (s : State) : (measureInputs s).mutes = s.mutes ∧ (measureInputs s).chans = s.chans := by
  simp [measureInputs]
@[simp] theorem licenceCapsFor_mutes_chans (s : State) (ch : Nat) (who : Nat → Bool) :
    (licenceCapsFor s ch who).mutes = s.mutes ∧ (licenceCapsFor s ch who).chans = s.chans := by
  simp [licenceCapsFor]
@[simp] theorem licenceCaps_mutes_chans (s : State) (ch : Nat) :
    (licenceCaps s ch).mutes = s.mutes ∧ (licenceCaps s ch).chans = s.chans := by
  simp [licenceCaps]
@[simp] theorem loopAct_termsLow (s : State) (r : Nat) (e : Eval) (h : TermsLow s) : TermsLow (loopAct s r e) := by
  unfold loopAct; dsimp only; (repeat' split) <;> simp [h]
@[simp] theorem showLoop_mutes_chans (s : State) (r : Nat) (x : LoopSnap) :
    (showLoop s r x).mutes = s.mutes ∧ (showLoop s r x).chans = s.chans := by
  simp [showLoop]
@[simp] theorem loopTick_termsLow (s : State) (r : Nat) (h : TermsLow s) : TermsLow (loopTick s r) := by
  unfold loopTick; dsimp only; (repeat' split) <;> simp [h]
@[simp] theorem orphanTick_termsLow (s : State) (r : Nat) (h : TermsLow s) : TermsLow (orphanTick s r) := by
  unfold orphanTick; (repeat' split) <;> simp [h]
@[simp] theorem snapSides_mutes_chans (s : State) : (snapSides s).mutes = s.mutes ∧ (snapSides s).chans = s.chans := by
  simp [snapSides]
@[simp] theorem dropSpectrum_mutes_chans (s : State) (b : Nat × Nat) :
    (dropSpectrum s b).mutes = s.mutes ∧ (dropSpectrum s b).chans = s.chans := by
  simp [dropSpectrum]
@[simp] theorem execGovernorTick_termsLow (bad : List (Nat × Nat)) (s : State) (h : TermsLow s) : Ends TermsLow (execGovernorTick bad s) := by
  have tidied (u : State) (hu : TermsLow u) : TermsLow (forEach (List.range 8) (noiseRise u) tidyGroup) :=
    termsLow_forEach _ _ _ (fun v i => by simp) (noiseRise_termsLow u hu)
  unfold execGovernorTick
  dsimp only
  split
  · simp [h]
  · rw [ends_next]
    simp only [TermsLow]
    refine termsLow_forEach _ orphanTick _ (fun u r => by simp) (termsLow_forEach _ loopTick _ (fun u r => by simp) ?_)
    simp only [TermsLow]
    refine tidied _ ?_
    simp [h]
@[simp] theorem loopRelease_termsLow (s : State) (h : TermsLow s) : TermsLow (loopRelease s) := by
  unfold loopRelease; dsimp only; (repeat' split) <;> simp [h]

/-! #### Commit.lean -/

@[simp] theorem stageEntry_mutes_chans (s : State) (k : Nat) (v : Nat) :
    (stageEntry s k v).2.mutes = s.mutes ∧ (stageEntry s k v).2.chans = s.chans := by
  simp [stageEntry]
@[simp] theorem startCommit_mutes_chans (s : State) : (startCommit s).mutes = s.mutes ∧ (startCommit s).chans = s.chans := by
  simp [startCommit]
@[simp] theorem endChecks_mutes_chans (s : State) : (endChecks s).mutes = s.mutes ∧ (endChecks s).chans = s.chans := by
  unfold endChecks; (repeat' split) <;> simp
@[simp] theorem applySnapshot_termsLow (s : State) : TermsLow (applySnapshot s) := by
  unfold applySnapshot
  dsimp only
  simp only [TermsLow, txenDrops_keeps, txenDrops_muteTerms]
  exact dropMuteTerms_termsLow _
@[simp] theorem applyCommit_termsLow (s : State) (h : TermsLow s) : TermsLow (applyCommit s) := by
  unfold applyCommit; (repeat' split) <;> simp [h]
@[simp] theorem discardStaged_mutes_chans (s : State) : (discardStaged s).mutes = s.mutes ∧ (discardStaged s).chans = s.chans := by
  simp [discardStaged]
@[simp] theorem execStagingLockTimeout_termsLow (s : State) (h : TermsLow s) : Ends TermsLow (execStagingLockTimeout s) := by
  simp [execStagingLockTimeout, h]

/-! #### Access.lean -/

@[simp] theorem lockWrite_mutes_chans (s : State) (m : Nat) (v : Nat) :
    (lockWrite s m v).2.mutes = s.mutes ∧ (lockWrite s m v).2.chans = s.chans := by
  simp [lockWrite]
@[simp] theorem commitWrite_mutes_chans (s : State) (m : Nat) (v : Nat) :
    (commitWrite s m v).2.mutes = s.mutes ∧ (commitWrite s m v).2.chans = s.chans := by
  simp [commitWrite]
@[simp] theorem writeDevice_termsLow (s : State) (m : Nat) (idx : Nat) (sub : Nat) (v : Nat) (h : TermsLow s) :
    TermsLow (writeDevice s m idx sub v).2 := by
  unfold writeDevice; (repeat' split) <;> simp [h]
@[simp] theorem writeStore_mutes_chans (s : State) (idx : Nat) (sub : Nat) (v : Nat) :
    (writeStore s idx sub v).2.mutes = s.mutes ∧ (writeStore s idx sub v).2.chans = s.chans := by
  simp [writeStore]
@[simp] theorem writeChannel_termsLow (s : State) (idx : Nat) (sub : Nat) (v : Nat) (h : TermsLow s) :
    TermsLow (writeChannel s idx sub v).2 := by
  unfold writeChannel; (repeat' split) <;> simp [h]
@[simp] theorem writeWindow_mutes_chans (s : State) (m : Nat) (w : Nat) (sub : Nat) (data : List Byte) :
    (writeWindow s m w sub data).2.mutes = s.mutes ∧ (writeWindow s m w sub data).2.chans = s.chans := by
  unfold writeWindow; (repeat' split) <;> simp
@[simp] theorem writeGovernor_termsLow (s : State) (idx : Nat) (sub : Nat) (v : Nat) (h : TermsLow s) :
    TermsLow (writeGovernor s idx sub v).2 := by
  unfold writeGovernor; (repeat' split) <;> simp [h]
@[simp] theorem ownWrite_termsLow (s : State) (m : Nat) (idx : Nat) (sub : Nat) (o : Obj) (data : List Byte) (h : TermsLow s) :
    TermsLow (ownWrite s m idx sub o data).2 := by
  unfold ownWrite; (repeat' split) <;> simp [h]
@[simp] theorem writeObject_termsLow (s : State) (m : Nat) (idx : Nat) (sub : Nat) (data : List Byte) (h : TermsLow s) :
    TermsLow (writeObject s m idx sub data).2 := by
  unfold writeObject; dsimp only; (repeat' split) <;> simp [h]
@[simp] theorem dropSnapshots_mutes_chans (s : State) : (dropSnapshots s).mutes = s.mutes ∧ (dropSnapshots s).chans = s.chans := by
  simp [dropSnapshots]
@[simp] theorem readStaged_mutes_chans (s : State) (m : Nat) (idx : Nat) (sub : Nat) (n : Nat) :
    (readStaged s m idx sub n).2.2.mutes = s.mutes ∧ (readStaged s m idx sub n).2.2.chans = s.chans := by
  unfold readStaged; dsimp only; (repeat' split) <;> simp
@[simp] theorem commandWrite_termsLow (s : State) (m : Nat) (idx : Nat) (sub : Nat) (data : List Byte) (h : TermsLow s) :
    TermsLow (commandWrite s m idx sub data) := by
  unfold commandWrite; (repeat' split) <;> simp [h]
@[simp] theorem commandValue_termsLow (s : State) (m : Nat) (idx : Nat) (sub : Nat) (v : Nat) (h : TermsLow s) :
    TermsLow (commandValue s m idx sub v) := by
  unfold commandValue; (repeat' split) <;> simp [h]
@[simp] theorem alone_termsLow (s : State) (f : State → State) (hf : ∀ u : LowState, TermsLow (f u.1)) (h : TermsLow s) : TermsLow (alone s f) :=
  hf ⟨dropSnapshots s, by simpa using h⟩
@[simp] theorem commandRead_termsLow (s : State) (m : Nat) (idx : Nat) (sub : Nat) (n : Nat) (h : TermsLow s) :
    TermsLow (commandRead s m idx sub n) := by
  unfold commandRead; (repeat' split) <;> simp [h]
@[simp] theorem commandStaged_termsLow (s : State) (m : Nat) (idx : Nat) (sub : Nat) (n : Nat) (h : TermsLow s) :
    TermsLow (commandStaged s m idx sub n) := by
  unfold commandStaged; (repeat' split) <;> simp [h]

/-! #### Chain.lean -/

@[simp] theorem execCableDelayMeasurement_termsLow (lane : Nat) (roundTrip : Nat) (turnaround : Nat) (s : State) (h : TermsLow s) :
    Ends TermsLow (execCableDelayMeasurement lane roundTrip turnaround s) := by
  simp [execCableDelayMeasurement, h]
@[simp] theorem execHelloSend_termsLow (s : State) (h : TermsLow s) : Ends TermsLow (execHelloSend s) := by
  simp [execHelloSend, h]
@[simp] theorem execRelayAddressAgeOut_termsLow (addr : Nat) (s : State) (h : TermsLow s) : Ends TermsLow (execRelayAddressAgeOut addr s) := by
  simp [execRelayAddressAgeOut, h]

/-! #### Olp.lean -/

@[simp] theorem subscribeOp_mutes_chans (s : State) (m : Nat) (idx : Nat) (sub : Nat) (data : List Byte) (origin : Origin) :
    (subscribeOp s m idx sub data origin).2.mutes = s.mutes ∧ (subscribeOp s m idx sub data origin).2.chans = s.chans := by
  unfold subscribeOp; dsimp only; (repeat' split) <;> simp
@[simp] theorem execNotify_termsLow (m : Nat) (s : State) (h : TermsLow s) : Ends TermsLow (execNotify m s) := by
  unfold execNotify; (repeat' split) <;> simp [h]
@[simp] theorem execSubscriptionLeaseExpiry_termsLow (m : Nat) (index : Nat) (sub : Nat) (s : State) (h : TermsLow s) :
    Ends TermsLow (execSubscriptionLeaseExpiry m index sub s) := by
  simp [execSubscriptionLeaseExpiry, h]
@[simp] theorem execOp_termsLow (s : State) (p : InProgress) (op : OlpOp) (h : TermsLow s) : TermsLow (execOp s p op).2.2 := by
  unfold execOp; (repeat' split) <;> simp [h]
@[simp] theorem finish_termsLow (s : State) (p : InProgress) (flags : Nat) (h : TermsLow s) : TermsLow (finish s p flags) := by
  simp [finish, h]
@[simp] theorem runOps_termsLow (ops : List OlpOp) (full : Bool) (s : State) (p : InProgress) (h : TermsLow s) : TermsLow (runOps ops full s p) := by
  induction ops generalizing full s p with
  | nil => simp [runOps, h]
  | cons op rest ih =>
    unfold runOps
    dsimp only
    split
    · exact ih _ _ _ h
    · split
      · exact execOp_termsLow s p op h
      · exact ih _ _ _ (execOp_termsLow s p op h)
@[simp] theorem startMessage_termsLow (s : State) (origin : Origin) (bs : List Byte) (h : TermsLow s) : TermsLow (startMessage s origin bs) := by
  unfold startMessage
  dsimp only
  (repeat' split) <;> simp [h]
@[simp] theorem serveQueue_termsLow (n : Nat) (s : State) (h : TermsLow s) : TermsLow (serveQueue n s) := by
  induction n generalizing s with
  | zero => exact h
  | succ n ih =>
    unfold serveQueue
    (repeat' split)
    · exact h
    · exact h
    · exact ih _ (startMessage_termsLow _ _ _ h)
@[simp] theorem commitAnswered_termsLow (s : State) (status : Nat) (h : TermsLow s) : TermsLow (commitAnswered s status) := by
  unfold commitAnswered
  split
  · simp [h]
  · split
    · exact h
    · exact serveQueue_termsLow _ _ (runOps_termsLow _ _ _ _ h)
@[simp] theorem relayRequest_mutes_chans (s : State) (origin : Origin) (h : OlpHeader) (bs : List Byte) :
    (relayRequest s origin h bs).mutes = s.mutes ∧ (relayRequest s origin h bs).chans = s.chans := by
  simp [relayRequest]
@[simp] theorem relayResponse_mutes_chans (s : State) (bs : List Byte) :
    (relayResponse s bs).mutes = s.mutes ∧ (relayResponse s bs).chans = s.chans := by
  unfold relayResponse; dsimp only; (repeat' split) <;> simp
@[simp] theorem execRelayResponseReturn_termsLow (lane : Nat) (bytes : List Byte) (s : State) (h : TermsLow s) :
    Ends TermsLow (execRelayResponseReturn lane bytes s) := by
  simp [execRelayResponseReturn, h]
@[simp] theorem execRelayResponseTimeout_termsLow (s : State) (h : TermsLow s) : Ends TermsLow (execRelayResponseTimeout s) := by
  unfold execRelayResponseTimeout; (repeat' split) <;> simp [h]
@[simp] theorem olpReceive_termsLow (s : State) (origin : Origin) (bs : List Byte) (h : TermsLow s) :
    TermsLow (olpReceive s origin bs) := by
  unfold olpReceive; dsimp only; (repeat' split) <;> simp [h]
@[simp] theorem execOlpMessage_termsLow (origin : Origin) (bytes : List Byte) (s : State) (h : TermsLow s) :
    Ends TermsLow (execOlpMessage origin bytes s) := by
  unfold execOlpMessage; (repeat' split) <;> simp [h]
@[simp] theorem execCommitChecksDone_termsLow (s : State) (h : TermsLow s) : Ends TermsLow (execCommitChecksDone s) := by
  unfold execCommitChecksDone; dsimp only; (repeat' split) <;> simp [h]
@[simp] theorem execCommitApply_termsLow (s : State) (h : TermsLow s) : Ends TermsLow (execCommitApply s) := by
  simp [execCommitApply, h]

/-! #### Monitor.lean -/

@[simp] theorem monitorCommand_termsLow (s : State) (inBoot : Bool) (f : State → State) (hf : ∀ u : LowState, TermsLow (f u.1))
    (h : TermsLow s) : Ends TermsLow (monitorCommand s inBoot f) := by
  unfold monitorCommand
  split
  · simpa using h
  · exact (ends_next _ _).2 (termsLow_ite _ (fun _ => by simp [h]) fun _ => hf ⟨{ s with life := { s.life with lastCmd := s.time } }, h⟩)
@[simp] theorem setLevel_mutes_chans (s : State) (l : Nat) : (setLevel s l).mutes = s.mutes ∧ (setLevel s l).chans = s.chans := by
  simp [setLevel]
@[simp] theorem execMonitorChallenge_termsLow (level : Nat) (s : State) (h : TermsLow s) : Ends TermsLow (execMonitorChallenge level s) := by
  simp [execMonitorChallenge, h]
@[simp] theorem unlockFailed_mutes_chans (s : State) : (unlockFailed s).mutes = s.mutes ∧ (unlockFailed s).chans = s.chans := by
  simp [unlockFailed]
@[simp] theorem execMonitorUnlock_termsLow (level : Nat) (response : List Byte) (s : State) (h : TermsLow s) :
    Ends TermsLow (execMonitorUnlock level response s) := by
  simp [execMonitorUnlock, h]
@[simp] theorem execUnlockLockoutEnd_termsLow (s : State) (h : TermsLow s) : Ends TermsLow (execUnlockLockoutEnd s) := by
  simp [execUnlockLockoutEnd, h]
@[simp] theorem execMonitorLock_termsLow (s : State) (h : TermsLow s) : Ends TermsLow (execMonitorLock s) := by
  simp [execMonitorLock, h]
@[simp] theorem execMonitorLevel_termsLow (s : State) (h : TermsLow s) : Ends TermsLow (execMonitorLevel s) := by
  simp [execMonitorLevel, h]
@[simp] theorem execMonitorIdleTimeout_termsLow (s : State) (h : TermsLow s) : Ends TermsLow (execMonitorIdleTimeout s) := by
  simp [execMonitorIdleTimeout, h]
@[simp] theorem execMonitorRd_termsLow (index : Nat) (sub : Nat) (n : Nat) (s : State) (h : TermsLow s) :
    Ends TermsLow (execMonitorRd index sub n s) := by
  simp [execMonitorRd, h]
@[simp] theorem execMonitorWr_termsLow (index : Nat) (sub : Nat) (data : List Byte) (s : State) (h : TermsLow s) :
    Ends TermsLow (execMonitorWr index sub data s) := by
  simp [execMonitorWr, h]
@[simp] theorem execMonitorMkey_termsLow (level : Nat) (newKey : List Byte) (s : State) (h : TermsLow s) :
    Ends TermsLow (execMonitorMkey level newKey s) := by
  unfold execMonitorMkey; (repeat' split) <;> simp [h]
@[simp] theorem setOlpKey_mutes_chans (s : State) (slot : Nat) (newKey : List Byte) :
    (setOlpKey s slot newKey).mutes = s.mutes ∧ (setOlpKey s slot newKey).chans = s.chans := by
  simp [setOlpKey]
@[simp] theorem execMonitorOkey_termsLow (slot : Nat) (newKey : List Byte) (s : State) (h : TermsLow s) :
    Ends TermsLow (execMonitorOkey slot newKey s) := by
  simp [execMonitorOkey, h]
@[simp] theorem execMonitorLifecycle_termsLow (target : Nat) (token : List Word) (s : State) (h : TermsLow s) : Ends TermsLow (execMonitorLifecycle target token s) := by
  refine monitorCommand_termsLow _ _ _ (fun u => ?_) h
  (repeat' split) <;> simp
@[simp] theorem execMonitorScanOn_termsLow (s : State) (h : TermsLow s) : Ends TermsLow (execMonitorScanOn s) := by
  simp [execMonitorScanOn, h]
@[simp] theorem execMonitorScanOff_termsLow (s : State) (h : TermsLow s) : Ends TermsLow (execMonitorScanOff s) := by
  simp [execMonitorScanOff, h]
@[simp] theorem execMonitorRecover_termsLow (image : List Word) (s : State) (h : TermsLow s) : Ends TermsLow (execMonitorRecover image s) := by
  refine monitorCommand_termsLow _ _ _ (fun u => ?_) h
  (repeat' split) <;> simp

/-! #### Relay.lean -/

@[simp] theorem learn_mutes_chans (s : State) (lane : Nat) (msg : RelayMsg) :
    (learn s lane msg).mutes = s.mutes ∧ (learn s lane msg).chans = s.chans := by
  simp [learn]
@[simp] theorem hello_mutes_chans (s : State) (lane : Nat) (msg : RelayMsg) :
    (hello s lane msg).mutes = s.mutes ∧ (hello s lane msg).chans = s.chans := by
  simp [hello]
@[simp] theorem deliverOlp_termsLow (s : State) (lane : Nat) (msg : RelayMsg) (h : TermsLow s) : TermsLow (deliverOlp s lane msg) := by
  unfold deliverOlp; (repeat' split) <;> simp [h]
@[simp] theorem execRelayMessageReceive_termsLow (lane : Nat) (blocks : List (BitVec 64)) (bad : Option Nat) (s : State) (h : TermsLow s) :
    Ends TermsLow (execRelayMessageReceive lane blocks bad s) := by
  unfold execRelayMessageReceive; dsimp only; (repeat' split) <;> simp [h]
@[simp] theorem execFrameSyncOutPulse_termsLow (s : State) (h : TermsLow s) : Ends TermsLow (execFrameSyncOutPulse s) := by
  simp [execFrameSyncOutPulse, h]
@[simp] theorem execFrameSyncOutPulseEnd_termsLow (s : State) (h : TermsLow s) : Ends TermsLow (execFrameSyncOutPulseEnd s) := by
  simp [execFrameSyncOutPulseEnd, h]

/-! #### Frame.lean -/

@[simp] theorem settleMute_termsLow (parts : List (Nat × List Smp)) (s : State) (g : Nat) (h : TermsLow s) :
    TermsLow (settleMute parts s g) := by
  unfold settleMute; (repeat' split) <;> simp [h]
@[simp] theorem settleMutes_termsLow (s : State) (ch : Nat) (h : TermsLow s) : TermsLow (settleMutes s ch) := by
  simp [settleMutes, h]
/-- The mute terms that a block boundary restores are of channels that no mute covers (R32). -/
@[simp] theorem restoreTxen_coveredLow (s : State) (ch : Nat) (h : TermsLow s) : CoveredLow s.mutes (muteTerms (restoreTxen s ch).chans) := by
  intro k hk
  have hs : muteTerms s.chans k = false := h k hk
  have kept : muteTerms (restoreTxen s ch).chans = muteTerms (modChan s ch fun c =>
      { c with muteTerm := c.muteTerm || (!(getChan s ch).muteTerm && (getChan s ch).outClear && mutePermits s ch), outClear := mutePermits s ch }).chans := by
    simp [restoreTxen]
  rw [kept]
  show (getChan (modChan s ch _) k).muteTerm = false
  by_cases hch : k = ch
  · have permits : mutePermits s ch = false := by simp [mutePermits, show chanMuted s ch = true from hch ▸ hk]
    subst hch
    simp [permits, show (getChan s k).muteTerm = false from hs]
  · rw [getChan_modChan_ne _ _ _ _ hch]; exact hs
@[simp] theorem releaseChannel_muteTerms (inp : FrameInput) (s : State) (ch : Nat) : muteTerms (releaseChannel inp s ch).chans = muteTerms s.chans := by
  have same (ys zs : List Smp) (c : Chan) : (driveRod ys (pushRef zs c)).muteTerm = c.muteTerm := by
    unfold driveRod pushRef
    (repeat' split) <;> rfl
  unfold releaseChannel
  dsimp only
  split <;> simp [same]
@[simp] theorem silenceRef_muteTerms (prev : State) (s : State) (ch : Nat) :
    muteTerms (silenceRef prev s ch).chans = muteTerms s.chans := by
  simp [silenceRef]
@[simp] theorem releaseBlocks_termsLow (inp : FrameInput) (prev s : State) (h : TermsLow s) : TermsLow (releaseBlocks inp prev s) := by
  have restored (chs : List Nat) (u : State) (hu : TermsLow u) : TermsLow (forEach chs u restoreTxen) :=
    termsLow_forEach _ _ _ (fun v ch => by simp) hu
  unfold releaseBlocks
  dsimp only
  have := restored (outChannels s) (forEach (outChannels s) (forEach (outChannels s) s (silenceRef prev)) settleMutes) (by simp [h])
  simpa using this
@[simp] theorem delayParity_muteTerms (s : State) (ch : Nat) (g : Nat) (part : Nat) :
    muteTerms (delayParity s ch g part).chans = muteTerms s.chans := by
  unfold delayParity; (repeat' split) <;> simp
@[simp] theorem blockParity_termsLow (s : State) (hit : ParityHit) (h : TermsLow s) : TermsLow (blockParity s hit) := by
  unfold blockParity; dsimp only; (repeat' split) <;> simp [h]
@[simp] theorem collectRx_muteTerms (inp : FrameInput) (s : State) (ch : Nat) : muteTerms (collectRx inp s ch).chans = muteTerms s.chans := by
  have block : (rodBlock inp s ch).1.muteTerm = muteTerms s.chans ch := by
    unfold rodBlock
    dsimp only
    (repeat' split) <;> rfl
  have taken := muteTerms_modChan_of_eq s ch (fun _ => (rodBlock inp s ch).1) block
  unfold collectRx
  dsimp only
  (repeat' split) <;> simp [taken]
@[simp] theorem combineNote_muteTerms (s : State) (r : Nat) (fails : Bool) :
    muteTerms (combineNote s r fails).chans = muteTerms s.chans := by
  unfold combineNote; (repeat' split) <;> simp
@[simp] theorem combineCheck_muteTerms (inp : FrameInput) (s : State) (r : Nat) (sums : List Smp) :
    muteTerms (combineCheck inp s r sums).2.chans = muteTerms s.chans := by
  simp [combineCheck]
@[simp] theorem egressCheck_muteTerms (inp : FrameInput) (s : State) (r : Nat) (code : Nat) (xs : List Smp) :
    muteTerms (egressCheck inp s r code xs).2.chans = muteTerms s.chans := by
  unfold egressCheck; (repeat' split) <;> simp
@[simp] theorem toStream_muteTerms (inp : FrameInput) (s : State) (r : Nat) (code : Nat) (xs : List Smp) :
    muteTerms (toStream inp s r code xs).chans = muteTerms s.chans := by
  simp [toStream]
@[simp] theorem fanOut_muteTerms (inp : FrameInput) (old : State) (s : State) (r : Nat) :
    muteTerms (fanOut inp old s r).chans = muteTerms s.chans := by
  simp [fanOut]
@[simp] theorem fanIn_muteTerms (inp : FrameInput) (old : State) (s : State) (r : Nat) :
    muteTerms (fanIn inp old s r).chans = muteTerms s.chans := by
  simp [fanIn]
@[simp] theorem crossbar_muteTerms (inp : FrameInput) (old : State) (s : State) :
    muteTerms (crossbar inp old s).chans = muteTerms s.chans := by
  simp [crossbar]
@[simp] theorem quietOnLoss_termsLow (s : State) (h : TermsLow s) : TermsLow (quietOnLoss s) := by
  unfold quietOnLoss; (repeat' split) <;> simp [h]
@[simp] theorem boundary_termsLow (s : State) (h : TermsLow s) : TermsLow (boundary s) := by
  have turned : TermsLow (mismatchTurns (probeLimit (noteLates (rejoinRods s)))) := by simp [h]
  have quiet := quietOnLoss_termsLow _ (shutdownReturn_termsLow (dueStops _) (by simpa using turned))
  simpa [boundary] using releaseStreamMutes_coveredLow _ (donorPathMutes_termsLow _ quiet)
@[simp] theorem datapath_termsLow (inp : FrameInput) (prev s : State) (h : TermsLow s) : TermsLow (datapath inp prev s) := by
  have released := releaseBlocks_termsLow inp prev (groupsFrame s) (by simp [h])
  have struck := termsLow_forEach inp.parity blockParity (engineLimits (watchFrame (boundaryGains (releaseBlocks inp prev (groupsFrame s)))))
    (fun u hit => by simp) (by simpa using released)
  simpa [datapath] using struck
@[simp] theorem execReckonerFrame_termsLow (inp : FrameInput) (s : State) (h : TermsLow s) : Ends TermsLow (execReckonerFrame inp s) := by
  unfold execReckonerFrame; dsimp only; (repeat' split) <;> simp [h]

/-! #### Requests.lean -/

@[simp] theorem execRead_termsLow (m : Nat) (index : Nat) (sub : Nat) (s : State) (h : TermsLow s) : Ends TermsLow (execRead m index sub s) := by
  simp [execRead, h]
@[simp] theorem execWrite_termsLow (m : Nat) (index : Nat) (sub : Nat) (data : List Byte) (s : State) (h : TermsLow s) :
    Ends TermsLow (execWrite m index sub data s) := by
  simp [execWrite, h]
@[simp] theorem execReadStaged_termsLow (m : Nat) (index : Nat) (sub : Nat) (s : State) (h : TermsLow s) :
    Ends TermsLow (execReadStaged m index sub s) := by
  simp [execReadStaged, h]
@[simp] theorem execSubscribe_termsLow (m : Nat) (index : Nat) (sub : Nat) (data : List Byte) (origin : Origin) (s : State) (h : TermsLow s) :
    Ends TermsLow (execSubscribe m index sub data origin s) := by
  simp [execSubscribe, h]
@[simp] theorem execStagingLock_termsLow (m : Nat) (v : Nat) (s : State) (h : TermsLow s) : Ends TermsLow (execStagingLock m v s) := by
  simp [execStagingLock, h]
@[simp] theorem execCommit_termsLow (m : Nat) (s : State) (h : TermsLow s) : Ends TermsLow (execCommit m s) := by
  simp [execCommit, h]
@[simp] theorem execDiscard_termsLow (m : Nat) (s : State) (h : TermsLow s) : Ends TermsLow (execDiscard m s) := by
  simp [execDiscard, h]
@[simp] theorem execWindowSelectorWrite_termsLow (m : Nat) (w : Nat) (v : Nat) (s : State) (h : TermsLow s) :
    Ends TermsLow (execWindowSelectorWrite m w v s) := by
  simp [execWindowSelectorWrite, h]
@[simp] theorem execWindowCursorWrite_termsLow (m : Nat) (w : Nat) (v : Nat) (s : State) (h : TermsLow s) :
    Ends TermsLow (execWindowCursorWrite m w v s) := by
  simp [execWindowCursorWrite, h]
@[simp] theorem execWindowDataWrite_termsLow (m : Nat) (w : Nat) (words : List Word) (s : State) (h : TermsLow s) :
    Ends TermsLow (execWindowDataWrite m w words s) := by
  simp [execWindowDataWrite, h]
@[simp] theorem execWindowDataRead_termsLow (m : Nat) (w : Nat) (n : Nat) (s : State) (h : TermsLow s) :
    Ends TermsLow (execWindowDataRead m w n s) := by
  simp [execWindowDataRead, h]
@[simp] theorem execWindowCrcConfirm_termsLow (m : Nat) (w : Nat) (crc : BitVec 32) (s : State) (h : TermsLow s) :
    Ends TermsLow (execWindowCrcConfirm m w crc s) := by
  simp [execWindowCrcConfirm, h]
@[simp] theorem execBankSeal_termsLow (m : Nat) (crc : BitVec 32) (s : State) (h : TermsLow s) : Ends TermsLow (execBankSeal m crc s) := by
  simp [execBankSeal, h]
@[simp] theorem execTallyWindowRead_termsLow (m : Nat) (n : Nat) (parityPage : Option Nat) (s : State) (h : TermsLow s) :
    Ends TermsLow (execTallyWindowRead m n parityPage s) := by
  unfold execTallyWindowRead; (repeat' split) <;> simp [h]
@[simp] theorem confirmImage_mutes_chans (s : State) (m : Nat) (crc : BitVec 32) (event : Bool) :
    (confirmImage s m crc event).mutes = s.mutes ∧ (confirmImage s m crc event).chans = s.chans := by
  unfold confirmImage; dsimp only; (repeat' split) <;> simp
@[simp] theorem execLicenceBurn_termsLow (m : Nat) (crc : BitVec 32) (readBackOk : Bool) (s : State) (h : TermsLow s) :
    Ends TermsLow (execLicenceBurn m crc readBackOk s) := by
  simp [execLicenceBurn, h]
@[simp] theorem execImageSeal_termsLow (m : Nat) (crc : BitVec 32) (parityBad : Bool) (s : State) (h : TermsLow s) :
    Ends TermsLow (execImageSeal m crc parityBad s) := by
  simp [execImageSeal, h]
@[simp] theorem execSlotReset_termsLow (m : Nat) (ch : Nat) (v : Nat) (s : State) (h : TermsLow s) : Ends TermsLow (execSlotReset m ch v s) := by
  simp [execSlotReset, h]
@[simp] theorem execChannelReset_termsLow (m : Nat) (ch : Nat) (v : Nat) (s : State) (h : TermsLow s) :
    Ends TermsLow (execChannelReset m ch v s) := by
  simp [execChannelReset, h]
@[simp] theorem execRodReset_termsLow (m : Nat) (ch : Nat) (v : Nat) (s : State) (h : TermsLow s) : Ends TermsLow (execRodReset m ch v s) := by
  simp [execRodReset, h]
@[simp] theorem execSwapRequest_termsLow (m : Nat) (g : Nat) (v : Nat) (s : State) (h : TermsLow s) :
    Ends TermsLow (execSwapRequest m g v s) := by
  simp [execSwapRequest, h]
@[simp] theorem execCheckInjection_termsLow (m : Nat) (ch : Nat) (v : Nat) (s : State) (h : TermsLow s) :
    Ends TermsLow (execCheckInjection m ch v s) := by
  simp [execCheckInjection, h]
@[simp] theorem execSurveyStart_termsLow (m : Nat) (ch : Nat) (v : Nat) (s : State) (h : TermsLow s) :
    Ends TermsLow (execSurveyStart m ch v s) := by
  simp [execSurveyStart, h]
@[simp] theorem execSurveyStop_termsLow (m : Nat) (ch : Nat) (s : State) (h : TermsLow s) : Ends TermsLow (execSurveyStop m ch s) := by
  simp [execSurveyStop, h]
@[simp] theorem execManualFreeze_termsLow (m : Nat) (ch : Nat) (p : Nat) (v : Nat) (s : State) (h : TermsLow s) :
    Ends TermsLow (execManualFreeze m ch p v s) := by
  simp [execManualFreeze, h]
@[simp] theorem execModelReset_termsLow (m : Nat) (ch : Nat) (p : Nat) (v : Nat) (s : State) (h : TermsLow s) :
    Ends TermsLow (execModelReset m ch p v s) := by
  simp [execModelReset, h]
@[simp] theorem execModelSnapshot_termsLow (m : Nat) (ch : Nat) (v : Nat) (s : State) (h : TermsLow s) :
    Ends TermsLow (execModelSnapshot m ch v s) := by
  simp [execModelSnapshot, h]
@[simp] theorem execLoopRelease_termsLow (m : Nat) (v : Nat) (s : State) (h : TermsLow s) : Ends TermsLow (execLoopRelease m v s) := by
  simp [execLoopRelease, h]
@[simp] theorem execLedgerPin_termsLow (m : Nat) (v : Nat) (s : State) (h : TermsLow s) : Ends TermsLow (execLedgerPin m v s) := by
  simp [execLedgerPin, h]
@[simp] theorem execLedgerUnpin_termsLow (m : Nat) (v : Nat) (s : State) (h : TermsLow s) : Ends TermsLow (execLedgerUnpin m v s) := by
  simp [execLedgerUnpin, h]
@[simp] theorem execLedgerClear_termsLow (m : Nat) (v : Nat) (s : State) (h : TermsLow s) : Ends TermsLow (execLedgerClear m v s) := by
  simp [execLedgerClear, h]
@[simp] theorem execTunerStateWrite_termsLow (m : Nat) (ch : Nat) (v : Nat) (s : State) (h : TermsLow s) :
    Ends TermsLow (execTunerStateWrite m ch v s) := by
  simp [execTunerStateWrite, h]
@[simp] theorem execRodCalibrationRequest_termsLow (m : Nat) (ch : Nat) (s : State) (h : TermsLow s) :
    Ends TermsLow (execRodCalibrationRequest m ch s) := by
  simp [execRodCalibrationRequest, h]
@[simp] theorem execTunerSearchRequest_termsLow (m : Nat) (ch : Nat) (s : State) (h : TermsLow s) :
    Ends TermsLow (execTunerSearchRequest m ch s) := by
  simp [execTunerSearchRequest, h]
@[simp] theorem execGateRelease_termsLow (m : Nat) (v : Nat) (s : State) (h : TermsLow s) : Ends TermsLow (execGateRelease m v s) := by
  simp [execGateRelease, h]
@[simp] theorem execDelayRequest_termsLow (m : Nat) (port : Nat) (v : Nat) (s : State) (h : TermsLow s) :
    Ends TermsLow (execDelayRequest m port v s) := by
  simp [execDelayRequest, h]
@[simp] theorem execCaptureStart_termsLow (m : Nat) (v : Nat) (s : State) (h : TermsLow s) : Ends TermsLow (execCaptureStart m v s) := by
  simp [execCaptureStart, h]
@[simp] theorem execCaptureStop_termsLow (m : Nat) (v : Nat) (s : State) (h : TermsLow s) : Ends TermsLow (execCaptureStop m v s) := by
  simp [execCaptureStop, h]
@[simp] theorem execMarkWrite_termsLow (m : Nat) (mark : Nat) (v : Nat) (s : State) (h : TermsLow s) :
    Ends TermsLow (execMarkWrite m mark v s) := by
  simp [execMarkWrite, h]
@[simp] theorem execManualTrigger_termsLow (m : Nat) (mark : Nat) (v : Nat) (s : State) (h : TermsLow s) :
    Ends TermsLow (execManualTrigger m mark v s) := by
  simp [execManualTrigger, h]
@[simp] theorem execExportSelect_termsLow (m : Nat) (port : Nat) (v : Nat) (s : State) (h : TermsLow s) :
    Ends TermsLow (execExportSelect m port v s) := by
  simp [execExportSelect, h]
@[simp] theorem execReplayStart_termsLow (m : Nat) (rep : Nat) (v : Nat) (s : State) (h : TermsLow s) :
    Ends TermsLow (execReplayStart m rep v s) := by
  simp [execReplayStart, h]
@[simp] theorem execReplayStop_termsLow (m : Nat) (rep : Nat) (v : Nat) (s : State) (h : TermsLow s) :
    Ends TermsLow (execReplayStop m rep v s) := by
  simp [execReplayStop, h]
@[simp] theorem execFaultNDrive_termsLow (m : Nat) (v : Nat) (s : State) (h : TermsLow s) : Ends TermsLow (execFaultNDrive m v s) := by
  simp [execFaultNDrive, h]
@[simp] theorem execClearMask_termsLow (m : Nat) (mask : BitVec 320) (s : State) (h : TermsLow s) : Ends TermsLow (execClearMask m mask s) := by
  simp [execClearMask, h]
@[simp] theorem execReactionWrite_termsLow (m : Nat) (src : Nat) (v : Nat) (s : State) (h : TermsLow s) :
    Ends TermsLow (execReactionWrite m src v s) := by
  simp [execReactionWrite, h]
@[simp] theorem execWallTimeSet_termsLow (m : Nat) (v : Nat) (s : State) (h : TermsLow s) : Ends TermsLow (execWallTimeSet m v s) := by
  simp [execWallTimeSet, h]
@[simp] theorem execLastResortClear_termsLow (m : Nat) (v : Nat) (s : State) (h : TermsLow s) : Ends TermsLow (execLastResortClear m v s) := by
  simp [execLastResortClear, h]
@[simp] theorem execSnapshotEntryWrite_termsLow (m : Nat) (entry : Nat) (v : Nat) (s : State) (h : TermsLow s) :
    Ends TermsLow (execSnapshotEntryWrite m entry v s) := by
  simp [execSnapshotEntryWrite, h]
@[simp] theorem execLeaveShutdown_termsLow (m : Nat) (v : Nat) (s : State) (h : TermsLow s) : Ends TermsLow (execLeaveShutdown m v s) := by
  simp [execLeaveShutdown, h]
@[simp] theorem execRequestHold_termsLow (m : Nat) (s : State) (h : TermsLow s) : Ends TermsLow (execRequestHold m s) := by
  simp [execRequestHold, h]
@[simp] theorem execRequestServe_termsLow (m : Nat) (s : State) (h : TermsLow s) : Ends TermsLow (execRequestServe m s) := by
  simp [execRequestServe, h]
@[simp] theorem execRequestQuiet_termsLow (m : Nat) (s : State) (h : TermsLow s) : Ends TermsLow (execRequestQuiet m s) := by
  simp [execRequestQuiet, h]
@[simp] theorem execActivate_termsLow (m : Nat) (v : Nat) (s : State) (h : TermsLow s) : Ends TermsLow (execActivate m v s) := by
  simp [execActivate, h]
@[simp] theorem execConfirm_termsLow (m : Nat) (v : Nat) (s : State) (h : TermsLow s) : Ends TermsLow (execConfirm m v s) := by
  simp [execConfirm, h]
@[simp] theorem execSupervisorRestart_termsLow (m : Nat) (v : Nat) (s : State) (h : TermsLow s) :
    Ends TermsLow (execSupervisorRestart m v s) := by
  simp [execSupervisorRestart, h]
@[simp] theorem commandRestart_termsLow (s : State) (m : Nat) (kind : Nat) (num : Nat) (h : TermsLow s) :
    TermsLow (commandRestart s m kind num) := by
  simp [commandRestart, h]
@[simp] theorem execRodRestart_termsLow (m : Nat) (r : Nat) (s : State) (h : TermsLow s) : Ends TermsLow (execRodRestart m r s) := by
  simp [execRodRestart, h]
@[simp] theorem execDnPortRestart_termsLow (m : Nat) (port : Nat) (s : State) (h : TermsLow s) : Ends TermsLow (execDnPortRestart m port s) := by
  simp [execDnPortRestart, h]
@[simp] theorem execXlLaneRestart_termsLow (m : Nat) (lane : Nat) (s : State) (h : TermsLow s) : Ends TermsLow (execXlLaneRestart m lane s) := by
  simp [execXlLaneRestart, h]
@[simp] theorem execCaptureControllerRestart_termsLow (m : Nat) (s : State) (h : TermsLow s) :
    Ends TermsLow (execCaptureControllerRestart m s) := by
  simp [execCaptureControllerRestart, h]
@[simp] theorem execTallyRestart_termsLow (m : Nat) (s : State) (h : TermsLow s) : Ends TermsLow (execTallyRestart m s) := by
  simp [execTallyRestart, h]
@[simp] theorem execCellFinderRestart_termsLow (m : Nat) (r : Nat) (s : State) (h : TermsLow s) :
    Ends TermsLow (execCellFinderRestart m r s) := by
  simp [execCellFinderRestart, h]
/-! ### Every command -/

/-- Each command keeps the covered terms low, by the rule of its own. -/
theorem exec_termsLow (c : Instr) (s : State) (h : TermsLow s) : Ends TermsLow (exec c s) := by
  cases c <;> simp [exec, h]

/-- Settles O5: a step runs the front command, or lets a frame time pass, which touches no mute. -/
theorem stepKeepsMuteTermInv : Obligations.StepKeepsMuteTermInv := by
  intro s t h hstep
  rw [muteTermInv_iff] at h ⊢
  cases hp : s.pending with
  | nil => rw [step, hp] at hstep; cases hstep; exact h
  | cons c rest => rw [step, hp] at hstep; exact exec_termsLow c { s with pending := rest } h t hstep

end Sys2Proof.Machine

namespace Sys2Proof.Machine

/-! ### States field by field -/

/-- Two states are the same where their fields are. -/
theorem state_ext {s t : State} (time : s.time = t.time) (objs : s.objs = t.objs) (clk : s.clk = t.clk) (slots : s.slots = t.slots)
    (gains : s.gains = t.gains) (chans : s.chans = t.chans) (rods : s.rods = t.rods) (buses : s.buses = t.buses)
    (routeRefs : s.routeRefs = t.routeRefs) (resets : s.resets = t.resets) (exitReports : s.exitReports = t.exitReports)
    (combSat : s.combSat = t.combSat) (mutes : s.mutes = t.mutes) (olp : s.olp = t.olp) (commit : s.commit = t.commit)
    (windows : s.windows = t.windows) (gov : s.gov = t.gov) (govSnap : s.govSnap = t.govSnap) (prot : s.prot = t.prot)
    (lic : s.lic = t.lic) (sent : s.sent = t.sent) (links : s.links = t.links) (cap : s.cap = t.cap) (flt : s.flt = t.flt)
    (tally : s.tally = t.tally) (therm : s.therm = t.therm) (life : s.life = t.life) (pins : s.pins = t.pins) (nv : s.nv = t.nv)
    (out : s.out = t.out) (free : s.free = t.free) (pending : s.pending = t.pending) : s = t := by
  cases s; cases t; simp_all

/-! ### Mutes that stay -/

theorem mem_enterSafe {m : Mute} {s : State} {cause : Nat} (h : m ∈ s.mutes) : m ∈ (enterSafe s cause).mutes := by
  unfold enterSafe
  split <;> simp_all [changePower]

theorem mem_muteLostRoutes {m : Mute} {s : State} (h : m ∈ s.mutes) : m ∈ (muteLostRoutes s).mutes := by
  unfold muteLostRoutes
  split
  · exact forEach_inv (fun u : State => m ∈ u.mutes) _ _ (fun u g hu => (mem_addMute ..).2 (.inl hu)) _ h
  · exact h

/-- The end of the last rod's work leaves the mutes that stand. -/
theorem mem_lastRod {m : Mute} {before s : State} {cause : Nat} (h : m ∈ s.mutes) : m ∈ (lastRod before s cause).mutes := by
  unfold lastRod
  split
  · exact mem_enterSafe h
  · exact mem_muteLostRoutes h

/-! ### Die-to-die links -/

/-- A rod's record of its link as the link, or its Sentinel lanes, fail at `now` (R12). -/
def linkFailed (now : Nat) (lanes : Bool) (x : Rod) : Rod := { x with linkOk := x.linkOk && lanes, lanesOk := x.lanesOk && !lanes, linkSince := now }

theorem execDieLinkAlignmentLoss_eq {s : State} {r : Nat} (lanes : Bool) (hoff : s.life.power ≠ .off) (hr : r < 6)
    (hpow : (getRod s r).powered = true) :
    execDieLinkAlignmentLoss r lanes s =
      .next (lastRod s (addMute (modRod s r (linkFailed s.time lanes)) (.dieLink r) (.rod r)) (197 + 6 * r)) := by
  rw [execDieLinkAlignmentLoss, if_neg (by simp [hoff, hpow, Nat.not_le.2 hr])]
  rfl

theorem execDieLinkErrorFreeExpiry_eq {s : State} {r : Nat} (hoff : s.life.power ≠ .off)
    (hdown : (getRod s r).linkOk = false ∨ (getRod s r).lanesOk = false) (hsince : (getRod s r).linkSince + 10 * 32000000 ≤ s.time) :
    execDieLinkErrorFreeExpiry r s = .next (dropMute (modRod s r fun x => { x with linkOk := true, lanesOk := true }) (.dieLink r)) := by
  have hboth : ((getRod s r).linkOk && (getRod s r).lanesOk) = false := Bool.and_eq_false_iff.2 hdown
  have helapsed : elapsedMs s (getRod s r).linkSince 10 = true := decide_eq_true hsince
  simp [execDieLinkErrorFreeExpiry, hoff, hboth, helapsed]

/-- Settles O20: the rod's mute stays through the end of the last rod's work, and the mute terms it covers are low. -/
theorem dieLinks : Obligations.DieLinks := by
  intro s r hoff hr
  refine ⟨fun lanes hpow hterm => ?_, fun hdown hsince => ?_⟩
  · let t := lastRod s (addMute (modRod s r (linkFailed s.time lanes)) (.dieLink r) (.rod r)) (197 + 6 * r)
    have hexec : exec (.dieLinkAlignmentLoss r lanes) s = .next t := execDieLinkAlignmentLoss_eq lanes hoff hr hpow
    have hrods : t.rods = (modRod s r (linkFailed s.time lanes)).rods := by simp [t]
    have hself : getRod t r = linkFailed s.time lanes (getRod s r) := by simp [getRod, hrods, modRod]
    have hmute : muteAt t (.dieLink r) (.rod r) := mem_lastRod ((mem_addMute ..).2 (.inr rfl))
    have hlow : TermsLow t := by simpa [hexec] using exec_termsLow (.dieLinkAlignmentLoss r lanes) s ((muteTermInv_iff s).1 hterm)
    refine ⟨t, hexec, hmute, fun h => by simp [hself, linkFailed, h], fun h => by simp [hself, linkFailed, h], by rw [hself]; rfl,
      fun r' hr' => ?_, fun ch hch => txen_of_muteTerm (hlow ch (chanMuted_of_rod hmute hch)), ?_⟩
    · simpa [getRod, hrods] using getRod_modRod_ne s r _ _ hr'
    · apply state_ext <;> simp [t]
  · refine ⟨_, execDieLinkErrorFreeExpiry_eq hoff hdown hsince, ?_, ?_, fun m => mem_dropMute .., rfl⟩
    all_goals simp [getRod, modRod]

end Sys2Proof.Machine

namespace Sys2Proof.Machine

/-! ### What the operations of the collector and of a commit leave as it was -/

/-- The clocks, OLP, the commits and what is non-volatile are as they were. -/
@[simp] abbrev RecordsKept (s t : State) : Prop := t.clk = s.clk ∧ t.olp = s.olp ∧ t.commit = s.commit ∧ t.nv = s.nv

/-- The units beside the datapath are as they were. -/
@[simp] abbrev UnitsKept (s t : State) : Prop :=
  RecordsKept s t ∧ t.time = s.time ∧ t.windows = s.windows ∧ t.lic = s.lic ∧ t.sent = s.sent ∧ t.therm = s.therm ∧
    t.life = s.life ∧ t.pins = s.pins

/-- The units, the configuration, the slots and the fault collector are as they were. -/
@[simp] abbrev ConfigKept (s t : State) : Prop := UnitsKept s t ∧ t.objs = s.objs ∧ t.slots = s.slots ∧ t.flt = s.flt

/-- Of the fault collector the sticky bits are as they were. -/
@[simp] abbrev StickyKept (s t : State) : Prop := UnitsKept s t ∧ t.objs = s.objs ∧ t.slots = s.slots ∧ t.flt.sticky = s.flt.sticky

theorem ConfigKept.trans {s t u : State} (h : ConfigKept s t) (h' : ConfigKept t u) : ConfigKept s u := by simp_all

theorem configKept_forEach {α : Type} (xs : List α) (f : State → α → State) (h : ∀ u x, ConfigKept u (f u x)) (s : State) :
    ConfigKept s (forEach xs s f) := forEach_inv (ConfigKept s) xs f (fun u x hu => hu.trans (h u x)) s (by simp)

@[simp] theorem episodeOcc_config (s : State) (o : Occ) : ConfigKept s (episodeOcc s o) := by
  simp [episodeOcc]
@[simp] theorem faultPulse_sticky (s : State) : StickyKept s (faultPulse s) := by
  simp [faultPulse]
@[simp] theorem openEpisode_sticky (s : State) (new : BitVec 320) : StickyKept s (openEpisode s new) := by
  simp [openEpisode]
@[simp] theorem closeEpisode_sticky (s : State) : StickyKept s (closeEpisode s) := by
  simp [closeEpisode]
@[simp] theorem evalEpisode_sticky (s : State) (new : BitVec 320) : StickyKept s (evalEpisode s new) := by
  unfold evalEpisode; dsimp only; (repeat' split) <;> simp
@[simp] theorem releaseSource_sticky (s : State) (n : Nat) : StickyKept s (releaseSource s n) := by
  simp [releaseSource]
@[simp] theorem namedMutes_config (s : State) (n : Nat) (mk : Nat → Scope) : ConfigKept s (namedMutes s n mk) := by
  simp [namedMutes]
@[simp] theorem losePort_config (s : State) (kind : Nat) (l : Nat) : ConfigKept s (losePort s kind l) := by
  simp [losePort]
@[simp] theorem dnDown_config (s : State) (l : Nat) : ConfigKept s (dnDown s l) := by
  simp [dnDown]
@[simp] theorem restartDn_config (s : State) (l : Nat) : ConfigKept s (restartDn s l) := by
  simp [restartDn]
@[simp] theorem unuseMarks_config (s : State) : ConfigKept s (unuseMarks s) := by
  simp [unuseMarks]
@[simp] theorem restartCapture_config (s : State) : ConfigKept s (restartCapture s) := by
  simp [restartCapture]
@[simp] theorem enterLoss_config (s : State) (g : Nat) : ConfigKept s (enterLoss s g) := by
  simp [enterLoss]
@[simp] theorem finderLost_config (s : State) (r : Nat) (st : Nat) : ConfigKept s (finderLost s r st) := by
  simp [finderLost]
@[simp] theorem endPllRestart_config (s : State) : ConfigKept s (endPllRestart s) := by
  simp [endPllRestart]
@[simp] theorem xlDown_config (s : State) (l : Nat) (keepLock : Bool) : ConfigKept s (xlDown s l keepLock) := by
  unfold xlDown; dsimp only; (repeat' split) <;> simp
@[simp] theorem restartXl_config (s : State) (l : Nat) : ConfigKept s (restartXl s l) := by
  simp [restartXl]
@[simp] theorem restartLinks_config (s : State) : ConfigKept s (restartLinks s) := by
  simp [restartLinks]
@[simp] theorem dropSwap_units (s : State) (g : Nat) : UnitsKept s (dropSwap s g) ∧ (dropSwap s g).flt = s.flt := by
  simp [dropSwap]
@[simp] theorem cancellerRod_config (s : State) (r : Nat) (contribToo : Bool) : ConfigKept s (cancellerRod s r contribToo) := by
  simp [cancellerRod]
@[simp] theorem dropHandover_config (s : State) (r : Nat) : ConfigKept s (dropHandover s r) := by
  unfold dropHandover; (repeat' split) <;> simp
@[simp] theorem sleepChannel_config (s : State) (ch : Nat) : ConfigKept s (sleepChannel s ch) := by
  simp [sleepChannel]
@[simp] theorem radioOff_config (s : State) (r : Nat) : ConfigKept s (radioOff s r) := by
  simp [radioOff]
@[simp] theorem clearRodLines_config (s : State) (r : Nat) : ConfigKept s (clearRodLines s r) := by
  simp [clearRodLines]
@[simp] theorem clearRodCounters_config (s : State) (r : Nat) : ConfigKept s (clearRodCounters s r) := by
  simp [clearRodCounters]
@[simp] theorem extendNamed_config (s : State) : ConfigKept s (extendNamed s) := by
  simp [extendNamed]
@[simp] theorem resetSlot_units (s : State) (g : Nat) (chanScope : Bool) :
    UnitsKept s (resetSlot s g chanScope) ∧ (resetSlot s g chanScope).objs = s.objs ∧ (resetSlot s g chanScope).flt = s.flt := by
  simp [resetSlot]
@[simp] theorem noteReset_config (s : State) (ch : Nat) : ConfigKept s (noteReset s ch) := by
  simp [noteReset]
@[simp] theorem resetChannel_units (s : State) (ch : Nat) :
    UnitsKept s (resetChannel s ch) ∧ (resetChannel s ch).objs = s.objs ∧ (resetChannel s ch).flt = s.flt := by
  simp [resetChannel]
@[simp] theorem resetSlots_units (s : State) (ch : Nat) (gs : List Nat) :
    UnitsKept s (resetSlots s ch gs) ∧ (resetSlots s ch gs).objs = s.objs ∧ (resetSlots s ch gs).flt = s.flt := by
  simp [resetSlots]
@[simp] theorem resetRod_units (s : State) (r : Nat) :
    UnitsKept s (resetRod s r) ∧ (resetRod s r).objs = s.objs ∧ (resetRod s r).flt = s.flt := by
  simp [resetRod]
@[simp] theorem resetBy_units (s : State) (ch : Nat) (sub : Nat) (v : Nat) :
    UnitsKept s (resetBy s ch sub v) ∧ (resetBy s ch sub v).objs = s.objs ∧ (resetBy s ch sub v).flt = s.flt := by
  unfold resetBy; (repeat' split) <;> simp
@[simp] theorem resetsAgain_units (s : State) :
    UnitsKept s (resetsAgain s) ∧ (resetsAgain s).objs = s.objs ∧ (resetsAgain s).flt = s.flt := by
  simp [resetsAgain]
@[simp] theorem streamMutes_config (s : State) : ConfigKept s (streamMutes s) := by
  refine configKept_forEach _ _ (fun u e => ?_) s
  (repeat' split) <;> simp
@[simp] theorem groupCommit_config (old : SMap Nat) (s : State) (i : Nat) : ConfigKept s (groupCommit old s i) := by
  simp [groupCommit]
@[simp] theorem forgetServing_config (s : State) (g : Nat) : ConfigKept s (forgetServing s g) := by
  simp [forgetServing]
@[simp] theorem endFallback_config (s : State) (r : Nat) : ConfigKept s (endFallback s r) := by
  simp [endFallback]
@[simp] theorem finderCommit_config (old : SMap Nat) (s : State) (r : Nat) : ConfigKept s (finderCommit old s r) := by
  simp [finderCommit]
@[simp] theorem protectCommit_config (old : SMap Nat) (s : State) : ConfigKept s (protectCommit old s) := by
  simp [protectCommit]
@[simp] theorem licenceRelease_config (s : State) : ConfigKept s (licenceRelease s) := by
  simp [licenceRelease]
@[simp] theorem eqCommit_config (old : SMap Nat) (s : State) : ConfigKept s (eqCommit old s) := by
  simp [eqCommit]
@[simp] theorem cancellerCommit_config (old : SMap Nat) (s : State) : ConfigKept s (cancellerCommit old s) := by
  simp [cancellerCommit]
@[simp] theorem phaseStream_config (s : State) (l : Nat) (n : Nat) : ConfigKept s (phaseStream s l n) := by
  unfold phaseStream; dsimp only; (repeat' split) <;> simp
@[simp] theorem enableStream_config (s : State) (code : Nat) : ConfigKept s (enableStream s code) := by
  simp [enableStream]
@[simp] theorem commitStreams_config (old : SMap Nat) (s : State) (kind : Nat) (l : Nat) : ConfigKept s (commitStreams old s kind l) := by
  simp [commitStreams]
@[simp] theorem xlCommit_config (old : SMap Nat) (s : State) (l : Nat) : ConfigKept s (xlCommit old s l) := by
  simp [xlCommit]
@[simp] theorem dnCommit_config (old : SMap Nat) (s : State) (l : Nat) : ConfigKept s (dnCommit old s l) := by
  simp [dnCommit]
@[simp] theorem linksCommit_config (old : SMap Nat) (s : State) : ConfigKept s (linksCommit old s) := by
  simp [linksCommit]
@[simp] theorem muteSides_config (s : State) (r : Nat) : ConfigKept s (muteSides s r) := by
  simp [muteSides]
@[simp] theorem keepLoop_config (old : SMap Nat) (s : State) (r : Nat) : ConfigKept s (keepLoop old s r) := by
  simp [keepLoop]
@[simp] theorem endLoop_config (s : State) (r : Nat) : ConfigKept s (endLoop s r) := by
  simp [endLoop]
@[simp] theorem startLoop_config (s : State) (r : Nat) : ConfigKept s (startLoop s r) := by
  simp [startLoop]
@[simp] theorem formLoops_config (old : SMap Nat) (s : State) : ConfigKept s (formLoops old s) := by
  simp [formLoops]
@[simp] theorem tuneSynth_config (s : State) (r : Nat) (n : Nat) (lo : Nat) : ConfigKept s (tuneSynth s r n lo) := by
  simp [tuneSynth]
theorem fillSynths_config (s : State) (r : Nat) : ConfigKept s (fillSynths s r) := by
  unfold fillSynths
  extract_lets u
  have hu : ConfigKept s u := configKept_forEach _ _ (fun v lo => by split <;> simp) s
  exact hu.trans (by (repeat' split) <;> simp)
@[simp] theorem freeSynths_config (s : State) (r : Nat) : ConfigKept s (freeSynths s r) := by
  unfold freeSynths; (repeat' split) <;> simp
@[simp] theorem assignChan_config (s : State) (ch : Nat) : ConfigKept s (assignChan s ch) := by
  simp [assignChan]
@[simp] theorem assignSynths_config (s : State) (r : Nat) : ConfigKept s (assignSynths s r) := by
  have h := (show ConfigKept s (freeSynths s r) by simp).trans (fillSynths_config (freeSynths s r) r)
  exact h.trans (configKept_forEach _ _ (fun u ch => by simp) _)
@[simp] theorem radioCommit_config (old : SMap Nat) (s : State) : ConfigKept s (radioCommit old s) := by
  unfold radioCommit
  refine ((configKept_forEach _ _ (fun u r => assignSynths_config u r) s).trans (configKept_forEach _ _ (fun u ch => ?_) _)).trans
    (configKept_forEach _ _ (fun u r => by simp) _)
  dsimp only
  (repeat' split) <;> simp
@[simp] theorem queueSwap_units (s : State) (g : Nat) (t : Nat) (f : XFade) :
    UnitsKept s (queueSwap s g t f) ∧ (queueSwap s g t f).objs = s.objs ∧ (queueSwap s g t f).flt = s.flt := by
  simp [queueSwap]
@[simp] theorem licenceCapsFor_config (s : State) (ch : Nat) (who : Nat → Bool) : ConfigKept s (licenceCapsFor s ch who) := by
  simp [licenceCapsFor]
@[simp] theorem licenceCommit_config (old : SMap Nat) (s : State) : ConfigKept s (licenceCommit old s) := by
  simp [licenceCommit]
@[simp] theorem noteFit_config (s : State) : ConfigKept s (noteFit s) := by
  simp [noteFit]
@[simp] theorem suspendSources_config (s : State) : ConfigKept s (suspendSources s) := by
  refine configKept_forEach _ _ (fun u e => ?_) s
  dsimp only
  split <;> simp
@[simp] theorem resumeSources_config (s : State) (es : List (Nat × Nat)) : ConfigKept s (resumeSources s es) := by
  simp [resumeSources]
@[simp] theorem fitSources_config (s : State) : ConfigKept s (fitSources s) := by
  unfold fitSources
  dsimp only
  (repeat' split) <;> simp
@[simp] theorem captureCommit_config (s : State) : ConfigKept s (captureCommit s) := by
  unfold captureCommit
  split
  · simp
  · refine (configKept_forEach _ _ (fun u e => ?_) s).trans (fitSources_config _)
    dsimp only
    (repeat' split) <;> simp

end Sys2Proof.Machine

namespace Sys2Proof.Machine

/-! ### Bank selects of slots with a pending swap (R115) -/

def SwapPends (slots : SMap SlotPath) (g : Nat) : Prop := (smGet {} slots g).pendSwap.isSome = true

/-- A configuration whose bank selects of some of the slots in `may` have been set anew. -/
inductive SelectsSet (may : Nat → Prop) (cfg : SMap Nat) : SMap Nat → Prop
  | refl : SelectsSet may cfg cfg
  | set {cfg' : SMap Nat} {g v : Nat} : SelectsSet may cfg cfg' → may g → SelectsSet may cfg (setBankSelect cfg' g v)

theorem SelectsSet.trans {may may' : Nat → Prop} {a b c : SMap Nat} (h : SelectsSet may a b) (h' : SelectsSet may' b c)
    (hmay : ∀ g, may' g → may g) : SelectsSet may a c := by
  induction h' with
  | refl => exact h
  | set _ hg ih => exact ih.set (hmay _ hg)

theorem smGet_cfgSet_ne {cfg : SMap Nat} {k k' v d : Nat} (h : k ≠ k') : smGet d (cfgSet cfg k' v) k = smGet d cfg k := by
  simp only [cfgSet, smSet]
  split
  · exact smGet_filter_ne d cfg k' k h
  · rw [smGet_smInsert_ne d _ k' k v h, smGet_filter_ne d cfg k' k h]

/-- Every object but the bank selects that may be set is as it was. -/
theorem SelectsSet.smGet_eq {may : Nat → Prop} {a b : SMap Nat} (h : SelectsSet may a b) {k : Nat} (d : Nat)
    (hk : ∀ g, may g → k ≠ key (sigIdx (g / 8) 7) (g % 8 + 1)) : smGet d b k = smGet d a k := by
  induction h with
  | refl => rfl
  | set _ hg ih => rw [setBankSelect, smGet_cfgSet_ne (hk _ hg), ih]

/-- What a reaction of the collector leaves: the records of OLP and of the commits, the sticky bits, and every object
but the bank selects of slots whose pending swap it drops. -/
structure ReactionKeeps (s t : State) : Prop where
  records : RecordsKept s t
  sticky : t.flt.sticky = s.flt.sticky
  objs : SelectsSet (SwapPends s.slots) s.objs t.objs
  pends : ∀ g, SwapPends t.slots g → SwapPends s.slots g

theorem ReactionKeeps.trans {s t u : State} (h : ReactionKeeps s t) (h' : ReactionKeeps t u) : ReactionKeeps s u where
  records := by have := h.records; have := h'.records; simp_all
  sticky := h'.sticky.trans h.sticky
  objs := h.objs.trans h'.objs h.pends
  pends g hg := h.pends g (h'.pends g hg)

theorem reactionKeeps_of_eq {s t : State} (h : RecordsKept s t ∧ t.flt.sticky = s.flt.sticky ∧ t.objs = s.objs ∧ t.slots = s.slots) :
    ReactionKeeps s t := by
  obtain ⟨hrec, hsticky, hobjs, hslots⟩ := h
  exact ⟨hrec, hsticky, hobjs ▸ .refl, by simp [hslots]⟩

theorem ReactionKeeps.refl (s : State) : ReactionKeeps s s := reactionKeeps_of_eq (by simp)

theorem reactionKeeps_forEach {α : Type} (xs : List α) (f : State → α → State) (h : ∀ u x, ReactionKeeps u (f u x)) (s : State) :
    ReactionKeeps s (forEach xs s f) :=
  forEach_inv (ReactionKeeps s) xs f (fun u x hu => hu.trans (h u x)) s (ReactionKeeps.refl _)

theorem reactionKeeps_ite {c : Prop} [Decidable c] {s t u : State} (ht : ReactionKeeps s t) (hu : ReactionKeeps s u) :
    ReactionKeeps s (if c then t else u) := by
  split
  · exact ht
  · exact hu

theorem OnlySelects.of_selectsSet {s t : State} (h : SelectsSet (SwapPends s.slots) s.objs t.objs) : OnlySelects s t :=
  fun k hk => h.smGet_eq (dfltOf k) hk

/-! ### Restarts -/

/-- A change of a slot that lets no swap pend anew. -/
theorem swapPends_of_modSlot {s : State} {g : Nat} {f : SlotPath → SlotPath}
    (hf : (f (getSlot s g)).pendSwap.isSome = true → SwapPends s.slots g) (g' : Nat) (h : SwapPends (modSlot s g f).slots g') :
    SwapPends s.slots g' := by
  by_cases hg : g' = g
  · subst hg
    simp only [SwapPends, modSlot, smGet_smMod_self] at h
    exact hf h
  · simpa only [SwapPends, modSlot, smGet_smMod_ne _ _ _ _ _ hg] using h

theorem modSlot_keeps {s : State} {g : Nat} {f : SlotPath → SlotPath} (hf : (f (getSlot s g)).pendSwap = none) :
    ReactionKeeps s (modSlot s g f) :=
  ⟨by simp, rfl, .refl, swapPends_of_modSlot (by simp [hf])⟩

theorem switchBank_keeps_selects (s : State) (g t : Nat) : ReactionKeeps s (switchBank s g t) :=
  .trans (modSlot_keeps (g := g) (f := fun x => { x with holds := t, xf := none, pendSwap := none, swapResult := 0x04 }) rfl)
    (reactionKeeps_of_eq (by simp [switchBank]))

/-- The end of a fade drops only a swap that was pending. -/
theorem dropSwap_keeps {s t : State} {g : Nat} (hpend : SwapPends s.slots g) (h : ReactionKeeps s t) : ReactionKeeps s (dropSwap t g) where
  records := by have := h.records; simp_all
  sticky := by simpa using h.sticky
  objs := by simpa [dropSwap] using h.objs.set hpend
  pends g' hg' := by
    have hslots : (dropSwap t g).slots = (modSlot t g fun x => { x with swapResult := 0x14 }).slots := by simp [dropSwap]
    exact h.pends g' (swapPends_of_modSlot (s := t) (f := fun x => { x with swapResult := 0x14 }) (fun hf => hf) g' (hslots ▸ hg'))

theorem completeSwaps_keeps (s : State) (g : Nat) : ReactionKeeps s (completeSwaps s g) := by
  unfold completeSwaps
  split
  · exact .refl s
  case h_2 f hf =>
    have hended : ReactionKeeps s (modSlot s g fun x => { x with holds := f.target, xf := none, pendSwap := none }) := modSlot_keeps rfl
    cases hpend : (getSlot s g).pendSwap with
    | none =>
      simp only [endFade, hpend]
      exact hended.trans (reactionKeeps_of_eq (by simp))
    | some t =>
      simp only [endFade, hpend]
      refine reactionKeeps_ite ?_ (dropSwap_keeps (Option.isSome_iff_exists.2 ⟨t, hpend⟩) hended)
      exact (hended.trans (switchBank_keeps_selects _ g t)).trans (reactionKeeps_of_eq (by simp))

theorem restartRod_keeps (s : State) (r cause : Nat) : ReactionKeeps s (restartRod s r cause) := by
  unfold restartRod
  refine reactionKeeps_ite (ReactionKeeps.refl _) ?_
  extract_lets before s1 s2 s3 s4 s5 s6
  have h3 : ReactionKeeps s s3 := reactionKeeps_of_eq (by simp [s3, s2, s1])
  have h4 : ReactionKeeps s s4 := h3.trans (reactionKeeps_forEach _ _ completeSwaps_keeps _)
  have h6 : ReactionKeeps s4 s6 := reactionKeeps_of_eq (by simp [s6, s5])
  exact (h4.trans h6).trans (reactionKeeps_of_eq (by simp))

theorem restartBlock_keeps (s : State) (kind n cause : Nat) : ReactionKeeps s (restartBlock s kind n cause) := by
  unfold restartBlock
  extract_lets life u
  have hu : ReactionKeeps s u := reactionKeeps_of_eq (by simp [u])
  refine hu.trans ?_
  split
  case h_1 => exact restartRod_keeps u n cause
  all_goals exact reactionKeeps_of_eq (by simp)

theorem reactionRestart_keeps (s : State) (n : Nat) : ReactionKeeps s (reactionRestart s n) := by
  unfold reactionRestart
  split
  · exact .refl s
  dsimp only
  split
  · refine reactionKeeps_of_eq ?_
    split <;> simp
  · split
    · exact reactionKeeps_of_eq (by simp)
    · split
      · exact reactionKeeps_of_eq (by simp)
      · exact .trans (reactionKeeps_of_eq (by simp)) (restartBlock_keeps _ _ _ _)

theorem reactionAct_keeps (s : State) (n code : Nat) : ReactionKeeps s (reactionAct s n code) := by
  unfold reactionAct
  split
  case h_5 => exact reactionRestart_keeps s n
  all_goals refine reactionKeeps_of_eq ?_; (repeat' split) <;> simp

theorem react_keeps (merged : Bool) (s : State) (n : Nat) : ReactionKeeps s (react merged s n) := by
  unfold react
  extract_lets code u before v
  have hu : ReactionKeeps s u := reactionKeeps_ite (.refl s) (reactionKeeps_of_eq (by simp))
  have hv : ReactionKeeps s v := hu.trans (reactionAct_keeps u n code)
  exact reactionKeeps_ite (hv.trans (reactionKeeps_of_eq (by simp))) hv

/-! ### A cycle of the collector -/

theorem getLsbD_foldl_lines (p : Nat → Bool) {n : Nat} (h : n < 320) (xs : List Nat) (v : BitVec 320) :
    (xs.foldl (fun v n => if p n then v ||| (1#320 <<< n) else v) v).getLsbD n = (v.getLsbD n || (xs.contains n && p n)) := by
  induction xs generalizing v with
  | nil => simp
  | cons x xs ih =>
    rw [List.foldl_cons, ih, List.contains_cons]
    by_cases hx : n = x
    · subst hx
      cases hp : p n <;> simp [h]
    · have hbit : (1#320 <<< x).getLsbD n = false := by
        simp [BitVec.getLsbD_one]
        omega
      cases hp : p x <;> simp [hbit, beq_eq_false_iff_ne.2 hx]

theorem getLsbD_viewOf (p : Nat → Bool) {n : Nat} (h : n < 320) : (viewOf p).getLsbD n = p n := by
  rw [viewOf, getLsbD_foldl_lines p h]
  simp [h]

/-- A cycle takes the raw lines in, ends what it clears, and then only reacts. -/
theorem collect_keeps (s : State) (mask : BitVec 320) :
    ReactionKeeps { s with flt := { s.flt with
        sticky := (s.flt.sticky ||| rawView s) &&& ~~~(mask &&& (s.flt.sticky ||| rawView s) &&& ~~~rawView s) } }
      (collect s mask) := by
  unfold collect
  extract_lets flt raw new set refused cleared merged u u1 u2 u3
  have h1 : ReactionKeeps u u1 := reactionKeeps_forEach _ _ (fun v n => reactionKeeps_of_eq (by simp)) u
  have h2 : ReactionKeeps u1 u2 := reactionKeeps_of_eq (by simp [u2])
  have h3 : ReactionKeeps u2 u3 := reactionKeeps_forEach _ _ (react_keeps merged) u2
  refine .trans (t := u) (reactionKeeps_of_eq ⟨by simp [u], rfl, rfl, rfl⟩) ?_
  exact ((h1.trans h2).trans h3).trans (reactionKeeps_of_eq (by simp))

theorem collect_sticky (s : State) : (collect s 0).flt.sticky = s.flt.sticky ||| rawView s := by
  rw [(collect_keeps s 0).sticky]
  simp only [BitVec.ofNat_eq_ofNat, BitVec.zero_and, BitVec.not_zero, BitVec.and_allOnes]

/-! ### The power state entered -/

/-- A change of the power state notes the state left and the frame of the entry (R412). -/
theorem changePower_life {s : State} {new : Power} (source : Nat) (h : s.life.power ≠ new) :
    (changePower s new source).life = { s.life with
      power := new, prev := s.life.power, entryFrame := if source = 0 then s.clk.frame else s.clk.frame + 1,
      scan := s.life.scan && !(new == .safe || new == .shutdown) } := by
  simp [changePower, h]

theorem enterSafe_life_of_runs {s : State} (cause : Nat) (h : s.life.power = .hold ∨ s.life.power = .serve ∨ s.life.power = .quiet) :
    (enterSafe s cause).life.power = .safe ∧ (enterSafe s cause).life.safeCause = cause := by
  rcases h with h | h | h <;> simp [enterSafe, h, changePower_life]

/-- Under a mute of device scope no TXEN is high, where the mute terms are kept. -/
theorem txen_of_deviceMute {t : State} {o : Owner} (hlow : TermsLow t) (h : muteAt t o .device) (ch : Nat) : txen t ch = false :=
  txen_of_muteTerm (hlow ch (chanMuted_of_device h ch))

/-! ### Losses and returns of clocks (R16, R357, R399, R453) -/

theorem tallyOcc_of_supclkOff {s : State} (h : s.clk.supclk = false) (o : Occ) : tallyOcc s o = s := by simp [tallyOcc, h]

theorem tallyEvent_of_supclkOff {s : State} (h : s.clk.supclk = false) (code source : Nat) (args : List Nat) :
    tallyEvent s code source args = s := tallyOcc_of_supclkOff h _

/-- Without SUPCLK the supervisor's stop reaches Tally with no record. -/
theorem stopSupervisor_tally_of_supclkOff {s : State} (h : s.clk.supclk = false) (cause : Nat) : (stopSupervisor s cause).tally = s.tally := by
  have hclose {u : State} (hu : u.clk.supclk = false) : (closeMonitor u).tally = u.tally := by
    simp only [closeMonitor, tallyEvent_of_supclkOff hu, ite_self]
  simp only [stopSupervisor]
  split
  · rfl
  · split
    · rw [tallyEvent_of_supclkOff (by simpa using h)]
      simp only [loseStaging, revertTrial, hclose, tallyEvent_of_supclkOff, h]
    · rw [tallyEvent_of_supclkOff (by simpa using h)]
      simp only [loseStaging, hclose, h]

/-- A stop by a cause from 3 to 6 begins autonomy, under the trial's cause where a trial runs (R422, R423). -/
theorem stopSupervisor_autonomy {s : State} {cause : Nat} (hsup : s.life.sup = true) (h3 : 3 ≤ cause) (h6 : cause ≤ 6) :
    (stopSupervisor s cause).life.sup = false ∧ (stopSupervisor s cause).life.autonomy = true ∧ (stopSupervisor s cause).life.autoSince = s.time ∧
      (stopSupervisor s cause).life.autoCause = if trialRuns s then 2 else cause := by
  by_cases h : trialRuns s = true
  · simp [stopSupervisor, hsup, h, h3, h6]
  · simp [stopSupervisor, hsup, h, h3, h6]

/-- What the turn of one element brings about, and no other undoes, holds where the loop ends. -/
theorem forEach_brings {σ γ : Type} {P : σ → Prop} {xs : List γ} {f : σ → γ → σ} {x : γ} (hx : x ∈ xs) (hbrings : ∀ u, P (f u x))
    (hkeeps : ∀ u y, P u → P (f u y)) (s : σ) : P (forEach xs s f) := by
  obtain ⟨before, after, rfl⟩ := List.append_of_mem hx
  simpa [forEach] using forEach_inv P after f hkeeps _ (hbrings (forEach before s f))

/-- The rod's turn at the return of REFCLK: a calibration begins and is owed (R399). -/
def owesCalibration (s : State) (r : Nat) : State := modRod (startRodCal (restartDwell s r) r) r fun x => { x with calPending := true }

theorem getRod_owesCalibration (s : State) (r : Nat) : (getRod (owesCalibration s r) r).cal = 1 ∧ (getRod (owesCalibration s r) r).calPending = true := by
  simp [owesCalibration, startRodCal, getRod, modRod, restartDwell]

theorem getRod_owesCalibration_ne (s : State) {r r' : Nat} (h : r' ≠ r) : getRod (owesCalibration s r) r' = getRod s r' := by
  simp [owesCalibration, startRodCal, getRod, modRod, restartDwell, smGet_smMod_ne _ _ _ _ _ h]

theorem mem_owesCalibration (s : State) (r : Nat) (m : Mute) :
    m ∈ (owesCalibration s r).mutes ↔ m ∈ s.mutes ∨ m = ⟨.rodCal r, .rod r⟩ := by
  simp [owesCalibration, startRodCal, restartDwell]

theorem hasMute_owesCalibration (s : State) (r : Nat) : hasMute (owesCalibration s r) .refclk = hasMute s .refclk := by
  rw [Bool.eq_iff_iff]
  simp [hasMute, List.any_eq_true, mem_owesCalibration, or_and_right, exists_or]

/-- A rod whose turn comes at the return of REFCLK has its calibration and its mute, whatever rods follow. -/
theorem owesCalibration_of_mem {rods : List Nat} {r : Nat} (hr : r ∈ rods) (s : State) :
    (getRod (forEach rods s owesCalibration) r).cal = 1 ∧ (getRod (forEach rods s owesCalibration) r).calPending = true ∧
      muteAt (forEach rods s owesCalibration) (.rodCal r) (.rod r) := by
  refine forEach_brings (P := fun u => (getRod u r).cal = 1 ∧ (getRod u r).calPending = true ∧ muteAt u (.rodCal r) (.rod r)) hr
    (fun u => ?_) (fun u r' hu => ?_) s
  · exact ⟨(getRod_owesCalibration u r).1, (getRod_owesCalibration u r).2, (mem_owesCalibration ..).2 (.inr rfl)⟩
  · obtain ⟨hcal, hpend, hmute⟩ := hu
    by_cases h : r = r'
    · subst h
      exact ⟨(getRod_owesCalibration u r).1, (getRod_owesCalibration u r).2, (mem_owesCalibration ..).2 (.inr rfl)⟩
    · rw [getRod_owesCalibration_ne u h]
      exact ⟨hcal, hpend, (mem_owesCalibration ..).2 (.inl hmute)⟩

theorem owesCalibration_of_not_mem {rods : List Nat} {r : Nat} (hr : r ∉ rods) (s : State) :
    getRod (forEach rods s owesCalibration) r = getRod s r :=
  List.foldlRecOn (motive := fun u => getRod u r = getRod s r) rods owesCalibration rfl fun u hu r' hr' =>
    (getRod_owesCalibration_ne u (by rintro rfl; exact hr hr')).trans hu

/-- The zone's turn at the return of SUPCLK: what stood unrecorded is in the queue (R453). -/
def noteRecorded (s : State) (z : Nat) : State :=
  if (getZone s z).unrecorded.isSome then modZone s z fun x => { x with unrecorded := none } else s

theorem getZone_noteRecorded (s : State) (z z' : Nat) :
    getZone (noteRecorded s z) z' = if z' = z then { getZone s z with unrecorded := none } else getZone s z' := by
  by_cases hz : z' = z
  · subst hz
    by_cases h : (getZone s z').unrecorded.isSome = true
    · simp [noteRecorded, h]
    · have hnone : (getZone s z').unrecorded = none := by simpa using h
      rw [noteRecorded, if_neg h, if_pos rfl, ← hnone]
  · simp only [noteRecorded, hz, if_false]
    split
    · exact getZone_modZone_ne _ _ _ _ hz
    · rfl

theorem noteRecorded_tally (s : State) (z : Nat) : (noteRecorded s z).tally = s.tally := by
  simp only [noteRecorded]
  split <;> rfl

theorem holdLines_eq (s : State) : holdLines s = { s with flt := { s.flt with held := if coreClock s then rawView s else s.flt.held } } := by
  unfold holdLines
  split <;> rfl

/-- Settles O19: a loss ends in its device-scope mute, under which no TXEN is high; a return is a loop over the rods or
the zones, or a cycle of the collector, which sets the sticky bits of the lines that its latches hold up. -/
theorem clockLossesAndReturns : Obligations.ClockLossesAndReturns := by
  refine ⟨fun s hoff => ⟨fun href hterm => ?_, fun hlatch hterm => ?_, fun hsup => ?_⟩,
    fun s hoff => ⟨fun href => ?_, fun hcore href => ?_, fun hsup => ?_⟩⟩
  · -- REFCLK_LOSS
    let u := faultPulse { holdLines s with
      clk := { (holdLines s).clk with refclk := false, core := false }, flt := { (holdLines s).flt with latch276 := true } }
    let t := enterSafe (addMute u .refclk .device) 276
    have hexec : exec .refclkLoss s = .next t := by
      show execRefclkLoss s = _
      rw [execRefclkLoss, if_neg (by simp [hoff, href])]
    have hmute : muteAt t .refclk .device := mem_enterSafe ((mem_addMute ..).2 (.inr rfl))
    have hlow : TermsLow t := by simpa [hexec] using exec_termsLow .refclkLoss s hterm
    refine ⟨t, hexec, ?_, ?_, hmute, txen_of_deviceMute hlow hmute, fun h => enterSafe_life_of_runs 276 ?_, ?_⟩
    · simp [t, u, faultPulse, holdLines_eq]
    · simp [t, u, faultPulse, holdLines_eq]
    · simpa [u, faultPulse, holdLines_eq] using h
    · apply state_ext <;> simp [t, u, faultPulse, holdLines_eq]
  · -- CORE_PLL_UNLOCK
    let u := faultPulse { holdLines s with
      clk := { (holdLines s).clk with core := false }, flt := { (holdLines s).flt with latch277 := true } }
    let t := addMute u .corePll .device
    have hexec : exec .corePllUnlock s = .next t := by
      show execCorePllUnlock s = _
      rw [execCorePllUnlock, if_neg (by simp [hoff, hlatch])]
    have hmute : muteAt t .corePll .device := (mem_addMute ..).2 (.inr rfl)
    have hlow : TermsLow t := by simpa [hexec] using exec_termsLow .corePllUnlock s hterm
    refine ⟨t, hexec, ?_, ?_, hmute, txen_of_deviceMute hlow hmute, ?_⟩
    · simp [t, u, faultPulse, holdLines_eq]
    · simp [t, u, faultPulse, holdLines_eq]
    · apply state_ext <;> simp [t, u, faultPulse, holdLines_eq]
  · -- SUPCLK_LOSS
    let u : State := { foldWall s with
      clk := { s.clk with supclk := false }, tally := { (foldWall s).tally with gap := some s.clk.frame, gapEpisode := [] },
      therm := { s.therm with demanded := false } }
    have hexec : exec .supclkLoss s = .next (stopSupervisor u 6) := by
      show execSupclkLoss s = _
      rw [execSupclkLoss, if_neg (by simp [hoff, hsup])]
      rfl
    have htally : (stopSupervisor u 6).tally = u.tally := stopSupervisor_tally_of_supclkOff rfl 6
    exact ⟨_, hexec, by simp [u], by rw [htally], by rw [htally]; rfl, by simp [u], fun h => stopSupervisor_autonomy h (by decide) (by decide),
      by simp [u, foldWall], by simp [u, foldWall], by simp [u, foldWall]⟩
  · -- REFCLK_RETURN
    let u := dropMute { s with clk := { s.clk with refclk := true } } .refclk
    let rods := (List.range 6).filter fun r => (getRod s r).powered
    have hexec : exec .refclkReturn s = .next (forEach rods u owesCalibration) := by
      show execRefclkReturn s = _
      rw [execRefclkReturn, if_neg (by simp [hoff, href])]
      rfl
    refine ⟨_, hexec, ?_, ?_, fun r hr hpow => ?_, fun r hpow => ?_, ?_⟩
    · simp [u, owesCalibration]
    · exact (forEach_keep (hasMute · .refclk) rods owesCalibration hasMute_owesCalibration u).trans (hasMute_dropMute ..)
    · exact owesCalibration_of_mem (List.mem_filter.2 ⟨List.mem_range.2 hr, hpow⟩) u
    · exact owesCalibration_of_not_mem (by simp [rods, hpow]) u
    · apply state_ext <;> simp [u, owesCalibration]
  · -- CORE_CLOCK_RETURN
    let u : State := { s with clk := { s.clk with core := true } }
    let v := forEach (List.range 6) (collect u 0) restartDwell
    let t := dropMute { v with flt := { v.flt with latch276 := false, latch277 := false, held := 0 } } .corePll
    have hexec : exec .coreClockReturn s = .next t := by
      show execCoreClockReturn s = _
      rw [execCoreClockReturn, if_neg (by simp [hoff, hcore, href])]
    have hkeep := collect_keeps u 0
    have hrec : RecordsKept u t := by have := hkeep.records; simp_all [t, v]
    obtain ⟨hclk, holp, hcommit, hnv⟩ := hrec
    have hobjs : t.objs = (collect u 0).objs := by simp [t, v]
    have hsticky : t.flt.sticky = u.flt.sticky ||| rawView u :=
      (show _ = (collect u 0).flt.sticky by simp [t, v]).trans (collect_sticky u)
    have hline (n : Nat) (hn : n < 320) (h : rawLine u n = true) : t.flt.sticky.getLsbD n = true := by
      rw [hsticky, BitVec.getLsbD_or, rawView, getLsbD_viewOf _ hn, h, Bool.or_true]
    have hselects : SelectsSet (SwapPends s.slots) s.objs t.objs := by
      rw [hobjs]
      exact hkeep.objs
    have hdone : hasMute t .corePll = false := hasMute_dropMute _ _
    refine ⟨t, hexec, by simp [hclk, u], by simp [t], by simp [t], hdone, by simp [t], fun h => hline 276 (by decide) ?_, fun h => hline 277 (by decide) ?_,
      .of_selectsSet hselects, hnv, hcommit, holp⟩
    · simp [rawLine, reservedSrc, deviceLevel, u, h]
    · simp [rawLine, reservedSrc, deviceLevel, u, h]
  · -- SUPCLK_RETURN
    let u : State := { s with
      clk := { s.clk with supclk := true },
      tally := { s.tally with wallAt := s.time, queue := gapRecords s ++ s.tally.queue, gap := none, gapEpisode := [] } }
    have hexec : exec .supclkReturn s = .next (forEach (List.range 7) u noteRecorded) := by
      show execSupclkReturn s = _
      rw [execSupclkReturn, if_neg (by simp [hoff, hsup])]
      rfl
    have htally : (forEach (List.range 7) u noteRecorded).tally = u.tally := forEach_keep State.tally _ _ noteRecorded_tally u
    refine ⟨_, hexec, ?_, by rw [htally]; rfl, by rw [htally], fun z hz => ?_, ?_⟩
    · simp [u, noteRecorded]
    · refine forEach_brings (P := fun u => (getZone u z).unrecorded = none) (List.mem_range.2 hz) (fun v => ?_) (fun v z' hv => ?_) u
      · simp [getZone_noteRecorded]
      · rw [getZone_noteRecorded]
        split
        · rfl
        · exact hv
    · apply state_ext <;> simp [u, noteRecorded]

end Sys2Proof.Machine

namespace Sys2Proof.Machine

/-! ### Writes carried out as commands (Table 2.5) -/

theorem noteChanges_onlyNotes (s : State) : OnlyNotes s (noteChanges s) := by
  unfold noteChanges
  split
  · exact ⟨rfl, rfl⟩
  · refine ⟨rfl, ?_⟩
    simp only [List.map_map]
    refine List.map_congr_left fun x _ => ?_
    simp only [Function.comp]
    split <;> rfl

/-- A manager in a power state open to it passes the tests of a write to an entry that takes the value (R39). -/
theorem writeTest_of_mayWrite {s : State} {m idx sub : Nat} {o : Obj} {data : List Byte} (hm : mayWrite s m = true)
    (hobj : lookup idx sub = (0, some o)) (hlen : lengthOk o data.length = true) (hwrites : o.acc.writes = true)
    (hhold : o.acc = .rwh → s.life.power = .hold ∨ s.life.power = .quiet) (hok : o.ok (o.typ.toInt (ofBytes data)) = true) :
    writeTest s m idx sub data = 0 := by
  obtain ⟨⟨⟨_, hmgr⟩, hlife⟩, hopen⟩ : ((s.life.sup = true ∧ m < 8) ∧ s.nv.lifecycle ≠ 3) ∧ openPower s.life.power = true := by
    simpa [mayWrite] using hm
  have hm8 : m ≠ 8 := by omega
  have hright : writePermitted s m idx sub = true := by
    cases hp : s.life.power <;> simp_all [writePermitted, hasRight, openPower]
  have hstate : ¬ (o.acc = .rwh ∧ s.life.power ≠ .hold ∧ s.life.power ≠ .quiet) := by
    rintro ⟨hacc, hne⟩
    have := hhold hacc
    tauto
  simp [writeTest, hobj, hlen, hwrites, hright, hstate, hok]

/-- The holder's time of the staging lock is all that an operation outside the windows touches. -/
theorem touch_eq {s : State} {m idx : Nat} (h : ¬ (0x6100 ≤ idx ∧ idx ≤ 0x6500 ∧ idx % 256 = 0)) :
    touch s m idx = { s with commit := { s.commit with lockAt := (touch s m idx).commit.lockAt } } := by
  simp only [touch, if_neg h]
  split <;> rfl

/-- A write that passes the tests and is no commit request is answered with what its own rule answers. -/
theorem commandWrite_eq {s : State} {m idx sub : Nat} {o : Obj} {data : List Byte} (hsup : s.life.sup = true)
    (hobj : lookup idx sub = (0, some o)) (htest : writeTest (touch s m idx) m idx sub data = 0) (hidx : idx ≠ 0x1010) :
    commandWrite s m idx sub data = answer (noteChanges (ownWrite (touch s m idx) m idx sub o data).2) m 2 idx sub
      (ownWrite (touch s m idx) m idx sub o data).1 [] := by
  have hwrite : writeObject s m idx sub data = ownWrite (touch s m idx) m idx sub o data := by
    simp only [writeObject, htest, hobj]
  simp [commandWrite, hsup, hwrite, commitWaits, hidx]

theorem answered_answer {s : State} {m idx sub status : Nat} (hm : m < 8) : answered (answer s m 2 idx sub status []) m idx sub status := by
  simp [answered, answer, emit, Nat.ne_of_lt hm]

/-! ### Power requests (R410, R412) -/

/-- The value of 0x1200:01 that asks for a power state. -/
def requestValue (p : Power) : Nat := if p = .serve then 2 else if p = .quiet then 3 else 1

theorem powerRequest_granted {s : State} {p : Power} (m : Nat) (hp : p = .hold ∨ p = .serve ∨ p = .quiet) (hreason : refusalReason s p = 0)
    (hne : s.life.power ≠ p) :
    powerRequest s m (requestValue p) = (0, changePower { s with
      life := { s.life with refusal := 0, shutFrom := none }, objs := cfgSet s.objs (key 0x1200 1) (requestValue p) } p (srcField 11 m)) := by
  rcases hp with rfl | rfl | rfl <;> simp [powerRequest, requestValue, hreason, hne.symm]

theorem powerRequest_denied {s : State} {p : Power} (m : Nat) (hp : p = .hold ∨ p = .serve ∨ p = .quiet) (hreason : refusalReason s p ≠ 0)
    (hne : s.life.power ≠ p) :
    powerRequest s m (requestValue p) = (0x05, { s with life := { s.life with refusal := refusalReason s p } }) := by
  rcases hp with rfl | rfl | rfl <;> simp [powerRequest, requestValue, hne.symm]

/-- A request is a write of 0x1200:01, carried out after the lock's time is noted. -/
theorem commandValue_powerRequest {s : State} {m : Nat} {p : Power} (hm : mayWrite s m = true) (hp : p = .hold ∨ p = .serve ∨ p = .quiet) :
    commandValue s m 0x1200 1 (requestValue p) =
      answer (noteChanges (powerRequest (touch s m 0x1200) m (requestValue p)).2) m 2 0x1200 1
        (powerRequest (touch s m 0x1200) m (requestValue p)).1 [] := by
  have hsup : s.life.sup = true := by simp_all [mayWrite]
  have hmay : mayWrite (touch s m 0x1200) m = true := by simpa [mayWrite] using hm
  have hobj : lookup 0x1200 1 = (0, some (ranged .u8 .rw 1 1 3)) := rfl
  rcases hp with rfl | rfl | rfl <;>
    exact commandWrite_eq hsup hobj (writeTest_of_mayWrite hmay hobj rfl rfl (by simp [ranged]) rfl) (by decide)

theorem refusalReason_touch (s : State) (m : Nat) (p : Power) : refusalReason (touch s m 0x1200) p = refusalReason s p := by
  rw [touch_eq (by decide)]
  rfl

theorem onlyNotes_of_olp {s u t : State} (hu : u.olp = s.olp) (ht : t.olp = (noteChanges u).olp) : OnlyNotes s t := by
  have h := noteChanges_onlyNotes u
  simpa only [OnlyNotes, hu, ← ht] using h

/-- QUIET brings its device-scope mute, HOLD and SERVE end it. -/
theorem hasMute_changePower {s : State} {p : Power} (source : Nat) (hp : p = .hold ∨ p = .serve ∨ p = .quiet) (hne : s.life.power ≠ p) :
    hasMute (changePower s p source) .power = (p == .quiet) := by
  have hdropped (u : State) : hasMute (dropMute u .power) .power = false := hasMute_dropMute u .power
  have hadded (u : State) : hasMute (addMute u .power .device) .power = true := hasMute_addMute u .power .device
  simp only [hasMute] at hdropped hadded ⊢
  rcases hp with rfl | rfl | rfl <;> simp [changePower, hne, hdropped, hadded]

theorem calOwed_iff (s : State) : calOwed s = true ↔ ∃ r, r < 6 ∧ (getRod s r).powered = true ∧ (getRod s r).calPending = true := by
  simp [calOwed]

theorem not_calOwed_from_safe {s : State}
    (h : s.life.power ≠ .safe ∨ ∀ r, r < 6 → (getRod s r).powered = false ∨ (getRod s r).calPending = false) :
    ¬ (s.life.power = .safe ∧ calOwed s = true) := by
  rintro ⟨hsafe, howed⟩
  obtain ⟨r, hr, hpowered, hpending⟩ := (calOwed_iff s).1 howed
  rcases h with h | h
  · exact h hsafe
  · simpa [hpowered, hpending] using h r hr

/-- Settles O26: a granted request is a change of the power state, a refused one notes its reason; the reasons stand in
the order in which they are tested. -/
theorem powerRequests : Obligations.PowerRequests := by
  constructor
  · intro s m hm granted denied
    have hm8 : m < 8 := by simp_all [mayWrite]
    have hgranted (c : Instr) (p : Power) (hp : p = .hold ∨ p = .serve ∨ p = .quiet)
        (hc : exec c s = .next (commandValue s m 0x1200 1 (requestValue p))) : granted c p := by
      intro hreason hne
      let u : State := { touch s m 0x1200 with
        life := { s.life with refusal := 0, shutFrom := none }, objs := cfgSet s.objs (key 0x1200 1) (requestValue p) }
      let v := changePower u p (srcField 11 m)
      have hlife : v.life = _ := changePower_life (s := u) (srcField 11 m) hne
      have hsource : srcField 11 m ≠ 0 := by simp [srcField]
      have hmute : hasMute v .power = (p == .quiet) := hasMute_changePower _ hp hne
      have hexec : exec c s = .next (answer (noteChanges v) m 2 0x1200 1 0 []) := by
        rw [hc, commandValue_powerRequest hm hp, powerRequest_granted m hp (by rwa [refusalReason_touch]) (by simpa using hne)]
        simp [v, u]
      refine ⟨_, hexec, ?_, ?_, ?_, ?_, ?_, answered_answer hm8, ?_, onlyNotes_of_olp (u := v) (by simp [v, u]) (by simp), ?_⟩
      · simp [hlife]
      · simp [hlife, u]
      · simp [hlife, u, hsource]
      · simp [hlife, u]
      · simpa [hasMute] using hmute
      · simp [v, u, requestValue]
      · apply state_ext <;> simp [v, u, touch]
    have hdenied (c : Instr) (p : Power) (hp : p = .hold ∨ p = .serve ∨ p = .quiet)
        (hc : exec c s = .next (commandValue s m 0x1200 1 (requestValue p))) : denied c p := by
      intro hreason hne
      let v : State := { touch s m 0x1200 with life := { s.life with refusal := refusalReason s p } }
      have hexec : exec c s = .next (answer (noteChanges v) m 2 0x1200 1 0x05 []) := by
        rw [hc, commandValue_powerRequest hm hp, powerRequest_denied m hp (by rwa [refusalReason_touch]) (by simpa using hne),
          refusalReason_touch]
        simp [v]
      refine ⟨_, hexec, by simp [v], answered_answer hm8, onlyNotes_of_olp (u := v) (by simp [v]) (by simp), ?_⟩
      apply state_ext <;> simp [v, touch]
    exact ⟨hgranted _ _ (by simp) rfl, hgranted _ _ (by simp) rfl, hgranted _ _ (by simp) rfl,
      hdenied _ _ (by simp) rfl, hdenied _ _ (by simp) rfl, hdenied _ _ (by simp) rfl⟩
  · intro s hlifecycle
    refine ⟨fun hburned => ?_, fun hburned hscan => ?_, fun hburned hscan =>
      ⟨fun hsafe hrod => ?_, fun hrod => ⟨fun hparts => ?_, fun hparts hsource => ?_, fun hparts hsource => ?_⟩⟩⟩
    · simp [refusalReason, hburned]
    · simp [refusalReason, hburned, hlifecycle, hscan]
    · simp [refusalReason, hburned, hlifecycle, hscan, hsafe, (calOwed_iff s).2 hrod]
    · simp [refusalReason, hburned, hlifecycle, hscan, not_calOwed_from_safe hrod, hparts]
    · have hany : serviceSources.any (sticky s) = true := List.any_eq_true.2 hsource
      simp [refusalReason, hburned, hlifecycle, hscan, not_calOwed_from_safe hrod, hparts, hany]
    · have hany : serviceSources.any (sticky s) = false := List.any_eq_false.2 fun n hn => by simp [sticky, hsource n hn]
      simp [refusalReason, hburned, hlifecycle, hscan, not_calOwed_from_safe hrod, hparts, hany]

end Sys2Proof.Machine

namespace Sys2Proof.Machine

/-! ### Slots at a commit -/

/-- What leaves the configuration and every slot's swap and cross-fade as they were, and the units beside the datapath. -/
structure SwapsAside (s t : State) : Prop where
  units : UnitsKept s t
  flt : t.flt = s.flt
  objs : t.objs = s.objs
  swaps : ∀ g, (getSlot t g).pendSwap = (getSlot s g).pendSwap ∧ (getSlot t g).xf = (getSlot s g).xf

theorem SwapsAside.trans {s t u : State} (h : SwapsAside s t) (h' : SwapsAside t u) : SwapsAside s u where
  units := by have := h.units; have := h'.units; simp_all
  flt := h'.flt.trans h.flt
  objs := h'.objs.trans h.objs
  swaps g := ⟨(h'.swaps g).1.trans (h.swaps g).1, (h'.swaps g).2.trans (h.swaps g).2⟩

theorem swapsAside_of_config {s t : State} (h : ConfigKept s t) : SwapsAside s t := by
  obtain ⟨hunits, hobjs, hslots, hflt⟩ := h
  exact ⟨hunits, hflt, hobjs, by simp [getSlot, hslots]⟩

theorem SwapsAside.refl (s : State) : SwapsAside s s := swapsAside_of_config (by simp)

theorem swapsAside_forEach {α : Type} (xs : List α) (f : State → α → State) (h : ∀ u x, SwapsAside u (f u x)) (s : State) :
    SwapsAside s (forEach xs s f) := forEach_inv (SwapsAside s) xs f (fun u x hu => hu.trans (h u x)) s (.refl s)

theorem swapsAside_ite {c : Prop} [Decidable c] {s t u : State} (ht : SwapsAside s t) (hu : SwapsAside s u) :
    SwapsAside s (if c then t else u) := by
  split
  · exact ht
  · exact hu

theorem getSlot_modSlot_eq (s : State) (g g' : Nat) (f : SlotPath → SlotPath) :
    getSlot (modSlot s g f) g' = if g' = g then f (getSlot s g) else getSlot s g' := smGet_smMod ..

theorem swapsAside_modSlot (s : State) (g : Nat) (f : SlotPath → SlotPath) (hf : ∀ x, (f x).pendSwap = x.pendSwap ∧ (f x).xf = x.xf) :
    SwapsAside s (modSlot s g f) where
  units := by simp
  flt := rfl
  objs := rfl
  swaps g' := by
    rw [getSlot_modSlot_eq]
    split
    case isTrue h => exact h ▸ hf _
    case isFalse => exact ⟨rfl, rfl⟩

theorem resetSlot_aside (s : State) (g : Nat) (wide : Bool) : SwapsAside s (resetSlot s g wide) := swapsAside_modSlot s g _ fun _ => ⟨rfl, rfl⟩

theorem noteReset_aside (s : State) (ch : Nat) : SwapsAside s (noteReset s ch) := swapsAside_of_config (by simp)

theorem resetSlots_aside (s : State) (ch : Nat) (gs : List Nat) : SwapsAside s (resetSlots s ch gs) :=
  swapsAside_ite (.refl s) ((swapsAside_forEach _ _ (fun u g => resetSlot_aside u g false) s).trans (noteReset_aside _ ch))

theorem resetChannel_aside (s : State) (ch : Nat) : SwapsAside s (resetChannel s ch) := by
  unfold resetChannel
  extract_lets u v w
  have hu : SwapsAside s u := swapsAside_forEach _ _ (fun x g => resetSlot_aside x g true) s
  exact hu.trans (swapsAside_of_config (by simp [w, v]))

theorem resetsAgain_aside (s : State) : SwapsAside s (resetsAgain s) := by
  refine swapsAside_forEach _ _ (fun u e => ?_) s
  unfold resetBy
  split
  · exact resetSlots_aside ..
  · exact resetChannel_aside ..
  · exact swapsAside_forEach _ _ resetChannel_aside u

theorem setThreshold_aside (s : State) (g : Nat) (lowState v : Bool) : SwapsAside s (setThreshold s g lowState v) := by
  let f (x : SlotPath) : SlotPath := if lowState then { x with low := v } else { x with high := v }
  have hf (x : SlotPath) : (f x).pendSwap = x.pendSwap ∧ (f x).xf = x.xf := by
    simp only [f]
    split <;> exact ⟨rfl, rfl⟩
  have hset : SwapsAside s (modSlot s g f) := swapsAside_modSlot s g f hf
  exact swapsAside_ite (.refl s) (hset.trans (swapsAside_of_config (s := modSlot s g f) (by simp [f])))

theorem clearDetector_aside (s : State) (g : Nat) : SwapsAside s (clearDetector s g) :=
  ((swapsAside_modSlot s g (fun x => { x with power := -32768, detSum := 0, detCnt := 0, detDone := [] }) fun _ => ⟨rfl, rfl⟩).trans
    (setThreshold_aside ..)).trans (setThreshold_aside ..)

/-- Beside the swap, a slot's part of a commit resets what changes. -/
theorem commitSlot_aside (old : SMap Nat) (s : State) (g : Nat) : SwapsAside (commitSwap old s g) (commitSlot old s g) := by
  unfold commitSlot
  extract_lets s1 k s2 s3 s4 s5 s6 a s7
  have h2 : SwapsAside s1 s2 := swapsAside_ite (resetSlots_aside s1 (g / 8) [g]) (.refl s1)
  have h3 : SwapsAside s2 s3 := swapsAside_ite (swapsAside_modSlot s2 g _ fun x => by exact ⟨rfl, rfl⟩) (.refl s2)
  have h4 : SwapsAside s3 s4 := swapsAside_ite (swapsAside_modSlot s3 g _ fun x => by exact ⟨rfl, rfl⟩) (.refl s3)
  have hempty : SwapsAside s4 (modSlot s4 g fun x => { x with rxHold := [], rxXbar := [] }) := swapsAside_modSlot s4 g _ fun x => ⟨rfl, rfl⟩
  have h5 : SwapsAside s4 s5 := swapsAside_ite (hempty.trans (clearDetector_aside _ g)) (.refl s4)
  have h6 : SwapsAside s5 s6 := swapsAside_ite (swapsAside_modSlot s5 g _ fun x => by exact ⟨rfl, rfl⟩) (.refl s5)
  have h7 : SwapsAside s6 s7 := swapsAside_ite (swapsAside_modSlot s6 g _ fun x => by exact ⟨rfl, rfl⟩) (.refl s6)
  exact (((h2.trans h3).trans (h4.trans h5)).trans (h6.trans h7)).trans (swapsAside_of_config (s := s7) (by simp))

/-! ### The swaps of a commit -/

/-- What the slots' part of a commit leaves: the units beside the datapath, and every object but bank selects. -/
structure SelectsAside (s t : State) : Prop where
  units : UnitsKept s t
  flt : t.flt = s.flt
  objs : SelectsSet (fun _ => True) s.objs t.objs

theorem SelectsAside.trans {s t u : State} (h : SelectsAside s t) (h' : SelectsAside t u) : SelectsAside s u where
  units := by have := h.units; have := h'.units; simp_all
  flt := h'.flt.trans h.flt
  objs := h.objs.trans h'.objs fun _ _ => trivial

theorem selectsAside_of_eq {s t : State} (h : UnitsKept s t ∧ t.flt = s.flt ∧ t.objs = s.objs) : SelectsAside s t := by
  obtain ⟨hunits, hflt, hobjs⟩ := h
  exact ⟨hunits, hflt, hobjs ▸ .refl⟩

theorem SelectsAside.of_swapsAside {s t : State} (h : SwapsAside s t) : SelectsAside s t := selectsAside_of_eq ⟨h.units, h.flt, h.objs⟩

theorem selectsAside_forEach {α : Type} (xs : List α) (f : State → α → State) (h : ∀ u x, SelectsAside u (f u x)) (s : State) :
    SelectsAside s (forEach xs s f) :=
  forEach_inv (SelectsAside s) xs f (fun u x hu => hu.trans (h u x)) s (.of_swapsAside (.refl s))

theorem dropSwap_selectsAside (s : State) (g : Nat) : SelectsAside s (dropSwap s g) :=
  ⟨by simp, by simp, by simpa [dropSwap] using SelectsSet.refl.set (v := (getSlot s g).holds) (g := g) trivial⟩

theorem endFade_selectsAside (s : State) (g : Nat) (f : XFade) : SelectsAside s (endFade s g f fun s t => launchSwap s g t) := by
  unfold endFade
  extract_lets pend u
  have hu : SelectsAside s u := selectsAside_of_eq (by simp [u])
  refine hu.trans ?_
  clear_value pend
  cases pend with
  | none => exact selectsAside_of_eq (by simp)
  | some t =>
    dsimp only
    split
    · exact selectsAside_of_eq (by simp)
    · exact dropSwap_selectsAside u g

theorem commitSwap_selectsAside (old : SMap Nat) (s : State) (g : Nat) : SelectsAside s (commitSwap old s g) := by
  unfold commitSwap
  extract_lets ends u x t
  have hu : SelectsAside s u := by
    simp only [u]
    split
    · split
      · exact .of_swapsAside (.refl s)
      · refine .trans (selectsAside_of_eq ?_) (endFade_selectsAside _ _ _)
        simp only [ends]
        split <;> simp
    · exact .of_swapsAside (.refl s)
  refine hu.trans (selectsAside_of_eq ?_)
  (repeat' split) <;> simp

theorem filtersCommit_selectsAside (old : SMap Nat) (s : State) : SelectsAside s (filtersCommit old s) :=
  (selectsAside_forEach _ _ (fun u g => (commitSwap_selectsAside old u g).trans (.of_swapsAside (commitSlot_aside old u g))) s).trans
    (selectsAside_forEach _ _ (fun u ch => .of_swapsAside (resetChannel_aside u ch)) _)

/-- The slots of a commit that drops no swap: where one pends its cross-fade still runs. -/
structure SwapsRun (cfg : SMap Nat) (s : State) : Prop where
  objs : s.objs = cfg
  slots : ∀ g, (getSlot s g).pendSwap = none ∨ ∃ f, (getSlot s g).xf = some f ∧ f.done < f.len ∧ rxActive cfg g = true

theorem SwapsRun.of_aside {cfg : SMap Nat} {s t : State} (h : SwapsRun cfg s) (ha : SwapsAside s t) : SwapsRun cfg t where
  objs := ha.objs.trans h.objs
  slots g := by
    rw [(ha.swaps g).1, (ha.swaps g).2]
    exact h.slots g

theorem SwapsRun.modSlot {cfg : SMap Nat} {s : State} (h : SwapsRun cfg s) {g : Nat} {f : SlotPath → SlotPath}
    (hf : (f (getSlot s g)).pendSwap = none ∨ ∃ x, (f (getSlot s g)).xf = some x ∧ x.done < x.len ∧ rxActive cfg g = true) :
    SwapsRun cfg (Machine.modSlot s g f) where
  objs := h.objs
  slots g' := by
    rw [getSlot_modSlot_eq]
    split
    case isTrue hg => exact hg ▸ hf
    case isFalse => exact h.slots g'

theorem SwapsRun.sealMute {cfg : SMap Nat} {s : State} (h : SwapsRun cfg s) (g : Nat) : SwapsRun cfg (Machine.sealMute s g) :=
  h.of_aside (swapsAside_of_config (by simp))

theorem SwapsRun.switchBank {cfg : SMap Nat} {s : State} (h : SwapsRun cfg s) (g t : Nat) : SwapsRun cfg (Machine.switchBank s g t) :=
  (h.modSlot (g := g) (f := fun x => { x with holds := t, xf := none, pendSwap := none, swapResult := 0x04 }) (.inl rfl)).sealMute g

theorem SwapsRun.launchSwap {cfg : SMap Nat} {s : State} (h : SwapsRun cfg s) (g t : Nat) : SwapsRun cfg (Machine.launchSwap s g t) := by
  unfold Machine.launchSwap
  dsimp only
  split
  · exact h.switchBank g t
  · exact h.modSlot (.inl rfl)

theorem endFade_of_no_pending {s : State} {g : Nat} (h : (getSlot s g).pendSwap = none) (f : XFade) (go : State → Nat → State) :
    endFade s g f go = Machine.sealMute (Machine.modSlot s g fun x => { x with holds := f.target, xf := none, pendSwap := none }) g := by
  simp only [endFade, h]

/-- A cross-fade that a commit leaves in a slot runs on; any other has ended, and no swap of the slot was pending. -/
theorem SwapsRun.endedFade {cfg : SMap Nat} {s : State} (h : SwapsRun cfg s) {g : Nat} {f : XFade} (hxf : (getSlot s g).xf = some f)
    (hend : ¬ (f.done < f.len ∧ rxActive cfg g = true)) : (getSlot s g).pendSwap = none := by
  rcases h.slots g with hpend | ⟨f', hf', hrun⟩
  · exact hpend
  · rw [hxf] at hf'
    cases hf'
    exact absurd hrun hend

/-- A commit's swap of a slot drops none, where none pends but behind a running cross-fade. -/
theorem SwapsRun.commitSwap {cfg : SMap Nat} {s : State} (h : SwapsRun cfg s) (old : SMap Nat) (g : Nat) :
    SwapsRun cfg (Machine.commitSwap old s g) := by
  unfold Machine.commitSwap
  extract_lets ends u x t
  have hu : SwapsRun cfg u ∧ ∀ f, (getSlot u g).xf = some f → f.done < f.len ∧ rxActive cfg g = true := by
    cases hxf : (getSlot s g).xf with
    | none =>
      simp only [u, hxf]
      exact ⟨h, fun f hf => by simp at hf⟩
    | some f =>
      simp only [u, hxf]
      split
      case isTrue hrun =>
        refine ⟨h, fun f' hf' => ?_⟩
        rw [hxf] at hf'
        cases hf'
        exact h.objs ▸ hrun
      case isFalse hend =>
        have hno : (getSlot s g).pendSwap = none := h.endedFade hxf fun hrun => hend (h.objs ▸ hrun)
        have hends : SwapsRun cfg ends ∧ (getSlot ends g).pendSwap = none := by
          simp only [ends]
          split
          · exact ⟨h, hno⟩
          · exact ⟨h.modSlot (.inl rfl), by rw [getSlot_modSlot]⟩
        rw [endFade_of_no_pending hends.2]
        refine ⟨(hends.1.modSlot (.inl rfl)).sealMute g, fun f' hf' => ?_⟩
        simp [getSlot, Machine.modSlot] at hf'
  obtain ⟨hu, hruns⟩ := hu
  split
  · exact hu
  · split
    · exact hu.switchBank g t
    · split
      case h_1 f hf =>
        refine hu.modSlot ?_
        split
        · exact .inl rfl
        · exact .inr ⟨f, hf, hruns f hf⟩
      case h_2 =>
        split
        · exact hu.switchBank g t
        · exact hu.launchSwap g t

theorem SwapsRun.filtersCommit {cfg : SMap Nat} {s : State} (h : SwapsRun cfg s) (old : SMap Nat) : SwapsRun cfg (Machine.filtersCommit old s) :=
  forEach_inv (SwapsRun cfg) _ _ (fun _ ch hu => hu.of_aside (resetChannel_aside _ ch)) _
    (forEach_inv (SwapsRun cfg) _ _ (fun u g hu => (hu.commitSwap old g).of_aside (commitSlot_aside old u g)) s h)

/-! ### The end of a commit (R56, R57) -/

/-- The snapshot made active, before the units take it up. -/
def merged (s : State) : State := { s with objs := cfgMerge s.objs s.commit.snapshot, commit := committed s }

/-- Beside the filters' part of a commit, its units take the new configuration up and leave it as it is. -/
theorem applySnapshot_around_filters (s : State) : ∃ u,
    ConfigKept (merged s) u ∧ SwapsAside (filtersCommit s.objs u) (applySnapshot s) := by
  unfold applySnapshot
  extract_lets old before s1 s2 s3 s4 s5
  refine ⟨s2, by simp [s2, s1, merged], ?_⟩
  have h5 : SwapsAside (filtersCommit old s2) s5 := swapsAside_of_config (by simp [s5, s4, s3])
  exact (h5.trans (resetsAgain_aside s5)).trans (swapsAside_of_config (by simp))

theorem applySnapshot_selectsAside (s : State) : SelectsAside (merged s) (applySnapshot s) := by
  obtain ⟨u, hu, happly⟩ := applySnapshot_around_filters s
  exact (SelectsAside.of_swapsAside (swapsAside_of_config hu)).trans ((filtersCommit_selectsAside s.objs u).trans (.of_swapsAside happly))

/-- With no swap pending a commit makes its snapshot active as it stands. -/
theorem applySnapshot_objs {s : State} (h : ∀ g, (getSlot s g).pendSwap = none) : (applySnapshot s).objs = cfgMerge s.objs s.commit.snapshot := by
  obtain ⟨u, hu, happly⟩ := applySnapshot_around_filters s
  have hrun : SwapsRun (cfgMerge s.objs s.commit.snapshot) (merged s) := ⟨rfl, fun g => .inl (h g)⟩
  exact (((hrun.of_aside (swapsAside_of_config hu)).filtersCommit s.objs).of_aside happly).objs

theorem applyCommit_selectsAside (s : State) : SelectsAside (merged s) (applyCommit s) := by
  unfold applyCommit
  split
  case isTrue h => exact selectsAside_of_eq (by simp [merged, List.isEmpty_iff.1 h, cfgMerge])
  case isFalse => exact applySnapshot_selectsAside s

theorem applyCommit_objs {s : State} (h : ∀ g, (getSlot s g).pendSwap = none) : (applyCommit s).objs = cfgMerge s.objs s.commit.snapshot := by
  unfold applyCommit
  split
  case isTrue hempty => simp [List.isEmpty_iff.1 hempty, cfgMerge]
  case isFalse => exact applySnapshot_objs h

/-- A commit request outside a message is answered as its commit ends. -/
theorem commitAnswered_of_commitBy {s : State} {m : Nat} (h : s.olp.commitBy = some m) (status : Nat) :
    commitAnswered s status = answer { s with olp := { s.olp with commitBy := none } } m 2 0x1010 1 status [] := by
  simp only [commitAnswered, h]

/-- Settles O12: the checks end in `commitChecks`'s answer; of what a commit applies only the swaps it drops change an
object, and these are bank selects. -/
theorem commitsEnd : Obligations.CommitsEnd := by
  refine ⟨fun s m hsup hst hm hby => ⟨fun hchecks => ?_, fun reason object hchecks hsnap => ?_⟩, fun s m hcore hheld hm hby => ?_⟩
  · show execCommitChecksDone s = _
    have hend : endChecks s = { s with commit := { s.commit with st := 2, held := true } } := by
      simp only [endChecks, hchecks, ite_self]
    simp [execCommitChecksDone, hsup, hst, hend]
  · let u : State := { s with commit := { s.commit with
        st := 4, reason, object, staged := putEntries s.commit.snapshot s.commit.staged, snapshot := [] } }
    have hend : endChecks s = u := by simp only [endChecks, hchecks, List.isEmpty_iff, hsnap, if_false, u]
    have hexec : exec .commitChecksDone s = .next (answer { u with olp := { u.olp with commitBy := none } } m 2 0x1010 1 0x0A []) := by
      rw [← commitAnswered_of_commitBy (s := u) hby]
      show execCommitChecksDone s = _
      simp [execCommitChecksDone, hsup, hst, hend, u]
    refine ⟨_, hexec, by simp [u], by simp [u], by simp [u], by simp [u], by simp [u], by simp [u], answered_answer hm, ?_⟩
    apply state_ext <;> simp [u]
  · obtain ⟨⟨⟨hclk, holp, hcommit, hnv⟩, htime, hwindows, hlic, hsent, htherm, hlife, hpins⟩, hflt, hobjs⟩ := applyCommit_selectsAside s
    have hexec : exec .commitApply s =
        .next (answer { applyCommit s with olp := { (applyCommit s).olp with commitBy := none } } m 2 0x1010 1 0 []) := by
      rw [← commitAnswered_of_commitBy (by rw [holp]; exact hby)]
      show execCommitApply s = _
      simp [execCommitApply, hcore, hheld]
    refine ⟨_, hexec, fun hno => ?_, fun idx sub hsub hidx => ?_, ?_⟩
    · simpa using applyCommit_objs hno
    · have hget := hobjs.smGet_eq (k := key idx sub) (dfltOf (key idx sub)) fun g _ => by simp only [key, sigIdx]; omega
      simpa [cfgRaw, merged] using hget
    · simp_all [merged, committed, nextBoundary, answered_answer]

end Sys2Proof.Machine

namespace Sys2Proof.Machine

/-! ### Reads (R22, R44) -/

/-- A device in service whose configuration holds a value of the vendor identity 0x1000:01, which no block drives. -/
def relabelled : State := { State.reset with
  life := { State.reset.life with power := .hold, sup := true }, objs := [(key 0x1000 1, 0)] }

/-- The read answers what the configuration holds, and not the identity of R22. -/
theorem read_relabelled : ∃ t, exec (.read 0 0x1000 1) relabelled = .next t ∧
    t.out = [.reply 0 { opcode := 1, status := 0, index := 0x1000, sub := 1, data := [0, 0, 0, 0] }] :=
  ⟨_, rfl, by decide +kernel⟩

/-- Refutes O16: the vendor identity is no constant of the model but an entry of the configuration, whose table default is
the identity; a state whose configuration holds another value of 0x1000:01 reads as that value. -/
theorem not_readsAndSubscriptions : ¬ Obligations.ReadsAndSubscriptions := by
  rintro ⟨hreads, -⟩
  obtain ⟨-, -, -, t, hexec, hback, -⟩ := hreads relabelled 0 0 0 (by decide +kernel)
  obtain ⟨t', hexec', hout⟩ := read_relabelled
  obtain rfl : t' = t := by simpa [hexec'] using hexec
  simp [readBack, hout] at hback

end Sys2Proof.Machine

namespace Sys2Proof.Machine

/-! ### Frames in SHUTDOWN (R132) -/

/-- The core clock runs in SHUTDOWN, and a rod is still to come back to service at the next boundary. -/
def rejoinInShutdown : State := { State.reset with
  life := { State.reset.life with power := .shutdown }, clk := { State.reset.clk with refclk := true, core := true },
  rods := [(0, { powered := true, rejoin := true })] }

/-- The frame's boundary brings the rod back, SHUTDOWN or not. -/
theorem reckonerFrame_rejoinInShutdown : ∃ t, exec (.reckonerFrame {}) rejoinInShutdown = .next t ∧ (getRod t 0).rejoin = false :=
  ⟨_, rfl, by decide +kernel⟩

/-- Refutes O54: in SHUTDOWN the boundary of a frame still ends the restart of the rods that wait for it, so the rods need not stay. -/
theorem not_framesAndChecks : ¬ Obligations.FramesAndChecks := by
  rintro ⟨hframes, -⟩
  obtain ⟨t, hexec, -, -, -, -, -, -, -, -, -, hshutdown⟩ := (hframes rejoinInShutdown {}).1 (by decide +kernel)
  obtain ⟨-, hrods, -⟩ := hshutdown rfl
  obtain ⟨t', hexec', hrejoin⟩ := reckonerFrame_rejoinInShutdown
  obtain rfl : t' = t := by simpa [hexec'] using hexec
  simp [getRod, hrods, rejoinInShutdown, smGet] at hrejoin

end Sys2Proof.Machine

namespace Sys2Proof.Machine

/-! ### Writes to the signal path -/

theorem dictIndex_signal {ch off : Nat} (hch : ch < 96) (hoff : off < 16) : dictIndex (0x3000 + 16 * ch + off) = dictSignal off := by
  have hmod : (0x3000 + 16 * ch + off) % 16 = off := by omega
  simp (disch := omega) only [dictIndex, inRun, Bool.and_eq_true, decide_eq_true_eq, if_neg, if_pos, hmod]

/-- Nothing but the holder's time of the staging lock differs (R54). -/
def LockNoted (s u : State) : Prop := ∃ at_, u = { s with commit := { s.commit with lockAt := at_ } }

/-- A byte written to a write-only object of the signal path is answered with what the channel's rule answers, after the lock's
time is noted. -/
theorem commandValue_signal {s : State} {m ch off sub v : Nat} {f : Nat → Option Obj} {o : Obj} (hm : mayWrite s m = true)
    (hch : ch < 96) (hoff : off < 16) (hf : dictSignal off = some f) (hobj : f sub = some o) (hacc : o.acc = .wo) (htyp : o.typ = .u8)
    (hv : v < 256) (hok : o.ok v = true) : ∃ u, LockNoted s u ∧
    commandValue s m (chanIdx 0x3000 ch off) sub v =
      answer (noteChanges (writeChannel u (0x3000 + 16 * ch + off) sub v).2) m 2 (0x3000 + 16 * ch + off) sub
        (writeChannel u (0x3000 + 16 * ch + off) sub v).1 [] := by
  let idx := 0x3000 + 16 * ch + off
  have hlookup : lookup idx sub = (0, some o) := by simp only [lookup, idx, dictIndex_signal hch hoff, hf, hobj]
  have hsup : s.life.sup = true := by simp_all [mayWrite]
  have hmay : mayWrite (touch s m idx) m = true := by simpa [mayWrite] using hm
  have hbytes : numberBytes o.typ.len v = [BitVec.ofNat 8 v] := by simp [htyp, Typ.len, numberBytes, hv, beBytes]
  have hval : ofBytes [BitVec.ofNat 8 v] = v := by simp [ofBytes]; omega
  have htest : writeTest (touch s m idx) m idx sub [BitVec.ofNat 8 v] = 0 :=
    writeTest_of_mayWrite hmay hlookup (by simp [lengthOk, htyp, Typ.len]) (by simp [hacc, Acc.writes]) (by simp [hacc])
      (by simpa [htyp, Typ.toInt, hval] using hok)
  have hown : ownWrite (touch s m idx) m idx sub o [BitVec.ofNat 8 v] = writeChannel (touch s m idx) idx sub v := by
    rw [ownWrite, hval, if_neg (by simp [hacc]), if_neg (by omega), if_neg (by omega), if_pos (by omega)]
  refine ⟨touch s m idx, ⟨_, touch_eq (by omega)⟩, ?_⟩
  rw [commandValue, chanIdx, if_pos hch, hlookup]
  simp only [hbytes]
  rw [commandWrite_eq hsup hlookup htest (by omega), hown]

/-- An answer to a write changes OLP and what leaves the device only. -/
theorem answer_noteChanges_eq (w : State) (m idx sub status : Nat) :
    answer (noteChanges w) m 2 idx sub status [] =
      { w with olp := (noteChanges w).olp, out := (answer (noteChanges w) m 2 idx sub status []).out } := by
  apply state_ext <;> simp

theorem writeChannel_reset (s : State) {ch : Nat} (hch : ch < 96) (sub v : Nat) :
    writeChannel s (0x3000 + 16 * ch + 0xB) sub v = (0, resetWrite s ch sub v) := by
  have hclass : (0x3000 + 16 * ch + 0xB) / 4096 = 3 := by omega
  have hoff : (0x3000 + 16 * ch + 0xB) % 16 = 0xB := by omega
  have hself : (0x3000 + 16 * ch + 0xB) % 4096 / 16 = ch := by omega
  simp only [writeChannel, hclass, hoff, hself]

theorem writeChannel_swap (s : State) {g : Nat} (hg : g < 768) (v : Nat) :
    writeChannel s (0x3000 + 16 * (g / 8) + 7) (g % 8 + 9) v = swapWrite s g v := by
  have hclass : (0x3000 + 16 * (g / 8) + 7) / 4096 = 3 := by omega
  have hoff : (0x3000 + 16 * (g / 8) + 7) % 16 = 7 := by omega
  have hself : 8 * ((0x3000 + 16 * (g / 8) + 7) % 4096 / 16) + (g % 8 + 9 - 9) = g := by omega
  simp only [writeChannel, hclass, hoff, hself]

/-! ### Synchronising resets (R91–R96) -/

theorem getSlot_resetSlot (s : State) (g g' : Nat) (wide : Bool) :
    getSlot (resetSlot s g wide) g' = if g' = g then afterReset s g wide else getSlot s g' := getSlot_modSlot_eq ..

theorem afterReset_congr {s u : State} {g : Nat} (hslot : getSlot u g = getSlot s g) (hobjs : u.objs = s.objs) (hclk : u.clk = s.clk)
    (wide : Bool) : afterReset u g wide = afterReset s g wide := by
  simp only [afterReset, hslot, hobjs, hclk]

/-- A loop of resets over distinct slots resets each of them as it was. -/
theorem getSlot_resetSlots {gs : List Nat} (hgs : gs.Nodup) (s : State) (wide : Bool) (g : Nat) :
    getSlot (forEach gs s fun s g => resetSlot s g wide) g = if g ∈ gs then afterReset s g wide else getSlot s g := by
  induction gs generalizing s with
  | nil => rfl
  | cons x gs ih =>
    obtain ⟨hx, hgs⟩ := List.nodup_cons.1 hgs
    rw [forEach, List.foldl_cons, ← forEach, ih hgs]
    by_cases hg : g = x
    · subst hg
      simp [hx, getSlot_resetSlot]
    · have hslot : getSlot (resetSlot s x wide) g = getSlot s g := by rw [getSlot_resetSlot, if_neg hg]
      rw [afterReset_congr hslot (by simp) (by simp), hslot]
      simp [hg]

theorem chanSlots_nodup (ch : Nat) : (chanSlots ch).Nodup :=
  List.nodup_range.map fun _ _ h => by simpa using h

@[simp] theorem mem_chanSlots {g ch : Nat} : g ∈ chanSlots ch ↔ g / 8 = ch := by
  simp only [chanSlots, List.mem_map, List.mem_range]
  constructor
  · rintro ⟨i, hi, rfl⟩; omega
  · rintro rfl; exact ⟨g % 8, by omega, by omega⟩

theorem rodChannels_nodup (r : Nat) : (rodChannels r).Nodup :=
  List.nodup_range.map fun _ _ h => by simpa using h

@[simp] theorem mem_rodChannels {c r : Nat} : c ∈ rodChannels r ↔ c / 16 = r := by
  simp only [rodChannels, List.mem_map, List.mem_range]
  constructor
  · rintro ⟨i, hi, rfl⟩; omega
  · rintro rfl; exact ⟨c % 16, by omega, by omega⟩

theorem getPath_modPath_eq (s : State) (ch p q : Nat) (f : CPath → CPath) :
    getPath (modPath s ch p f) ch q = if q = p then f (getPath s ch p) else getPath s ch q := by
  simp [modPath, getPath, smGet_smMod]

/-- The canceller's tap lines of the paths `ps` emptied. -/
def emptyLines (s : State) (ch : Nat) (ps : List Nat) : State := forEach ps s fun s p => modPath s ch p fun x => { x with line := [] }

theorem getPath_emptyLines (s : State) (ch : Nat) (ps : List Nat) (p : Nat) :
    getPath (emptyLines s ch ps) ch p = if p ∈ ps then { getPath s ch p with line := [] } else getPath s ch p := by
  unfold emptyLines
  induction ps generalizing s with
  | nil => rfl
  | cons q ps ih =>
    rw [forEach, List.foldl_cons, ← forEach, ih, getPath_modPath_eq]
    by_cases hq : p = q
    · subst hq; simp
    · simp [hq]

/-- With the lines of every listed path emptied, none is left: a path not listed has an empty line. -/
theorem getPath_emptyLines_all (s : State) (ch p : Nat) :
    getPath (emptyLines s ch ((getChan s ch).canc.paths.map (·.1))) ch p = { getPath s ch p with line := [] } := by
  rw [getPath_emptyLines]
  split
  · rfl
  · next h => rw [getPath, smGet_of_not_mem _ h]

@[simp] theorem emptyLines_slots (s : State) (ch : Nat) (ps : List Nat) : (emptyLines s ch ps).slots = s.slots :=
  forEach_slots _ _ _ fun _ _ => rfl

@[simp] theorem emptyLines_clk (s : State) (ch : Nat) (ps : List Nat) : (emptyLines s ch ps).clk = s.clk :=
  forEach_clk _ _ _ fun _ _ => rfl

theorem getChan_emptyLines_ne (s : State) {ch c : Nat} (hc : c ≠ ch) (ps : List Nat) : getChan (emptyLines s ch ps) c = getChan s c :=
  forEach_keep (getChan · c) _ _ (fun u _ => getChan_modChan_ne u ch c _ hc) s

/-- Emptying lines touches the paths alone. -/
theorem getChan_emptyLines (s : State) (ch : Nat) (ps : List Nat) :
    getChan (emptyLines s ch ps) ch =
      { getChan s ch with canc := { (getChan s ch).canc with paths := (getChan (emptyLines s ch ps) ch).canc.paths } } := by
  refine forEach_inv (fun u => getChan u ch = { getChan s ch with canc := { (getChan s ch).canc with paths := (getChan u ch).canc.paths } })
    ps _ (fun u p hu => ?_) s rfl
  rw [modPath, getChan_modCanc, hu]

/-- Between two states the channels `chs` are reset, and every other channel and its slots are as they were. -/
structure ResetsChannels (s t : State) (chs : List Nat) : Prop where
  reset : ∀ c ∈ chs, ChannelIsReset s t c
  chans : ∀ c, c ∉ chs → getChan t c = getChan s c
  slots : ∀ g, g / 8 ∉ chs → getSlot t g = getSlot s g

theorem resetChannel_resets (s : State) (ch : Nat) : ResetsChannels s (resetChannel s ch) [ch] := by
  let a := forEach (chanSlots ch) s fun s g => resetSlot s g true
  let b := modChan a ch fun c => { c with iqLine := [], csrSettle := 38 }
  let ps := (getChan b ch).canc.paths.map (·.1)
  have heq : resetChannel s ch = noteReset (emptyLines b ch ps) ch := rfl
  have hachans : a.chans = s.chans := forEach_chans _ _ _ fun _ _ => rfl
  have haclk : a.clk = s.clk := forEach_clk _ _ _ fun _ _ => rfl
  have hsame (c : Nat) : getChan a c = getChan s c := by rw [getChan, hachans]; rfl
  have hbchan : getChan b ch = { getChan s ch with iqLine := [], csrSettle := 38 } := by rw [← hsame]; exact getChan_modChan ..
  have hslot (g : Nat) : getSlot (resetChannel s ch) g = if g / 8 = ch then afterReset s g true else getSlot s g := by
    have h := getSlot_resetSlots (chanSlots_nodup ch) s true g
    simpa [heq, getSlot, noteReset, b, a] using h
  have hpath (p : Nat) : getPath (resetChannel s ch) ch p = getPath (emptyLines b ch ps) ch p := by
    rw [heq, noteReset, getPath, getChan_modChan]; rfl
  refine ⟨fun c hc => ?_, fun c hc => ?_, fun g hg => ?_⟩
  · obtain rfl := List.mem_singleton.1 hc
    refine ⟨fun g hg => by rw [hslot, if_pos hg], fun p => ?_, ?_⟩
    · rw [hpath, getPath_emptyLines_all, getPath, hbchan]; rfl
    · rw [heq, noteReset, getChan_modChan, getChan_emptyLines, hbchan]
      simp [b, haclk]
  · have hc : c ≠ ch := by simpa using hc
    rw [heq, noteReset, getChan_modChan_ne _ _ _ _ hc, getChan_emptyLines_ne _ hc, getChan_modChan_ne _ _ _ _ hc, hsame]
  · rw [hslot, if_neg (by simpa using hg)]

/-- A reset of one channel and then of others is a reset of all. -/
theorem ResetsChannels.cons {s u t : State} {ch : Nat} {chs : List Nat} (hnot : ch ∉ chs) (h : ResetsChannels s u [ch])
    (h' : ResetsChannels u t chs) (hobjs : u.objs = s.objs) (hclk : u.clk = s.clk) : ResetsChannels s t (ch :: chs) where
  reset c hc := by
    by_cases heq : c = ch
    · subst heq
      obtain ⟨hslots, hpaths, hchan⟩ := h.reset c (by simp)
      have hsame : getChan t c = getChan u c := h'.chans c hnot
      refine ⟨fun g hg => (h'.slots g (hg ▸ hnot)).trans (hslots g hg), fun p => ?_, by rw [hsame]; exact hchan⟩
      rw [getPath, hsame]; exact hpaths p
    · have hmem : c ∈ chs := by simpa [heq] using hc
      have hsame : getChan u c = getChan s c := h.chans c (by simpa using heq)
      obtain ⟨hslots, hpaths, hchan⟩ := h'.reset c hmem
      refine ⟨fun g hg => ?_, fun p => ?_, by rw [hchan, hsame, hclk]⟩
      · have hslot : getSlot u g = getSlot s g := h.slots g (by simpa [hg] using heq)
        rw [hslots g hg, afterReset_congr hslot hobjs hclk]
      · rw [hpaths, getPath, hsame]; rfl
  chans c hc := by
    obtain ⟨hne, hnotin⟩ := not_or.1 (List.mem_cons.not.1 hc)
    rw [h'.chans c hnotin, h.chans c (by simpa using hne)]
  slots g hg := by
    obtain ⟨hne, hnotin⟩ := not_or.1 (List.mem_cons.not.1 hg)
    rw [h'.slots g hnotin, h.slots g (by simpa using hne)]

theorem forEach_resetChannel_resets {chs : List Nat} (hchs : chs.Nodup) (s : State) : ResetsChannels s (forEach chs s resetChannel) chs := by
  induction chs generalizing s with
  | nil => exact ⟨fun _ h => absurd h List.not_mem_nil, fun _ _ => rfl, fun _ _ => rfl⟩
  | cons ch chs ih =>
    obtain ⟨hnot, hchs⟩ := List.nodup_cons.1 hchs
    exact (resetChannel_resets s ch).cons hnot (ih hchs _) (by simp) (by simp)

theorem resetRod_resets (s : State) (r : Nat) : ResetsChannels s (resetRod s r) (rodChannels r) :=
  forEach_resetChannel_resets (rodChannels_nodup r) s

/-- Of a byte's bits those of a channel's eight slots are all: one that names no slot is 0. -/
theorem namedSlots_isEmpty {ch v : Nat} (hv : v < 256) : ((chanSlots ch).filter fun g => bit v (g % 8)).isEmpty = decide (v = 0) := by
  have hbits : (∀ i, i < 8 → bit v i = false) ↔ v = 0 := by
    refine ⟨fun h => Nat.eq_of_testBit_eq fun i => ?_, fun h => by simp [h, bit]⟩
    by_cases hi : i < 8
    · rw [Nat.zero_testBit]; exact h i hi
    · rw [Nat.zero_testBit, Nat.testBit_lt_two_pow (hv.trans_le (Nat.pow_le_pow_right (n := 2) (by decide) (Nat.le_of_not_lt hi)))]
  rw [Bool.eq_iff_iff, List.isEmpty_iff, List.filter_eq_nil_iff, decide_eq_true_iff, ← hbits]
  constructor
  · intro h i hi
    have := h (8 * ch + i) (by simp; omega)
    simpa [show (8 * ch + i) % 8 = i by omega] using this
  · intro h g _
    simp [h (g % 8) (by omega)]

/-- A reset of slots begins the slots anew that the byte names; a byte that names none leaves the channel's last reset. -/
theorem resetBy_slots (s : State) {ch v : Nat} (hv : v < 256) :
    (∀ g, getSlot (resetBy s ch 1 v) g = if g / 8 = ch ∧ bit v (g % 8) = true then afterReset s g false else getSlot s g) ∧
    getChan (resetBy s ch 1 v) ch = { getChan s ch with lastReset := if v = 0 then (getChan s ch).lastReset else s.clk.frame + 1 } ∧
    ∀ c, c ≠ ch → getChan (resetBy s ch 1 v) c = getChan s c := by
  let gs := (chanSlots ch).filter fun g => bit v (g % 8)
  let u := forEach gs s fun s g => resetSlot s g false
  have hchans : u.chans = s.chans := forEach_chans _ _ _ fun _ _ => rfl
  have hclk : u.clk = s.clk := forEach_clk _ _ _ fun _ _ => rfl
  have hslot (g : Nat) : getSlot u g = if g / 8 = ch ∧ bit v (g % 8) = true then afterReset s g false else getSlot s g := by
    simpa [u, gs] using getSlot_resetSlots (gs := gs) ((chanSlots_nodup ch).filter _) s false g
  have hempty : gs.isEmpty = decide (v = 0) := namedSlots_isEmpty hv
  have heq : resetBy s ch 1 v = if gs.isEmpty then s else noteReset u ch := rfl
  by_cases h0 : v = 0
  · have hs : resetBy s ch 1 v = s := by rw [heq, hempty, if_pos (by simpa using h0)]
    have hnone (i : Nat) : bit v i = false := by simp [h0, bit]
    exact ⟨fun g => by simp [hs, hnone], by rw [hs, if_pos h0], fun c _ => by rw [hs]⟩
  · have hs : resetBy s ch 1 v = noteReset u ch := by rw [heq, hempty, if_neg (by simpa using h0)]
    refine ⟨fun g => by rw [hs]; exact hslot g, ?_, fun c hc => ?_⟩
    · rw [hs, noteReset, getChan_modChan, hclk, if_neg h0, getChan, hchans]; rfl
    · rw [hs, noteReset, getChan_modChan_ne _ _ _ _ hc, getChan, hchans]; rfl

/-- Resets touch slots and channels only. -/
theorem resetBy_eq (s : State) (ch sub v : Nat) :
    resetBy s ch sub v = { s with slots := (resetBy s ch sub v).slots, chans := (resetBy s ch sub v).chans } := by
  unfold resetBy
  apply state_ext <;> (repeat' split) <;> simp [resetSlots, resetRod, resetChannel, noteReset, resetSlot]

/-- A reset written to B+0xB is carried out at once and kept for the boundary (R91, R96). -/
theorem commandValue_reset {s : State} {m ch sub v : Nat} {f : Nat → Option Obj} {o : Obj} (hm : mayWrite s m = true) (hch : ch < 96)
    (hf : dictSignal 0xB = some f) (hobj : f sub = some o) (hacc : o.acc = .wo) (htyp : o.typ = .u8) (hv : v < 256) (hok : o.ok v = true) :
    ∃ u t, LockNoted s u ∧ commandValue s m (chanIdx 0x3000 ch 0xB) sub v = t ∧
      t.slots = (resetBy u ch sub v).slots ∧ t.chans = (resetBy u ch sub v).chans ∧
      t.resets = s.resets ++ [(ch, sub, v)] ∧ answered t m (0x3000 + 16 * ch + 0xB) sub 0 ∧
      t = { s with slots := t.slots, chans := t.chans, resets := t.resets, commit := t.commit, olp := t.olp, out := t.out } ∧ OnlyNotes s t := by
  have hm8 : m < 8 := by simp_all [mayWrite]
  obtain ⟨u, hu, hwrite⟩ := commandValue_signal hm hch (by decide) hf hobj hacc htyp hv hok
  rw [writeChannel_reset _ hch] at hwrite
  have hframe := answer_noteChanges_eq (resetWrite u ch sub v) m (0x3000 + 16 * ch + 0xB) sub 0
  have hreset := resetBy_eq u ch sub v
  refine ⟨u, _, hu, hwrite, by simp [resetWrite], by simp [resetWrite], ?_⟩
  obtain ⟨at_, rfl⟩ := hu
  refine ⟨?_, answered_answer hm8, ?_, onlyNotes_of_olp (u := resetWrite _ ch sub v) (by rw [resetWrite, hreset]) (by simp)⟩
  all_goals rw [hframe, resetWrite, hreset]

/-- What was reset is told from the slots and channels alone. -/
theorem ResetsChannels.of_eq {s u t w : State} {chs : List Nat} (h : ResetsChannels u w chs) (hu : LockNoted s u) (hslots : t.slots = w.slots)
    (hchans : t.chans = w.chans) : ResetsChannels s t chs := by
  have hslot (g : Nat) : getSlot t g = getSlot w g := by simp only [getSlot, hslots]
  have hchan (c : Nat) : getChan t c = getChan w c := by simp only [getChan, hchans]
  obtain ⟨at_, rfl⟩ := hu
  refine ⟨fun c hc => ?_, fun c hc => (hchan c).trans (h.chans c hc), fun g hg => (hslot g).trans (h.slots g hg)⟩
  obtain ⟨hreset, hpaths, hself⟩ := h.reset c hc
  exact ⟨fun g hg => (hslot g).trans (hreset g hg), fun p => by rw [getPath, hchan]; exact hpaths p, by rw [hchan]; exact hself⟩

/-! ### Swaps and the ends of cross-fades (R107–R116) -/

/-- Between two states slot `g` becomes `y` and the configuration `objs`; other slots and the units that no swap reaches are
as they were. -/
structure SlotBecomes (s t : State) (g : Nat) (y : SlotPath) (objs : SMap Nat) : Prop where
  slot : getSlot t g = y
  others : ∀ g', g' ≠ g → getSlot t g' = getSlot s g'
  frame : t = { s with objs, slots := t.slots, chans := t.chans, buses := t.buses, mutes := t.mutes, tally := t.tally, out := t.out }

namespace SlotBecomes

variable {s t : State} {g : Nat} {y : SlotPath} {objs : SMap Nat}

theorem refl (s : State) (g : Nat) : SlotBecomes s s g (getSlot s g) s.objs := ⟨rfl, fun _ _ => rfl, rfl⟩

theorem objs_eq (h : SlotBecomes s t g y objs) : t.objs = objs := by rw [h.frame]

/-- A further operation that leaves the slots and changes what a swap may reach. -/
theorem of_keeps {u : State} {objs' : SMap Nat} (h : SlotBecomes s t g y objs) (hslots : u.slots = t.slots)
    (hu : u = { t with objs := objs', chans := u.chans, buses := u.buses, mutes := u.mutes, tally := u.tally, out := u.out }) :
    SlotBecomes s u g y objs' where
  slot := by rw [getSlot, hslots]; exact h.slot
  others g' hg' := by rw [getSlot, hslots]; exact h.others g' hg'
  frame := by
    obtain ⟨-, -, hframe⟩ := h
    generalize u.chans = a, u.buses = b, u.mutes = c, u.tally = d, u.out = e at hu ⊢
    subst hu
    rw [hframe]

theorem modSlot (h : SlotBecomes s t g y objs) (f : SlotPath → SlotPath) : SlotBecomes s (Machine.modSlot t g f) g (f y) objs where
  slot := by rw [getSlot_modSlot, h.slot]
  others g' hg' := by rw [getSlot_modSlot_ne _ _ _ _ hg', h.others g' hg']
  frame := by
    have hframe := h.frame
    generalize t.slots = a, t.chans = b, t.buses = c, t.mutes = d, t.tally = e, t.out = o at hframe
    subst hframe
    rfl

theorem sealMute (h : SlotBecomes s t g y objs) (g' : Nat) : SlotBecomes s (Machine.sealMute t g') g y objs :=
  h.of_keeps (by simp) (by apply state_ext <;> simp [h.objs_eq])

theorem setObjs (h : SlotBecomes s t g y objs) (objs' : SMap Nat) : SlotBecomes s { t with objs := objs' } g y objs' :=
  h.of_keeps rfl rfl

theorem tallyEvent (h : SlotBecomes s t g y objs) (code source : Nat) (args : List Nat) :
    SlotBecomes s (Machine.tallyEvent t code source args) g y objs :=
  h.of_keeps (by simp) (by apply state_ext <;> simp [h.objs_eq])

theorem switchBank (h : SlotBecomes s t g y objs) (b : Nat) :
    SlotBecomes s (Machine.switchBank t g b) g { y with holds := b, xf := none, pendSwap := none, swapResult := 0x04 } objs :=
  (h.modSlot fun x => { x with holds := b, xf := none, pendSwap := none, swapResult := 0x04 }).sealMute g

/-- A swap from a sealed bank of an active receive side starts a cross-fade (R111). -/
theorem launchSwap_fades (h : SlotBecomes s t g y objs) (hfades : (rxActive objs g && (bankOf y y.holds).sealed) = true) (b : Nat) :
    SlotBecomes s (launchSwap t g b) g { y with xf := some { target := b, len := fadeLen t g }, pendSwap := none, swapResult := 0x01 } objs := by
  have hgo : ¬ (!rxActive t.objs g || !(bankOf (getSlot t g) (getSlot t g).holds).sealed) = true := by
    simpa [h.slot, h.objs_eq] using hfades
  rw [launchSwap, if_neg hgo]
  exact h.modSlot fun x => { x with xf := some { target := b, len := fadeLen t g }, pendSwap := none, swapResult := 0x01 }

/-- Any other switches at once (R113). -/
theorem launchSwap_switches (h : SlotBecomes s t g y objs) (hno : (rxActive objs g && (bankOf y y.holds).sealed) = false) (b : Nat) :
    SlotBecomes s (launchSwap t g b) g { y with holds := b, xf := none, pendSwap := none, swapResult := 0x04 } objs := by
  have hgo : (!rxActive t.objs g || !(bankOf (getSlot t g) (getSlot t g).holds).sealed) = true := by
    rw [h.slot, h.objs_eq, ← Bool.not_and, hno]; rfl
  rw [launchSwap, if_pos hgo]
  exact h.switchBank b

/-- A pending swap is dropped: the slot's bank select is the bank it holds (R115). -/
theorem dropSwap (h : SlotBecomes s t g y objs) :
    SlotBecomes s (Machine.dropSwap t g) g { y with swapResult := 0x14 } (setBankSelect objs g y.holds) := by
  have hset : setBankSelect t.objs g (getSlot t g).holds = setBankSelect objs g y.holds := by rw [h.objs_eq, h.slot]
  rw [← hset]
  exact (((h.modSlot fun x => { x with swapResult := 0x14 }).setObjs _).tallyEvent _ _ _).sealMute g

end SlotBecomes

/-- A write of B+0x7:09–10 is answered `status`, with slot `g` become `y` and the configuration `objs`. -/
def SwapEnds (s : State) (g b status : Nat) (y : SlotPath) (objs : SMap Nat) : Prop :=
  (swapWrite s g b).1 = status ∧ SlotBecomes s (swapWrite s g b).2 g y objs

theorem SwapEnds.of_eq {s w : State} {g b status : Nat} {y : SlotPath} {objs : SMap Nat} (h : swapWrite s g b = (status, w))
    (hw : SlotBecomes s w g y objs) : SwapEnds s g b status y objs := by
  rw [SwapEnds, h]
  exact ⟨rfl, hw⟩

/-- Does the compute budget hold a swap (R84)? -/
def swapFits (s : State) (g b : Nat) : Bool :=
  let x := getSlot s g
  decide ((if rxActive s.objs g && (bankOf x x.holds).sealed then budgetUse s (g / 8) (some g) else switchedUse s g b) ≤ 256)

/-- A swap's result noted. -/
def noteSwap (s : State) (g code : Nat) : State := modSlot s g fun x => { x with swapResult := code }

theorem noteSwap_becomes (s : State) (g code : Nat) : SlotBecomes s (noteSwap s g code) g { getSlot s g with swapResult := code } s.objs :=
  (SlotBecomes.refl s g).modSlot fun x => { x with swapResult := code }

/-- A swap written while no commit is under way: it meets a cross-fade or none (R110, R114). -/
theorem swapWrite_of_idle {s : State} (hidle : ¬ (s.commit.st = 1 ∨ s.commit.held = true)) (g b : Nat) :
    swapWrite s g b =
      let x := getSlot s g
      let bar := bankBar x b (kOf s.objs g)
      let chosen (t : State) : State := { t with objs := setBankSelect t.objs g b }
      match x.xf with
      | some f => if bar ≠ 0 then (0x05, noteSwap s g bar) else (0, chosen (queueSwap s g b f))
      | none =>
        if b = x.holds then (0, noteSwap s g 0x05)
        else if bar ≠ 0 then (0x05, noteSwap s g bar)
        else if swapFits s g b = false then (0x05, noteSwap s g 0x12)
        else (0, chosen (launchSwap s g b)) := by
  have hfits : (decide (256 < if rxActive s.objs g && (bankOf (getSlot s g) (getSlot s g).holds).sealed then budgetUse s (g / 8) (some g)
      else switchedUse s g b) = true) = (swapFits s g b = false) := by
    simp [swapFits]
  rw [swapWrite, if_neg hidle]
  simp only [hfits]
  rfl

section

variable {s : State} {g b : Nat} {x : SlotPath} {cfg : SMap Nat} (hx : getSlot s g = x) (hcfg : s.objs = cfg)

include hx hcfg

theorem swapEnds_of_commit (h : s.commit.st = 1 ∨ s.commit.held = true) : SwapEnds s g b 0x0C { x with swapResult := 0x13 } cfg := by
  subst hx hcfg
  exact .of_eq (w := noteSwap s g 0x13) (by rw [swapWrite, if_pos h]; rfl) (noteSwap_becomes s g 0x13)

variable (hidle : ¬ (s.commit.st = 1 ∨ s.commit.held = true))

include hidle

/-- A swap to the target of the running cross-fade clears the pending one; one to the other bank waits (R114). -/
theorem swapEnds_of_fading {f : XFade} (hxf : x.xf = some f) (hbar : bankBar x b (kOf cfg g) = 0) :
    SwapEnds s g b 0 (if b = f.target then { x with pendSwap := none, swapResult := 0x03 } else { x with pendSwap := some b, swapResult := 0x02 })
      (setBankSelect cfg g b) := by
  subst hx hcfg
  have heq : swapWrite s g b = (0, { queueSwap s g b f with objs := setBankSelect s.objs g b }) := by
    rw [swapWrite_of_idle hidle]
    simp only [hxf, hbar]
    rfl
  exact .of_eq heq (((SlotBecomes.refl s g).modSlot _).setObjs _)

theorem swapEnds_of_fading_barred {f : XFade} (hxf : x.xf = some f) (hbar : bankBar x b (kOf cfg g) ≠ 0) :
    SwapEnds s g b 0x05 { x with swapResult := bankBar x b (kOf cfg g) } cfg := by
  subst hx hcfg
  refine .of_eq ?_ (noteSwap_becomes s g _)
  rw [swapWrite_of_idle hidle]
  simp only [hxf, if_pos hbar]

variable (hxf : x.xf = none)

include hxf

theorem swapEnds_of_held (hb : b = x.holds) : SwapEnds s g b 0 { x with swapResult := 0x05 } cfg := by
  subst hx hcfg
  refine .of_eq ?_ (noteSwap_becomes s g _)
  rw [swapWrite_of_idle hidle]
  simp only [hxf, if_pos hb]

variable (hb : b ≠ x.holds)

include hb

theorem swapEnds_of_barred (hbar : bankBar x b (kOf cfg g) ≠ 0) :
    SwapEnds s g b 0x05 { x with swapResult := bankBar x b (kOf cfg g) } cfg := by
  subst hx hcfg
  refine .of_eq ?_ (noteSwap_becomes s g _)
  rw [swapWrite_of_idle hidle]
  simp only [hxf, if_neg hb, if_pos hbar]

variable (hbar : bankBar x b (kOf cfg g) = 0)

include hbar

theorem swapEnds_of_too_long (hfits : swapFits s g b = false) : SwapEnds s g b 0x05 { x with swapResult := 0x12 } cfg := by
  subst hx hcfg
  refine .of_eq ?_ (noteSwap_becomes s g _)
  rw [swapWrite_of_idle hidle]
  simp only [hxf, if_neg hb, if_neg (not_not.2 hbar), if_pos hfits]

/-- A swap that nothing bars and that the budget holds is launched. -/
theorem swapEnds_of_launched (hfits : swapFits s g b = true) {y : SlotPath} (h : SlotBecomes s (launchSwap s g b) g y cfg) :
    SwapEnds s g b 0 y (setBankSelect cfg g b) := by
  subst hx hcfg
  have heq : swapWrite s g b = (0, { launchSwap s g b with objs := setBankSelect s.objs g b }) := by
    rw [swapWrite_of_idle hidle]
    simp only [hxf, if_neg hb, if_neg (not_not.2 hbar), if_neg (Bool.not_eq_false _ ▸ hfits), h.objs_eq]
  exact .of_eq heq (h.setObjs _)

end

theorem swapWrite_tally (s : State) (g b : Nat) : (swapWrite s g b).2.tally = s.tally := by
  unfold swapWrite
  dsimp only
  (repeat' split) <;> simp [queueSwap]

/-- The entry of the swap requests of a channel (Table 4.7). -/
theorem dictSignal_swapRequest {g : Nat} : ∃ f, dictSignal 7 = some f ∧ f (g % 8 + 9) = some (ranged .u8 .wo 0 0 1) := by
  refine ⟨_, rfl, ?_⟩
  rw [rec, if_neg (by omega), if_pos (by omega), if_neg (by omega), if_pos (by omega)]

/-- SWAP_REQUEST carries out the write of B+0x7 and answers it. -/
theorem exec_swapRequest {s : State} {m g b : Nat} (hg : g < 768) (hm : mayWrite s m = true) (hb : b < 2) : ∃ u, LockNoted s u ∧
    ∀ status y objs, SwapEnds u g b status y objs →
    ∃ t, exec (.swapRequest m g b) s = .next t ∧ getSlot t g = y ∧ (∀ g', g' ≠ g → getSlot t g' = getSlot s g') ∧ t.objs = objs ∧
      answered t m (0x3000 + 16 * (g / 8) + 7) (g % 8 + 9) status ∧ OnlyNotes s t ∧
      t = { s with objs, slots := t.slots, chans := t.chans, buses := t.buses, mutes := t.mutes, commit := t.commit, olp := t.olp, out := t.out } := by
  have hm8 : m < 8 := by simp_all [mayWrite]
  have hch : g / 8 < 96 := by omega
  obtain ⟨f, hf, hobj⟩ := dictSignal_swapRequest (g := g)
  obtain ⟨u, hu, hwrite⟩ := commandValue_signal hm hch (by decide) hf hobj rfl rfl (show b < 256 by omega) (by simp [ranged]; omega)
  rw [writeChannel_swap _ hg] at hwrite
  refine ⟨u, hu, fun status y objs ⟨hstatus, hbecomes⟩ => ?_⟩
  have htally := swapWrite_tally u g b
  rw [hstatus] at hwrite
  generalize (swapWrite u g b).2 = w at hwrite hbecomes htally
  obtain ⟨at_, rfl⟩ := hu
  refine ⟨_, congrArg Host.Outcome.next hwrite, ?_, fun g' hg' => ?_, ?_, answered_answer hm8,
    onlyNotes_of_olp (u := w) (by rw [hbecomes.frame]) (by simp), by rw [answer_noteChanges_eq, hbecomes.frame, htally]⟩
  · simpa [getSlot] using hbecomes.slot
  · simpa [getSlot] using hbecomes.others g' hg'
  · simpa using hbecomes.objs_eq

/-- A cross-fade's end at its boundary (R112). -/
theorem exec_crossFadeEnd {s : State} {g : Nat} {f : XFade} (hxf : (getSlot s g).xf = some f) (hdone : f.len ≤ f.done) :
    exec (.crossFadeEnd g) s = .next (endFade s g f fun s t => launchSwap s g t) := by
  show execCrossFadeEnd g s = _
  simp only [execCrossFadeEnd, hxf, if_neg (Nat.not_lt.2 hdone)]

/-- The slot on the bank its fade has reached, before a pending swap is looked at. -/
def fadeReached (s : State) (g : Nat) (f : XFade) : State := modSlot s g fun x => { x with holds := f.target, xf := none, pendSwap := none }

theorem fadeReached_becomes (s : State) (g : Nat) (f : XFade) :
    SlotBecomes s (fadeReached s g f) g { getSlot s g with holds := f.target, xf := none, pendSwap := none } s.objs :=
  (SlotBecomes.refl s g).modSlot fun x => { x with holds := f.target, xf := none, pendSwap := none }

section

variable {s : State} {g b : Nat} {f : XFade}

theorem endFade_ends (hpend : (getSlot s g).pendSwap = none) (go : State → Nat → State) :
    SlotBecomes s (endFade s g f go) g { getSlot s g with holds := f.target, xf := none } s.objs := by
  have hy : { getSlot s g with holds := f.target, xf := none, pendSwap := none } = { getSlot s g with holds := f.target, xf := none } := by
    rw [← hpend]
  rw [endFade_of_no_pending hpend, ← hy]
  exact (fadeReached_becomes s g f).sealMute g

theorem endFade_of_pending (hpend : (getSlot s g).pendSwap = some b) (go : State → Nat → State) :
    endFade s g f go = if (bankOf (getSlot s g) b).sealed then sealMute (go (fadeReached s g f) b) g else dropSwap (fadeReached s g f) g := by
  have hbank : bankOf (getSlot (fadeReached s g f) g) b = bankOf (getSlot s g) b := by rw [(fadeReached_becomes s g f).slot]; rfl
  rw [← hbank]
  simp only [endFade, hpend]
  rfl

theorem endFade_starts (hpend : (getSlot s g).pendSwap = some b) (hseal : (bankOf (getSlot s g) b).sealed = true)
    (hleft : (bankOf (getSlot s g) f.target).sealed = true) (hrx : rxActive s.objs g = true) :
    SlotBecomes s (endFade s g f fun s t => launchSwap s g t) g
      { getSlot s g with holds := f.target, xf := some { target := b, len := fadeLen s g }, pendSwap := none, swapResult := 0x01 } s.objs := by
  rw [endFade_of_pending hpend, if_pos hseal]
  exact ((fadeReached_becomes s g f).launchSwap_fades (Bool.and_eq_true_iff.2 ⟨hrx, hleft⟩) b).sealMute g

theorem endFade_drops (hpend : (getSlot s g).pendSwap = some b) (hseal : (bankOf (getSlot s g) b).sealed = false) (go : State → Nat → State) :
    SlotBecomes s (endFade s g f go) g { getSlot s g with holds := f.target, xf := none, pendSwap := none, swapResult := 0x14 }
      (setBankSelect s.objs g f.target) := by
  rw [endFade_of_pending hpend, if_neg (by simp [hseal])]
  exact (fadeReached_becomes s g f).dropSwap

end

/-- Settles O55: a reset is that of its channels' slots, lines and paths one by one, and a swap or a fade's end changes its slot
alone, the bank selects and the mute that follows the seal. -/
theorem resetsAndSwaps : Obligations.ResetsAndSwaps := by
  intro s m g hg ch
  have hch : ch < 96 := by omega
  refine ⟨fun hm => ⟨fun v hv => ?_, ?_, ?_, fun b hb => ?_⟩, fun f hxf hdone => ?_⟩
  · -- SLOT_RESET
    obtain ⟨u, t, ⟨at_, rfl⟩, hexec, hslots, hchans, hresets, hanswer, hframe, hnotes⟩ :=
      commandValue_reset hm hch rfl (sub := 1) rfl rfl rfl hv rfl
    obtain ⟨hslot, hself, hothers⟩ := resetBy_slots _ (ch := ch) hv
    refine ⟨t, congrArg Host.Outcome.next hexec, fun g' => ?_, ?_, fun c hc => ?_, hresets, hanswer, hframe, hnotes⟩
    · rw [getSlot, hslots]; exact hslot g'
    · rw [getChan, hchans]; exact hself
    · rw [getChan, hchans]; exact hothers c hc
  · -- CHANNEL_RESET
    obtain ⟨u, t, hu, hexec, hslots, hchans, hresets, hanswer, hframe, hnotes⟩ :=
      commandValue_reset hm hch rfl (sub := 2) (v := 1) rfl rfl rfl (by decide) rfl
    have h : ResetsChannels s t [ch] := (resetChannel_resets u ch).of_eq hu hslots hchans
    exact ⟨t, congrArg Host.Outcome.next hexec, h.reset ch (by simp), fun c hc => h.chans c (by simpa using hc),
      fun g' hg' => h.slots g' (by simpa using hg'), hresets, hanswer, hframe, hnotes⟩
  · -- ROD_RESET
    obtain ⟨u, t, hu, hexec, hslots, hchans, hresets, hanswer, hframe, hnotes⟩ :=
      commandValue_reset hm hch rfl (sub := 3) (v := 1) rfl rfl rfl (by decide) rfl
    have h : ResetsChannels s t (rodChannels (ch / 16)) := (resetRod_resets u (ch / 16)).of_eq hu hslots hchans
    exact ⟨t, congrArg Host.Outcome.next hexec, fun c hc => h.reset c (by simpa using hc), fun c hc => h.chans c (by simpa using hc),
      fun g' hg' => h.slots g' (by simp only [mem_rodChannels]; omega), hresets, hanswer, hframe, hnotes⟩
  · -- SWAP_REQUEST
    obtain ⟨u, ⟨at_, hu⟩, hends⟩ := exec_swapRequest hg hm hb
    have hx : getSlot u g = getSlot s g := by rw [hu]; rfl
    have hcfg : u.objs = s.objs := by rw [hu]
    have hfits : swapFits u g b = swapFits s g b := by rw [hu]; rfl
    have hlen : fadeLen u g = fadeLen s g := by rw [hu]; rfl
    have hcommit : (u.commit.st = 1 ∨ u.commit.held = true) = (s.commit.st = 1 ∨ s.commit.held = true) := by rw [hu]
    have hself : SlotBecomes u u g (getSlot s g) s.objs := hx ▸ hcfg ▸ .refl u g
    refine ⟨fun h => hends _ _ _ (swapEnds_of_commit hx hcfg (hcommit ▸ h)), fun hst hheld => ?_⟩
    have hidle : ¬ (u.commit.st = 1 ∨ u.commit.held = true) := by rw [hcommit]; simp [hst, hheld]
    refine ⟨fun f hxf hbar htarget => ?_, fun f hxf hbar htarget => ?_,
      fun f hxf hbar => hends _ _ _ (swapEnds_of_fading_barred hx hcfg hidle hxf hbar), fun hxf =>
      ⟨fun h => hends _ _ _ (swapEnds_of_held hx hcfg hidle hxf h), fun h hbar => hends _ _ _ (swapEnds_of_barred hx hcfg hidle hxf h hbar),
        fun h hbar hno => hends _ _ _ (swapEnds_of_too_long hx hcfg hidle hxf h hbar (hfits.trans hno)), fun h hbar hfit hfades => ?_,
        fun h hbar hfit hfades => hends _ _ _
          (swapEnds_of_launched hx hcfg hidle hxf h hbar (hfits.trans hfit) (hself.launchSwap_switches hfades b))⟩⟩
    · have h := swapEnds_of_fading hx hcfg hidle hxf hbar
      rw [if_pos htarget] at h
      exact hends _ _ _ h
    · have h := swapEnds_of_fading hx hcfg hidle hxf hbar
      rw [if_neg htarget] at h
      exact hends _ _ _ h
    · have hlaunch := hself.launchSwap_fades hfades b
      rw [hlen] at hlaunch
      exact hends _ _ _ (swapEnds_of_launched hx hcfg hidle hxf h hbar (hfits.trans hfit) hlaunch)
  · -- CROSS_FADE_END
    intro x ended
    have hexec := exec_crossFadeEnd hxf hdone
    have hends {y : SlotPath} {objs : SMap Nat} (h : SlotBecomes s (endFade s g f fun s t => launchSwap s g t) g y objs) : ended y objs :=
      ⟨_, hexec, h.slot, h.others, h.objs_eq, h.frame⟩
    exact ⟨fun hpend => hends (endFade_ends hpend _), fun b hpend hseal hleft hrx => hends (endFade_starts hpend hseal hleft hrx),
      fun b hpend hseal => hends (endFade_drops hpend hseal _)⟩

end Sys2Proof.Machine

namespace Sys2Proof.Machine

/-! ### One channel's canceller (ch. 7) -/

/-- A canceller but for its paths and the figures that its windows leave: the powers and the clipped tap parts. -/
def Canceller.bare (c : Canceller) : Canceller := { c with paths := [], estPower := 0, resPower := 0, totPower := 0, clips := 0 }

/-- Between two states the canceller of channel `ch` becomes `c`, but for its paths and figures; other channels, the objects and
the time are as they were. -/
structure CancBecomes (s t : State) (ch : Nat) (c : Canceller) : Prop where
  canc : (getChan t ch).canc.bare = c.bare
  others : ∀ k, k ≠ ch → getChan t k = getChan s k
  objs : t.objs = s.objs
  time : t.time = s.time

namespace CancBecomes

variable {s t : State} {ch : Nat} {c : Canceller}

theorem refl (s : State) (ch : Nat) : CancBecomes s s ch (getChan s ch).canc := ⟨rfl, fun _ _ => rfl, rfl, rfl⟩

/-- Nothing of a channel changes with the fault collector or Tally. -/
theorem of_chans (hchans : t.chans = s.chans) (hobjs : t.objs = s.objs) (htime : t.time = s.time) :
    CancBecomes s t ch (getChan s ch).canc := by
  have hsame (k : Nat) : getChan t k = getChan s k := by simp only [getChan, hchans]
  exact ⟨by rw [hsame], fun k _ => hsame k, hobjs, htime⟩

theorem trans {u : State} {d : Canceller} (h : CancBecomes s u ch d) (h' : CancBecomes u t ch c) : CancBecomes s t ch c where
  canc := h'.canc
  others k hk := (h'.others k hk).trans (h.others k hk)
  objs := h'.objs.trans h.objs
  time := h'.time.trans h.time

theorem modCanc (h : CancBecomes s t ch c) (f : Canceller → Canceller) (hf : ∀ c, (f c).bare = (f c.bare).bare) :
    CancBecomes s (Machine.modCanc t ch f) ch (f c) where
  canc := by rw [getChan_modCanc]; exact (hf _).trans ((congrArg (fun c => (f c).bare) h.canc).trans (hf c).symm)
  others k hk := (getChan_modCanc_ne _ _ _ _ hk).trans (h.others k hk)
  objs := h.objs
  time := h.time

/-- A change of the paths and figures alone. -/
theorem modFigures (h : CancBecomes s t ch c) (f : Canceller → Canceller) (hf : ∀ c, (f c).bare = c.bare) :
    CancBecomes s (Machine.modCanc t ch f) ch c where
  canc := by rw [getChan_modCanc]; exact (hf _).trans h.canc
  others k hk := (getChan_modCanc_ne _ _ _ _ hk).trans (h.others k hk)
  objs := h.objs
  time := h.time

/-- What is read of it apart from paths and figures. -/
theorem reads {α : Type} (h : CancBecomes s t ch c) (read : Canceller → α) (hread : ∀ c, read c.bare = read c) :
    read (getChan t ch).canc = read c := by
  rw [← hread, h.canc, hread]

theorem modPath (h : CancBecomes s t ch c) (p : Nat) (f : CPath → CPath) : CancBecomes s (Machine.modPath t ch p f) ch c :=
  h.modFigures _ fun _ => rfl

theorem forEach {α : Type} {g : State → α → State} (h : CancBecomes s t ch c) (xs : List α)
    (hstep : ∀ u x, CancBecomes s u ch c → CancBecomes s (g u x) ch c) : CancBecomes s (Machine.forEach xs t g) ch c :=
  forEach_inv (fun u => CancBecomes s u ch c) xs g hstep t h

theorem unmeasured (h : CancBecomes s t ch c) (ps : List Nat) : CancBecomes s (Machine.unmeasured t ch ps) ch c :=
  h.forEach ps fun _ p hu => by
    split
    · exact hu.modPath p _
    · exact hu

theorem channelFigures (h : CancBecomes s t ch c) (n : Nat) (w : ObsWindow) : CancBecomes s (Machine.channelFigures t ch n w) ch c :=
  h.modFigures _ fun _ => rfl

end CancBecomes

theorem getPath_modCanc (s : State) (ch p : Nat) {f : Canceller → Canceller} (hf : ∀ c, (f c).paths = c.paths) :
    getPath (modCanc s ch f) ch p = getPath s ch p := by
  simp [getPath, hf]

theorem getPath_of_chans {s t : State} (h : t.chans = s.chans) (ch p : Nat) : getPath t ch p = getPath s ch p := by
  simp [getPath, getChan, h]

theorem getPath_modPath_at (s : State) (ch p q : Nat) (f : CPath → CPath) :
    getPath (modPath s ch p f) ch q = if q = p then f (getPath s ch q) else getPath s ch q := by
  rw [getPath_modPath_eq]
  split
  · next h => rw [h]
  · rfl

/-- A change of one channel's canceller, told from the table of channels. -/
theorem canc_of_chans {s u t : State} {ch : Nat} {g : Canceller → Canceller} (hu : u.chans = s.chans) (ht : t.chans = (modCanc u ch g).chans) :
    (getChan t ch).canc = g (getChan s ch).canc ∧ ∀ k, k ≠ ch → getChan t k = getChan s k := by
  have hsame (k : Nat) : getChan u k = getChan s k := by simp only [getChan, hu]
  have hchan (k : Nat) : getChan t k = getChan (modCanc u ch g) k := by simp only [getChan, ht]
  exact ⟨by rw [hchan, getChan_modCanc, hsame], fun k hk => by rw [hchan, getChan_modCanc_ne _ _ _ _ hk, hsame]⟩

/-- A loop whose steps change one path each, and none twice, changes each of these as it was. -/
theorem getPath_forEach {α : Type} {ch : Nat} {I : State → Prop} {g : State → α → State} {k : α → Nat} {F : α → CPath → CPath}
    (hkeep : ∀ u x, I u → I (g u x))
    (hstep : ∀ u x p, I u → getPath (g u x) ch p = if p = k x then F x (getPath u ch p) else getPath u ch p)
    {xs : List α} (hxs : (xs.map k).Nodup) {s : State} (hs : I s) :
    (∀ x ∈ xs, getPath (forEach xs s g) ch (k x) = F x (getPath s ch (k x))) ∧
    (∀ p, p ∉ xs.map k → getPath (forEach xs s g) ch p = getPath s ch p) := by
  induction xs generalizing s with
  | nil => exact ⟨fun _ h => absurd h List.not_mem_nil, fun _ _ => rfl⟩
  | cons a xs ih =>
    obtain ⟨ha, hxs⟩ := List.nodup_cons.1 hxs
    obtain ⟨hmem, hnot⟩ := ih hxs (hkeep s a hs)
    have hcons : forEach (a :: xs) s g = forEach xs (g s a) g := rfl
    refine ⟨fun x hx => ?_, fun p hp => ?_⟩
    · rcases List.mem_cons.1 hx with rfl | hx
      · rw [hcons, hnot _ ha, hstep s x _ hs, if_pos rfl]
      · have hne : k x ≠ k a := fun h => ha (h ▸ List.mem_map_of_mem hx)
        rw [hcons, hmem x hx, hstep s a _ hs, if_neg hne]
    · obtain ⟨hne, hp⟩ := not_or.1 (List.mem_cons.not.1 hp)
      rw [hcons, hnot p hp, hstep s a _ hs, if_neg hne]

/-- A path that is not measured: tracking turns to held (Table 7.2). -/
def heldPath (x : CPath) : CPath := { x with st := if x.st = 3 then 4 else x.st }

theorem getPath_unmeasured (s : State) (ch : Nat) {ps : List Nat} (hps : ps.Nodup) (p : Nat) :
    getPath (unmeasured s ch ps) ch p = if p ∈ ps then heldPath (getPath s ch p) else getPath s ch p := by
  obtain ⟨hmem, hnot⟩ := getPath_forEach (ch := ch) (k := id) (F := fun _ => heldPath) (I := fun _ => True)
    (g := fun s p => if (getPath s ch p).st = 3 then modPath s ch p fun x => { x with st := 4 } else s) (xs := ps) (s := s)
    (fun _ _ _ => trivial) (fun u x q _ => by
      by_cases hq : q = x
      · subst hq
        by_cases hst : (getPath u ch q).st = 3 <;> simp [heldPath, hst]
      · split <;> simp [getPath_modPath_eq, hq]) (by simpa using hps) trivial
  split
  · next h => exact hmem p h
  · next h => exact hnot p (by simpa using h)

/-! ### A window of the engine (R164–R168, R172–R175) -/

/-- A span of the survey correlated on a window (R163). -/
def spanned (x : PathSums) (c : Canceller) : Canceller :=
  let b := bestLag c.survProgress x (c.survBest, c.survAt)
  { c with survBelow := 0, survProgress := min 128 (c.survProgress + 1), survBest := b.1, survAt := b.2 }

theorem spanned_bare (x : PathSums) (c : Canceller) : (spanned x c).bare = (spanned x c.bare).bare := by simp only [spanned, Canceller.bare]

/-- The survey's part of a window (R163). -/
def surveyed (w : ObsWindow) (c : Canceller) : Canceller :=
  match w.survey with
  | none => c
  | some x =>
    if c.survState ≠ 1 || !x.clean then c
    else if belowFloor w.n x then { c with survBelow := c.survBelow + 1 } else spanned x c

theorem CancBecomes.surveySpan {s t : State} {ch : Nat} {c : Canceller} (h : CancBecomes s t ch c) (w : ObsWindow) :
    CancBecomes s (Machine.surveySpan t ch w.n w) ch (surveyed w c) := by
  have hst : (getChan t ch).canc.survState = c.survState := h.reads Canceller.survState fun _ => rfl
  cases hw : w.survey with
  | none => simpa only [Machine.surveySpan, surveyed, hw] using h
  | some x =>
    simp only [Machine.surveySpan, surveyed, hw, hst]
    split
    · exact h
    · split
      · exact h.modCanc (fun c => { c with survBelow := c.survBelow + 1 }) fun _ => rfl
      · exact h.modCanc (spanned x) (spanned_bare x)

theorem getPath_surveySpan (s : State) (ch : Nat) (w : ObsWindow) (p : Nat) : getPath (surveySpan s ch w.n w) ch p = getPath s ch p := by
  cases hw : w.survey with
  | none => simp only [surveySpan, hw]
  | some x =>
    simp only [surveySpan, hw]
    split
    · rfl
    · split
      · exact getPath_modCanc s ch p fun _ => rfl
      · exact getPath_modCanc s ch p fun _ => rfl

/-- The paths that a window finds below the floor are flagged. -/
def markLow (s : State) (ch : Nat) (w : ObsWindow) : State :=
  forEach (w.paths.filter fun x => x.clean && pathInUse s.objs ch x.path && belowFloor w.n x) s
    fun s x => modPath s ch x.path fun y => { y with belowFloor := true }

/-- The paths that a window can measure are measured. -/
def measureAll (s : State) (ch : Nat) (w : ObsWindow) : State :=
  forEach (measurable s ch w.n w) (markLow s ch w) fun s x => modPath s ch x.path (measurePath s ch w.n w.pe x)

/-- The paths measured, the others held, and the channel's figures. -/
def windowMeasured (s : State) (ch : Nat) (w : ObsWindow) : State :=
  let t := unmeasured (measureAll s ch w) ch ((List.range 8).filter fun p => !(measurable s ch w.n w).any (·.path == p))
  if (measurable s ch w.n w).isEmpty then t else channelFigures t ch w.n w

/-- The paths to get a new model, each with the state that it was in when the window was measured. -/
def modelsDue (s : State) (ch : Nat) (w : ObsWindow) : List (PathSums × Nat) :=
  ((measurable s ch w.n w).map fun x => (x, (getPath (markLow s ch w) ch x.path).st)).filter fun x => !frozen s ch x.1.path

/-- A path's new model is formed; it is not yet in force (R165). -/
def formModel (ch : Nat) (s : State) (x : PathSums × Nat) : State :=
  let m := updateModel (stepExponent s ch x.2) x.1 (getPath s ch x.1.path)
  modCanc (modPath s ch x.1.path fun y => { y with newModel := some m.1, clipped := decide (0 < m.2), reverted := false }) ch
    fun c => { c with clips := sat32 (c.clips + m.2) }

/-- What a window that no earlier one is compared with leaves of the canceller but for paths and figures. -/
def windowEnds (s : State) (ch : Nat) (w : ObsWindow) (c : Canceller) : Canceller :=
  if (modelsDue s ch w).isEmpty then { c with lastCr := none }
  else { c with lastCr := some (sumMap (measurable s ch w.n w) (corrResidual w.n)), raised := c.raised - 1, applyBy := w.last + applyLimit }

theorem markLow_becomes (s : State) (ch : Nat) (w : ObsWindow) : CancBecomes s (markLow s ch w) ch (getChan s ch).canc :=
  (CancBecomes.refl s ch).forEach _ fun _ x hu => hu.modPath x.path _

theorem measureAll_becomes (s : State) (ch : Nat) (w : ObsWindow) : CancBecomes s (measureAll s ch w) ch (getChan s ch).canc :=
  (markLow_becomes s ch w).forEach _ fun _ x hu => hu.modPath x.path _

theorem windowMeasured_becomes (s : State) (ch : Nat) (w : ObsWindow) : CancBecomes s (windowMeasured s ch w) ch (getChan s ch).canc := by
  have h := (measureAll_becomes s ch w).unmeasured ((List.range 8).filter fun p => !(measurable s ch w.n w).any (·.path == p))
  unfold windowMeasured
  split
  · exact h
  · exact h.channelFigures w.n w

theorem formModel_becomes {s t : State} {ch : Nat} {c : Canceller} (h : CancBecomes s t ch c) (x : PathSums × Nat) :
    CancBecomes s (formModel ch t x) ch c :=
  (h.modPath x.1.path _).modFigures (fun c => { c with clips := sat32 (c.clips + _) }) fun _ => rfl

theorem frozen_congr {s t : State} (h : t.objs = s.objs) (ch p : Nat) : frozen t ch p = frozen s ch p := by simp only [frozen, h]

/-- The state in which a window's new models are formed: its paths measured, and the survey's span taken. -/
def windowSurveyed (s : State) (ch : Nat) (w : ObsWindow) : State := surveySpan (windowMeasured s ch w) ch w.n w

theorem windowSurveyed_becomes (s : State) (ch : Nat) (w : ObsWindow) :
    CancBecomes s (windowSurveyed s ch w) ch (surveyed w (getChan s ch).canc) := (windowMeasured_becomes s ch w).surveySpan w

/-- No freeze changes while a window is worked. -/
theorem modelsDue_eq (s : State) (ch : Nat) (w : ObsWindow) : modelsDue s ch w =
    ((measurable s ch w.n w).map fun x => (x, (getPath (markLow s ch w) ch x.path).st)).filter
      fun x => !frozen (windowSurveyed s ch w) ch x.1.path := by
  simp only [frozen_congr (windowSurveyed_becomes s ch w).objs]
  rfl

/-- A window in its parts: a residual that grew too far reverts the models, else new ones are formed (R164, R168). -/
theorem runWindow_eq (s : State) (ch : Nat) (w : ObsWindow) : runWindow s ch w =
    if (match (getChan (windowMeasured s ch w) ch).canc.lastCr with
      | some old =>
        decide (old * powRatio (cancSet (windowMeasured s ch w) ch 6) < sumMap (measurable s ch w.n w) (corrResidual w.n) * 2 ^ 64)
      | none => false) = true then revert (windowSurveyed s ch w) ch
    else if (modelsDue s ch w).isEmpty = true then modCanc (windowSurveyed s ch w) ch fun c => { c with lastCr := none }
    else modCanc (forEach (modelsDue s ch w) (windowSurveyed s ch w) (formModel ch)) ch fun c => { c with
      lastCr := some (sumMap (measurable s ch w.n w) (corrResidual w.n)), raised := c.raised - 1, applyBy := w.last + applyLimit } := by
  rw [modelsDue_eq]
  rfl

/-- A window with no earlier residual to compare its own with reverts nothing. -/
theorem runWindow_of_no_residual {s : State} {ch : Nat} (hlast : (getChan s ch).canc.lastCr = none) (w : ObsWindow) :
    runWindow s ch w = modCanc (forEach (modelsDue s ch w) (windowSurveyed s ch w) (formModel ch)) ch (windowEnds s ch w) := by
  have hnone : (getChan (windowMeasured s ch w) ch).canc.lastCr = none :=
    ((windowMeasured_becomes s ch w).reads Canceller.lastCr fun _ => rfl).trans hlast
  rw [runWindow_eq, hnone]
  refine (if_neg Bool.false_ne_true).trans ?_
  split
  · next hempty =>
    rw [show windowEnds s ch w = fun c => { c with lastCr := none } from funext fun _ => if_pos hempty, List.isEmpty_iff.1 hempty]
    rfl
  · next hsome => exact congrArg _ (funext fun _ => (if_neg hsome).symm)

theorem windowEnds_becomes {s t : State} {ch : Nat} {c : Canceller} (h : CancBecomes s t ch c) (u : State) (w : ObsWindow) :
    CancBecomes s (modCanc t ch (windowEnds u ch w)) ch (windowEnds u ch w c) :=
  h.modCanc _ fun c => by
    by_cases hdue : (modelsDue u ch w).isEmpty = true
    · simp only [windowEnds, if_pos hdue, Canceller.bare]
    · simp only [windowEnds, if_neg hdue, Canceller.bare]

/-- What a window that no earlier one is compared with leaves of the canceller. -/
theorem runWindow_becomes {s : State} {ch : Nat} (hlast : (getChan s ch).canc.lastCr = none) (w : ObsWindow) :
    CancBecomes s (runWindow s ch w) ch (windowEnds s ch w (surveyed w (getChan s ch).canc)) := by
  rw [runWindow_of_no_residual hlast]
  exact windowEnds_becomes ((windowSurveyed_becomes s ch w).forEach _ fun _ x hu => formModel_becomes hu x) s w

/-- The survey's part of a window changes what the survey has found only. -/
theorem surveyed_eq (w : ObsWindow) (c : Canceller) : surveyed w c = { c with
    survBelow := (surveyed w c).survBelow, survProgress := (surveyed w c).survProgress,
    survBest := (surveyed w c).survBest, survAt := (surveyed w c).survAt } := by
  cases hw : w.survey with
  | none => simp only [surveyed, hw]
  | some x =>
    simp only [surveyed, hw]
    split
    · rfl
    · split <;> rfl

theorem surveyed_of_low {w : ObsWindow} {c : Canceller} {x : PathSums} (hst : c.survState = 1) (hx : w.survey = some x) (hclean : x.clean = true)
    (hlow : belowFloor w.n x = true) : surveyed w c = { c with survBelow := c.survBelow + 1 } := by
  simp [surveyed, hx, hst, hclean, hlow]

theorem surveyed_of_span {w : ObsWindow} {c : Canceller} {x : PathSums} (hst : c.survState = 1) (hx : w.survey = some x) (hclean : x.clean = true)
    (hlow : belowFloor w.n x = false) : surveyed w c = spanned x c := by
  simp [surveyed, hx, hst, hclean, hlow]

theorem surveyed_raised (w : ObsWindow) (c : Canceller) : (surveyed w c).raised = c.raised := by rw [surveyed_eq]

theorem windowEnds_eq (s : State) (ch : Nat) (w : ObsWindow) (c : Canceller) : windowEnds s ch w c = { c with
    lastCr := (windowEnds s ch w c).lastCr, raised := (windowEnds s ch w c).raised, applyBy := (windowEnds s ch w c).applyBy } := by
  unfold windowEnds
  split <;> rfl

/-! ### The paths of a window -/

theorem measurePath_congr {s u : State} (hobjs : u.objs = s.objs) (htime : u.time = s.time) (ch n pe : Nat) (x : PathSums) :
    measurePath u ch n pe x = measurePath s ch n pe x := by
  have h : measurePath u ch n pe x = measurePath { s with objs := u.objs, time := u.time } ch n pe x := rfl
  rw [h, hobjs, htime]

theorem stepExponent_congr {s u : State} {ch : Nat} (hobjs : u.objs = s.objs) (hraised : (getChan u ch).canc.raised = (getChan s ch).canc.raised)
    (st : Nat) : stepExponent u ch st = stepExponent s ch st := by
  simp only [stepExponent, cancSet, hobjs, hraised]

/-- A path with its new model, formed on a window from the state `x.2` that it was measured in. -/
def withModel (s : State) (ch : Nat) (x : PathSums × Nat) (y : CPath) : CPath :=
  let m := updateModel (stepExponent s ch x.2) x.1 y
  { y with newModel := some m.1, clipped := decide (0 < m.2), reverted := false }

theorem getPath_formModel (s : State) (ch : Nat) (x : PathSums × Nat) (p : Nat) :
    getPath (formModel ch s x) ch p = if p = x.1.path then withModel s ch x (getPath s ch p) else getPath s ch p := by
  refine (getPath_modCanc (f := fun c => { c with clips := sat32 (c.clips + _) }) _ ch p fun _ => rfl).trans ?_
  rw [getPath_modPath_at]
  split
  · next h => subst h; rfl
  · rfl

section

variable {s : State} {ch : Nat} {w : ObsWindow}

theorem measurable_sublist : (measurable s ch w.n w).Sublist w.paths := List.filter_sublist

theorem mem_modelsDue {x : PathSums × Nat} :
    x ∈ modelsDue s ch w ↔
      x.1 ∈ measurable s ch w.n w ∧ x.2 = (getPath (markLow s ch w) ch x.1.path).st ∧ frozen s ch x.1.path = false := by
  obtain ⟨x, st⟩ := x
  simp only [modelsDue, List.mem_filter, List.mem_map, Prod.mk.injEq, Bool.not_eq_true']
  constructor
  · rintro ⟨⟨y, hy, rfl, rfl⟩, hfrozen⟩; exact ⟨hy, rfl, hfrozen⟩
  · rintro ⟨hx, rfl, hfrozen⟩; exact ⟨⟨x, hx, rfl, rfl⟩, hfrozen⟩

/-- A path that is not measured is held. -/
theorem getPath_windowMeasured (p : Nat) : getPath (windowMeasured s ch w) ch p =
    if p < 8 ∧ p ∉ (measurable s ch w.n w).map (·.path) then heldPath (getPath (measureAll s ch w) ch p)
    else getPath (measureAll s ch w) ch p := by
  have h := getPath_unmeasured (measureAll s ch w) ch
    (ps := (List.range 8).filter fun p => !(measurable s ch w.n w).any (·.path == p)) (List.nodup_range.filter _) p
  have hfigures : getPath (windowMeasured s ch w) ch p =
      getPath (unmeasured (measureAll s ch w) ch ((List.range 8).filter fun p => !(measurable s ch w.n w).any (·.path == p))) ch p := by
    unfold windowMeasured
    split
    · rfl
    · exact getPath_modCanc _ ch p fun _ => rfl
  rw [hfigures, h]
  congr 1
  simp

variable (hw : (w.paths.map (·.path)).Nodup)
include hw

/-- Only a path that the window finds below the floor is flagged. -/
theorem getPath_markLow {p : Nat} (h : ∀ x ∈ w.paths, x.path = p → belowFloor w.n x = false) :
    getPath (markLow s ch w) ch p = getPath s ch p := by
  refine (getPath_forEach (I := fun _ => True) (F := fun _ y => { y with belowFloor := true }) (fun _ _ _ => trivial)
    (fun u x q _ => getPath_modPath_at u ch x.path q _) (hw.sublist (List.filter_sublist.map _)) trivial).2 p fun hmem => ?_
  obtain ⟨x, hx, hpath⟩ := List.mem_map.1 hmem
  obtain ⟨hx, hlow⟩ := List.mem_filter.1 hx
  simp [h x hx hpath] at hlow

theorem getPath_markLow_measurable {x : PathSums} (hx : x ∈ measurable s ch w.n w) :
    getPath (markLow s ch w) ch x.path = getPath s ch x.path := by
  obtain ⟨hmem, hclean⟩ := List.mem_filter.1 hx
  refine getPath_markLow hw fun y hy hpath => ?_
  rw [List.inj_on_of_nodup_map hw hy hmem hpath]
  simp_all

theorem getPath_measureAll :
    (∀ x ∈ measurable s ch w.n w, getPath (measureAll s ch w) ch x.path = measurePath s ch w.n w.pe x (getPath (markLow s ch w) ch x.path)) ∧
    (∀ p, p ∉ (measurable s ch w.n w).map (·.path) → getPath (measureAll s ch w) ch p = getPath (markLow s ch w) ch p) := by
  refine getPath_forEach (I := fun u => CancBecomes s u ch (getChan s ch).canc) (F := measurePath s ch w.n w.pe)
    (fun u x hu => hu.modPath x.path _) (fun u x p hu => ?_) (hw.sublist (measurable_sublist.map _)) (markLow_becomes s ch w)
  rw [getPath_modPath_at, measurePath_congr hu.objs hu.time]

variable (hlast : (getChan s ch).canc.lastCr = none)
include hlast

/-- The new models are all that follows the measurements. -/
theorem getPath_runWindow :
    (∀ x ∈ modelsDue s ch w, getPath (runWindow s ch w) ch x.1.path = withModel s ch x (getPath (windowMeasured s ch w) ch x.1.path)) ∧
    (∀ p, p ∉ (modelsDue s ch w).map (·.1.path) → getPath (runWindow s ch w) ch p = getPath (windowMeasured s ch w) ch p) := by
  have hdue : ((modelsDue s ch w).map (·.1.path)).Sublist ((measurable s ch w.n w).map (·.path)) := by
    have h : (modelsDue s ch w).Sublist _ := List.filter_sublist
    simpa [Function.comp_def] using h.map (·.1.path)
  have hend (p : Nat) : getPath (runWindow s ch w) ch p =
      getPath (forEach (modelsDue s ch w) (windowSurveyed s ch w) (formModel ch)) ch p := by
    rw [runWindow_of_no_residual hlast]
    exact getPath_modCanc _ ch p fun c => by rw [windowEnds_eq]
  simp only [hend, ← getPath_surveySpan (windowMeasured s ch w) ch w]
  refine getPath_forEach (I := fun u => CancBecomes s u ch (surveyed w (getChan s ch).canc)) (F := withModel s ch)
    (fun u x hu => formModel_becomes hu x) (fun u x p hu => ?_) (hw.sublist (hdue.trans (measurable_sublist.map _)))
    (windowSurveyed_becomes s ch w)
  have hraised := (hu.reads Canceller.raised fun _ => rfl).trans (surveyed_raised w _)
  rw [getPath_formModel, withModel, stepExponent_congr hu.objs hraised]
  rfl

/-- A measured path that is not frozen gets its new model (R164, R171). -/
theorem getPath_runWindow_measured {x : PathSums} (hx : x ∈ measurable s ch w.n w) :
    let y := measurePath s ch w.n w.pe x (getPath s ch x.path)
    getPath (runWindow s ch w) ch x.path = if frozen s ch x.path = true then y else withModel s ch (x, (getPath s ch x.path).st) y := by
  intro y
  have hmark := getPath_markLow_measurable hw hx
  have hmeasured : getPath (windowMeasured s ch w) ch x.path = y := by
    have hmem : x.path ∈ (measurable s ch w.n w).map (·.path) := List.mem_map_of_mem hx
    rw [getPath_windowMeasured, if_neg fun h => h.2 hmem, (getPath_measureAll hw).1 x hx, hmark]
  obtain ⟨hdue, hrest⟩ := getPath_runWindow hw hlast
  split
  · next hfrozen =>
    refine (hrest x.path fun hmem => ?_).trans hmeasured
    obtain ⟨z, hz, hpath⟩ := List.mem_map.1 hmem
    have hfree := (mem_modelsDue.1 hz).2.2
    rw [hpath, hfrozen] at hfree
    cases hfree
  · next hfree =>
    rw [← hmeasured]
    exact hdue (x, (getPath s ch x.path).st) (mem_modelsDue.2 ⟨hx, by rw [hmark], by simpa using hfree⟩)

/-- A path that the window does not hold is not measured. -/
theorem getPath_runWindow_held {p : Nat} (hp : p < 8) (hnot : ∀ x ∈ w.paths, x.path ≠ p) :
    getPath (runWindow s ch w) ch p = heldPath (getPath s ch p) := by
  have hmeasurable : p ∉ (measurable s ch w.n w).map (·.path) := fun h => by
    obtain ⟨x, hx, hpath⟩ := List.mem_map.1 h
    exact hnot x (measurable_sublist.mem hx) hpath
  have hdue : p ∉ (modelsDue s ch w).map (·.1.path) := fun h => by
    obtain ⟨x, hx, hpath⟩ := List.mem_map.1 h
    exact hnot x.1 (measurable_sublist.mem (mem_modelsDue.1 hx).1) hpath
  rw [(getPath_runWindow hw hlast).2 p hdue, getPath_windowMeasured, if_pos ⟨hp, hmeasurable⟩, (getPath_measureAll hw).2 p hmeasurable,
    getPath_markLow hw fun x hx hpath => absurd hpath (hnot x hx)]

end

/-! ### Periods of the engine (R164, R170, R387) -/

/-- The canceller of a channel whose window is worked. -/
def working (c : Canceller) : Canceller := { c with win := none, cand := none, worked := true, skip := 0 }

/-- The canceller with one more period counted that went without an update (R170). -/
def missed (c : Canceller) : Canceller := { c with noUpdate := inc32 c.noUpdate }

/-- The canceller at the end of a period. -/
def periodEnded (t : Nat) (skips : Bool) (c : Canceller) : Canceller :=
  { newPeriod t c with skip := if skips then c.skip + 1 else 0, noUpdate := if skips || c.worked then c.noUpdate else inc32 c.noUpdate }

theorem engineRuns_of {s : State} {ch : Nat} (hch : ch < 96) (hcore : coreRuns s = true) (hpowered : (getRod s (ch / 16)).powered = true)
    (hrestart : (getRod s (ch / 16)).restarting = false) (hon : cancOn s.objs ch = true) : engineRuns s ch = true := by
  simp [engineRuns, *]

/-- A period that throttling does not skip has its first clean window worked once it is full. -/
theorem execCancellerUpdatePeriod_works {s : State} {ch : Nat} {w : ObsWindow} (hruns : engineRuns s ch = true)
    (hskips : decide ((getChan s ch).canc.skip + 1 < throttleDivisor s) = false) (hcand : (getChan s ch).canc.cand = some w) (bad : Option Nat) :
    exec (.cancellerUpdatePeriod ch bad) s = .next (workPeriod s ch bad w) := by
  show execCancellerUpdatePeriod ch bad s = _
  simp only [execCancellerUpdatePeriod, hruns, hskips, hcand]
  rfl

/-- Without a window to work a period goes on to its end. -/
theorem execCancellerUpdatePeriod_waits {s : State} {ch : Nat} {skips : Bool} (hruns : engineRuns s ch = true)
    (hskips : decide ((getChan s ch).canc.skip + 1 < throttleDivisor s) = skips) (hnone : skips = true ∨ (getChan s ch).canc.cand = none)
    (bad : Option Nat) :
    exec (.cancellerUpdatePeriod ch bad) s = .next (if periodOver s ch then endPeriod s ch skips else s) := by
  show execCancellerUpdatePeriod ch bad s = _
  have hcand : (if skips = true then none else (getChan s ch).canc.cand) = none := by
    rcases hnone with h | h <;> simp [h]
  simp only [execCancellerUpdatePeriod, hruns, hskips, hcand]
  rfl

theorem workPeriod_keeps_rest (s : State) (ch : Nat) (bad : Option Nat) (w : ObsWindow) :
    workPeriod s ch bad w = { s with
      chans := (workPeriod s ch bad w).chans, flt := (workPeriod s ch bad w).flt, tally := (workPeriod s ch bad w).tally } := by
  apply state_ext <;> simp

theorem getPath_working (s : State) (ch p : Nat) : getPath (modCanc s ch working) ch p = getPath s ch p := getPath_modCanc s ch p fun _ => rfl

theorem working_becomes (s : State) (ch : Nat) : CancBecomes s (modCanc s ch working) ch (working (getChan s ch).canc) :=
  (CancBecomes.refl s ch).modCanc working fun _ => rfl

/-- Between two states a window of channel `ch` was worked in its period. -/
structure PeriodWorked (s t : State) (ch : Nat) : Prop where
  win : (getChan t ch).canc.win = none
  cand : (getChan t ch).canc.cand = none
  worked : (getChan t ch).canc.worked = true
  skip : (getChan t ch).canc.skip = 0
  periodAt : (getChan t ch).canc.periodAt = (getChan s ch).canc.periodAt
  others : ∀ k, k ≠ ch → getChan t k = getChan s k

/-- A window is worked where, of the part of the canceller that tells of the period, all stays that beginning the work left. -/
theorem CancBecomes.periodWorked {s t : State} {ch : Nat} {d : Canceller} (h : CancBecomes s t ch d)
    (hd : d = { working (getChan s ch).canc with
      noUpdate := d.noUpdate, lastCr := d.lastCr, raised := d.raised, applyBy := d.applyBy,
      survBelow := d.survBelow, survProgress := d.survProgress, survBest := d.survBest, survAt := d.survAt }) : PeriodWorked s t ch where
  win := by rw [h.reads Canceller.win fun _ => rfl, hd]; rfl
  cand := by rw [h.reads Canceller.cand fun _ => rfl, hd]; rfl
  worked := by rw [h.reads Canceller.worked fun _ => rfl, hd]; rfl
  skip := by rw [h.reads Canceller.skip fun _ => rfl, hd]; rfl
  periodAt := by rw [h.reads Canceller.periodAt fun _ => rfl, hd]; rfl
  others := h.others

/-! #### A word of the window with bad parity -/

theorem workPeriod_bad_becomes (s : State) (ch offset : Nat) (w : ObsWindow) :
    CancBecomes s (workPeriod s ch (some offset) w) ch (missed (working (getChan s ch).canc)) := by
  have hparity : CancBecomes s (parityWord s 12 (some offset)) ch (getChan s ch).canc := .of_chans (by simp) (by simp) (by simp)
  exact ((hparity.modCanc working fun _ => rfl).modCanc missed fun _ => rfl).unmeasured _

theorem getPath_workPeriod_bad (s : State) (ch offset : Nat) (w : ObsWindow) {p : Nat} (hp : p < 8) :
    getPath (workPeriod s ch (some offset) w) ch p = heldPath (getPath s ch p) := by
  have hstart : getPath (modCanc (modCanc (parityWord s 12 (some offset)) ch working) ch missed) ch p = getPath s ch p := by
    rw [getPath_modCanc (f := missed) _ ch p fun _ => rfl, getPath_working, getPath_of_chans (s := s) (by simp)]
  refine (getPath_unmeasured _ ch List.nodup_range p).trans ?_
  rw [if_pos (List.mem_range.2 hp)]
  exact congrArg heldPath hstart

/-! #### A window with none before it to be compared with -/

theorem measurable_working (s : State) (ch : Nat) (w : ObsWindow) : measurable (modCanc s ch working) ch w.n w = measurable s ch w.n w := by
  simp only [measurable, getPath_working, modCanc_objs]

section

variable {s : State} {ch : Nat} {w : ObsWindow} (hlast : (getChan s ch).canc.lastCr = none)
include hlast

theorem lastCr_working : (getChan (modCanc s ch working) ch).canc.lastCr = none := by rw [getChan_modCanc]; exact hlast

theorem workPeriod_becomes : CancBecomes s (workPeriod s ch none w) ch
    (windowEnds (modCanc s ch working) ch w (surveyed w (working (getChan s ch).canc))) := by
  have h := runWindow_becomes (lastCr_working hlast) w
  rw [getChan_modCanc] at h
  exact (working_becomes s ch).trans h

theorem workPeriod_worked : PeriodWorked s (workPeriod s ch none w) ch :=
  (workPeriod_becomes hlast).periodWorked (by rw [windowEnds_eq, surveyed_eq])

/-- What a worked window changes of the canceller that neither its models nor its survey decide. -/
theorem workPeriod_reads {α : Type} (read : Canceller → α) (hread : ∀ c, read c.bare = read c)
    (hmodels : ∀ c x y z, read { c with lastCr := x, raised := y, applyBy := z } = read c) :
    read (getChan (workPeriod s ch none w) ch).canc = read (surveyed w (working (getChan s ch).canc)) := by
  rw [(workPeriod_becomes hlast).reads read hread, windowEnds_eq, hmodels]

/-- A clean span whose reference is below the floor is counted (R163). -/
theorem workPeriod_survey_low {x : PathSums} (hst : (getChan s ch).canc.survState = 1) (hx : w.survey = some x) (hclean : x.clean = true)
    (hlow : belowFloor w.n x = true) :
    (getChan (workPeriod s ch none w) ch).canc.survBelow = (getChan s ch).canc.survBelow + 1 := by
  rw [workPeriod_reads hlast Canceller.survBelow (fun _ => rfl) fun _ _ _ _ => rfl,
    surveyed_of_low (c := working (getChan s ch).canc) hst hx hclean hlow]
  rfl

/-- A clean span whose reference is at or above the floor takes the survey on. -/
theorem workPeriod_survey_span {x : PathSums} (hst : (getChan s ch).canc.survState = 1) (hx : w.survey = some x) (hclean : x.clean = true)
    (hlow : belowFloor w.n x = false) :
    (getChan (workPeriod s ch none w) ch).canc.survBelow = 0 ∧
    (getChan (workPeriod s ch none w) ch).canc.survProgress = min 128 ((getChan s ch).canc.survProgress + 1) := by
  have hspan := surveyed_of_span (c := working (getChan s ch).canc) hst hx hclean hlow
  rw [workPeriod_reads hlast Canceller.survBelow (fun _ => rfl) fun _ _ _ _ => rfl,
    workPeriod_reads hlast Canceller.survProgress (fun _ => rfl) fun _ _ _ _ => rfl, hspan]
  exact ⟨rfl, rfl⟩

variable (hw : (w.paths.map (·.path)).Nodup)
include hw

theorem getPath_workPeriod_frozen {x : PathSums} (hx : x ∈ measurable s ch w.n w) (hfrozen : frozen s ch x.path = true) :
    getPath (workPeriod s ch none w) ch x.path = measurePath s ch w.n w.pe x (getPath s ch x.path) := by
  have hx' : x ∈ measurable (modCanc s ch working) ch w.n w := by rwa [measurable_working]
  refine (getPath_runWindow_measured hw (lastCr_working hlast) hx').trans ?_
  rw [if_pos (by exact hfrozen), getPath_working, measurePath_congr (modCanc_objs s ch working) (modCanc_time s ch working)]

/-- A measured path that is not frozen gets its new model, due within 0.25 ms of the window's end (R165). -/
theorem workPeriod_forms_model {x : PathSums} (hx : x ∈ measurable s ch w.n w) (hfree : frozen s ch x.path = false) :
    getPath (workPeriod s ch none w) ch x.path =
      withModel s ch (x, (getPath s ch x.path).st) (measurePath s ch w.n w.pe x (getPath s ch x.path)) ∧
    (getChan (workPeriod s ch none w) ch).canc.applyBy = w.last + applyLimit := by
  let u := modCanc s ch working
  have hx' : x ∈ measurable u ch w.n w := by rwa [measurable_working]
  have hfree' : frozen u ch x.path = false := hfree
  constructor
  · have hexp := stepExponent_congr (s := s) (u := u) (ch := ch) rfl (by rw [getChan_modCanc]; rfl)
    refine (getPath_runWindow_measured hw (lastCr_working hlast) hx').trans ?_
    rw [if_neg (by simp [u, hfree']), getPath_working, measurePath_congr (modCanc_objs s ch working) (modCanc_time s ch working)]
    simp only [withModel, u, hexp]
  · have hdue : ¬ (modelsDue u ch w).isEmpty = true := by
      have hmem := mem_modelsDue (x := (x, (getPath (markLow u ch w) ch x.path).st)).2 ⟨hx', rfl, hfree'⟩
      simpa using List.ne_nil_of_mem hmem
    rw [(workPeriod_becomes hlast).reads Canceller.applyBy fun _ => rfl, windowEnds, if_neg hdue]

theorem getPath_workPeriod_held {p : Nat} (hp : p < 8) (hnot : ∀ x ∈ w.paths, x.path ≠ p) :
    getPath (workPeriod s ch none w) ch p = heldPath (getPath s ch p) :=
  (getPath_runWindow_held hw (lastCr_working hlast) hp hnot).trans (congrArg heldPath (getPath_working s ch p))

end

/-! #### A period that ends without a window -/

theorem getPath_newPeriod (s : State) (ch t p : Nat) {f : Canceller → Canceller} (hf : ∀ c, (f c).paths = (newPeriod t c).paths) :
    getPath (modCanc s ch f) ch p = { getPath s ch p with skipOnce := false } := by
  have hfold (ks : List Nat) (m : SMap CPath) :
      smGet {} (ks.foldl (fun m p => smMod {} m p fun x => { x with skipOnce := false }) m) p =
        if p ∈ ks then { smGet {} m p with skipOnce := false } else smGet {} m p := by
    induction ks generalizing m with
    | nil => rfl
    | cons k ks ih =>
      rw [List.foldl_cons, ih, smGet_smMod]
      by_cases hk : p = k
      · subst hk; simp
      · simp [hk]
  rw [getPath, getChan_modCanc]
  show smGet {} (f _).paths p = _
  rw [hf]
  refine (hfold _ _).trans ?_
  split
  · rfl
  · next h => rw [getPath, smGet_of_not_mem _ h]

theorem endPeriod_eq (s : State) (ch : Nat) (skips : Bool) : endPeriod s ch skips =
    if (getChan s ch).canc.worked then modCanc s ch (periodEnded s.time skips)
    else unmeasured (modCanc s ch (periodEnded s.time skips)) ch (List.range 8) := rfl

theorem endPeriod_becomes (s : State) (ch : Nat) (skips : Bool) :
    CancBecomes s (endPeriod s ch skips) ch (periodEnded s.time skips (getChan s ch).canc) := by
  have h := (CancBecomes.refl s ch).modCanc (periodEnded s.time skips) fun _ => rfl
  rw [endPeriod_eq]
  split
  · exact h
  · exact h.unmeasured _

theorem getPath_endPeriod (s : State) (ch : Nat) (skips : Bool) {p : Nat} (hp : p < 8) :
    getPath (endPeriod s ch skips) ch p =
      { (if (getChan s ch).canc.worked then getPath s ch p else heldPath (getPath s ch p)) with skipOnce := false } := by
  have h : getPath (modCanc s ch (periodEnded s.time skips)) ch p = { getPath s ch p with skipOnce := false } :=
    getPath_newPeriod s ch s.time p fun _ => rfl
  rw [endPeriod_eq]
  cases hworked : (getChan s ch).canc.worked
  · refine (getPath_unmeasured _ ch List.nodup_range p).trans ?_
    rw [if_pos (List.mem_range.2 hp)]
    exact congrArg heldPath h
  · exact h

theorem endPeriod_keeps_rest (s : State) (ch : Nat) (skips : Bool) : endPeriod s ch skips = { s with chans := (endPeriod s ch skips).chans } := by
  rw [endPeriod_eq]
  apply state_ext <;> split <;> simp

/-! ### New models in force (R165) -/

/-- A path whose new model, if it has one, comes into force. -/
def appliedPath (x : CPath) : CPath :=
  match x.newModel with
  | some m => { x with oldModel := some (x.taps, x.e), oldLost := false, taps := m.1, e := m.2, newModel := none }
  | none => { x with oldModel := none, oldLost := false }

theorem appliedPath_of_some {x : CPath} {m : List (Int × Int) × Nat} (h : x.newModel = some m) :
    appliedPath x = { x with taps := m.1, e := m.2, newModel := none, oldLost := false, oldModel := some (x.taps, x.e) } := by
  rw [appliedPath, h]

theorem appliedPath_of_none {x : CPath} (h : x.newModel = none) : appliedPath x = { x with oldModel := none, oldLost := false } := by
  unfold appliedPath
  split
  · next h' => rw [h] at h'; cases h'
  · rfl

/-- The canceller once new models are in force: a window that was filling begins anew (log 22). -/
def modelsApplied (c : Canceller) : Canceller :=
  { c with updates := inc32 c.updates, history := (false :: c.history).take 64, win := none }

theorem applyModels_eq (s : State) (ch : Nat) :
    applyModels s ch = modCanc (forEach (List.range 8) s fun s p => modPath s ch p appliedPath) ch modelsApplied := rfl

theorem applyModels_becomes (s : State) (ch : Nat) : CancBecomes s (applyModels s ch) ch (modelsApplied (getChan s ch).canc) := by
  rw [applyModels_eq]
  exact ((CancBecomes.refl s ch).forEach (List.range 8) fun _ p hu => hu.modPath p appliedPath).modCanc modelsApplied fun _ => rfl

theorem getPath_applyModels (s : State) (ch : Nat) {p : Nat} (hp : p < 8) : getPath (applyModels s ch) ch p = appliedPath (getPath s ch p) := by
  rw [applyModels_eq, getPath_modCanc (f := modelsApplied) _ ch p fun _ => rfl]
  exact (getPath_forEach (I := fun _ => True) (k := id) (F := fun _ => appliedPath) (fun _ _ _ => trivial)
    (fun u x q _ => getPath_modPath_at u ch x q appliedPath) (by simpa using List.nodup_range) trivial).1 p (List.mem_range.2 hp)

theorem execCancellerModelApply_applies {s : State} {ch : Nat} (hcore : coreRuns s = true) (h : ∃ p, p < 8 ∧ (getPath s ch p).newModel ≠ none) :
    exec (.cancellerModelApply ch) s = .next (applyModels s ch) := by
  have hwaits : modelWaits s ch = true := by
    obtain ⟨p, hp, hmodel⟩ := h
    exact List.any_eq_true.2 ⟨p, List.mem_range.2 hp, Option.isSome_iff_ne_none.2 hmodel⟩
  show execCancellerModelApply ch s = _
  simp only [execCancellerModelApply, hcore, hwaits]
  rfl

theorem applyModels_keeps_rest (s : State) (ch : Nat) : applyModels s ch = { s with chans := (applyModels s ch).chans } := by
  apply state_ext <;> simp

/-! ### Path states and surveys (R163, R174, R175) -/

theorem pathRecord_chans (s : State) (ch n p : Nat) (depth : Int) : (pathRecord s ch n p depth).chans = s.chans := by simp

theorem getPath_pathRecord (s : State) (ch n p q : Nat) (depth : Int) : getPath (pathRecord s ch n p depth) ch q = getPath s ch q :=
  getPath_of_chans (pathRecord_chans s ch n p depth) ch q

/-- A path fault's line is active at once. -/
theorem eventActive_pathFault (s : State) (ch n p : Nat) (depth : Int) : eventActive (pathFault s ch n p depth) (2 * ch + 1) = true := by
  simp [eventActive, pathFault, faultEvent, msUnits]

theorem execTrainingTimeout_tracks {s : State} {ch p : Nat} (hst : (getPath s ch p).st = 2)
    (hlong : (getPath s ch p).trainSince + 200 * 32000000 ≤ s.time) :
    exec (.trainingTimeout ch p) s = .next (
      let u := modPath s ch p fun x => { x with st := 3, okRun := 0 }
      if (getPath s ch p).depth < (cancSet s ch 8 : Int) then pathFault u ch 1 p (getPath s ch p).depth else u) := by
  have h : (getPath s ch p).st = 2 ∧ elapsedMs s (getPath s ch p).trainSince 200 = true := ⟨hst, decide_eq_true hlong⟩
  exact if_pos h

theorem trainingTimeout_ends {s : State} {ch p : Nat} (hst : (getPath s ch p).st = 2)
    (hlong : (getPath s ch p).trainSince + 200 * 32000000 ≤ s.time) :
    ∃ t, exec (.trainingTimeout ch p) s = .next t ∧ getPath t ch p = { getPath s ch p with st := 3, okRun := 0 } ∧
      ((getPath s ch p).depth < (cfgNat s.objs (0x4000 + 16 * ch) 8 : Int) → eventActive t (2 * ch + 1) = true) ∧
      (∀ q, q ≠ p → getPath t ch q = getPath s ch q) ∧ t = { s with chans := t.chans, flt := t.flt, tally := t.tally } := by
  let u := modPath s ch p fun x => { x with st := 3, okRun := 0 }
  let t := if (getPath s ch p).depth < (cancSet s ch 8 : Int) then pathFault u ch 1 p (getPath s ch p).depth else u
  have hchans : t.chans = u.chans := by simp only [t]; split <;> simp
  refine ⟨t, execTrainingTimeout_tracks hst hlong, ?_, fun hshort => ?_, fun q hq => ?_, ?_⟩
  · rw [getPath_of_chans hchans, getPath_modPath]
  · exact (congrArg (eventActive · (2 * ch + 1)) (if_pos hshort)).trans (eventActive_pathFault ..)
  · rw [getPath_of_chans hchans, getPath_modPath_at, if_neg hq]
  · simp only [t]
    apply state_ext <;> split <;> simp [u]

theorem execPathStale_stales {s : State} {ch p : Nat} (hst : (getPath s ch p).st = 4)
    (hold : (getPath s ch p).lastMeas + cfgNat s.objs (0x4000 + 16 * ch) 7 * 32000000 < s.time) :
    exec (.pathStale ch p) s = .next (pathRecord (modPath s ch p fun x => { x with st := 5, depth := 0 }) ch 3 p 0) :=
  if_pos ⟨hst, hold⟩

/-- The canceller with its survey at an end that reports nothing. -/
def surveyEnded (st : Nat) (c : Canceller) : Canceller := { c with survState := st }

/-- The canceller with its survey complete: the strongest coupling found is reported. -/
def surveyReported (c : Canceller) : Canceller :=
  { c with survState := 2, survDelay := c.survAt, survGain := clip16 (dbOf c.survBest.1 c.survBest.2) }

theorem execSurveyComplete_reports {s : State} {ch : Nat} (hst : (getChan s ch).canc.survState = 1) (hspan : (getChan s ch).canc.survProgress = 128) :
    ∃ depth, exec (.surveyComplete ch none none) s = .next (pathRecord (modCanc s ch surveyReported) ch 4 0xFF depth) :=
  ⟨_, if_pos ⟨hst, hspan⟩⟩

/-- With a result word of bad parity the two figures stay. -/
theorem execSurveyComplete_bad {s : State} {ch : Nat} (hst : (getChan s ch).canc.survState = 1) (hspan : (getChan s ch).canc.survProgress = 128)
    {a b : Option Nat} (hbad : a ≠ none ∨ b ≠ none) :
    ∃ depth, exec (.surveyComplete ch a b) s =
      .next (pathRecord (modCanc (parityWord (parityWord s 12 a) 12 b) ch (surveyEnded 2)) ch 4 0xFF depth) := by
  have hword : (a.isSome || b.isSome) = true := by simpa [Option.isSome_iff_ne_none] using hbad
  have hexec : exec (.surveyComplete ch a b) s = _ := if_pos ⟨hst, hspan⟩
  simp only [hword, if_true] at hexec
  exact ⟨_, hexec⟩

theorem execSurveyAbandon_abandons {s : State} {ch : Nat} (hst : (getChan s ch).canc.survState = 1) (hbelow : 128 ≤ (getChan s ch).canc.survBelow) :
    ∃ depth, exec (.surveyAbandon ch) s = .next (pathRecord (modCanc s ch (surveyEnded 3)) ch 4 0xFF depth) :=
  ⟨_, if_pos ⟨hst, hbelow⟩⟩

/-! ### Writes to the canceller -/

theorem ofBytes_beBytes (n v : Nat) : ofBytes (beBytes n v) = v % 256 ^ n := by
  have hfold (n acc : Nat) : (beBytes n v).foldl (fun a b => a * 256 + b.toNat) acc = acc * 256 ^ n + v % 256 ^ n := by
    induction n generalizing acc with
    | zero => simp [beBytes, Nat.mod_one]
    | succ n ih =>
      have hsplit : v % 256 ^ (n + 1) = v / 256 ^ n % 256 * 256 ^ n + v % 256 ^ n := by
        rw [pow_succ, Nat.mod_mul]; ring
      have hbyte : (BitVec.ofNat 8 (v >>> (8 * n))).toNat = v / 256 ^ n % 256 := by
        rw [BitVec.toNat_ofNat, Nat.shiftRight_eq_div_pow, pow_mul]; rfl
      rw [beBytes, List.foldl_cons, ih, hbyte, hsplit, pow_succ]
      ring
  simpa [ofBytes] using hfold n 0

theorem length_beBytes (n v : Nat) : (beBytes n v).length = n := by
  induction n with
  | zero => rfl
  | succ n ih => simp [beBytes, ih]

theorem cancellerIdx_parts {ch off : Nat} (hch : ch < 96) (hoff : off < 16) : (0x4000 + 16 * ch + off) / 4096 = 4 ∧
    (0x4000 + 16 * ch + off) % 16 = off ∧ (0x4000 + 16 * ch + off) % 4096 / 16 = ch := by omega

theorem dictIndex_canceller {ch off : Nat} (hch : ch < 96) (hoff : off < 16) : dictIndex (0x4000 + 16 * ch + off) = dictCanceller off := by
  obtain ⟨_, hmod, _⟩ := cancellerIdx_parts hch hoff
  simp (disch := omega) only [dictIndex, inRun, Bool.and_eq_true, decide_eq_true_eq, if_neg, if_pos, hmod]

/-- B+0x2 of the canceller: the freezes and resets of the paths (Table 7.6). -/
def dictPaths : Nat → Option Obj := rec 16 fun sub => if sub ≤ 8 then some (flag .rw false) else some (ranged .u8 .wo 0 1 1)

theorem dictCanceller_paths : dictCanceller 2 = some dictPaths := rfl

theorem dictPaths_freeze {p : Nat} (hp : p < 8) : dictPaths (p + 1) = some (flag .rw false) := by
  rw [dictPaths, rec, if_neg (by omega), if_pos (by omega), if_pos (by omega)]

theorem dictPaths_reset {p : Nat} (hp : p < 8) : dictPaths (p + 9) = some (ranged .u8 .wo 0 1 1) := by
  rw [dictPaths, rec, if_neg (by omega), if_pos (by omega), if_neg (by omega)]

theorem writeChannel_survey (s : State) {ch : Nat} (hch : ch < 96) (sub v : Nat) :
    writeChannel s (0x4000 + 16 * ch + 6) sub v = surveyWrite s ch v := by
  obtain ⟨hclass, hmod, hself⟩ := cancellerIdx_parts (off := 6) hch (by decide)
  simp only [writeChannel, hclass, hmod, hself]

theorem writeChannel_snapshot (s : State) {ch : Nat} (hch : ch < 96) (sub v : Nat) :
    writeChannel s (0x4000 + 16 * ch + 7) sub v = snapshotWrite s ch v := by
  obtain ⟨hclass, hmod, hself⟩ := cancellerIdx_parts (off := 7) hch (by decide)
  simp only [writeChannel, hclass, hmod, hself]

theorem writeChannel_freeze (s : State) {ch p : Nat} (hch : ch < 96) (hp : p < 8) (v : Nat) :
    writeChannel s (0x4000 + 16 * ch + 2) (p + 1) v =
      (0, freezeWrite { s with objs := cfgSet s.objs (key (canIdx ch 2) (p + 1)) v } ch p v) := by
  obtain ⟨hclass, hmod, hself⟩ := cancellerIdx_parts (off := 2) hch (by decide)
  have hcanon : canonIdx (0x4000 + 16 * ch + 2) = canIdx ch 2 := if_neg (by simp [inRun]; omega)
  simp only [writeChannel, hclass, hmod, hself, storeWrite, hcanon, Nat.add_sub_cancel]
  rw [if_pos (by omega)]

theorem writeChannel_modelReset (s : State) {ch : Nat} (hch : ch < 96) (p v : Nat) :
    writeChannel s (0x4000 + 16 * ch + 2) (p + 9) v = modelResetWrite s ch p v := by
  obtain ⟨hclass, hmod, hself⟩ := cancellerIdx_parts (off := 2) hch (by decide)
  simp only [writeChannel, hclass, hmod, hself, Nat.add_sub_cancel]
  rw [if_neg (by omega)]

/-- A write to an object of the canceller that its own rule takes, and which touches the objects and channels only, is carried out
and answered (Table 2.5). -/
theorem commandValue_canceller {s : State} {m ch off sub v : Nat} {f : Nat → Option Obj} {o : Obj} {w : State → State} (hm : mayWrite s m = true)
    (hch : ch < 96) (hoff : off < 16) (hf : dictCanceller off = some f) (hobj : f sub = some o) (hacc : o.acc = .rw ∨ o.acc = .wo)
    (hlen : lengthOk o o.typ.len = true) (hv : v < 256 ^ o.typ.len) (hok : o.ok (o.typ.toInt v) = true)
    (hwrite : ∀ u, LockNoted s u → writeChannel u (0x4000 + 16 * ch + off) sub v = (0, w u))
    (hframe : ∀ u, w u = { u with objs := (w u).objs, chans := (w u).chans }) : ∃ u t, LockNoted s u ∧
    commandValue s m (chanIdx 0x4000 ch off) sub v = t ∧ t.objs = (w u).objs ∧ t.chans = (w u).chans ∧
    answered t m (0x4000 + 16 * ch + off) sub 0 ∧
    t = { s with objs := t.objs, chans := t.chans, commit := t.commit, olp := t.olp, out := t.out } ∧ OnlyNotes s t := by
  let idx := 0x4000 + 16 * ch + off
  let u := touch s m idx
  have hu : LockNoted s u := ⟨_, touch_eq (by omega)⟩
  have hlookup : lookup idx sub = (0, some o) := by simp only [lookup, idx, dictIndex_canceller hch hoff, hf, hobj]
  obtain ⟨⟨⟨hsup, hm8⟩, _⟩, _⟩ : ((s.life.sup = true ∧ m < 8) ∧ s.nv.lifecycle ≠ 3) ∧ openPower s.life.power = true := by
    simpa only [mayWrite, Bool.and_eq_true, decide_eq_true_eq, bne_iff_ne] using hm
  have hmay : mayWrite u m = true := by simpa [mayWrite, u] using hm
  have hbytes : numberBytes o.typ.len v = beBytes o.typ.len v := if_pos hv
  have hval : ofBytes (beBytes o.typ.len v) = v := by rw [ofBytes_beBytes, Nat.mod_eq_of_lt hv]
  have htest : writeTest u m idx sub (beBytes o.typ.len v) = 0 :=
    writeTest_of_mayWrite hmay hlookup (by rwa [length_beBytes]) (by rcases hacc with h | h <;> simp [h, Acc.writes])
      (by rcases hacc with h | h <;> simp [h]) (by rwa [hval])
  have hown : ownWrite u m idx sub o (beBytes o.typ.len v) = (0, w u) := by
    rw [ownWrite, hval, if_neg (by rcases hacc with h | h <;> simp [h]), if_neg (by omega), if_neg (by omega), if_pos (by omega)]
    exact hwrite u hu
  have hexec : commandValue s m (chanIdx 0x4000 ch off) sub v = answer (noteChanges (w u)) m 2 idx sub 0 [] := by
    rw [commandValue, chanIdx, if_pos hch, hlookup]
    simp only [hbytes]
    rw [commandWrite_eq hsup hlookup htest (by omega), hown]
  have hans := answer_noteChanges_eq (w u) m idx sub 0
  refine ⟨u, _, hu, hexec, by simp, by simp, answered_answer hm8, ?_, ?_⟩
  · rw [hans, hframe]
    obtain ⟨at_, hu⟩ := hu
    rw [hu]
  · refine onlyNotes_of_olp (u := w u) ?_ (by simp)
    obtain ⟨at_, hu⟩ := hu
    rw [hframe, hu]

/-- A write that changes one channel's canceller. -/
theorem commandValue_modCanc {s : State} {m ch off sub v : Nat} {f : Nat → Option Obj} {o : Obj} {g : Canceller → Canceller}
    (hm : mayWrite s m = true) (hch : ch < 96) (hoff : off < 16) (hf : dictCanceller off = some f) (hobj : f sub = some o)
    (hacc : o.acc = .rw ∨ o.acc = .wo) (hlen : lengthOk o o.typ.len = true) (hv : v < 256 ^ o.typ.len) (hok : o.ok (o.typ.toInt v) = true)
    (hwrite : ∀ u, LockNoted s u → writeChannel u (0x4000 + 16 * ch + off) sub v = (0, modCanc u ch g)) : ∃ t,
    commandValue s m (chanIdx 0x4000 ch off) sub v = t ∧ (getChan t ch).canc = g (getChan s ch).canc ∧
    (∀ k, k ≠ ch → getChan t k = getChan s k) ∧ answered t m (0x4000 + 16 * ch + off) sub 0 ∧
    t = { s with chans := t.chans, commit := t.commit, olp := t.olp, out := t.out } ∧ OnlyNotes s t := by
  obtain ⟨u, t, ⟨at_, hu⟩, hexec, hobjs, hchans, hanswer, hframe, hnotes⟩ :=
    commandValue_canceller hm hch hoff hf hobj hacc hlen hv hok hwrite fun _ => rfl
  obtain ⟨hcanc, hothers⟩ := canc_of_chans (s := s) (by rw [hu]) hchans
  have hsame : t.objs = s.objs := by rw [hobjs, hu]; rfl
  rw [hsame] at hframe
  exact ⟨t, hexec, hcanc, hothers, hanswer, hframe, hnotes⟩

theorem cfgBool_cfgSet (cfg : SMap Nat) (idx sub v : Nat) : cfgBool (cfgSet cfg (key idx sub) v) idx sub = (v != 0) := by
  rw [cfgBool, cfgRaw, cfgSet, smGet_smSet_self]

/-- A path's freeze is stored in the objects (R171). -/
def freezeStored (ch p v : Nat) (u : State) : State := freezeWrite { u with objs := cfgSet u.objs (key (canIdx ch 2) (p + 1)) v } ch p v

theorem freezeStored_eq (ch p v : Nat) (u : State) :
    freezeStored ch p v u = { u with objs := (freezeStored ch p v u).objs, chans := (freezeStored ch p v u).chans } := by
  unfold freezeStored freezeWrite
  split <;> rfl

theorem freezeStored_objs (ch p v : Nat) (u : State) : (freezeStored ch p v u).objs = cfgSet u.objs (key (canIdx ch 2) (p + 1)) v := by
  unfold freezeStored freezeWrite
  split <;> rfl

/-- A freeze drops the path's model that is not yet applied. -/
theorem getPath_freezeStored (ch p v : Nat) (u : State) (q : Nat) : getPath (freezeStored ch p v u) ch q =
    if v = 1 ∧ q = p then { getPath u ch q with newModel := none } else getPath u ch q := by
  unfold freezeStored freezeWrite
  split
  · next h =>
    rw [getPath_modPath_at]
    simp only [h, true_and]
    rfl
  · next h => rw [if_neg fun h' => h h'.1]; rfl

theorem manualFreeze_ends {s : State} {m ch p v : Nat} (hm : mayWrite s m = true) (hch : ch < 96) (hp : p < 8) (hv : v < 2) :
    ∃ t, exec (.manualFreeze m ch p v) s = .next t ∧ frozen t ch p = decide (v = 1) ∧
      getPath t ch p = (if v = 1 then { getPath s ch p with newModel := none } else getPath s ch p) ∧
      (∀ q, q ≠ p → getPath t ch q = getPath s ch q) ∧ answered t m (0x4000 + 16 * ch + 2) (p + 1) 0 ∧
      t = { s with objs := t.objs, chans := t.chans, commit := t.commit, olp := t.olp, out := t.out } ∧ OnlyNotes s t := by
  have hsub : subOf 8 p 1 = p + 1 := by rw [subOf, if_pos hp, Nat.add_comm]
  obtain ⟨u, t, ⟨at_, hu⟩, hexec, hobjs, hchans, hanswer, hframe, hnotes⟩ :=
    commandValue_canceller (off := 2) (v := v) (w := freezeStored ch p v) hm hch (by decide) dictCanceller_paths (dictPaths_freeze hp) (.inl rfl) rfl
      (by simp [flag, ranged, Typ.len]; omega) (by simp [flag, ranged, Typ.toInt]; omega) (fun u _ => writeChannel_freeze u hch hp v)
      (freezeStored_eq ch p v)
  have hpath (q : Nat) : getPath t ch q = if v = 1 ∧ q = p then { getPath s ch q with newModel := none } else getPath s ch q := by
    have hsame : getPath u ch q = getPath s ch q := by rw [hu]; rfl
    rw [getPath_of_chans hchans, getPath_freezeStored, hsame]
  refine ⟨t, ?_, ?_, by rw [hpath]; simp, fun q hq => by rw [hpath, if_neg fun h => hq h.2], hanswer, hframe, hnotes⟩
  · rw [← hexec, ← hsub]; rfl
  · have hset : t.objs = cfgSet s.objs (key (canIdx ch 2) (p + 1)) v := by rw [hobjs, freezeStored_objs, hu]
    rw [frozen, hset, cfgBool_cfgSet]
    have : v = 0 ∨ v = 1 := by omega
    rcases this with rfl | rfl <;> rfl

/-- A reset zeroes a path's taps and lets it rest (Table 7.4). -/
theorem modelReset_ends {s : State} {m ch p : Nat} (hm : mayWrite s m = true) (hch : ch < 96) (hp : p < 8) :
    ∃ t, exec (.modelReset m ch p 1) s = .next t ∧ getPath t ch p = zeroModel s.objs ch p (getPath s ch p) ∧
      (∀ q, q ≠ p → getPath t ch q = getPath s ch q) ∧ answered t m (0x4000 + 16 * ch + 2) (p + 9) 0 ∧
      t = { s with chans := t.chans, commit := t.commit, olp := t.olp, out := t.out } ∧ OnlyNotes s t := by
  have hsub : subOf 8 p 9 = p + 9 := by rw [subOf, if_pos hp, Nat.add_comm]
  obtain ⟨t, hexec, hcanc, _, hanswer, hframe, hnotes⟩ :=
    commandValue_modCanc (off := 2) (v := 1) (g := fun c => { c with paths := smMod {} c.paths p (zeroModel s.objs ch p) }) hm hch (by decide)
      dictCanceller_paths (dictPaths_reset hp) (.inr rfl) rfl (by decide) rfl fun u ⟨at_, hu⟩ => by
        have hobjs : u.objs = s.objs := by rw [hu]
        rw [writeChannel_modelReset u hch, modelResetWrite, if_pos rfl, hobjs]
        rfl
  have hpath (q : Nat) : getPath t ch q = if q = p then zeroModel s.objs ch p (getPath s ch p) else getPath s ch q := by
    rw [getPath, hcanc]
    exact smGet_smMod ..
  exact ⟨t, by rw [← hexec, ← hsub]; rfl, by rw [hpath, if_pos rfl], fun q hq => by rw [hpath, if_neg hq], hanswer, hframe, hnotes⟩

/-- The canceller with a survey begun at the reference `v` (R163). -/
def surveyBegun (v : Nat) (c : Canceller) : Canceller :=
  { spoilSurvey c with survRef := v, survState := 1, survProgress := 0, survBelow := 0, survBest := (0, 0), survAt := 0 }

/-- The canceller with its survey stopped. -/
def surveyStopped (c : Canceller) : Canceller := { c with survRef := 0xFFFF, survState := if c.survState = 1 then 0 else c.survState }

theorem survey_spoiled {o : Option ObsWindow} {w : ObsWindow} (h : o.map (spoilPaths (fun _ => false) true) = some w) {x : PathSums}
    (hx : w.survey = some x) : x.clean = false := by
  obtain ⟨w', _, rfl⟩ := Option.map_eq_some_iff.1 h
  obtain ⟨x', _, rfl⟩ := Option.map_eq_some_iff.1 hx
  rfl

/-- A write of the survey's reference changes the channel's canceller. -/
theorem surveyWrite_ends {s : State} {m ch v : Nat} {g : Canceller → Canceller} (hm : mayWrite s m = true) (hch : ch < 96) (hv : v < 65536)
    (hwrite : ∀ u, surveyWrite u ch v = (0, modCanc u ch g)) : ∃ t,
    commandValue s m (chanIdx 0x4000 ch 6) 1 v = t ∧ (getChan t ch).canc = g (getChan s ch).canc ∧
    (∀ k, k ≠ ch → getChan t k = getChan s k) ∧ answered t m (0x4000 + 16 * ch + 6) 1 0 ∧
    t = { s with chans := t.chans, commit := t.commit, olp := t.olp, out := t.out } ∧ OnlyNotes s t :=
  commandValue_modCanc (off := 6) hm hch (by decide) rfl (o := plain .u16 .rw 0xFFFF) rfl (.inl rfl) rfl hv rfl
    fun u _ => (writeChannel_survey u hch 1 v).trans (hwrite u)

/-- So does a write of the path to latch (R180). -/
theorem snapshotWrite_ends {s : State} {m ch v : Nat} {g : Canceller → Canceller} (hm : mayWrite s m = true) (hch : ch < 96)
    (hv : v < 8 ∨ v = 0xFF) (hwrite : ∀ u, LockNoted s u → snapshotWrite u ch v = (0, modCanc u ch g)) : ∃ t,
    exec (.modelSnapshot m ch v) s = .next t ∧ (getChan t ch).canc = g (getChan s ch).canc ∧ answered t m (0x4000 + 16 * ch + 7) 1 0 ∧
    t = { s with chans := t.chans, commit := t.commit, olp := t.olp, out := t.out } ∧ OnlyNotes s t := by
  obtain ⟨t, hexec, hcanc, _, hend⟩ := commandValue_modCanc (off := 7) (sub := 1) hm hch (by decide) rfl rfl (.inl rfl) rfl
    (show v < 256 ^ 1 by omega) (by simp [tested, Typ.toInt]; omega) fun u hu => (writeChannel_snapshot u hch 1 v).trans (hwrite u hu)
  exact ⟨t, congrArg Host.Outcome.next hexec, hcanc, hend⟩

/-! ### The obligation of chapter 7 -/

/-- Settles O56: a window is worked path by path, and every other row changes one path or the survey and snapshot of one channel. -/
theorem canceller : Obligations.Canceller := by
  constructor
  · intro s ch hch c
    refine ⟨?_, fun hcore hmodels => ?_, fun p => trainingTimeout_ends, fun p hst hlong => ?_⟩
    · -- CANCELLER_UPDATE_PERIOD
      intro hcore hpowered hrestart hon bad skips hold
      have hruns : engineRuns s ch = true := engineRuns_of hch hcore hpowered hrestart hon
      refine ⟨?_, fun hnone => ⟨fun hover => ?_, fun hwait => ?_⟩⟩
      · intro hskips w hcand worked
        have hexec := execCancellerUpdatePeriod_works hruns hskips hcand bad
        have hworked (h : PeriodWorked s (workPeriod s ch bad w) ch) : worked (workPeriod s ch bad w) :=
          ⟨h.win, h.cand, h.worked, h.skip, h.periodAt, h.others, workPeriod_keeps_rest s ch bad w⟩
        refine ⟨fun hbad => ?_, fun hbad hlast hnodup => ?_⟩
        · obtain ⟨offset, rfl⟩ := Option.ne_none_iff_exists'.1 hbad
          have h := workPeriod_bad_becomes s ch offset w
          exact ⟨_, hexec, hworked (h.periodWorked rfl), h.reads Canceller.noUpdate fun _ => rfl,
            fun p hp => getPath_workPeriod_bad s ch offset w hp⟩
        · subst hbad
          refine ⟨_, hexec, hworked (workPeriod_worked hlast), ?_, fun x hx => ⟨getPath_workPeriod_frozen hlast hnodup hx,
            workPeriod_forms_model hlast hnodup hx⟩, fun p hp => getPath_workPeriod_held hlast hnodup hp,
            fun hst x hx hclean => ⟨workPeriod_survey_low hlast hst hx hclean, workPeriod_survey_span hlast hst hx hclean⟩⟩
          rw [workPeriod_reads hlast Canceller.noUpdate (fun _ => rfl) fun _ _ _ _ => rfl, surveyed_eq]
          rfl
      · have hexec := execCancellerUpdatePeriod_waits hruns rfl hnone bad
        rw [if_pos (show periodOver s ch = true from decide_eq_true hover)] at hexec
        have h := endPeriod_becomes s ch skips
        refine ⟨_, hexec, h.reads Canceller.win fun _ => rfl, h.reads Canceller.cand fun _ => rfl, h.reads Canceller.worked fun _ => rfl,
          h.reads Canceller.periodAt fun _ => rfl, h.reads Canceller.skip fun _ => rfl, ?_, fun p hp => getPath_endPeriod s ch skips hp,
          h.others, endPeriod_keeps_rest s ch skips⟩
        rw [h.reads Canceller.noUpdate fun _ => rfl, periodEnded]
        simp only [Bool.or_eq_true]
        rfl
      · have hexec := execCancellerUpdatePeriod_waits hruns rfl hnone bad
        rwa [if_neg (show ¬ periodOver s ch = true from fun h => Nat.not_le_of_lt hwait (of_decide_eq_true h))] at hexec
    · -- CANCELLER_MODEL_APPLY
      have h := applyModels_becomes s ch
      refine ⟨_, execCancellerModelApply_applies hcore hmodels, h.reads Canceller.updates fun _ => rfl, h.reads Canceller.win fun _ => rfl,
        fun p hp m hm => ?_, fun p hp hm => ?_, h.others, applyModels_keeps_rest s ch⟩
      · rw [getPath_applyModels s ch hp, appliedPath_of_some hm]
      · rw [getPath_applyModels s ch hp, appliedPath_of_none hm]
    · -- PATH_STALE
      refine ⟨_, execPathStale_stales hst hlong, ?_, fun q hq => ?_, ?_⟩
      · rw [getPath_pathRecord, getPath_modPath]
      · rw [getPath_pathRecord, getPath_modPath_at, if_neg hq]
      · apply state_ext <;> simp
  · intro s ch hch c
    refine ⟨fun m hm => ⟨fun v hv => ?_, ?_, fun p hp => ⟨fun v hv => manualFreeze_ends hm hch hp hv, ?_, ?_⟩, ?_⟩,
      fun hst hspan => ⟨?_, fun a b hbad => ?_⟩, fun hst hbelow => ?_⟩
    · -- SURVEY_START
      obtain ⟨t, hexec, hcanc, hothers, hanswer, hframe, hnotes⟩ := surveyWrite_ends (g := surveyBegun v) (v := v) hm hch (by omega)
        fun u => by rw [surveyWrite, if_neg (by omega), if_pos hv]; rfl
      refine ⟨t, congrArg Host.Outcome.next hexec, ?_, fun w hw x hx => ?_, fun w hw x hx => ?_, hanswer, hothers, hframe, hnotes⟩
      · rw [hcanc]; rfl
      · rw [hcanc] at hw
        exact survey_spoiled hw hx
      · rw [hcanc] at hw
        exact survey_spoiled hw hx
    · -- SURVEY_STOP
      obtain ⟨t, hexec, hcanc, hothers, hanswer, hend⟩ := surveyWrite_ends (g := surveyStopped) (v := 0xFFFF) hm hch (by decide)
        fun u => if_pos rfl
      exact ⟨t, congrArg Host.Outcome.next hexec, hcanc, hanswer, hothers, hend⟩
    · -- MODEL_RESET
      obtain ⟨t, hexec, hpath, hend⟩ := modelReset_ends hm hch hp
      exact ⟨t, hexec, by rw [hpath]; rfl, by rw [hpath]; rfl, by rw [hpath]; rfl, by rw [hpath]; rfl, hend⟩
    · -- MODEL_SNAPSHOT of a path
      refine snapshotWrite_ends (g := fun c => { c with
        snapPath := p, snapFrame := s.clk.frame + 1, snapExp := (getPath s ch p).e, snapTaps := (getPath s ch p).taps }) hm hch (.inl hp) ?_
      rintro u ⟨at_, rfl⟩
      exact if_pos hp
    · -- MODEL_SNAPSHOT of none
      exact snapshotWrite_ends (g := fun c => { c with snapPath := 0xFF, snapFrame := 0, snapExp := 3, snapTaps := [] }) hm hch (.inr rfl)
        fun u _ => rfl
    · -- SURVEY_COMPLETE
      obtain ⟨depth, hexec⟩ := execSurveyComplete_reports hst hspan
      obtain ⟨hcanc, hothers⟩ := canc_of_chans (s := s) (u := s) (g := surveyReported) rfl (pathRecord_chans ..)
      refine ⟨_, hexec, hcanc, hothers, ?_⟩
      apply state_ext <;> simp
    · -- SURVEY_COMPLETE with a word of bad parity
      obtain ⟨depth, hexec⟩ := execSurveyComplete_bad hst hspan hbad
      obtain ⟨hcanc, hothers⟩ := canc_of_chans (s := s) (u := parityWord (parityWord s 12 a) 12 b) (g := surveyEnded 2) (by simp)
        (pathRecord_chans ..)
      refine ⟨_, hexec, hcanc, hothers, ?_⟩
      apply state_ext <;> simp
    · -- SURVEY_ABANDON
      obtain ⟨depth, hexec⟩ := execSurveyAbandon_abandons hst hbelow
      obtain ⟨hcanc, hothers⟩ := canc_of_chans (s := s) (u := s) (g := surveyEnded 3) rfl (pathRecord_chans ..)
      refine ⟨_, hexec, hcanc, hothers, ?_⟩
      apply state_ext <;> simp

end Sys2Proof.Machine

namespace Sys2Proof.Machine

/-! ### The tick that ends the loop mute of a route without a loop (R195) -/

/-- A downlink route 3 in use, from receive side 0, without a slot member: no loop (R183). -/
def memberlessRoute : SMap Nat := [(key 0x5100 4, 0)]

/-- The same route with transmit side 8 as its slot member: a loop (R183). -/
def memberRoute : SMap Nat := [(key 0x5100 4, 0), (key 0x5201 1, 3)]

/-- At the boundary of tick 1,001 a commit has taken the last slot member from route 3, whose loop was muted at tick 1:
`formLoops` leaves the mute standing (R30), and no loop is in use. -/
def orphanedLoop : State := formLoops memberRoute { State.reset with
  life := { State.reset.life with power := .serve }, clk := { State.reset.clk with frame := 3416747 }, objs := memberlessRoute,
  gov := { inUse := [3], loops := [(3, { mutedAt := some 1, st := 5 })], tick := 1001 }, mutes := [⟨.loop 3, .slot 8⟩] }

theorem orphanedLoop_inUse : orphanedLoop.gov.inUse = [] := by decide +kernel

theorem orphanedLoop_mutedAt : (getLoop orphanedLoop 3).mutedAt = some 1 := by decide +kernel

/-- The tick ends the loop mute that was set 1,000 ms before it (R195), though its route has no loop any more. -/
theorem governorTick_orphanedLoop : ∃ t, exec (.governorTick []) orphanedLoop = .next t ∧ (getLoop t 3).mutedAt = none :=
  ⟨_, rfl, by decide +kernel⟩

/-- Refutes O57: with no loop in use a tick need not leave the loops' accounts as they were; where a commit took the local
sides of a muted loop, the tick ends its mute. -/
theorem not_governorTicks : ¬ Obligations.GovernorTicks := by
  rintro ⟨hticks, -⟩
  obtain ⟨-, htick, -⟩ := hticks orphanedLoop [] (by decide +kernel)
  obtain ⟨t, hexec, -, -, -, hnone, -⟩ := htick 1001 (by decide +kernel) (by decide +kernel)
  obtain ⟨-, hloops⟩ := hnone orphanedLoop_inUse
  obtain ⟨t', hexec', hended⟩ := governorTick_orphanedLoop
  obtain rfl : t' = t := by simpa [hexec'] using hexec
  have hkept : getLoop t' 3 = getLoop orphanedLoop 3 := by simp [getLoop, hloops]
  rw [hkept, orphanedLoop_mutedAt] at hended
  contradiction

end Sys2Proof.Machine

namespace Sys2Proof.Machine

/-! ### Loops whose turns meet -/

/-- The turn of one element among the others. -/
theorem forEach_split {σ γ : Type} {xs : List γ} {x : γ} (hx : x ∈ xs) (f : σ → γ → σ) (s : σ) :
    ∃ before after, xs = before ++ x :: after ∧ forEach xs s f = forEach after (f (forEach before s f) x) f := by
  obtain ⟨before, after, rfl⟩ := List.append_of_mem hx
  exact ⟨before, after, rfl, by simp [forEach]⟩

/-- What the turn of one element settles, in states that every turn keeps in view, holds where the loop ends. -/
theorem forEach_settles {σ γ : Type} {P Q : σ → Prop} {xs : List γ} {f : σ → γ → σ} {x : γ} (hx : x ∈ xs)
    (hview : ∀ u y, P u → P (f u y)) (hturn : ∀ u, P u → Q (f u x)) (hkeep : ∀ u y, P u → Q u → Q (f u y)) {s : σ} (hs : P s) :
    Q (forEach xs s f) := by
  obtain ⟨before, after, -, hloop⟩ := forEach_split hx f s
  have hbefore : P (forEach before s f) := forEach_inv P before f hview s hs
  rw [hloop]
  exact (forEach_inv (fun u => P u ∧ Q u) after f (fun u y ⟨hp, hq⟩ => ⟨hview u y hp, hkeep u y hp hq⟩) _
    ⟨hview _ x hbefore, hturn _ hbefore⟩).2

/-- What the turns of the listed elements keep, the loop keeps. -/
theorem forEach_keep_of_mem {σ β γ : Type} (P : σ → β) {xs : List γ} {f : σ → γ → σ} (h : ∀ u, ∀ x ∈ xs, P (f u x) = P u)
    (s : σ) : P (forEach xs s f) = P s :=
  List.foldlRecOn (motive := fun u => P u = P s) xs f rfl fun u hu x hx => (h u x hx).trans hu

theorem elapsedMs_of_le {s : State} {t ms : Nat} (h : t + ms * 32000000 ≤ s.time) : elapsedMs s t ms = true := decide_eq_true h

/-! ### Mutes of one owner -/

theorem hasMute_congr {s t : State} (h : t.mutes = s.mutes) (o : Owner) : hasMute t o = hasMute s o := by rw [hasMute, hasMute, h]

theorem hasMute_iff {s : State} {o : Owner} : hasMute s o = true ↔ ∃ m ∈ s.mutes, m.owner = o := by
  simp [hasMute, List.any_eq_true]

/-- An assertion leaves every other owner's mutes (R30). -/
theorem hasMute_addMute_ne (s : State) {o o' : Owner} (h : o ≠ o') (sc : Scope) : hasMute (addMute s o sc) o' = hasMute s o' := by
  rw [Bool.eq_iff_iff, hasMute_iff, hasMute_iff]
  simp [or_and_right, exists_or, h]

section

variable {s t : State} {o : Owner} (hreleased : ∀ m, m ∈ t.mutes ↔ m ∈ s.mutes ∧ m.owner ≠ o)
include hreleased

theorem hasMute_of_released : hasMute t o = false := by
  rw [← Bool.not_eq_true, hasMute_iff]
  rintro ⟨m, hm, howner⟩
  exact ((hreleased m).1 hm).2 howner

theorem hasMute_of_released_ne {o' : Owner} (h : o ≠ o') : hasMute t o' = hasMute s o' := by
  rw [Bool.eq_iff_iff, hasMute_iff, hasMute_iff]
  simp only [hreleased]
  exact ⟨fun ⟨m, hm, ho⟩ => ⟨m, hm.1, ho⟩, fun ⟨m, hm, ho⟩ => ⟨m, ⟨hm, by rw [ho]; exact h.symm⟩, ho⟩⟩

end

end Sys2Proof.Machine

namespace Sys2Proof.Machine

/-! ### Timing groups (R226–R230) -/

theorem getGroup_congr {s t : State} (h : t.prot.groups = s.prot.groups) (k : Nat) : getGroup t k = getGroup s k := by rw [getGroup, getGroup, h]

theorem getGroup_modGroup (s : State) (i k : Nat) (f : TddGroup → TddGroup) :
    getGroup (modGroup s i f) k = if k = i then f (getGroup s i) else getGroup s k := smGet_smMod ..

theorem setGroup_prot (s : State) (i st : Nat) : (setGroup s i st).prot = (modGroup s i fun g => { g with st }).prot := by
  simp [setGroup]

theorem getGroup_setGroup (s : State) (i st k : Nat) :
    getGroup (setGroup s i st) k = if k = i then { getGroup s i with st } else getGroup s k := by
  rw [getGroup_congr (congrArg Protect.groups (setGroup_prot s i st)), getGroup_modGroup]

theorem mem_forEach_addMute {o : Owner} {m : Mute} (chs : List Nat) (s : State) :
    m ∈ (forEach chs s fun s ch => addMute s o (.chan ch)).mutes ↔ m ∈ s.mutes ∨ ∃ ch ∈ chs, m = ⟨o, .chan ch⟩ := by
  induction chs generalizing s with
  | nil => simp [forEach]
  | cons ch chs ih =>
    change m ∈ (forEach chs (addMute s o (.chan ch)) fun s ch => addMute s o (.chan ch)).mutes ↔ _
    simp [ih, or_assoc]

/-- A group's mutes after a change of its state: those of its channels in states 1 and 4, none in states 2 and 3 (Table 9.4, R232). -/
theorem mem_setGroup {s : State} {i st : Nat} {m : Mute} : m ∈ (setGroup s i st).mutes ↔
    if st = 1 ∨ st = 4 then m ∈ s.mutes ∨ ∃ ch ∈ groupChannels s.objs i, m = ⟨.tdd i, .chan ch⟩
    else if st = 0 then m ∈ s.mutes else m ∈ s.mutes ∧ m.owner ≠ .tdd i := by
  have hmuted : (setGroup s i st).mutes = (if st = 1 ∨ st = 4 then
      forEach (groupChannels s.objs i) (modGroup s i fun g => { g with st }) fun s ch => addMute s (.tdd i) (.chan ch)
    else if st = 0 then modGroup s i fun g => { g with st } else dropMute (modGroup s i fun g => { g with st }) (.tdd i)).mutes := by
    simp [setGroup]
  rw [hmuted]
  split
  · rw [mem_forEach_addMute]; simp
  · split
    · simp
    · rw [mem_dropMute]; simp

/-- A group that is locked or held has its mutes released. -/
theorem mem_setGroup_released {s : State} {i st : Nat} (h : st = 2 ∨ st = 3) (m : Mute) :
    m ∈ (setGroup s i st).mutes ↔ m ∈ s.mutes ∧ m.owner ≠ .tdd i := by
  rw [mem_setGroup, if_neg (by omega), if_neg (by omega)]

/-- A change of a group's state leaves every other owner's mutes. -/
theorem hasMute_setGroup_ne (s : State) {i : Nat} (st : Nat) {o : Owner} (h : .tdd i ≠ o) : hasMute (setGroup s i st) o = hasMute s o := by
  by_cases hmuting : st = 1 ∨ st = 4
  · rw [Bool.eq_iff_iff, hasMute_iff, hasMute_iff]
    simp [mem_setGroup, hmuting, or_and_right, exists_or, h]
  · by_cases hzero : st = 0
    · rw [Bool.eq_iff_iff, hasMute_iff, hasMute_iff]
      simp [mem_setGroup, hzero]
    · exact hasMute_of_released_ne (fun m => by rw [mem_setGroup, if_neg hmuting, if_neg hzero]) h

/-- Only group `i` may differ: its record and its mutes. -/
structure OnlyGroup (i : Nat) (s t : State) : Prop where
  time : t.time = s.time
  objs : t.objs = s.objs
  prot : t.prot = { s.prot with groups := t.prot.groups }
  groups : ∀ k, k ≠ i → getGroup t k = getGroup s k
  mutes : ∀ k, k ≠ i → hasMute t (.tdd k) = hasMute s (.tdd k)

namespace OnlyGroup

variable {i : Nat} {s t u : State}

theorem trans (h : OnlyGroup i s t) (h' : OnlyGroup i t u) : OnlyGroup i s u where
  time := h'.time.trans h.time
  objs := h'.objs.trans h.objs
  prot := by rw [h'.prot, h.prot]
  groups k hk := (h'.groups k hk).trans (h.groups k hk)
  mutes k hk := (h'.mutes k hk).trans (h.mutes k hk)

theorem modGroup (h : OnlyGroup i s t) (f : TddGroup → TddGroup) : OnlyGroup i s (Machine.modGroup t i f) := h.trans {
  time := rfl
  objs := rfl
  prot := rfl
  groups := fun k hk => by rw [getGroup_modGroup, if_neg hk]
  mutes := fun _ _ => rfl }

theorem setGroup (h : OnlyGroup i s t) (st : Nat) : OnlyGroup i s (Machine.setGroup t i st) := h.trans {
  time := by simp
  objs := by simp
  prot := by rw [setGroup_prot]; rfl
  groups := fun k hk => by rw [getGroup_setGroup, if_neg hk]
  mutes := fun k hk => hasMute_setGroup_ne t st fun e => hk (Owner.tdd.inj e).symm }

theorem refl (i : Nat) (s : State) : OnlyGroup i s s := ⟨rfl, rfl, rfl, fun _ _ => rfl, fun _ _ => rfl⟩

end OnlyGroup

theorem ite_holds {σ : Type} {I : σ → Prop} {c : Prop} [Decidable c] {a b : σ} (ha : I a) (hb : I b) : I (if c then a else b) := by
  split <;> assumption

/-- A change of a group's record that leaves its last epoch. -/
def KeepsEpoch (f : TddGroup → TddGroup) : Prop := ∀ x, (f x).lastEpoch = x.lastEpoch ∧ (f x).epochAt = x.epochAt ∧ (f x).pps = x.pps

/-- A group with a measured epoch noted. -/
def epochNoted (s : State) (i pos : Nat) : State := modGroup s i fun x => { x with lastEpoch := some pos, epochAt := s.time }

/-- After it has noted an epoch, a group's turn is made of changes that leave the epoch, and of changes of its state. -/
theorem tddEpoch_inv {I : State → Prop} {s : State} {i pos : Nat} (hnoted : I (epochNoted s i pos))
    (hmod : ∀ u f, KeepsEpoch f → I u → I (modGroup u i f)) (hset : ∀ u st, I u → I (setGroup u i st)) : I (tddEpoch s i pos) := by
  have hmod' {u : State} (hu : I u) (f : TddGroup → TddGroup) (hf : KeepsEpoch f := by exact fun _ => ⟨rfl, rfl, rfl⟩) : I (modGroup u i f) :=
    hmod u f hf hu
  unfold tddEpoch lockedEpoch
  dsimp only
  split
  · exact hnoted
  · exact ite_holds (hset _ 2 (hmod' (hmod' hnoted _) _)) (hmod' hnoted _)
  · exact ite_holds (hset _ 1 (hmod' (hmod' hnoted _) _)) (hmod' hnoted _)
  · exact ite_holds (hset _ 2 (hmod' hnoted _)) (hset _ 1 (hmod' (hmod' hnoted _) _))
  · exact hset _ 1 (hmod' hnoted _)

theorem tddEpoch_onlyGroup (s : State) (i pos : Nat) : OnlyGroup i s (tddEpoch s i pos) :=
  tddEpoch_inv ((OnlyGroup.refl i s).modGroup _) (fun _ f _ h => h.modGroup f) (fun _ st h => h.setGroup st)

/-- Whatever its state, a group notes the epoch and its time (R229). -/
theorem tddEpoch_notes (s : State) (i pos : Nat) : (getGroup (tddEpoch s i pos) i).lastEpoch = some pos ∧
    (getGroup (tddEpoch s i pos) i).epochAt = s.time ∧ (getGroup (tddEpoch s i pos) i).pps = (getGroup s i).pps := by
  let I (u : State) : Prop := (getGroup u i).lastEpoch = some pos ∧ (getGroup u i).epochAt = s.time ∧ (getGroup u i).pps = (getGroup s i).pps
  have hmod (u : State) (f : TddGroup → TddGroup) (hf : KeepsEpoch f) (h : I u) : I (modGroup u i f) := by
    obtain ⟨hlast, hat, hpps⟩ := hf (getGroup u i)
    simpa only [I, getGroup_modGroup, if_true, hlast, hat, hpps] using h
  have hset (u : State) (st : Nat) (h : I u) : I (setGroup u i st) := by
    simpa only [I, getGroup_setGroup, if_true] using h
  exact tddEpoch_inv (I := I) (by simp [I, epochNoted, getGroup_modGroup]) hmod hset

/-- The fifth epoch in a row that agrees locks an acquiring group and ends its mutes (R229). -/
theorem tddEpoch_locks {s : State} {i pos p : Nat} (hst : (getGroup s i).st = 1) (hagree : (getGroup s i).agree = 4)
    (hlast : (getGroup s i).lastEpoch = some p) (hnear : (gridDiff pos p).natAbs ≤ 732)
    (hsoon : groupSource s.objs i = 2 → s.time ≤ (getGroup s i).epochAt + 320064000) :
    (getGroup (tddEpoch s i pos) i).st = 2 ∧ (getGroup (tddEpoch s i pos) i).applied = some pos ∧
      hasMute (tddEpoch s i pos) (.tdd i) = false := by
  have hagrees : agrees pos p 122 = true := decide_eq_true hnear
  have htogether : (groupSource s.objs i == 2 && decide ((getGroup s i).epochAt + 10 * msUnits + 2 * usUnits < s.time)) = false := by
    rw [Bool.and_eq_false_iff, beq_eq_false_iff_ne, decide_eq_false_iff_not]
    by_cases h : groupSource s.objs i = 2
    · have := hsoon h
      exact .inr (by simp only [msUnits, usUnits]; omega)
    · exact .inl h
  have hlocks : ∃ u, tddEpoch s i pos = setGroup u i 2 ∧ (getGroup u i).applied = some pos := by
    simp only [tddEpoch, hst, hlast, hagrees, htogether, hagree]
    exact ⟨_, rfl, by simp [getGroup_modGroup]⟩
  obtain ⟨u, hu, happlied⟩ := hlocks
  rw [hu, getGroup_setGroup, if_pos rfl]
  exact ⟨rfl, happlied, hasMute_of_released (mem_setGroup_released (.inl rfl))⟩

/-- An epoch within 492 samples is a locked group's next target (R230). -/
theorem getGroup_tddEpoch_locked {s : State} {i pos a : Nat} (hst : (getGroup s i).st = 2) (happlied : (getGroup s i).applied = some a)
    (hnear : (gridDiff pos a).natAbs ≤ 2952) : getGroup (tddEpoch s i pos) i =
      { getGroup s i with lastEpoch := some pos, epochAt := s.time, diff := gridDiff pos a, steps := 0, target := some pos } := by
  have hsteps : ¬ 6 * 492 < (gridDiff pos a).natAbs := by omega
  simp [tddEpoch, lockedEpoch, hst, happlied, hsteps, getGroup_modGroup]

/-! ### Edges (R226, R449) -/

/-- An edge's turn of each group in a list: it reaches its own group alone, and finds it as the edge found it. -/
theorem edge_turn {xs : List Nat} (hxs : xs.Nodup) {f : State → Nat → State} (hf : ∀ u k, OnlyGroup k u (f u k)) (s : State)
    {i : Nat} (hi : i ∈ xs) : ∃ u, u.time = s.time ∧ u.objs = s.objs ∧ getGroup u i = getGroup s i ∧
      getGroup (forEach xs s f) i = getGroup (f u i) i ∧ hasMute (forEach xs s f) (.tdd i) = hasMute (f u i) (.tdd i) := by
  obtain ⟨before, after, rfl, hloop⟩ := forEach_split hi f s
  obtain ⟨-, hcons, hdisjoint⟩ := List.nodup_append.1 hxs
  have hnotBefore : ∀ k ∈ before, i ≠ k := fun k hk => (hdisjoint k hk i List.mem_cons_self).symm
  have hnotAfter : ∀ k ∈ after, i ≠ k := fun k hk e => (List.nodup_cons.1 hcons).1 (e ▸ hk)
  refine ⟨forEach before s f, forEach_keep State.time _ _ (fun u k => (hf u k).time) s, forEach_keep State.objs _ _ (fun u k => (hf u k).objs) s,
    forEach_keep_of_mem (getGroup · i) (fun u k hk => (hf u k).groups i (hnotBefore k hk)) s, ?_, ?_⟩
  · rw [hloop]
    exact forEach_keep_of_mem (getGroup · i) (fun u k hk => (hf u k).groups i (hnotAfter k hk)) _
  · rw [hloop]
    exact forEach_keep_of_mem (hasMute · (.tdd i)) (fun u k hk => (hf u k).mutes i (hnotAfter k hk)) _

theorem getGroup_edge_of_not_mem {xs : List Nat} {f : State → Nat → State} (hf : ∀ u k, OnlyGroup k u (f u k)) (s : State)
    {i : Nat} (hi : i ∉ xs) : getGroup (forEach xs s f) i = getGroup s i :=
  forEach_keep_of_mem (getGroup · i) (fun u k hk => (hf u k).groups i fun e => hi (e ▸ hk)) s

/-- The groups that use a source. -/
def groupsOf (cfg : SMap Nat) (src : Nat) : List Nat := (List.range 8).filter fun i => groupSource cfg i == src

theorem mem_groupsOf {cfg : SMap Nat} {src i : Nat} : i ∈ groupsOf cfg src ↔ i < 8 ∧ groupSource cfg i = src := by
  simp [groupsOf]

theorem groupsOf_nodup (cfg : SMap Nat) (src : Nat) : (groupsOf cfg src).Nodup := List.nodup_range.filter _

/-- An edge of FRAME_SYNC_IN. -/
def frameSyncEdge (s : State) (pos : Nat) : State := forEach (groupsOf s.objs 2) s fun s i => tddEpoch s i (pos % gridClocks)

/-- The turn of a group at an edge of PPS_IN. -/
def ppsTurn (pos : Nat) (s : State) (i : Nat) : State := tddEpoch (modGroup s i fun x => { x with pps := some (s.time, pos, 0) }) i pos

/-- An edge of PPS_IN that some group uses sets the time stamp's second (R226). -/
def ppsStamped (s : State) : State := if (groupsOf s.objs 3).isEmpty then s else alignStamp s

/-- An edge of PPS_IN. -/
def ppsEdge (s : State) (pos : Nat) : State := forEach (groupsOf s.objs 3) (ppsStamped s) (ppsTurn (pos % gridClocks))

theorem ppsStamped_eq (s : State) : ppsStamped s = { s with links := (ppsStamped s).links } := by
  unfold ppsStamped
  split <;> rfl

theorem ppsTurn_onlyGroup (pos : Nat) (s : State) (i : Nat) : OnlyGroup i s (ppsTurn pos s i) :=
  ((OnlyGroup.refl i s).modGroup _).trans (tddEpoch_onlyGroup ..)

theorem exec_frameSyncInEdge {s : State} {highNs : Nat} (hcore : coreRuns s = true) (hhigh : 100 ≤ highNs) (pos : Nat) :
    exec (.frameSyncInEdge highNs pos) s = .next (frameSyncEdge s pos) :=
  if_neg (by simp [hcore, Nat.not_lt.2 hhigh])

theorem exec_ppsInEdge {s : State} {highNs : Nat} (hcore : coreRuns s = true) (hhigh : 100 ≤ highNs) (pos : Nat) :
    exec (.ppsInEdge highNs pos) s = .next (ppsEdge s pos) :=
  if_neg (by simp [hcore, Nat.not_lt.2 hhigh])

end Sys2Proof.Machine

namespace Sys2Proof.Machine

/-! ### The obligation of the timing groups -/

theorem frameSyncEdge_turn {s : State} {i : Nat} (hi : i < 8) (hsrc : groupSource s.objs i = 2) (pos : Nat) :
    ∃ u, u.time = s.time ∧ u.objs = s.objs ∧ getGroup u i = getGroup s i ∧
      getGroup (frameSyncEdge s pos) i = getGroup (tddEpoch u i (pos % gridClocks)) i ∧
      hasMute (frameSyncEdge s pos) (.tdd i) = hasMute (tddEpoch u i (pos % gridClocks)) (.tdd i) :=
  edge_turn (groupsOf_nodup ..) (fun u k => tddEpoch_onlyGroup u k _) s (mem_groupsOf.2 ⟨hi, hsrc⟩)

theorem getGroup_frameSyncEdge_ne {s : State} {k : Nat} (hsrc : groupSource s.objs k ≠ 2) (pos : Nat) :
    getGroup (frameSyncEdge s pos) k = getGroup s k :=
  getGroup_edge_of_not_mem (fun u k => tddEpoch_onlyGroup u k _) s fun h => hsrc (mem_groupsOf.1 h).2

/-- A group's turn at an edge of PPS_IN, with the edge noted ahead of it. -/
theorem ppsEdge_turn {s : State} {i : Nat} (hi : i < 8) (hsrc : groupSource s.objs i = 3) (pos : Nat) :
    ∃ u, u.time = s.time ∧ u.objs = s.objs ∧ getGroup u i = { getGroup s i with pps := some (s.time, pos % gridClocks, 0) } ∧
      getGroup (ppsEdge s pos) i = getGroup (tddEpoch u i (pos % gridClocks)) i ∧
      hasMute (ppsEdge s pos) (.tdd i) = hasMute (tddEpoch u i (pos % gridClocks)) (.tdd i) := by
  obtain ⟨u, htime, hobjs, hgroup, hturn⟩ := edge_turn (groupsOf_nodup s.objs 3) (ppsTurn_onlyGroup (pos % gridClocks))
    (ppsStamped s) (mem_groupsOf.2 ⟨hi, hsrc⟩)
  have htime' : u.time = s.time := htime.trans (by rw [ppsStamped_eq])
  refine ⟨modGroup u i fun x => { x with pps := some (u.time, pos % gridClocks, 0) }, htime', hobjs.trans (by rw [ppsStamped_eq]), ?_, hturn⟩
  rw [getGroup_modGroup, if_pos rfl, hgroup, htime', getGroup_congr (s := s) (by rw [ppsStamped_eq])]

theorem getGroup_ppsEdge_ne {s : State} {k : Nat} (hsrc : groupSource s.objs k ≠ 3) (pos : Nat) :
    getGroup (ppsEdge s pos) k = getGroup s k :=
  (getGroup_edge_of_not_mem (ppsTurn_onlyGroup _) _ fun h => hsrc (mem_groupsOf.1 h).2).trans (getGroup_congr (by rw [ppsStamped_eq]) k)

/-- An edge of PPS_IN that some group uses is the time stamp's new second (R226). -/
theorem ppsEdge_links {s : State} {i : Nat} (hi : i < 8) (hsrc : groupSource s.objs i = 3) (pos : Nat) :
    (ppsEdge s pos).links = (alignStamp s).links := by
  have hused : (groupsOf s.objs 3).isEmpty = false := List.isEmpty_eq_false_iff.2 (List.ne_nil_of_mem (mem_groupsOf.2 ⟨hi, hsrc⟩))
  simp [ppsEdge, ppsTurn, ppsStamped, hused]

theorem exec_tddEpochMissing {s : State} {i : Nat} (hcore : coreRuns s = true) (hst : (getGroup s i).st = 2) (hmissing : epochMissing s i = true) :
    exec (.tddEpochMissing i) s = .next (setGroup (modGroup s i fun g => { g with heldAt := s.time }) i 3) :=
  if_pos (by simp [hcore, hst, hmissing])

theorem exec_holdoverLimitExpiry {s : State} {i : Nat} (hcore : coreRuns s = true) (hst : (getGroup s i).st = 3)
    (hpast : (getGroup s i).heldAt + cfgNat s.objs (0x7088 + i) 0xE * 32000000 ≤ s.time) :
    exec (.holdoverLimitExpiry i) s = .next (setGroup s i 4) :=
  if_pos (by simp [hcore, hst, elapsedMs_of_le hpast])

/-- Settles O60: an edge reaches each group that uses its pin as it found it, and no other; the group notes the epoch and follows
its state's rule. -/
theorem tddGroups : Obligations.TddGroups := by
  intro s i hcore hi
  refine ⟨fun highNs pos hhigh => ⟨⟨_, exec_frameSyncInEdge hcore hhigh pos, fun k hk hsrc => ?_, ?_⟩,
      ⟨_, exec_ppsInEdge hcore hhigh pos, fun k hk hsrc => ?_, fun k hk hsrc => ?_, ?_⟩⟩,
    fun highNs pos p hhigh hpos hst hagree hlast hnear => ⟨fun hsrc hsoon =>
      ⟨_, exec_frameSyncInEdge hcore hhigh pos, ?_⟩, fun hsrc => ⟨_, exec_ppsInEdge hcore hhigh pos, ?_⟩⟩,
    fun highNs pos a hhigh hpos hst happlied hsrc hnear => ⟨_, exec_frameSyncInEdge hcore hhigh pos, ?_⟩,
    fun highNs pos hlow => ⟨if_pos (by simp [hlow]), if_pos (by simp [hlow])⟩,
    fun hst hmissing => ⟨_, exec_tddEpochMissing hcore hst hmissing, ?_, fun k hk => ?_, ?_⟩,
    fun hst hpast => ⟨_, exec_holdoverLimitExpiry hcore hst hpast, ?_, fun ch hch hfollows => ?_, fun k hk => ?_, ?_⟩⟩
  · -- FRAME_SYNC_IN_EDGE: an epoch of the groups that use it
    obtain ⟨u, htime, -, -, hgroup, -⟩ := frameSyncEdge_turn hk hsrc pos
    obtain ⟨hlast, hat, -⟩ := tddEpoch_notes u k (pos % gridClocks)
    rw [hgroup, hlast, hat, htime]
    exact ⟨rfl, rfl⟩
  · apply state_ext <;> simp [frameSyncEdge]
  · -- PPS_IN_EDGE: the same, with the edge noted
    obtain ⟨u, -, -, hpps, hgroup, -⟩ := ppsEdge_turn hk hsrc pos
    obtain ⟨hlast, -, hkept⟩ := tddEpoch_notes u k (pos % gridClocks)
    rw [hgroup, hlast, hkept, hpps]
    exact ⟨rfl, rfl⟩
  · rw [ppsEdge_links hk hsrc]
    exact ⟨rfl, rfl⟩
  · rw [ppsEdge, ppsStamped_eq]
    apply state_ext <;> simp [ppsTurn]
  · -- the fifth that agrees, on FRAME_SYNC_IN
    obtain ⟨u, htime, hobjs, hsame, hgroup, hmute⟩ := frameSyncEdge_turn hi hsrc pos
    rw [show pos % gridClocks = pos from Nat.mod_eq_of_lt hpos] at hgroup hmute
    obtain ⟨hst', happlied, hfree⟩ := tddEpoch_locks (s := u) (by rw [hsame, hst]) (by rw [hsame, hagree]) (by rw [hsame, hlast]) hnear
      fun _ => by rwa [htime, hsame]
    rw [hgroup, hmute]
    exact ⟨hst', happlied, (tddEpoch_notes u i pos).1, hfree, fun k hk => getGroup_frameSyncEdge_ne hk pos⟩
  · -- and on PPS_IN
    obtain ⟨u, -, hobjs, hsame, hgroup, hmute⟩ := ppsEdge_turn hi hsrc pos
    rw [show pos % gridClocks = pos from Nat.mod_eq_of_lt hpos] at hgroup hmute
    obtain ⟨hst', happlied, hfree⟩ := tddEpoch_locks (s := u) (by rw [hsame, hst]) (by rw [hsame, hagree]) (by rw [hsame, hlast]) hnear
      fun h => absurd (hsrc.symm.trans (hobjs ▸ h)) (by decide)
    rw [hgroup, hmute]
    exact ⟨hst', happlied, (tddEpoch_notes u i pos).1, hfree, fun k hk => getGroup_ppsEdge_ne hk pos⟩
  · -- an epoch of a locked group
    obtain ⟨u, htime, -, hsame, hgroup, -⟩ := frameSyncEdge_turn hi hsrc pos
    rw [show pos % gridClocks = pos from Nat.mod_eq_of_lt hpos] at hgroup
    rw [hgroup, getGroup_tddEpoch_locked (by rw [hsame, hst]) (by rw [hsame, happlied]) hnear, hsame, htime]
  · -- TDD_EPOCH_MISSING
    rw [getGroup_setGroup, if_pos rfl, getGroup_modGroup, if_pos rfl]
  · exact (((OnlyGroup.refl i s).modGroup _).setGroup 3).groups k hk
  · apply state_ext <;> simp [setGroup]
  · -- HOLDOVER_LIMIT_EXPIRY
    rw [getGroup_setGroup, if_pos rfl]
  · rw [muteAt, mem_setGroup, if_pos (.inr rfl)]
    exact .inr ⟨ch, by simp [groupChannels, hch, hfollows], rfl⟩
  · exact ((OnlyGroup.refl i s).setGroup 4).groups k hk
  · apply state_ext <;> simp

end Sys2Proof.Machine

namespace Sys2Proof.Machine

/-! ### Protection mutes (R219–R222) -/

/-- A protection mute stands at its side once it is entered. -/
theorem hasMute_protMute (s : State) (o : Owner) (g rule : Nat) : hasMute (protMute s o g rule) o = true := by
  by_cases h : hasMute s o = true
  · simp [protMute, h]
  · have hmuted : (protMute s o g rule).mutes = (addMute s o (.slot g)).mutes := by simp [protMute, h]
    rw [hasMute_congr hmuted, hasMute_addMute]

theorem hasMute_protMute_ne (s : State) {o o' : Owner} (h : o ≠ o') (g rule : Nat) : hasMute (protMute s o g rule) o' = hasMute s o' := by
  by_cases hm : hasMute s o = true
  · simp [protMute, hm]
  · have hmuted : (protMute s o g rule).mutes = (addMute s o (.slot g)).mutes := by simp [protMute, hm]
    rw [hasMute_congr hmuted, hasMute_addMute_ne s h]

theorem muteAt_protMute {s : State} {o : Owner} (h : hasMute s o = false) (g rule : Nat) : muteAt (protMute s o g rule) o (.slot g) := by
  simp [protMute, h, muteAt]

/-- Of what protection holds a mute moves its two counts alone. -/
theorem protMute_prot (s : State) (o : Owner) (g rule : Nat) : (protMute s o g rule).prot =
    { s.prot with lossMutes := (protMute s o g rule).prot.lossMutes, idMutes := (protMute s o g rule).prot.idMutes } := by
  unfold protMute
  dsimp only
  (repeat' split) <;> simp

theorem mem_protRelease {s : State} {o : Owner} {g rule : Nat} {m : Mute} :
    m ∈ (protRelease s o g rule).mutes ↔ m ∈ s.mutes ∧ m.owner ≠ o := by
  by_cases h : hasMute s o = true
  · simp [protRelease, h]
  · have hnone : ∀ x ∈ s.mutes, x.owner ≠ o := fun x hx ho => h (hasMute_iff.2 ⟨x, hx, ho⟩)
    rw [protRelease, if_neg h]
    exact ⟨fun hm => ⟨hm, hnone m hm⟩, And.left⟩

theorem hasMute_protRelease (s : State) (o : Owner) (g rule : Nat) : hasMute (protRelease s o g rule) o = false :=
  hasMute_of_released fun _ => mem_protRelease

theorem hasMute_protRelease_ne (s : State) {o o' : Owner} (h : o ≠ o') (g rule : Nat) : hasMute (protRelease s o g rule) o' = hasMute s o' :=
  hasMute_of_released_ne (fun _ => mem_protRelease) h

theorem getGain_modGain_eq (s : State) (g k : Nat) (f : SlotGain → SlotGain) :
    getGain (modGain s g f) k = if k = g then f (getGain s g) else getGain s k := smGet_smMod ..

theorem getGain_congr {s t : State} (h : t.gains = s.gains) (k : Nat) : getGain t k = getGain s k := by rw [getGain, getGain, h]

/-- Only what protection mutes reach may differ. -/
def OnlyProtection (s t : State) : Prop :=
  t = { s with gains := t.gains, chans := t.chans, buses := t.buses, mutes := t.mutes, prot := t.prot, tally := t.tally, out := t.out }

theorem OnlyProtection.trans {s t u : State} (h : OnlyProtection s t) (h' : OnlyProtection t u) : OnlyProtection s u := by
  rw [OnlyProtection, h', h]

theorem onlyProtection_forEach {α : Type} {xs : List α} {f : State → α → State} (h : ∀ u x, OnlyProtection u (f u x)) (s : State) :
    OnlyProtection s (forEach xs s f) := forEach_inv (OnlyProtection s) xs f (fun u x hu => hu.trans (h u x)) s rfl

theorem enterLoss_onlyProtection (s : State) (g : Nat) : OnlyProtection s (enterLoss s g) := by
  apply state_ext <;> simp [enterLoss]

theorem setIdentity_onlyProtection (s : State) (g : Nat) (ok : Bool) : OnlyProtection s (setIdentity s g ok) := by
  apply state_ext <;> simp

/-! ### Donor loss (R219, R220) -/

theorem getGain_enterLoss (s : State) (g k : Nat) :
    getGain (enterLoss s g) k = if k = g then { getGain s g with donorLoss := true, goodSince := none } else getGain s k := by
  have hgains : (enterLoss s g).gains = (modGain s g fun x => { x with donorLoss := true, goodSince := none }).gains := by simp [enterLoss]
  rw [getGain_congr hgains, getGain_modGain_eq]

theorem hasMute_enterLoss (s : State) (g : Nat) : hasMute (enterLoss s g) (.donorLoss g) = true := hasMute_protMute ..

theorem hasMute_enterLoss_ne (s : State) {g k : Nat} (h : k ≠ g) : hasMute (enterLoss s g) (.donorLoss k) = hasMute s (.donorLoss k) :=
  hasMute_protMute_ne _ (fun e => h (Owner.donorLoss.inj e).symm) ..

/-- The end of a side's donor loss. -/
def leaveLoss (s : State) (g : Nat) : State := protRelease (modGain s g fun x => { x with donorLoss := false }) (.donorLoss g) g 0

theorem getGain_leaveLoss (s : State) (g k : Nat) :
    getGain (leaveLoss s g) k = if k = g then { getGain s g with donorLoss := false } else getGain s k := by
  have hgains : (leaveLoss s g).gains = (modGain s g fun x => { x with donorLoss := false }).gains := by simp [leaveLoss]
  rw [getGain_congr hgains, getGain_modGain_eq]

theorem exec_donorLossEntry {s : State} {g : Nat} (hcore : coreRuns s = true) (hdonor : g ∈ uplinkDonors s.objs)
    (hloss : (getGain s g).donorLoss = false) (hfallback : donorFallback s g = false ∨ lastKnown s (servingSide s.objs g) = false)
    (hdue : lossDue s g = true) : exec (.donorLossEntry g) s = .next (enterLoss s g) := by
  change execDonorLossEntry g s = _
  have hunheld : ¬ (donorFallback s g && lastKnown s (servingSide s.objs g)) = true := by
    rw [Bool.not_eq_true, Bool.and_eq_false_iff]
    exact hfallback
  rw [execDonorLossEntry, if_neg (by simp [hcore, hdonor, hloss]), if_neg hunheld, if_pos hdue]

/-- A side leaves donor loss where the rule no longer covers it, or where its serving cell has been good for the hold time (R220). -/
theorem exec_donorLossRelease {s : State} {g i since : Nat} (hcore : coreRuns s = true) (hloss : (getGain s g).donorLoss = true)
    (h : g ∉ uplinkDonors s.objs ∨ ((getGain s (servingSide s.objs g)).serving = some i ∧ (getGain s g).goodSince = some since ∧
      since + cfgNat s.objs 0x7080 3 * 32000000 ≤ s.time ∧ lossDue s g = false ∧ donorFallback s g = false)) :
    exec (.donorLossRelease g) s = .next (leaveLoss s g) := by
  change execDonorLossRelease g s = _
  rw [execDonorLossRelease, if_neg (by simp [hcore, hloss])]
  by_cases hdonor : g ∈ uplinkDonors s.objs
  · obtain ⟨hserving, hsince, hheld, hdue, hfallback⟩ := h.resolve_left (not_not_intro hdonor)
    simp [hdonor, hserving, hsince, elapsedMs_of_le hheld, hdue, hfallback, leaveLoss]
  · simp [hdonor, leaveLoss]

/-! ### The identity test (R222) -/

theorem getGain_setIdentity (s : State) (g : Nat) (ok : Bool) (k : Nat) :
    getGain (setIdentity s g ok) k = if k = g then { getGain s g with unidentified := !ok } else getGain s k := by
  have hgains : (setIdentity s g ok).gains =
      (if (getGain s g).unidentified == ok then modGain s g fun x => { x with unidentified := !ok } else s).gains := by
    unfold setIdentity
    dsimp only
    split <;> simp
  rw [getGain_congr hgains]
  split
  · exact getGain_modGain_eq ..
  · next h =>
    have hold : (getGain s g).unidentified = !ok := Bool.eq_not.2 (by simpa using h)
    split
    · next hk => rw [hk, ← hold]
    · rfl

theorem hasMute_setIdentity (s : State) (g : Nat) (ok : Bool) : hasMute (setIdentity s g ok) (.identity g) = !ok := by
  cases ok
  · exact hasMute_protMute ..
  · exact hasMute_protRelease ..

theorem hasMute_setIdentity_ne (s : State) {g k : Nat} (h : k ≠ g) (ok : Bool) :
    hasMute (setIdentity s g ok) (.identity k) = hasMute s (.identity k) := by
  have howner : Owner.identity g ≠ .identity k := fun e => h (Owner.identity.inj e).symm
  cases ok
  · exact (hasMute_protMute_ne _ howner ..).trans (hasMute_congr (by simp) _)
  · exact (hasMute_protRelease_ne _ howner ..).trans (hasMute_congr (by simp) _)

/-- What the identity rule looks at is the same: the configuration, the records, the serving cells and the Ledger. -/
structure IdentityView (s t : State) : Prop where
  time : t.time = s.time
  objs : t.objs = s.objs
  lic : t.lic = s.lic
  rods : t.rods = s.rods
  ledger : t.prot.ledger = s.prot.ledger
  serving : ∀ k, (getGain t k).serving = (getGain s k).serving

namespace IdentityView

variable {s t : State}

theorem refl (s : State) : IdentityView s s := ⟨rfl, rfl, rfl, rfl, rfl, fun _ => rfl⟩

theorem boundRecord (h : IdentityView s t) (d : Nat) : Machine.boundRecord t t.objs d = Machine.boundRecord s s.objs d := by
  unfold Machine.boundRecord licRecord
  rw [h.objs, h.lic]

theorem identitySide (h : IdentityView s t) (k : Nat) : Machine.identitySide t k = Machine.identitySide s k := by
  simp only [Machine.identitySide, h.objs]
  simp only [← h.objs, h.boundRecord]

theorem identified (h : IdentityView s t) (d : Nat) : Machine.identified t d = Machine.identified s d := by
  unfold Machine.identified getEntry
  rw [h.serving, h.ledger, h.boundRecord, h.time]

theorem setIdentity (h : IdentityView s t) (g : Nat) (ok : Bool) : IdentityView s (Machine.setIdentity t g ok) where
  time := by simp [h.time]
  objs := by simp [h.objs]
  lic := by simp [h.lic]
  rods := by simp [h.rods]
  ledger := by
    rw [← h.ledger]
    unfold Machine.setIdentity
    dsimp only
    split
    · simp
    · rw [protMute_prot]; simp
  serving k := by
    rw [← h.serving, getGain_setIdentity]
    split
    · next hk => rw [hk]
    · rfl

end IdentityView

/-- The sides the rule no longer covers are released. -/
def uncoveredReleased (s : State) : State :=
  forEach ((s.gains.filter fun e => e.2.unidentified && (identitySide s e.1).isNone).map (·.1)) s fun s g => setIdentity s g true

/-- The test of one side. -/
def testSide (s : State) (g : Nat) : State :=
  match identitySide s g with
  | none => s
  | some d =>
    if (getRod s (d / 128)).fallback then (if lastKnown s d then s else setIdentity s g false)
    else setIdentity s g (identified s d)

/-- All sides tested. -/
def identityTested (s : State) : State := forEach (identitySides (uncoveredReleased s)) (uncoveredReleased s) testSide

theorem exec_identityTest {s : State} (hcore : coreRuns s = true) (hinstant : s.clk.frame % 341333 = 0) :
    exec .identityTest s = .next (identityTested s) := if_neg (by simp [hcore, hinstant])

theorem uncoveredReleased_view (s : State) : IdentityView s (uncoveredReleased s) :=
  forEach_inv (IdentityView s) _ _ (fun _ g h => h.setIdentity g true) s (.refl s)

/-- A test does nothing, or sets one side's outcome. -/
theorem testSide_inv {I : State → Prop} {s : State} (g : Nat) (hs : I s) (hset : ∀ ok, I (setIdentity s g ok)) : I (testSide s g) := by
  unfold testSide
  split
  · exact hs
  · exact ite_holds (ite_holds hs (hset _)) (hset _)

theorem testSide_of_covered {s : State} {g d : Nat} (hside : identitySide s g = some d) (hfallback : (getRod s (d / 128)).fallback = false) :
    testSide s g = setIdentity s g (identified s d) := by
  simp [testSide, hside, hfallback]

theorem testSide_onlyProtection (s : State) (g : Nat) : OnlyProtection s (testSide s g) :=
  testSide_inv (I := OnlyProtection s) g rfl (setIdentity_onlyProtection s g)

theorem identityTested_onlyProtection (s : State) : OnlyProtection s (identityTested s) :=
  OnlyProtection.trans (onlyProtection_forEach (fun u g => setIdentity_onlyProtection u g true) s)
    (onlyProtection_forEach testSide_onlyProtection _)

/-- The outcome at a side that the rule covers. -/
theorem identityTested_outcome {s : State} {k d : Nat} (hfallback : ∀ r, (getRod s r).fallback = false) (hside : identitySide s k = some d)
    (htx : k ∈ txSlots s.objs) : (getGain (identityTested s) k).unidentified = !identified s d ∧
      hasMute (identityTested s) (.identity k) = !identified s d := by
  have hreleased := uncoveredReleased_view s
  have hlisted : k ∈ identitySides (uncoveredReleased s) := by
    rw [identitySides, List.mem_filter, hreleased.identitySide, hside, hreleased.objs]
    exact ⟨htx, rfl⟩
  let Q (u : State) : Prop := (getGain u k).unidentified = !identified s d ∧ hasMute u (.identity k) = !identified s d
  have hset (u : State) : Q (setIdentity u k (identified s d)) := ⟨by rw [getGain_setIdentity, if_pos rfl], hasMute_setIdentity ..⟩
  have hturn (u : State) (hu : IdentityView s u) : Q (testSide u k) := by
    rw [testSide_of_covered (d := d) (by rw [hu.identitySide, hside]) (by rw [getRod, hu.rods]; exact hfallback _), hu.identified]
    exact hset u
  refine forEach_settles (P := IdentityView s) (Q := Q) hlisted (fun u g hu => testSide_inv g hu fun ok => hu.setIdentity g ok) hturn
    (fun u g hu hq => ?_) hreleased
  by_cases h : k = g
  · exact h ▸ hturn u hu
  · exact testSide_inv (I := Q) g hq fun ok => by
      simpa only [Q, getGain_setIdentity, if_neg h, hasMute_setIdentity_ne u h] using hq

/-- Settles O59: donor loss is entered with its mute and its count, and left with no mute of its own; each side's test sets its own
outcome, and none changes what another looks at. -/
theorem donorProtection : Obligations.DonorProtection := by
  intro s g hcore
  refine ⟨fun hdonor hloss hfallback hdue hfree => ⟨_, exec_donorLossEntry hcore hdonor hloss hfallback hdue, ?_, ?_, ?_, fun k hk => ?_, ?_⟩,
    fun i since hloss h => ⟨_, exec_donorLossRelease hcore hloss h, ?_, fun u => mem_protRelease, fun k hk => ?_, ?_⟩,
    fun hbetween => if_pos (by simp [hbetween]), fun hinstant hfallback => ⟨_, exec_identityTest hcore hinstant, fun k d hside htx => ?_, ?_⟩⟩
  · -- DONOR_LOSS_ENTRY
    rw [getGain_enterLoss, if_pos rfl]
  · exact muteAt_protMute (by rwa [hasMute_congr (modGain_mutes ..)]) ..
  · simp [enterLoss, protMute, hasMute_congr (modGain_mutes ..), hfree]
  · rw [getGain_enterLoss, if_neg hk]
  · exact enterLoss_onlyProtection s g
  · -- DONOR_LOSS_RELEASE
    rw [getGain_leaveLoss, if_pos rfl]
  · rw [getGain_leaveLoss, if_neg hk]
  · apply state_ext <;> simp [leaveLoss]
  · -- IDENTITY_TEST
    obtain ⟨hflag, hmute⟩ := identityTested_outcome hfallback hside htx
    exact ⟨hflag, fun h => by rw [hmute, h]; rfl, fun h => by rw [hmute, h]; rfl⟩
  · exact identityTested_onlyProtection s

end Sys2Proof.Machine

namespace Sys2Proof.Machine

/-! ### The Cell Ledger as a table (R212–R214) -/

theorem mem_of_smGet_ne {α : Type} {d : α} {m : SMap α} {k : Nat} (h : smGet d m k ≠ d) : (k, smGet d m k) ∈ m := by
  induction m with
  | nil => exact absurd rfl h
  | cons e m ih =>
    rw [smGet] at h ⊢
    split
    · next he => rw [← he]; exact List.mem_cons_self
    · next he => exact List.mem_cons_of_mem e (ih (by rwa [if_neg he] at h))

/-- In a table whose numbers rise an entry is read back at its number. -/
theorem smGet_of_mem {α : Type} (d : α) {m : SMap α} (hm : (m.map (·.1)).Pairwise (· < ·)) {e : Nat × α} (he : e ∈ m) :
    smGet d m e.1 = e.2 := by
  induction m with
  | nil => cases he
  | cons a m ih =>
    obtain ⟨hlt, htail⟩ := List.pairwise_cons.1 hm
    rw [smGet]
    rcases List.mem_cons.1 he with rfl | he
    · rw [if_pos rfl]
    · rw [if_neg (Nat.ne_of_lt (hlt e.1 (List.mem_map_of_mem he))), ih htail he]

theorem getEntry_congr {s t : State} (h : t.prot.ledger = s.prot.ledger) (k : Nat) : getEntry t k = getEntry s k := by rw [getEntry, getEntry, h]

theorem getEntry_modEntry (s : State) (i k : Nat) (f : LedgerEntry → LedgerEntry) :
    getEntry (modEntry s i f) k = if k = i then f (getEntry s i) else getEntry s k := smGet_smMod ..

/-- Of the Ledger's entries only `i` may differ, and is `e` now. -/
def EntryBecomes (s t : State) (i : Nat) (e : LedgerEntry) : Prop := ∀ k, getEntry t k = if k = i then e else getEntry s k

section

variable {s t : State} {i : Nat} {e : LedgerEntry}

theorem EntryBecomes.self (h : EntryBecomes s t i e) : getEntry t i = e := (h i).trans (if_pos rfl)

theorem EntryBecomes.others (h : EntryBecomes s t i e) (k : Nat) (hk : k ≠ i) : getEntry t k = getEntry s k := (h k).trans (if_neg hk)

/-- A state with the Ledger of one in which an entry was changed. -/
theorem entryBecomes_of_modEntry {f : LedgerEntry → LedgerEntry} (h : t.prot.ledger = (modEntry s i f).prot.ledger) :
    EntryBecomes s t i (f (getEntry s i)) := fun k => (getEntry_congr h k).trans (getEntry_modEntry s i k f)

end

/-- A valid entry is listed. -/
theorem mem_ledger_of_valid {s : State} {i : Nat} (h : (getEntry s i).valid = true) : (i, getEntry s i) ∈ s.prot.ledger :=
  mem_of_smGet_ne fun e => by rw [getEntry, e] at h; cases h

/-- The numbers of the valid entries. -/
def usedEntries (s : State) : List Nat := (s.prot.ledger.filter (·.2.valid)).map (·.1)

theorem usedEntries_sorted {s : State} (hs : (s.prot.ledger.map (·.1)).Pairwise (· < ·)) : (usedEntries s).Pairwise (· < ·) :=
  hs.sublist (List.filter_sublist.map _)

theorem mem_usedEntries {s : State} (hs : (s.prot.ledger.map (·.1)).Pairwise (· < ·)) {k : Nat} :
    k ∈ usedEntries s ↔ (getEntry s k).valid = true := by
  constructor
  · intro h
    obtain ⟨e, he, rfl⟩ := List.mem_map.1 h
    obtain ⟨hmem, hvalid⟩ := List.mem_filter.1 he
    rwa [getEntry, smGet_of_mem _ hs hmem]
  · exact fun h => List.mem_map.2 ⟨_, List.mem_filter.2 ⟨mem_ledger_of_valid h, h⟩, rfl⟩

/-- The search for a free number stops at the first that a rising list lacks. -/
theorem freeFrom_eq {used : List Nat} (hused : used.Pairwise (· < ·)) {a i : Nat} (hfrom : ∀ x ∈ used, a ≤ x) (hai : a ≤ i)
    (hfree : i ∉ used) (hall : ∀ k, a ≤ k → k < i → k ∈ used) : freeFrom a used = i := by
  induction used generalizing a with
  | nil => exact Nat.le_antisymm hai (Nat.le_of_not_lt fun h => absurd (hall a le_rfl h) List.not_mem_nil)
  | cons j js ih =>
    obtain ⟨hlt, hjs⟩ := List.pairwise_cons.1 hused
    have haj : a ≤ j := hfrom j List.mem_cons_self
    rw [freeFrom]
    split
    · next hja =>
      have hia : i ≠ a := fun e => hfree (by rw [e, hja]; exact List.mem_cons_self)
      refine ih hjs (fun x hx => by have := hlt x hx; omega) (by omega) (fun h => hfree (List.mem_cons_of_mem j h)) fun k hk hki => ?_
      exact (List.mem_cons.1 (hall k (by omega) hki)).resolve_left (by omega)
    · next hja =>
      refine Nat.le_antisymm hai (Nat.le_of_not_lt fun h => ?_)
      rcases List.mem_cons.1 (hall a le_rfl h) with e | hmem
      · exact hja e.symm
      · have := hlt a hmem; omega

/-- The entries that a new cell may replace: neither pinned nor serving (R214). -/
def replaceable (s : State) : List (Nat × LedgerEntry) :=
  (s.prot.ledger.filter (·.2.valid)).filter fun e => !e.2.pinned && !(servingEntries s).contains e.1

theorem mem_replaceable {s : State} {e : Nat × LedgerEntry} :
    e ∈ replaceable s ↔ (e ∈ s.prot.ledger ∧ e.2.valid = true) ∧ e.2.pinned = false ∧ e.1 ∉ servingEntries s := by
  simp only [replaceable, List.mem_filter, Bool.and_eq_true, Bool.not_eq_true', List.contains_eq_mem, decide_eq_false_iff_not]

theorem replaceable_sorted {s : State} (hs : (s.prot.ledger.map (·.1)).Pairwise (· < ·)) : ((replaceable s).map (·.1)).Pairwise (· < ·) :=
  hs.sublist ((List.filter_sublist.trans List.filter_sublist).map _)

/-- Of two entries the one longer unseen, the earlier of two alike. -/
def longerUnseen (b : Option (Nat × LedgerEntry)) (e : Nat × LedgerEntry) : Option (Nat × LedgerEntry) :=
  match b with
  | none => some e
  | some x => if e.2.last < x.2.last then some e else b

theorem newEntry_eq (s : State) : newEntry s = if freeFrom 0 (usedEntries s) < 65536 then some (freeFrom 0 (usedEntries s), false)
    else ((replaceable s).foldl longerUnseen none).map fun e => (e.1, true) := rfl

/-- A new cell takes the lowest free number (R214). -/
theorem newEntry_free {s : State} (hs : (s.prot.ledger.map (·.1)).Pairwise (· < ·)) {i : Nat} (hi : i < 65536)
    (hfree : (getEntry s i).valid = false) (hbelow : ∀ k, k < i → (getEntry s k).valid = true) : newEntry s = some (i, false) := by
  have hfirst : freeFrom 0 (usedEntries s) = i := freeFrom_eq (usedEntries_sorted hs) (fun _ _ => Nat.zero_le _) (Nat.zero_le i)
    (by rw [mem_usedEntries hs, hfree]; exact Bool.false_ne_true) fun k _ hk => (mem_usedEntries hs).2 (hbelow k hk)
  rw [newEntry_eq, hfirst, if_pos hi]

/-- An entry goes out of a list where those before it were seen later, and those after it no earlier. -/
theorem foldl_longerUnseen {before after : List (Nat × LedgerEntry)} {e : Nat × LedgerEntry} (hbefore : ∀ x ∈ before, e.2.last < x.2.last)
    (hafter : ∀ x ∈ after, e.2.last ≤ x.2.last) : (before ++ e :: after).foldl longerUnseen none = some e := by
  have hlater : ∀ x ∈ before.foldl longerUnseen none, e.2.last < x.2.last :=
    List.foldlRecOn (motive := fun b : Option (Nat × LedgerEntry) => ∀ x ∈ b, e.2.last < x.2.last) before longerUnseen (by simp)
      fun b hb y hy => by
        unfold longerUnseen
        split
        · simpa using hbefore y hy
        · split
          · simpa using hbefore y hy
          · exact hb
  have htaken : longerUnseen (before.foldl longerUnseen none) e = some e := by
    cases hb : before.foldl longerUnseen none with
    | none => rfl
    | some x => exact if_pos (hlater x hb)
  rw [List.foldl_append, List.foldl_cons, htaken]
  exact List.foldlRecOn (motive := (· = some e)) after longerUnseen rfl fun b hb x hx => by
    rw [hb]
    exact if_neg (Nat.not_lt.2 (hafter x hx))

/-- With no number free a new cell replaces the entry longest unseen that is neither pinned nor serving, the lowest of those alike (R214). -/
theorem newEntry_oldest {s : State} (hs : (s.prot.ledger.map (·.1)).Pairwise (· < ·)) (hfull : ∀ k, k < 65536 → (getEntry s k).valid = true)
    (hbound : ∀ x ∈ s.prot.ledger, x.1 < 65536) {i : Nat} (hi : i < 65536) (hpin : (getEntry s i).pinned = false)
    (hserving : i ∉ servingEntries s) (holdest : ∀ x ∈ s.prot.ledger, x.2.pinned = false → x.1 ∉ servingEntries s →
      (getEntry s i).last < x.2.last ∨ ((getEntry s i).last = x.2.last ∧ i ≤ x.1)) : newEntry s = some (i, true) := by
  have hnone : freeFrom 0 (usedEntries s) = 65536 := freeFrom_eq (usedEntries_sorted hs) (fun _ _ => Nat.zero_le _) (Nat.zero_le _)
    (fun h => by
      obtain ⟨e, he, heq⟩ := List.mem_map.1 h
      have := hbound e (List.mem_filter.1 he).1
      omega) fun k _ hk => (mem_usedEntries hs).2 (hfull k hk)
  have hlater : ∀ x ∈ replaceable s, (getEntry s i).last < x.2.last ∨ ((getEntry s i).last = x.2.last ∧ i ≤ x.1) := fun x hx => by
    obtain ⟨⟨hmem, -⟩, hnopin, hnoserve⟩ := mem_replaceable.1 hx
    exact holdest x hmem hnopin hnoserve
  obtain ⟨before, after, hsplit⟩ := List.append_of_mem
    (mem_replaceable.2 ⟨⟨mem_ledger_of_valid (hfull i hi), hfull i hi⟩, hpin, hserving⟩ : (i, getEntry s i) ∈ replaceable s)
  have hsorted := replaceable_sorted hs
  rw [hsplit, List.map_append, List.pairwise_append] at hsorted
  obtain ⟨-, -, hcross⟩ := hsorted
  have hfold : (replaceable s).foldl longerUnseen none = some (i, getEntry s i) := by
    rw [hsplit] at hlater ⊢
    refine foldl_longerUnseen (fun x hx => ?_) fun x hx => ?_
    · have hlt : x.1 < i := hcross x.1 (List.mem_map_of_mem hx) i (by simp)
      exact (hlater x (by simp [hx])).resolve_right fun h => by omega
    · rcases hlater x (by simp [hx]) with h | ⟨h, -⟩
      · exact h.le
      · exact h.le
  rw [newEntry_eq, hnone, if_neg (Nat.lt_irrefl _), hfold]
  rfl

end Sys2Proof.Machine

namespace Sys2Proof.Machine

/-! ### One cell of a search or an occasion (R208, R213, R214) -/

/-- Is an entry that of a measured cell on a channel (R212)? -/
def cellKey (ch : Nat) (c : CellMeas) (e : LedgerEntry) : Bool := e.valid && e.ch == ch && e.rat == c.rat && e.pci == c.pci && e.freq == c.freq

/-- A cell's entry after another measurement of it (R213). -/
def remeasured (s : State) (g : Nat) (c : CellMeas) (e : LedgerEntry) : LedgerEntry :=
  noteMeasurement s { e with
    last := opMs s, detections := min 65535 (e.detections + 1), rsrp := filterRsrp e.rsrp (measuredRsrp s g c.level), sinr := clip16 c.sinr
    timing := timingOffset s g c.arrival, ssb := if c.rat = 0 then 0 else c.ssb % 256, tdd := c.rat == 0 && c.tdd } (measuredRsrp s g c.level)

/-- The entry of a cell found for the first time (R214). -/
def firstSeen (s : State) (g : Nat) (c : CellMeas) : LedgerEntry :=
  noteMeasurement s {
    valid := true, rat := c.rat, tdd := c.rat == 0 && c.tdd, ch := g / 8, pci := c.pci, freq := c.freq, rsrp := measuredRsrp s g c.level
    sinr := clip16 c.sinr, timing := timingOffset s g c.arrival, first := opMs s, last := opMs s, detections := 1
    ssb := if c.rat = 0 then 0 else c.ssb % 256 } (measuredRsrp s g c.level)

theorem cellKey_valid {ch : Nat} {c : CellMeas} {e : LedgerEntry} (h : cellKey ch c e = true) : e.valid = true := by
  simp only [cellKey, Bool.and_eq_true] at h
  exact h.1.1.1.1

theorem cellKey_firstSeen (s : State) (g : Nat) (c : CellMeas) : cellKey (g / 8) c (firstSeen s g c) = true := by
  simp [cellKey, firstSeen, noteMeasurement]

/-- A cell with one entry is found there. -/
theorem find_cellKey {s : State} {ch i : Nat} {c : CellMeas} (hkey : cellKey ch c (getEntry s i) = true)
    (honly : ∀ x ∈ s.prot.ledger, cellKey ch c x.2 = true → x.1 = i) :
    ∃ e, s.prot.ledger.find? (fun x => cellKey ch c x.2) = some (i, e) := by
  cases hfind : s.prot.ledger.find? (fun x => cellKey ch c x.2) with
  | none => exact absurd hkey (List.find?_eq_none.1 hfind _ (mem_ledger_of_valid (cellKey_valid hkey)))
  | some x => exact ⟨x.2, by rw [← honly x (List.mem_of_find?_eq_some hfind) (by simpa using List.find?_some hfind)]⟩

theorem ledgerUpdate_known {s : State} {g i : Nat} {c : CellMeas} {e : LedgerEntry}
    (hfind : s.prot.ledger.find? (fun x => cellKey (g / 8) c x.2) = some (i, e)) :
    ledgerUpdate s g c = (modEntry s i (remeasured s g c), some i) := by
  unfold cellKey at hfind
  simp only [ledgerUpdate, hfind]
  rfl

theorem ledgerUpdate_new {s : State} {g i : Nat} {c : CellMeas} {old : Bool} (hnone : ∀ x ∈ s.prot.ledger, cellKey (g / 8) c x.2 = false)
    (hnew : newEntry s = some (i, old)) : ledgerUpdate s g c =
      (modEntry (dropTimers (if old then { s with prot := { s.prot with replaced := inc32 s.prot.replaced } } else s) i) i fun _ => firstSeen s g c,
        some i) := by
  have hfind : s.prot.ledger.find? (fun x => cellKey (g / 8) c x.2) = none := List.find?_eq_none.2 fun x hx => by simp [hnone x hx]
  unfold cellKey at hfind
  cases old <;> simp only [ledgerUpdate, hfind, hnew] <;> rfl

/-- A measurement of a known cell changes its entry alone. -/
theorem detection_known {s : State} {g i : Nat} {c : CellMeas} (hkey : cellKey (g / 8) c (getEntry s i) = true)
    (honly : ∀ x ∈ s.prot.ledger, cellKey (g / 8) c x.2 = true → x.1 = i) :
    (detection g s c).prot = (modEntry s i (remeasured s g c)).prot := by
  obtain ⟨e, hfind⟩ := find_cellKey hkey honly
  simp [detection, ledgerUpdate_known hfind]

/-- A new cell takes the entry that `newEntry` names, and a replacement is counted (R214). -/
theorem detection_new {s : State} {g i : Nat} {c : CellMeas} {old : Bool} (hnone : ∀ x ∈ s.prot.ledger, cellKey (g / 8) c x.2 = false)
    (hnew : newEntry s = some (i, old)) : (detection g s c).prot =
      { (modEntry s i fun _ => firstSeen s g c).prot with replaced := if old then inc32 s.prot.replaced else s.prot.replaced } := by
  cases old <;> simp [detection, ledgerUpdate_new hnone hnew, modEntry]

/-! ### Searches (R208–R210) -/

/-- The rod's record of a search of side `g` that has ended. -/
def sideSearched (s : State) (r g : Nat) : State := modRod s r fun x =>
  { x with lastSearched := some g, finder := 1, dwellAt := s.time, dwellUsable := false
           visited := if x.fallback then insertNat g x.visited else x.visited }

/-- The cells of a search taken into the Ledger, where the dwell had a usable sample. -/
def cellsFound (s : State) (r g : Nat) (cells : List CellMeas) : State :=
  if (getRod s r).dwellUsable then forEach (cells.filter (detectable s g)) (sideSearched s r g) (detection g) else sideSearched s r g

/-- A search repeated for a result with bad parity (Table 1.7). -/
def searchRepeated (s : State) (r offset : Nat) : State := restartDwell (parityFailure s 9 offset 1) r

/-- A search that has ended. -/
def searchEnded (s : State) (r g : Nat) (cells : List CellMeas) : State := reselectChan (endFallback (cellsFound s r g cells) r) (g / 8)

theorem getRod_congr {s t : State} (h : t.rods = s.rods) (k : Nat) : getRod t k = getRod s k := by rw [getRod, getRod, h]

section

variable {s : State} {r g : Nat}

theorem exec_searchDwellComplete (hon : finderOn s r = true) (hturn : nextSide (rodSides s.objs r) (getRod s r).lastSearched = some g)
    (hdwell : (getRod s r).dwellAt + 40 * 32000000 ≤ s.time) (cells : List CellMeas) :
    exec (.searchDwellComplete r g { cells }) s = .next (searchEnded s r g cells) := by
  change execSearchDwellComplete r g { cells } s = _
  rw [execSearchDwellComplete, if_neg (by simp [hon, sideInTurn, hturn, elapsedMs_of_le hdwell])]
  rfl

theorem exec_searchDwellComplete_bad (hon : finderOn s r = true) (hturn : nextSide (rodSides s.objs r) (getRod s r).lastSearched = some g)
    (hdwell : (getRod s r).dwellAt + 40 * 32000000 ≤ s.time) (cells : List CellMeas) (offset : Nat) :
    exec (.searchDwellComplete r g { cells, bad := some offset }) s = .next (searchRepeated s r offset) := by
  change execSearchDwellComplete r g { cells, bad := some offset } s = _
  rw [execSearchDwellComplete, if_neg (by simp [hon, sideInTurn, hturn, elapsedMs_of_le hdwell])]
  rfl

theorem getRod_searchRepeated (s : State) (r offset : Nat) :
    getRod (searchRepeated s r offset) r = { getRod s r with dwellAt := s.time, dwellUsable := false } := by
  rw [searchRepeated, restartDwell, getRod_modRod, getRod_congr (s := s) (by simp), (parityFailure_keeps ..).1]

theorem getRod_searchRepeated_ne (s : State) {r k : Nat} (h : k ≠ r) (offset : Nat) : getRod (searchRepeated s r offset) k = getRod s k := by
  rw [searchRepeated, restartDwell, getRod_modRod_ne _ _ _ _ h, getRod_congr (s := s) (by simp)]

/-- The end of a fallback changes nothing of the rod's search. -/
theorem getRod_endFallback (s : State) (r : Nat) : ∃ b v, getRod (endFallback s r) r = { getRod s r with fallback := b, visited := v } := by
  unfold endFallback
  dsimp only
  split
  · exact ⟨_, _, getRod_modRod ..⟩
  · exact ⟨_, _, rfl⟩

theorem getRod_endFallback_ne (s : State) {r k : Nat} (h : k ≠ r) : getRod (endFallback s r) k = getRod s k := by
  unfold endFallback
  exact ite_holds (I := fun t => getRod t k = getRod s k) (getRod_modRod_ne _ _ _ _ h) rfl

theorem cellsFound_rods (s : State) (r g : Nat) (cells : List CellMeas) : (cellsFound s r g cells).rods = (sideSearched s r g).rods := by
  simp [cellsFound]

theorem getRod_searchEnded (s : State) (r g : Nat) (cells : List CellMeas) : (getRod (searchEnded s r g cells) r).lastSearched = some g ∧
    (getRod (searchEnded s r g cells) r).finder = 1 ∧ (getRod (searchEnded s r g cells) r).dwellAt = s.time := by
  obtain ⟨b, v, hended⟩ := getRod_endFallback (cellsFound s r g cells) r
  rw [getRod_congr (s := sideSearched s r g) (cellsFound_rods ..), sideSearched, getRod_modRod] at hended
  rw [searchEnded, getRod_congr (s := endFallback (cellsFound s r g cells) r) (by simp), hended]
  exact ⟨rfl, rfl, rfl⟩

theorem getRod_searchEnded_ne (s : State) {r k : Nat} (h : k ≠ r) (g : Nat) (cells : List CellMeas) :
    getRod (searchEnded s r g cells) k = getRod s k := by
  rw [searchEnded, getRod_congr (s := endFallback (cellsFound s r g cells) r) (by simp), getRod_endFallback_ne _ h,
    getRod_congr (s := sideSearched s r g) (cellsFound_rods ..), sideSearched, getRod_modRod_ne _ _ _ _ h]

theorem searchEnded_prot (s : State) (r g : Nat) (cells : List CellMeas) : (searchEnded s r g cells).prot = (cellsFound s r g cells).prot := by
  simp [searchEnded, endFallback]

theorem searchEnded_keeps (s : State) (r g : Nat) (cells : List CellMeas) : searchEnded s r g cells = { s with
    rods := (searchEnded s r g cells).rods, gains := (searchEnded s r g cells).gains, prot := (searchEnded s r g cells).prot
    tally := (searchEnded s r g cells).tally } := by
  apply state_ext <;> simp [searchEnded, endFallback, cellsFound, sideSearched]

/-- A search without a cell, or without a usable sample, leaves the Ledger. -/
theorem searchEnded_prot_of_none {cells : List CellMeas} (h : cells = [] ∨ (getRod s r).dwellUsable = false) :
    (searchEnded s r g cells).prot = s.prot := by
  rw [searchEnded_prot]
  rcases h with rfl | h
  · simp [cellsFound, forEach, sideSearched]
  · simp [cellsFound, h, sideSearched]

variable {c : CellMeas} {cells : List CellMeas}

theorem searchEnded_prot_of_one (husable : (getRod s r).dwellUsable = true) (hone : cells.filter (detectable s g) = [c]) :
    (searchEnded s r g cells).prot = (detection g (sideSearched s r g) c).prot := by
  rw [searchEnded_prot, cellsFound, if_pos husable, hone]
  rfl

/-- What a search shows of the one cell it detects: its entry, and no other changed (R213, R214). -/
theorem searchEnded_known {i : Nat} (husable : (getRod s r).dwellUsable = true) (hone : cells.filter (detectable s g) = [c])
    (hkey : cellKey (g / 8) c (getEntry s i) = true) (honly : ∀ x ∈ s.prot.ledger, cellKey (g / 8) c x.2 = true → x.1 = i) :
    EntryBecomes s (searchEnded s r g cells) i (remeasured s g c (getEntry s i)) ∧
      (searchEnded s r g cells).prot.replaced = s.prot.replaced := by
  have hprot : (searchEnded s r g cells).prot = (modEntry s i (remeasured s g c)).prot :=
    (searchEnded_prot_of_one husable hone).trans (detection_known (s := sideSearched s r g) hkey honly)
  exact ⟨entryBecomes_of_modEntry (congrArg Protect.ledger hprot), by rw [hprot]; rfl⟩

theorem searchEnded_new {i : Nat} {old : Bool} (husable : (getRod s r).dwellUsable = true)
    (hone : cells.filter (detectable s g) = [c]) (hnone : ∀ x ∈ s.prot.ledger, cellKey (g / 8) c x.2 = false)
    (hnew : newEntry s = some (i, old)) :
    EntryBecomes s (searchEnded s r g cells) i (firstSeen s g c) ∧
      (searchEnded s r g cells).prot.replaced = if old then inc32 s.prot.replaced else s.prot.replaced := by
  have hprot : (searchEnded s r g cells).prot =
      { (modEntry s i fun _ => firstSeen s g c).prot with replaced := if old then inc32 s.prot.replaced else s.prot.replaced } :=
    (searchEnded_prot_of_one husable hone).trans (detection_new (s := sideSearched s r g) hnone hnew)
  have hledger : (searchEnded s r g cells).prot.ledger = (modEntry s i fun _ => firstSeen s g c).prot.ledger := by rw [hprot]
  exact ⟨entryBecomes_of_modEntry hledger, by rw [hprot]⟩

end

end Sys2Proof.Machine

namespace Sys2Proof.Machine

/-! ### Tracked cells (R210, R213, R219) -/

/-- An occasion of a tracked cell noted in its entry (R210). -/
def occasionNoted (t : Nat) (x : LedgerEntry) : LedgerEntry :=
  { x with occGap := if x.occAt = 0 then 0 else t - x.occAt, occAt := t, occs := (t :: x.occs).take 3 }

/-- A synchronisation occasion. -/
def occasion (s : State) (i : Nat) : State := modEntry s i (occasionNoted s.time)

/-- A tracked cell's measurement carries the key of its entry (R212). -/
def ofEntry (c : CellMeas) (e : LedgerEntry) : CellMeas := { c with rat := e.rat, pci := e.pci, freq := e.freq, tdd := e.tdd }

/-- A tracked cell measured on side `g`. -/
def cellTracked (s : State) (i g : Nat) (c : CellMeas) : State :=
  reselectChan (detection g (occasion s i) (ofEntry c (getEntry s i))) (getEntry s i).ch

/-- With the timing groups that take their epochs from the cell (R226). -/
def trackingMeasured (s : State) (i g : Nat) (c : CellMeas) : State :=
  forEach ((List.range 8).filter fun k => groupSource (cellTracked s i g c).objs k == 1 &&
    (getGain (cellTracked s i g c) (groupRef (cellTracked s i g c).objs k)).serving == some i) (cellTracked s i g c)
    fun s k => tddEpoch s k (6 * (getEntry s i).timing)

/-- An entry discarded for a word with bad parity (Table 1.7). -/
def entryDiscarded (s : State) (i : Nat) : State :=
  let u := parityFailure s 7 (32 * i) (if (getEntry s i).pinned then 3 else 1)
  reselectChan (modEntry { u with prot := { u.prot with parityDiscards := inc32 u.prot.parityDiscards } } i fun _ => {}) (getEntry s i).ch

/-- A tracked cell at an occasion that is due (R210). -/
def Tracks (s : State) (i : Nat) : Prop :=
  finderOn s ((getEntry s i).ch / 16) = true ∧ (getEntry s i).valid = true ∧ i ∈ trackedCells s ((getEntry s i).ch / 16) ∧
    ((getEntry s i).occAt = 0 ∨ (getEntry s i).occAt + 20 * 32000000 ≤ s.time)

section

variable {s : State} {i : Nat}

theorem Tracks.guard (h : Tracks s i) : (!finderOn s ((getEntry s i).ch / 16) || !(getEntry s i).valid ||
    !(trackedCells s ((getEntry s i).ch / 16)).contains i || ((getEntry s i).occAt != 0 && !elapsedMs s (getEntry s i).occAt 20)) = false := by
  obtain ⟨hon, hvalid, htracked, hfirst | hdue⟩ := h
  · simp [hon, hvalid, htracked, hfirst]
  · simp [hon, hvalid, htracked, elapsedMs_of_le hdue]

theorem exec_trackingMeasurement_bad (h : Tracks s i) : exec (.trackingMeasurement i none true) s = .next (entryDiscarded s i) := by
  change execTrackingMeasurement i none true s = _
  rw [execTrackingMeasurement, if_neg (by rw [h.guard]; exact Bool.false_ne_true)]
  rfl

/-- What an occasion comes to whose Ledger word is good. -/
def occasionOutcome (s : State) (i : Nat) (meas : Option CellMeas) : Host.Outcome State Fault Refusal :=
  match meas, hearingSide s (getEntry s i) with
  | some c, some g =>
    if !rxValid s (getEntry s i).ch || !hasUsable s g then .next (missedOccasion (occasion s i) i) else .next (trackingMeasured s i g c)
  | _, _ => .next (missedOccasion (occasion s i) i)

theorem exec_trackingMeasurement (h : Tracks s i) (meas : Option CellMeas) :
    exec (.trackingMeasurement i meas false) s = occasionOutcome s i meas := by
  change execTrackingMeasurement i meas false s = _
  rw [execTrackingMeasurement, if_neg (by rw [h.guard]; exact Bool.false_ne_true)]
  rfl

/-- An occasion without a measurement, or without a usable sample of a side that hears the cell. -/
theorem occasionOutcome_missed {meas : Option CellMeas}
    (hmissed : meas = none ∨ hearingSide s (getEntry s i) = none ∨ rxValid s (getEntry s i).ch = false ∨
      ∀ g, hearingSide s (getEntry s i) = some g → hasUsable s g = false) :
    occasionOutcome s i meas = .next (missedOccasion (occasion s i) i) := by
  unfold occasionOutcome
  split
  · next c g hside =>
    have hlost : (!rxValid s (getEntry s i).ch || !hasUsable s g) = true := by
      rcases hmissed with hnone | hnone | hinvalid | hunusable
      · cases hnone
      · rw [hside] at hnone; cases hnone
      · simp [hinvalid]
      · simp [hunusable g hside]
    rw [if_pos hlost]
  · rfl

theorem occasionOutcome_heard {g : Nat} (hside : hearingSide s (getEntry s i) = some g) (hvalid : rxValid s (getEntry s i).ch = true)
    (husable : hasUsable s g = true) (c : CellMeas) : occasionOutcome s i (some c) = .next (trackingMeasured s i g c) := by
  simp [occasionOutcome, hside, hvalid, husable]

/-! #### What each comes to -/

theorem occasion_entry (s : State) (i : Nat) : EntryBecomes s (occasion s i) i (occasionNoted s.time (getEntry s i)) :=
  entryBecomes_of_modEntry rfl

theorem missedOccasion_entry (s : State) (i : Nat) :
    EntryBecomes s (missedOccasion (occasion s i) i) i (occasionNoted s.time (getEntry s i)) :=
  entryBecomes_of_modEntry (by simp [missedOccasion, occasion])

theorem missedOccasion_keeps (s : State) (i : Nat) : missedOccasion (occasion s i) i = { s with
    gains := (missedOccasion (occasion s i) i).gains, prot := (missedOccasion (occasion s i) i).prot
    tally := (missedOccasion (occasion s i) i).tally } := by
  apply state_ext <;> simp [missedOccasion, occasion]

/-- A number written does not bring another into the table. -/
theorem mem_smMod {α : Type} [DecidableEq α] {d : α} {m : SMap α} {k : Nat} {f : α → α} {e : Nat × α} (h : e ∈ smMod d m k f) :
    e.1 = k ∨ e ∈ m := by
  unfold smMod smSet at h
  split at h
  · exact .inr (List.mem_filter.1 h).1
  · rcases mem_smInsert h with rfl | h
    · exact .inl rfl
    · exact .inr (List.mem_filter.1 h).1

theorem tddEpoch_ledger (s : State) (k pos : Nat) : (tddEpoch s k pos).prot.ledger = s.prot.ledger := by
  rw [(tddEpoch_onlyGroup s k pos).prot]

/-- The side that hears a cell is one of its channel. -/
theorem hearingSide_chan {e : LedgerEntry} {g : Nat} (h : hearingSide s e = some g) : g / 8 = e.ch := by
  have := List.find?_some h
  simp only [Bool.and_eq_true, beq_iff_eq] at this
  exact this.1.1

/-- A tracked cell's measurement moves its entry, and no other (R213). -/
theorem trackingMeasured_entry {g : Nat} {c : CellMeas} (hvalid : (getEntry s i).valid = true) (hside : hearingSide s (getEntry s i) = some g)
    (honly : ∀ x, x ∈ s.prot.ledger → x.2.valid = true → x.2.ch = (getEntry s i).ch → x.2.rat = (getEntry s i).rat →
      x.2.pci = (getEntry s i).pci → x.2.freq = (getEntry s i).freq → x.1 = i) :
    EntryBecomes s (trackingMeasured s i g c) i (remeasured s g (ofEntry c (getEntry s i)) (occasionNoted s.time (getEntry s i))) := by
  intro k
  have hchan := hearingSide_chan hside
  have hself := (occasion_entry s i).self
  have hkey : cellKey (g / 8) (ofEntry c (getEntry s i)) (getEntry (occasion s i) i) = true := by
    simp [hself, cellKey, ofEntry, occasionNoted, hvalid, hchan]
  have honly' : ∀ x ∈ (occasion s i).prot.ledger, cellKey (g / 8) (ofEntry c (getEntry s i)) x.2 = true → x.1 = i := fun x hx hk => by
    rcases mem_smMod hx with h | h
    · exact h
    · simp only [cellKey, ofEntry, hchan, Bool.and_eq_true, beq_iff_eq] at hk
      obtain ⟨⟨⟨⟨hv, hch⟩, hrat⟩, hpci⟩, hfreq⟩ := hk
      exact honly x h hv hch hrat hpci hfreq
  have hprot : (cellTracked s i g c).prot = (detection g (occasion s i) (ofEntry c (getEntry s i))).prot := by simp [cellTracked]
  have hledger : (trackingMeasured s i g c).prot.ledger = (modEntry (occasion s i) i (remeasured s g (ofEntry c (getEntry s i)))).prot.ledger :=
    (forEach_keep (fun u => u.prot.ledger) _ _ (fun u k => tddEpoch_ledger u k _) _).trans
      (congrArg Protect.ledger (hprot.trans (detection_known hkey honly')))
  rw [getEntry_congr hledger, getEntry_modEntry, hself]
  split
  · rfl
  · next hk => exact (occasion_entry s i).others k hk

theorem trackingMeasured_onlyProtection (s : State) (i g : Nat) (c : CellMeas) : OnlyProtection s (trackingMeasured s i g c) := by
  apply state_ext <;> simp [trackingMeasured, cellTracked, occasion]

theorem entryDiscarded_prot (s : State) (i : Nat) : (entryDiscarded s i).prot =
    { (modEntry s i fun _ => {}).prot with parityDiscards := inc32 s.prot.parityDiscards } := by
  simp [entryDiscarded, modEntry]

theorem entryDiscarded_entry (s : State) (i : Nat) : EntryBecomes s (entryDiscarded s i) i {} :=
  entryBecomes_of_modEntry (f := fun _ => {}) (by rw [entryDiscarded_prot])

theorem entryDiscarded_flt (s : State) (i : Nat) : (entryDiscarded s i).flt = { s.flt with parity := smMod 0 s.flt.parity 7 inc32 } := by
  simp [entryDiscarded, parityFailure]

theorem entryDiscarded_keeps (s : State) (i : Nat) : entryDiscarded s i = { s with
    gains := (entryDiscarded s i).gains, prot := (entryDiscarded s i).prot, flt := (entryDiscarded s i).flt
    tally := (entryDiscarded s i).tally } := by
  apply state_ext <;> simp [entryDiscarded]

end

end Sys2Proof.Machine

namespace Sys2Proof.Machine

/-! ### Commands to the Ledger (R215) -/

/-- A write to a write-only object of 0x7082 whose rule changes the Ledger alone is carried out and answered (Table 2.5). -/
theorem commandValue_ledger {s : State} {m sub v status : Nat} {o : Obj} {ledger : SMap LedgerEntry} (hm : mayWrite s m = true)
    (hobj : lookup 0x7082 sub = (0, some o)) (hacc : o.acc = .wo) (hlen : lengthOk o o.typ.len = true) (hv : v < 256 ^ o.typ.len)
    (hok : o.ok (o.typ.toInt v) = true)
    (hwrite : ∀ commit, writeGovernor { s with commit } 0x7082 sub v = (status, { s with commit, prot := { s.prot with ledger } })) :
    ∃ t, commandValue s m 0x7082 sub v = t ∧ t.prot.ledger = ledger ∧ answered t m 0x7082 sub status ∧
      t = { s with prot := { s.prot with ledger := t.prot.ledger }, commit := t.commit, olp := t.olp, out := t.out } ∧ OnlyNotes s t := by
  let u := touch s m 0x7082
  let w : State := { s with commit := { s.commit with lockAt := u.commit.lockAt }, prot := { s.prot with ledger } }
  have hu : u = { s with commit := { s.commit with lockAt := u.commit.lockAt } } := touch_eq (by decide)
  obtain ⟨⟨⟨hsup, hm8⟩, _⟩, _⟩ : ((s.life.sup = true ∧ m < 8) ∧ s.nv.lifecycle ≠ 3) ∧ openPower s.life.power = true := by
    simpa only [mayWrite, Bool.and_eq_true, decide_eq_true_eq, bne_iff_ne] using hm
  have hmay : mayWrite u m = true := by simpa [mayWrite, u] using hm
  have hbytes : numberBytes o.typ.len v = beBytes o.typ.len v := if_pos hv
  have hval : ofBytes (beBytes o.typ.len v) = v := by rw [ofBytes_beBytes, Nat.mod_eq_of_lt hv]
  have htest : writeTest u m 0x7082 sub (beBytes o.typ.len v) = 0 :=
    writeTest_of_mayWrite hmay hobj (by rwa [length_beBytes]) (by simp [hacc, Acc.writes]) (by simp [hacc]) (by rwa [hval])
  have hown : ownWrite u m 0x7082 sub o (beBytes o.typ.len v) = (status, w) := by
    rw [ownWrite, hval, if_neg (by simp [hacc]), if_neg (by decide), if_neg (by decide), if_neg (by decide), if_neg (by decide),
      hu, hwrite]
  have hexec : commandValue s m 0x7082 sub v = answer (noteChanges w) m 2 0x7082 sub status [] := by
    rw [commandValue, hobj]
    simp only [hbytes]
    rw [commandWrite_eq hsup hobj htest (by decide), hown]
  refine ⟨_, hexec, by simp [w], answered_answer hm8, ?_, onlyNotes_of_olp (u := w) (by simp [w]) (by simp)⟩
  rw [answer_noteChanges_eq w m 0x7082 sub status]

/-- A write that leaves the Ledger as it was leaves protection as it was. -/
theorem prot_of_ledger {s t : State} (h : t.prot.ledger = s.prot.ledger)
    (hframe : t = { s with prot := { s.prot with ledger := t.prot.ledger }, commit := t.commit, olp := t.olp, out := t.out }) :
    t = { s with commit := t.commit, olp := t.olp, out := t.out } := by
  rw [h] at hframe
  exact hframe

section

variable {s : State} {i : Nat}

theorem pinEntry_pins (hvalid : (getEntry s i).valid = true) (hroom : (pinnedEntries s).length < 4096) :
    pinEntry s i = (0, modEntry s i fun e => { e with pinned := true }) := by
  rw [pinEntry, if_neg (by simp [hvalid]), if_neg (by simp [hroom])]

theorem pinEntry_refused (h : (getEntry s i).valid = false ∨ ((getEntry s i).pinned = false ∧ 4096 ≤ (pinnedEntries s).length)) :
    pinEntry s i = (0x05, s) := by
  unfold pinEntry
  split
  · rfl
  · next hvalid =>
    obtain ⟨hpin, hfull⟩ := h.resolve_left (by simpa using hvalid)
    rw [if_pos (by simp [hpin, hfull])]

/-- An entry without its pin, where it is valid. -/
def unpinned (e : LedgerEntry) : LedgerEntry := { e with pinned := e.pinned && !e.valid }

theorem unpinned_of_valid {e : LedgerEntry} (h : e.valid = true) : unpinned e = { e with pinned := false } := by
  simp [unpinned, h]

theorem unpinned_of_invalid {e : LedgerEntry} (h : e.valid = false) : unpinned e = e := by
  cases e
  simp_all [unpinned]

/-- The Ledger with an entry's pin removed. -/
def unpinnedLedger (ledger : SMap LedgerEntry) (i : Nat) : SMap LedgerEntry :=
  if (smGet {} ledger i).valid then smMod {} ledger i fun e => { e with pinned := false } else ledger

theorem smGet_unpinnedLedger (ledger : SMap LedgerEntry) (i k : Nat) :
    smGet {} (unpinnedLedger ledger i) k = if k = i then unpinned (smGet {} ledger i) else smGet {} ledger k := by
  unfold unpinnedLedger
  split
  · next h => rw [smGet_smMod, unpinned_of_valid h]
  · next h =>
    split
    · next hk => rw [hk, unpinned_of_invalid (by simpa using h)]
    · rfl

theorem unpinEntry_eq (s : State) (i : Nat) :
    unpinEntry s i = { s with prot := { s.prot with ledger := unpinnedLedger s.prot.ledger i } } := by
  unfold unpinEntry unpinnedLedger getEntry
  split <;> rfl

variable {m : Nat}

/-- A pin that is refused leaves protection as it was. -/
theorem exec_ledgerPin_refused (hm : mayWrite s m = true) (hi : i < 65536)
    (h : (getEntry s i).valid = false ∨ ((getEntry s i).pinned = false ∧ 4096 ≤ (pinnedEntries s).length)) :
    ∃ t, exec (.ledgerPin m i) s = .next t ∧ answered t m 0x7082 3 0x05 ∧ t = { s with commit := t.commit, olp := t.olp, out := t.out } ∧
      OnlyNotes s t := by
  obtain ⟨t, hexec, hledger, hanswer, hframe, hnotes⟩ := commandValue_ledger hm (sub := 3) (v := i) (o := plain .u16 .wo) rfl rfl rfl hi rfl
    (ledger := s.prot.ledger) fun commit => pinEntry_refused (s := { s with commit }) h
  exact ⟨t, congrArg _ hexec, hanswer, prot_of_ledger hledger hframe, hnotes⟩

theorem exec_ledgerPin_pins (hm : mayWrite s m = true) (hi : i < 65536) (hvalid : (getEntry s i).valid = true)
    (hroom : (pinnedEntries s).length < 4096) : ∃ t, exec (.ledgerPin m i) s = .next t ∧
      EntryBecomes s t i { getEntry s i with pinned := true } ∧ answered t m 0x7082 3 0 ∧
      t = { s with prot := { s.prot with ledger := t.prot.ledger }, commit := t.commit, olp := t.olp, out := t.out } ∧ OnlyNotes s t := by
  obtain ⟨t, hexec, hledger, hanswer, hframe, hnotes⟩ := commandValue_ledger hm (sub := 3) (v := i) (o := plain .u16 .wo) rfl rfl rfl hi rfl
    (ledger := (modEntry s i fun e => { e with pinned := true }).prot.ledger) fun commit => pinEntry_pins (s := { s with commit }) hvalid hroom
  exact ⟨t, congrArg _ hexec, entryBecomes_of_modEntry hledger, hanswer, hframe, hnotes⟩

theorem exec_ledgerUnpin (hm : mayWrite s m = true) (hi : i < 65536) : ∃ t, exec (.ledgerUnpin m i) s = .next t ∧
    EntryBecomes s t i (unpinned (getEntry s i)) ∧ answered t m 0x7082 4 0 ∧
    t = { s with prot := { s.prot with ledger := t.prot.ledger }, commit := t.commit, olp := t.olp, out := t.out } ∧ OnlyNotes s t := by
  obtain ⟨t, hexec, hledger, hanswer, hframe, hnotes⟩ := commandValue_ledger hm (sub := 4) (v := i) (o := plain .u16 .wo) rfl rfl rfl hi rfl
    (ledger := unpinnedLedger s.prot.ledger i) fun commit => congrArg (Prod.mk 0) (unpinEntry_eq { s with commit } i)
  exact ⟨t, congrArg _ hexec, fun k => by rw [getEntry, hledger, smGet_unpinnedLedger]; rfl, hanswer, hframe, hnotes⟩

theorem exec_ledgerClear (hm : mayWrite s m = true) : ∃ t, exec (.ledgerClear m 1) s = .next t ∧
    (∀ x, x ∈ t.prot.ledger ↔ x ∈ s.prot.ledger ∧ (x.2.pinned = true ∨ x.1 ∈ servingEntries s)) ∧ answered t m 0x7082 5 0 ∧
    t = { s with prot := { s.prot with ledger := t.prot.ledger }, commit := t.commit, olp := t.olp, out := t.out } ∧ OnlyNotes s t := by
  obtain ⟨t, hexec, hledger, hanswer, hframe, hnotes⟩ := commandValue_ledger hm (sub := 5) (v := 1) (o := ranged .u8 .wo 0 1 1) rfl rfl rfl
    (by decide) rfl (ledger := (clearLedger s).prot.ledger) fun _ => rfl
  exact ⟨t, congrArg _ hexec, fun x => by rw [hledger]; simp [clearLedger], hanswer, hframe, hnotes⟩

end

/-! ### A failed Cell Finder (R231) -/

/-- The uplink donor sides that the loss of a rod's Cell Finder mutes (Table 9.5). -/
theorem finderLost_mutes {s : State} {r st g : Nat} (hg : g ∈ uplinkDonors s.objs) (hrod : servingSide s.objs g / 128 = r)
    (hmute : lastKnown s (servingSide s.objs g) = false) :
    (getGain (finderLost s r st) g).donorLoss = true ∧ hasMute (finderLost s r st) (.donorLoss g) = true := by
  let Q (u : State) : Prop := (getGain u g).donorLoss = true ∧ hasMute u (.donorLoss g) = true
  have hturn (u : State) : Q (enterLoss u g) := ⟨by rw [getGain_enterLoss, if_pos rfl], hasMute_enterLoss u g⟩
  refine forEach_brings (P := Q) (x := g) (List.mem_filter.2 ⟨hg, ?_⟩) hturn (fun u k hu => ?_) _
  · have hknown : lastKnown (modRod s r fun x => { x with finder := st, fallback := true, visited := [], dwellUsable := false })
        (servingSide s.objs g) = false := hmute
    simp [hrod, hknown]
  · by_cases h : g = k
    · exact h ▸ hturn u
    · simpa only [Q, getGain_enterLoss, if_neg h, hasMute_enterLoss_ne u h] using hu

theorem finderLost_rods (s : State) (r st : Nat) : (finderLost s r st).rods =
    (modRod s r fun x => { x with finder := st, fallback := true, visited := [], dwellUsable := false }).rods := by
  simp [finderLost, enterLoss]

theorem finderLost_keeps (s : State) (r st : Nat) : finderLost s r st = { s with
    rods := (finderLost s r st).rods, gains := (finderLost s r st).gains, chans := (finderLost s r st).chans
    buses := (finderLost s r st).buses, mutes := (finderLost s r st).mutes, prot := (finderLost s r st).prot
    tally := (finderLost s r st).tally, out := (finderLost s r st).out } := by
  apply state_ext <;> simp [finderLost, enterLoss]

theorem exec_cellFinderFailure {s : State} {r : Nat} (hr : r < 6) (hoff : s.life.power ≠ .off) (hworks : (getRod s r).finder ≠ 3) :
    exec (.cellFinderFailure r) s = .next (finderLost s r 3) := if_neg (by simp [hoff, hworks, Nat.not_le.2 hr])

/-! ### The obligation of the Cell Ledger -/

/-- Settles O58: each command changes the Ledger by one entry, whose fields are those of the measurement, and the rest follows from what
the operations behind it leave. -/
theorem cellLedger : Obligations.CellLedger := by
  intro s
  refine ⟨fun r g cells hr hon hturn hdwell => ⟨?_, ?_, fun offset => ?_⟩, fun i c => ?_, fun m i hm hi => ⟨fun hvalid hroom => ?_,
    fun hvalid hpin hfull => ?_, fun hvalid => ?_, ?_, ?_⟩, fun r hr hoff hworks => ?_⟩
  · -- a search ends
    obtain ⟨hlast, hfinder, hat⟩ := getRod_searchEnded s r g cells
    exact ⟨_, exec_searchDwellComplete hon hturn hdwell cells, hlast, hfinder, hat, searchEnded_prot_of_none,
      fun r' h => getRod_searchEnded_ne s h g cells, searchEnded_keeps s r g cells⟩
  · -- and detects one cell
    intro husable hsorted c hone key m seen fresh
    have hexec := exec_searchDwellComplete hon hturn hdwell cells
    have hframe := searchEnded_keeps s r g cells
    have hnew {i : Nat} {old : Bool} (hnone : ∀ x, x ∈ s.prot.ledger → key x.2 = false) (hnew : newEntry s = some (i, old)) :
        fresh (searchEnded s r g cells) i ∧ (searchEnded s r g cells).prot.replaced = if old then inc32 s.prot.replaced else s.prot.replaced := by
      obtain ⟨hentry, hreplaced⟩ := searchEnded_new husable hone hnone hnew
      refine ⟨?_, hreplaced⟩
      simp only [fresh, seen, hentry.self]
      exact ⟨⟨rfl, rfl, rfl, rfl, rfl, rfl, rfl, cellKey_firstSeen s g c, rfl, hentry.others, hframe⟩, rfl, rfl, rfl⟩
    refine ⟨fun i hkey honly => ?_, fun hnone => ⟨fun i hi hfree hbelow => ?_, fun i hfull hi hbound hpin hserving holdest => ?_⟩⟩
    · obtain ⟨hentry, hreplaced⟩ := searchEnded_known husable hone hkey honly
      refine ⟨_, hexec, ?_⟩
      simp only [seen, hentry.self]
      exact ⟨⟨rfl, rfl, rfl, rfl, rfl, rfl, rfl, hkey, rfl, hentry.others, hframe⟩, rfl, rfl, rfl, hreplaced⟩
    · obtain ⟨hfresh, hreplaced⟩ := hnew hnone (newEntry_free hsorted hi hfree hbelow)
      exact ⟨_, hexec, hfresh, hreplaced⟩
    · obtain ⟨hfresh, hreplaced⟩ := hnew hnone (newEntry_oldest hsorted hfull hbound hi hpin hserving holdest)
      exact ⟨_, hexec, hfresh, hreplaced⟩
  · -- and is repeated on bad parity
    refine ⟨_, exec_searchDwellComplete_bad hon hturn hdwell cells offset, getRod_searchRepeated s r offset,
      fun r' h => getRod_searchRepeated_ne s h offset, ?_, ?_⟩
    · simp [searchRepeated, parityFailure]
    · apply state_ext <;> simp [searchRepeated]
  · -- an occasion of a tracked cell
    intro e hon hvalid htracked hdue
    have htracks : Tracks s i := ⟨hon, hvalid, htracked, hdue⟩
    refine ⟨?_, fun meas hmissed => ?_, fun g hside hrx husable honly => ?_⟩
    · have hentry := entryDiscarded_entry s i
      exact ⟨_, exec_trackingMeasurement_bad htracks, hentry.self, by rw [entryDiscarded_prot], hentry.others, by simp [entryDiscarded_flt],
        entryDiscarded_keeps s i⟩
    · have hentry := missedOccasion_entry s i
      exact ⟨_, (exec_trackingMeasurement htracks meas).trans (occasionOutcome_missed hmissed), hentry.self, hentry.others,
        missedOccasion_keeps s i⟩
    · have hentry := trackingMeasured_entry (c := c) hvalid hside honly
      refine ⟨_, (exec_trackingMeasurement htracks _).trans (occasionOutcome_heard hside hrx husable c), ?_⟩
      simp only [hentry.self]
      exact ⟨rfl, rfl, rfl, rfl, rfl, rfl, rfl, hentry.others, trackingMeasured_onlyProtection s i g c⟩
  · -- pins, removed pins and the clear
    obtain ⟨t, hexec, hentry, hrest⟩ := exec_ledgerPin_pins hm hi hvalid hroom
    exact ⟨t, hexec, hentry.self, hentry.others, hrest⟩
  · exact exec_ledgerPin_refused hm hi (.inr ⟨hpin, hfull⟩)
  · exact exec_ledgerPin_refused hm hi (.inl hvalid)
  · obtain ⟨t, hexec, hentry, hrest⟩ := exec_ledgerUnpin hm hi
    exact ⟨t, hexec, by rw [hentry.self, unpinned], hentry.others, hrest⟩
  · exact exec_ledgerClear hm
  · -- a Cell Finder fails
    have hself : getRod (finderLost s r 3) r = { getRod s r with finder := 3, fallback := true, visited := [], dwellUsable := false } := by
      rw [getRod_congr (finderLost_rods s r 3), getRod_modRod]
    refine ⟨_, exec_cellFinderFailure hr hoff hworks, by rw [hself], by rw [hself], fun g hg hrod hmute => finderLost_mutes hg hrod hmute,
      fun r' h => ?_, finderLost_keeps s r 3⟩
    rw [getRod_congr (finderLost_rods s r 3), getRod_modRod_ne _ _ _ _ h]

end Sys2Proof.Machine

namespace Sys2Proof.Machine

/-! ### Radio control moves a channel (R236–R238) -/

/-- A channel's radio but for what its way to a target and an interruption change. -/
def RadioCh.steady (x : RadioCh) : RadioCh := { x with
  trans := none, go := none, plan := 0, known := false, callOff := false, txEnable := false, highAt := none, held := none, lastCmd := 0
  issued := [], lastInterrupt := 0 }

/-- The same of the whole channel: a fallen TXEN spoils its return-loss measurement. -/
def Chan.steady (c : Chan) : Chan := { c with radio := c.radio.steady, mis := { c.mis with winOk := false } }

/-- Radio control has moved channels of `P` only, and nothing of them that is steady. -/
structure Drives (P : Nat → Prop) (s t : State) : Prop where
  others : ∀ c, ¬ P c → getChan t c = getChan s c
  steady : ∀ c, (getChan t c).steady = (getChan s c).steady

/-- What TXEN depends on besides the channel is as it was. -/
def GatesKept (s t : State) : Prop := t.sent = s.sent ∧ t.pins = s.pins ∧ t.life = s.life

theorem getChan_congr {s t : State} (h : t.chans = s.chans) (c : Nat) : getChan t c = getChan s c := by rw [getChan, getChan, h]

theorem txen_congr {s t : State} {c : Nat} (hchan : getChan t c = getChan s c) (hgates : GatesKept s t) : txen t c = txen s c := by
  obtain ⟨hsent, hpins, hlife⟩ := hgates
  simp only [txen, gateOpen, resetTerm, hchan, hsent, hpins, hlife]

/-- A channel's radio whose transition is called off, the goal being `goal` (R236, R251). -/
def calledOff (goal : Radio) (x : RadioCh) : RadioCh := { x with
  trans := none, go := none, plan := if x.trans.any fun t => decide (goal.rank < t.rank) then 0 else x.plan
  txEnable := x.txEnable && x.st.transmits, callOff := x.callOff || (x.trans.any (·.transmits) && !x.st.transmits) }

theorem callOff_eq (s : State) (ch : Nat) (goal : Radio) : callOff s ch goal = txenFalls s (modRadio s ch (calledOff goal)) := rfl

namespace Drives

variable {P Q : Nat → Prop} {s t u : State}

theorem of_chans (h : t.chans = s.chans) : Drives P s t := ⟨fun c _ => getChan_congr h c, fun c => by rw [getChan_congr h c]⟩

theorem refl : Drives P s s := of_chans rfl

theorem trans (h : Drives P s t) (h' : Drives P t u) : Drives P s u :=
  ⟨fun c hc => (h'.others c hc).trans (h.others c hc), fun c => (h'.steady c).trans (h.steady c)⟩

theorem mono (h : Drives P s t) (hpq : ∀ c, P c → Q c) : Drives Q s t := ⟨fun c hc => h.others c fun hp => hc (hpq c hp), h.steady⟩

theorem forEach {α : Type} {xs : List α} {f : State → α → State} (h : ∀ u, ∀ x ∈ xs, Drives P u (f u x)) (s : State) :
    Drives P s (Machine.forEach xs s f) := by
  induction xs generalizing s with
  | nil => exact refl
  | cons x xs ih => exact (h s x List.mem_cons_self).trans (ih (fun u y hy => h u y (List.mem_cons_of_mem x hy)) _)

theorem ite {c : Prop} [Decidable c] (ht : Drives P s t) (hu : Drives P s u) : Drives P s (if c then t else u) := ite_holds ht hu

theorem modChan {ch : Nat} (hch : P ch) {f : Chan → Chan} (hf : ∀ c, (f c).steady = c.steady) : Drives P s (Machine.modChan s ch f) where
  others c hc := getChan_modChan_ne s ch c f fun h => hc (h ▸ hch)
  steady c := by
    by_cases h : c = ch
    · rw [h, getChan_modChan, hf]
    · rw [getChan_modChan_ne s ch c f h]

theorem modRadio {ch : Nat} (hch : P ch) {f : RadioCh → RadioCh} (hf : ∀ x, (f x).steady = x.steady) : Drives P s (Machine.modRadio s ch f) :=
  modChan hch fun c => by simp only [Chan.steady, hf]

/-- TXEN falls only where it was changed. -/
theorem txenFalls (h : ∀ c, ¬ P c → getChan t c = getChan s c) (hgates : GatesKept s t) : Drives P t (Machine.txenFalls s t) := by
  refine forEach (fun u c hc => ?_) t
  obtain ⟨hhigh, hlow⟩ : txen s c = true ∧ txen t c = false := by
    obtain ⟨hmem, hlow⟩ := List.mem_filter.1 hc
    exact ⟨(List.mem_filter.1 hmem).2, by simpa using hlow⟩
  have hP : P c := by
    by_contra hc
    rw [txen_congr (h c hc) hgates, hhigh] at hlow
    cases hlow
  exact modChan hP fun _ => by rfl

variable {ch : Nat} (hch : P ch)
include hch

theorem noteLate (s : State) : Drives P s (Machine.noteLate s ch) := by
  unfold Machine.noteLate
  exact ite (trans (modRadio hch (f := fun x => { x with go := none }) fun _ => rfl) (of_chans rfl)) refl

theorem beginLead (s : State) : Drives P s (Machine.beginLead s ch) := by
  unfold Machine.beginLead
  exact modRadio hch fun _ => rfl

theorem startTransition (s : State) (goal : Radio) : Drives P s (Machine.startTransition s ch goal) := by
  refine trans (trans (trans ?_ (modRadio hch fun _ => by rfl)) (beginLead hch _)) (noteLate hch _)
  exact of_chans (by simp)

theorem startDrop (s : State) (goal : Radio) (drop : Bool) : Drives P s (Machine.startDrop s ch goal drop) := by
  unfold Machine.startDrop
  exact trans (trans (modRadio hch (f := fun x => { x with known := false, plan := 0 }) fun _ => rfl) (startTransition hch _ goal))
    (modRadio hch fun _ => by rfl)

theorem callOff (s : State) (goal : Radio) : Drives P s (Machine.callOff s ch goal) :=
  have h := modRadio (s := s) hch (f := calledOff goal) fun _ => rfl
  h.trans (txenFalls h.others ⟨rfl, rfl, rfl⟩)

theorem stepRadio (s : State) (goal : Radio) : Drives P s (Machine.stepRadio s ch goal) := by
  unfold Machine.stepRadio
  refine ite (ite (modRadio hch fun _ => by rfl) refl) (ite (ite refl (modRadio hch fun _ => by rfl)) (ite refl ?_))
  exact startTransition hch s _

theorem driveRadio (s : State) : Drives P s (Machine.driveRadio s ch) := by
  unfold Machine.driveRadio
  split
  · exact ite ((callOff hch s _).trans (stepRadio hch _ _)) refl
  · exact stepRadio hch s _

theorem dropToSynth (s : State) : Drives P s (Machine.dropToSynth s ch) := by
  have hdrop (goal : Radio) : Drives P s (Machine.startDrop (Machine.callOff s ch goal) ch goal true) :=
    (callOff hch s goal).trans (startDrop hch _ goal true)
  unfold Machine.dropToSynth
  dsimp only
  have h := ite (c := (getChan s ch).radio.st.rank ≤ 2) (ite (c := ((getChan s ch).radio.trans.any fun t => decide (2 < t.rank)) = true)
    (hdrop (getChan s ch).radio.st) (modRadio (s := s) hch (f := fun x => { x with held := none }) fun _ => rfl)) (hdrop .synth)
  exact h.trans (txenFalls h.others ⟨by simp, by simp, by simp⟩)

theorem interrupt (s : State) : Drives P s (Machine.interrupt s ch) := by
  unfold Machine.interrupt
  exact ite ((dropToSynth hch s).trans (modRadio hch fun _ => by rfl)) (dropToSynth hch s)

end Drives

theorem driveAll_drives (s : State) (chs : List Nat) : Drives (· ∈ chs) s (driveAll s chs) :=
  Drives.forEach (fun u _ hc => Drives.driveRadio hc u) s

theorem recalDue_drives (s : State) (r : Nat) : Drives (fun _ => True) s (recalDue s r) := by
  unfold recalDue
  dsimp only
  refine Drives.ite .refl ?_
  split
  · split
    · exact .of_chans rfl
    · exact .refl
  · refine Drives.forEach (fun u n _ => .ite ?_ .refl) s
    exact (Drives.forEach (fun v _ _ => Drives.interrupt trivial v) u).trans (.of_chans rfl)

end Sys2Proof.Machine

namespace Sys2Proof.Machine

/-! ### RFFE buses (R251, R252) -/

theorem getBus_congr {s t : State} (h : t.buses = s.buses) (b : Nat) : getBus t b = getBus s b := by rw [getBus, getBus, h]

theorem getMis_congr {s t : State} (h : t.chans = s.chans) (c : Nat) : getMis t c = getMis s c := by rw [getMis, getMis, getChan_congr h]

theorem getBus_modBus_eq (s : State) (b c : Nat) (f : Bus → Bus) :
    getBus (modBus s b f) c = if c = b then f (getBus s b) else getBus s c := smGet_smMod ..

theorem getBus_emit_modBus (s : State) (b c : Nat) (f : Bus → Bus) (e : Emission) :
    getBus (emit (modBus s b f) e) c = if c = b then f (getBus s b) else getBus s c := getBus_modBus_eq s b c f

theorem busIssue_of_busy {s : State} {b : Nat} (h : (getBus s b).busy ≠ none) : busIssue s b = s :=
  if_pos (Option.isSome_iff_ne_none.2 h)

theorem busIssue_of_none {s : State} {b : Nat} (h : pickTxn (getBus s b).queue = none) : busIssue s b = s := by
  simp only [busIssue, h, ite_self]

theorem busIssue_of_some {s : State} {b : Nat} (hfree : (getBus s b).busy = none) {v : Txn} {rest : List Txn}
    (h : pickTxn (getBus s b).queue = some (v, rest)) :
    busIssue s b = emit (modBus s b fun x => { x with queue := rest, busy := some v }) (.rffe b v.usid v.cmd v.addr v.data) := by
  simp [busIssue, hfree, h]

theorem busIssue_frame (s : State) (b : Nat) : busIssue s b = { s with buses := (busIssue s b).buses, out := (busIssue s b).out } := by
  apply state_ext <;> simp only [busIssue_keeps]

/-- Issuing the next transaction concerns one bus. -/
theorem getBus_busIssue_ne (s : State) {b c : Nat} (h : c ≠ b) : getBus (busIssue s b) c = getBus s c := by
  unfold busIssue
  dsimp only
  split
  · rfl
  · split
    · rfl
    · exact (getBus_emit_modBus ..).trans (if_neg h)

/-- Transactions put on a channel's bus are taken by it. -/
theorem busQueue_takes (s : State) (ch : Nat) (ts : List Txn) : BusTakes s (busQueue s ch ts) (ch / 4) ts [] := by
  have hall (c : Nat) (hc : c ≠ ch / 4) : getBus (busQueue s ch ts) c = getBus s c := by
    unfold busQueue
    split
    · rfl
    · exact (getBus_busIssue_ne _ hc).trans ((getBus_modBus_eq ..).trans (if_neg hc))
  refine ⟨hall, fun hts => by simp [busQueue, hts], fun hts hbusy => ?_, fun hts hfree v rest hpick => ?_⟩
  all_goals rw [busQueue, if_neg (by simpa using hts)]
  · rw [busIssue_of_busy (by rwa [getBus_modBus_eq, if_pos rfl])]
    exact ⟨(getBus_modBus_eq ..).trans (if_pos rfl), by simp⟩
  · rw [busIssue_of_some (v := v) (rest := rest) (by rwa [getBus_modBus_eq, if_pos rfl]) (by rwa [getBus_modBus_eq, if_pos rfl])]
    refine ⟨?_, by simp [emit]⟩
    rw [getBus_emit_modBus, if_pos rfl, getBus_modBus_eq, if_pos rfl]

/-- What a bus takes depends on buses, time and what has left the device alone. -/
theorem BusTakes.congr {s t u w : State} {b : Nat} {ts : List Txn} {more : List Emission} (h : BusTakes u w b ts [])
    (hbuses : u.buses = s.buses) (htime : u.time = s.time) (hout : u.out = s.out) (hbuses' : t.buses = w.buses)
    (hout' : t.out = w.out ++ more) : BusTakes s t b ts more := by
  obtain ⟨hall, hnone, hbusy, hfree⟩ := h
  simp only [BusTakes, getBus_congr hbuses', hout', ← hout, ← htime, ← getBus_congr hbuses]
  refine ⟨hall, fun hts => ?_, fun hts hb => ?_, fun hts hf v rest hpick => ?_⟩
  · obtain ⟨hbus, ho⟩ := hnone hts
    exact ⟨hbus, by rw [ho, List.append_nil]⟩
  · obtain ⟨hbus, ho⟩ := hbusy hts hb
    exact ⟨hbus, by rw [ho, List.append_nil]⟩
  · obtain ⟨hbus, ho⟩ := hfree hts hf v rest hpick
    exact ⟨hbus, by rw [ho, List.append_nil]⟩

/-! #### The transaction that goes first (R252) -/

/-- The order within a class: the older first, of one instant the lower channel's. -/
def NotAfter (v x : Txn) : Prop := v.at_ < x.at_ ∨ (v.at_ = x.at_ ∧ v.ch ≤ x.ch)

/-- The transaction that goes before the others so far, once `t` is seen. -/
def firstOf (b : Option Txn) (t : Txn) : Option Txn :=
  match b with
  | none => some t
  | some x => if t.at_ < x.at_ ∨ (t.at_ = x.at_ ∧ t.ch < x.ch) then some t else b

theorem oldestOf_eq (q : List Txn) (cls : Nat) : oldestOf q cls = (q.filter fun t => t.cls == cls).foldl firstOf none := rfl

/-- A search from `x` on ends in the one of them all that goes first. -/
theorem foldl_firstOf (q : List Txn) (x : Txn) : ∃ v, q.foldl firstOf (some x) = some v ∧ v ∈ x :: q ∧ ∀ y ∈ x :: q, NotAfter v y := by
  induction q generalizing x with
  | nil => exact ⟨x, rfl, List.mem_singleton_self x, fun y hy => by rw [List.mem_singleton.1 hy]; exact .inr ⟨rfl, le_rfl⟩⟩
  | cons t q ih =>
    rw [List.foldl_cons, firstOf]
    split
    · next ht =>
      obtain ⟨v, hv, hmem, hfirst⟩ := ih t
      refine ⟨v, hv, List.mem_cons_of_mem x hmem, fun y hy => ?_⟩
      rcases List.mem_cons.1 hy with rfl | hy
      · have := hfirst t List.mem_cons_self
        unfold NotAfter at this ⊢
        omega
      · exact hfirst y hy
    · next ht =>
      obtain ⟨v, hv, hmem, hfirst⟩ := ih x
      have hx := hfirst x List.mem_cons_self
      refine ⟨v, hv, ?_, fun y hy => ?_⟩
      · rcases List.mem_cons.1 hmem with h | h
        · exact h ▸ List.mem_cons_self
        · exact List.mem_cons_of_mem x (List.mem_cons_of_mem t h)
      · rcases List.mem_cons.1 hy with rfl | hy
        · exact hx
        · rcases List.mem_cons.1 hy with rfl | hy
          · unfold NotAfter at hx ⊢
            omega
          · exact hfirst y (List.mem_cons_of_mem x hy)

theorem oldestOf_none {q : List Txn} {cls : Nat} (h : oldestOf q cls = none) : ∀ x ∈ q, x.cls ≠ cls := by
  intro x hx hcls
  have hmem : x ∈ q.filter fun t => t.cls == cls := List.mem_filter.2 ⟨hx, by simp [hcls]⟩
  rw [oldestOf_eq] at h
  cases hq : q.filter fun t => t.cls == cls with
  | nil => rw [hq] at hmem; cases hmem
  | cons y q' =>
    obtain ⟨v, hv, -⟩ := foldl_firstOf q' y
    rw [hq, List.foldl_cons, firstOf, hv] at h
    cases h

theorem oldestOf_some {q : List Txn} {cls : Nat} {v : Txn} (h : oldestOf q cls = some v) :
    v ∈ q ∧ v.cls = cls ∧ ∀ x ∈ q, x.cls = cls → NotAfter v x := by
  have hfilter (x : Txn) : (x ∈ q.filter fun t => t.cls == cls) ↔ x ∈ q ∧ x.cls = cls := by simp
  rw [oldestOf_eq] at h
  cases hq : q.filter fun t => t.cls == cls with
  | nil => rw [hq] at h; cases h
  | cons y q' =>
    obtain ⟨w, hw, hmem, hfirst⟩ := foldl_firstOf q' y
    rw [hq, List.foldl_cons, firstOf, hw, Option.some.injEq] at h
    subst h
    rw [← hq, hfilter] at hmem
    exact ⟨hmem.1, hmem.2, fun x hx hcls => hfirst x (by rw [← hq, hfilter]; exact ⟨hx, hcls⟩)⟩

/-- A search through the numbers below `n` finds at the lowest that has anything. -/
theorem findSome?_range {α : Type} {f : Nat → Option α} {n : Nat} {v : α} (h : (List.range n).findSome? f = some v) :
    ∃ a, f a = some v ∧ ∀ c, c < a → f c = none := by
  induction n with
  | zero => cases h
  | succ n ih =>
    rw [List.range_succ, List.findSome?_append, Option.or_eq_some_iff] at h
    rcases h with h | ⟨hnone, h⟩
    · exact ih h
    · refine ⟨n, by simpa using h, fun c hc => ?_⟩
      exact List.findSome?_eq_none_iff.1 hnone c (List.mem_range.2 hc)

/-- The transaction a bus issues next, and what is left (R252). -/
theorem pickTxn_spec {q rest : List Txn} {v : Txn} (h : pickTxn q = some (v, rest)) :
    v ∈ q ∧ rest = q.erase v ∧ ((∃ x, x ∈ q ∧ x.closing = true) → v.closing = true) ∧
      ((∀ x, x ∈ q → x.closing = false) → ∀ x, x ∈ q → x.cls < 4 → v.cls < x.cls ∨ (v.cls = x.cls ∧ NotAfter v x)) := by
  unfold pickTxn at h
  dsimp only at h
  split at h
  · next t hclosing =>
    obtain ⟨rfl, rfl⟩ : t = v ∧ q.erase t = rest := by simpa using h
    have hmem := List.mem_of_find?_eq_some hclosing
    have hv : t.closing = true := List.find?_some hclosing
    exact ⟨hmem, rfl, fun _ => hv, fun hall => by rw [hall t hmem] at hv; cases hv⟩
  · next hclosing =>
    obtain ⟨t, hbest, heq⟩ := Option.map_eq_some_iff.1 h
    obtain ⟨rfl, rfl⟩ : t = v ∧ q.erase t = rest := by simpa using heq
    obtain ⟨a, ha, hlower⟩ := findSome?_range hbest
    obtain ⟨hmem, hcls, hfirst⟩ := oldestOf_some ha
    refine ⟨hmem, rfl, fun ⟨x, hx, hx'⟩ => absurd hx' (List.find?_eq_none.1 hclosing x hx), fun _ x hx _ => ?_⟩
    rcases Nat.lt_trichotomy a x.cls with hlt | heq | hgt
    · exact .inl (hcls ▸ hlt)
    · exact .inr ⟨hcls.trans heq, hfirst x hx heq.symm⟩
    · exact absurd rfl (oldestOf_none (hlower x.cls hgt) x hx)

/-! #### A completed transaction (R253, R254, R259) -/

@[simp] theorem getMis_modMis (s : State) (ch : Nat) (f : Mismatch → Mismatch) : getMis (modMis s ch f) ch = f (getMis s ch) :=
  congrArg Chan.mis (getChan_modMis ..)

theorem getMis_modMis_ne (s : State) {ch c : Nat} (h : c ≠ ch) (f : Mismatch → Mismatch) : getMis (modMis s ch f) c = getMis s c :=
  congrArg Chan.mis (getChan_modMis_ne _ _ _ _ h)

@[simp] theorem getMis_modRadio (s : State) (ch c : Nat) (f : RadioCh → RadioCh) : getMis (modRadio s ch f) c = getMis s c := by
  by_cases h : c = ch
  · subst h
    exact (congrArg Chan.mis (getChan_modRadio s c f)).trans rfl
  · exact congrArg Chan.mis (getChan_modRadio_ne _ _ _ _ h)

theorem txnDone_keeps (s : State) (u : Txn) : txnDone s u = { s with chans := (txnDone s u).chans } := by
  unfold txnDone
  dsimp only
  split_ifs <;> rfl

theorem getChan_txnDone_ne (s : State) {u : Txn} {c : Nat} (h : c ≠ u.ch) : getChan (txnDone s u) c = getChan s c := by
  unfold txnDone
  dsimp only
  split_ifs <;> simp [getChan_modRadio_ne, getChan_modMis_ne, h]

/-- The last write of a tuner state starts its settle time. -/
theorem getMis_txnDone (s : State) (u : Txn) : getMis (txnDone s u) u.ch =
    if u.event = 8 ∧ u.last = true then { getMis s u.ch with stepAt := some s.time } else getMis s u.ch := by
  unfold txnDone
  dsimp only
  split_ifs <;> simp_all

theorem txnDone_chans {s : State} {u : Txn} (hevent : u.event ≠ 8) (hcls : u.cls ≠ 1) : (txnDone s u).chans = s.chans := by
  simp [txnDone, hevent, hcls]

/-- The bus counts the completed transaction. -/
def txnCounted (s : State) (b : Nat) (u : Txn) : State := txnDone (modBus s b fun x => { x with busy := none, count := inc32 x.count }) u

theorem getBus_txnCounted (s : State) (b : Nat) (u : Txn) (c : Nat) : getBus (txnCounted s b u) c =
    if c = b then { getBus s b with busy := none, count := inc32 (getBus s b).count } else getBus s c :=
  (getBus_congr (s := modBus s b fun x => { x with busy := none, count := inc32 x.count }) (by rw [txnCounted, txnDone_keeps]) c).trans (getBus_modBus_eq ..)

theorem getChan_txnCounted_ne (s : State) (b : Nat) {u : Txn} {c : Nat} (h : c ≠ u.ch) : getChan (txnCounted s b u) c = getChan s c :=
  getChan_txnDone_ne _ h

theorem txnCounted_keeps (s : State) (b : Nat) (u : Txn) :
    txnCounted s b u = { s with chans := (txnCounted s b u).chans, buses := (txnCounted s b u).buses } := by
  rw [txnCounted, txnDone_keeps]
  rfl

/-- A transaction that is not of a window's sequences lets the bus issue the next at once. -/
theorem exec_rffeTransactionComplete {s : State} {b : Nat} {u : Txn} (hbusy : (getBus s b).busy = some u) (h6 : u.event ≠ 6) (h7 : u.event ≠ 7)
    (power : Option Int) : exec (.rffeTransactionComplete b power) s = .next (busIssue (txnCounted s b u) b) := by
  change execRffeTransactionComplete b power s = _
  simp [execRffeTransactionComplete, hbusy, h6, h7, txnCounted]

/-- The last write of an event 6 sequence opens the reflected window. -/
theorem exec_rffeTransactionComplete_opens {s : State} {b : Nat} {u : Txn} (hbusy : (getBus s b).busy = some u) (h6 : u.event = 6)
    (hlast : u.last = true) (hwin : (getMis s u.ch).win = 1) (power : Option Int) : exec (.rffeTransactionComplete b power) s =
      .next (busIssue (modMis (txnCounted s b u) u.ch fun m => { m with win := 2, winAt := some s.time }) b) := by
  change execRffeTransactionComplete b power s = _
  have hmis : (getMis (txnCounted s b u) u.ch).win = 1 := by
    rw [txnCounted, getMis_txnDone, if_neg (by simp [h6])]
    exact hwin
  have htime : (txnCounted s b u).time = s.time := by rw [txnCounted_keeps]
  simp only [txnCounted] at hmis htime
  simp [execRffeTransactionComplete, hbusy, h6, hlast, hmis, htime, txnCounted]

/-- Settles O33: a completed transaction is counted, and the next one issued is the one that goes first of the queue. -/
theorem rffeBus : Obligations.RffeBus := by
  intro s b u hbusy power
  let w := txnCounted s b u
  have hkeeps : w = { s with chans := w.chans, buses := w.buses } := txnCounted_keeps s b u
  have hbus : getBus w b = { getBus s b with busy := none, count := inc32 (getBus s b).count } := (getBus_txnCounted s b u b).trans (if_pos rfl)
  have hothers (c : Nat) (hc : c ≠ b) : getBus w c = getBus s c := (getBus_txnCounted s b u c).trans (if_neg hc)
  have hsettle (h8 : u.event = 8) (hlast : u.last = true) : (getMis w u.ch).stepAt = some s.time := by
    rw [show w = txnCounted s b u from rfl, txnCounted, getMis_txnDone, if_pos ⟨h8, hlast⟩]
    rfl
  refine ⟨fun h6 h7 => ⟨fun hnone => ?_, fun v rest hpick => ?_⟩, fun h6 hlast hwin => ?_, fun v rest hpick => pickTxn_spec hpick⟩
  · have hissue : busIssue w b = w := busIssue_of_none (by rw [hbus]; exact hnone)
    refine ⟨w, (exec_rffeTransactionComplete hbusy h6 h7 power).trans (congrArg _ hissue), by rw [hbus], by rw [hbus], hothers, hsettle,
      fun h8 h1 => txnDone_chans h8 h1, fun c hc => getChan_txnCounted_ne s b hc, hkeeps⟩
  · have hissue := busIssue_of_some (s := w) (b := b) (by rw [hbus]) (by rw [hbus]; exact hpick)
    let t := emit (modBus w b fun x => { x with queue := rest, busy := some v }) (.rffe b v.usid v.cmd v.addr v.data)
    have htbus (c : Nat) : getBus t c = if c = b then { getBus w b with queue := rest, busy := some v } else getBus w c :=
      getBus_emit_modBus ..
    have hself := (htbus b).trans (if_pos rfl)
    rw [hbus] at hself
    refine ⟨t, (exec_rffeTransactionComplete hbusy h6 h7 power).trans (congrArg _ hissue), by rw [hself], by rw [hself], by rw [hself], ?_,
      fun c hc => ((htbus c).trans (if_neg hc)).trans (hothers c hc), hsettle, fun h8 h1 => txnDone_chans h8 h1,
      fun c hc => getChan_txnCounted_ne s b hc, ?_⟩
    · have hout : w.out = s.out := by rw [hkeeps]
      simp [t, emit, hout]
    · simp only [t, emit, modBus]
      rw [hkeeps]
  · let x := modMis w u.ch fun m => { m with win := 2, winAt := some s.time }
    have hx : x = { s with chans := x.chans, buses := w.buses } := by simp only [x, modMis, modChan]; rw [hkeeps]
    have hframe := busIssue_frame x b
    have hchans : (busIssue x b).chans = x.chans := by rw [hframe]
    have hmis : getMis (busIssue x b) u.ch = _ := (getMis_congr hchans u.ch).trans (getMis_modMis w u.ch _)
    refine ⟨_, exec_rffeTransactionComplete_opens hbusy h6 hlast hwin power, by rw [hmis], by rw [hmis], fun c hc => ?_, ?_⟩
    · rw [getChan_congr hchans, getChan_modMis_ne w u.ch c _ hc, getChan_txnCounted_ne s b hc]
    · rw [hframe, hx]

end Sys2Proof.Machine

namespace Sys2Proof.Machine

/-! ### Numbers written and answered (Table 2.5) -/

/-- `t` is the write that left `w`, answered; subscriptions have noted what changed. -/
structure Answers (s w t : State) (m idx sub status : Nat) : Prop where
  answer : answered t m idx sub status
  notes : OnlyNotes s t
  rest : t = { w with olp := t.olp, out := t.out }
  out : t.out = w.out ++ [.reply m { opcode := 2, status, index := idx, sub }]

theorem Answers.chans {s w t : State} {m idx sub status : Nat} (h : Answers s w t m idx sub status) : t.chans = w.chans := by rw [h.rest]

theorem Answers.rods {s w t : State} {m idx sub status : Nat} (h : Answers s w t m idx sub status) : t.rods = w.rods := by rw [h.rest]

theorem Answers.mutes {s w t : State} {m idx sub status : Nat} (h : Answers s w t m idx sub status) : t.mutes = w.mutes := by rw [h.rest]

theorem Answers.links {s w t : State} {m idx sub status : Nat} (h : Answers s w t m idx sub status) : t.links = w.links := by rw [h.rest]

/-- A number that its object takes is carried out by the object's own rule, after the lock's time is noted, and answered. -/
theorem commandValue_answers {s : State} {m idx sub v status : Nat} {o : Obj} {w : State → State} (hm : mayWrite s m = true)
    (hobj : lookup idx sub = (0, some o)) (hacc : o.acc = .rw ∨ o.acc = .wo) (hlen : lengthOk o o.typ.len = true)
    (hv : v < 256 ^ o.typ.len) (hok : o.ok (o.typ.toInt v) = true) (hcommit : idx ≠ 0x1010)
    (hwindow : ¬ (0x6100 ≤ idx ∧ idx ≤ 0x6500 ∧ idx % 256 = 0))
    (hown : ∀ u, LockNoted s u → ownWrite u m idx sub o (beBytes o.typ.len v) = (status, w u)) (holp : ∀ u, (w u).olp = u.olp) :
    ∃ u, LockNoted s u ∧ Answers s (w u) (commandValue s m idx sub v) m idx sub status := by
  let u := touch s m idx
  have hu : LockNoted s u := ⟨_, touch_eq hwindow⟩
  have holpu : (w u).olp = s.olp := by
    obtain ⟨at_, hu⟩ := hu
    rw [holp, hu]
  obtain ⟨⟨⟨hsup, hm8⟩, _⟩, _⟩ : ((s.life.sup = true ∧ m < 8) ∧ s.nv.lifecycle ≠ 3) ∧ openPower s.life.power = true := by
    simpa only [mayWrite, Bool.and_eq_true, decide_eq_true_eq, bne_iff_ne] using hm
  have hval : ofBytes (beBytes o.typ.len v) = v := by rw [ofBytes_beBytes, Nat.mod_eq_of_lt hv]
  have htest : writeTest u m idx sub (beBytes o.typ.len v) = 0 :=
    writeTest_of_mayWrite (by simpa [mayWrite, u] using hm) hobj (by rwa [length_beBytes])
      (by rcases hacc with h | h <;> simp [h, Acc.writes]) (by rcases hacc with h | h <;> simp [h]) (by rwa [hval])
  have hexec : commandValue s m idx sub v = answer (noteChanges (w u)) m 2 idx sub status [] := by
    have hbytes : numberBytes o.typ.len v = beBytes o.typ.len v := if_pos hv
    rw [commandValue, hobj]
    simp only [hbytes]
    rw [commandWrite_eq hsup hobj htest hcommit, hown u hu]
  rw [hexec]
  exact ⟨u, hu, answered_answer hm8, onlyNotes_of_olp (u := w u) holpu (by simp), by apply state_ext <;> simp, by
    simp [answer, emit, Nat.ne_of_lt hm8]⟩

theorem dictIndex_radio {ch off : Nat} (hch : ch < 96) (hoff : off < 16) : dictIndex (0x2000 + 16 * ch + off) = dictRadio off := by
  have hmod : (0x2000 + 16 * ch + off) % 16 = off := by omega
  simp (disch := omega) only [dictIndex, inRun, Bool.and_eq_true, decide_eq_true_eq, if_neg, if_pos, hmod]

/-- A byte written to a radio object of a channel. -/
theorem commandValue_radio {s : State} {m ch off sub v status : Nat} {f : Nat → Option Obj} {o : Obj} {w : State → State}
    (hm : mayWrite s m = true) (hch : ch < 96) (hoff : off < 16) (hf : dictRadio off = some f) (hobj : f sub = some o)
    (hacc : o.acc = .rw ∨ o.acc = .wo) (htyp : o.typ = .u8) (hv : v < 256) (hok : o.ok v = true)
    (hwrite : ∀ u, LockNoted s u → writeChannel u (0x2000 + 16 * ch + off) sub v = (status, w u)) (holp : ∀ u, (w u).olp = u.olp) :
    ∃ u, LockNoted s u ∧
      Answers s (w u) (commandValue s m (chanIdx 0x2000 ch off) sub v) m (0x2000 + 16 * ch + off) sub status := by
  have hlookup : lookup (0x2000 + 16 * ch + off) sub = (0, some o) := by simp only [lookup, dictIndex_radio hch hoff, hf, hobj]
  rw [chanIdx, if_pos hch]
  refine commandValue_answers hm hlookup hacc (by simp [lengthOk, htyp, Typ.len]) (by simpa [htyp, Typ.len] using hv)
    (by simpa [htyp, Typ.toInt] using hok) (by omega) (by omega) (fun u hu => ?_) holp
  have hval : ofBytes (beBytes o.typ.len v) = v := by rw [ofBytes_beBytes, htyp, Nat.mod_eq_of_lt (by simpa [Typ.len] using hv)]
  rw [ownWrite, hval, if_neg (by rcases hacc with h | h <;> simp [h]), if_neg (by omega), if_neg (by omega), if_pos (by omega)]
  exact hwrite u hu

theorem writeChannel_tuner (s : State) {ch : Nat} (hch : ch < 96) (sub v : Nat) :
    writeChannel s (0x2000 + 16 * ch + 4) sub v = tunerStateWrite s ch v := by
  have hclass : (0x2000 + 16 * ch + 4) / 4096 = 2 := by omega
  have hoff : (0x2000 + 16 * ch + 4) % 16 = 4 := by omega
  have hself : (0x2000 + 16 * ch + 4) % 4096 / 16 = ch := by omega
  simp only [writeChannel, hclass, hoff, hself]

theorem writeChannel_cal (s : State) {ch : Nat} (hch : ch < 96) (sub v : Nat) :
    writeChannel s (0x2000 + 16 * ch + 8) sub v = calRequest s ch v := by
  have hclass : (0x2000 + 16 * ch + 8) / 4096 = 2 := by omega
  have hoff : (0x2000 + 16 * ch + 8) % 16 = 8 := by omega
  have hself : (0x2000 + 16 * ch + 8) % 4096 / 16 = ch := by omega
  simp only [writeChannel, hclass, hoff, hself]

end Sys2Proof.Machine

namespace Sys2Proof.Machine

/-! ### Tuner states and searches (R259) -/

/-- The write of a tuner state is put on the channel's bus. -/
theorem writeTuner_eq (s : State) (ch st : Nat) : writeTuner s ch st = busQueue s ch (tunerTxns s.objs ch st) := by
  unfold writeTuner tunerTxns
  dsimp only
  split
  · rfl
  · rfl

theorem busQueue_frame (s : State) (ch : Nat) (ts : List Txn) :
    busQueue s ch ts = { s with buses := (busQueue s ch ts).buses, out := (busQueue s ch ts).out } := by
  apply state_ext <;> simp only [busQueue_keeps]

theorem writeTuner_chans (s : State) (ch st : Nat) : (writeTuner s ch st).chans = s.chans := by
  rw [writeTuner_eq, busQueue_frame]

theorem writeTuner_frame (s : State) (ch st : Nat) :
    writeTuner s ch st = { s with buses := (writeTuner s ch st).buses, out := (writeTuner s ch st).out } := by
  rw [writeTuner_eq]
  exact busQueue_frame ..

/-- A state written: the bus of the channel takes the write. -/
theorem writeTuner_takes (s : State) (ch st : Nat) : BusTakes s (writeTuner s ch st) (ch / 4) (tunerTxns s.objs ch st) [] := by
  rw [writeTuner_eq]
  exact busQueue_takes ..

/-- A search as it begins: nothing tested, the state in use best where the last return loss was measured in it. -/
def searchBegun (now : Nat) (x : Mismatch) : Mismatch := { x with
  search := true, testing := false, tested := 0, searchAt := now, usedKnown := x.rlOf == some x.tuner
  best := if x.rlOf == some x.tuner then some (x.tuner, x.rl) else none }

theorem startSearch_eq {s : State} {ch : Nat} (hstates : tunerStates s.objs ch ≠ 0) (hidle : (getMis s ch).search = false) :
    startSearch s ch = modMis s ch (searchBegun s.time) := by
  rw [startSearch, if_neg (by simp [hstates, hidle])]
  rfl

/-- A state that a search begins to test. -/
def testBegun (now : Nat) (x : Mismatch) : Mismatch := { x with testing := true, stepAt := none, searchAt := now }

theorem searchStep_eq (s : State) (ch : Nat) :
    searchStep s ch = writeTuner (modMis s ch (testBegun s.time)) ch (searchState s ch) := rfl

theorem searchState_eq {s : State} {ch : Nat} (h : tunerStates s.objs ch ≠ 0) :
    searchState s ch = ((getMis s ch).tuner + 1 + (getMis s ch).tested) % tunerStates s.objs ch := by
  rw [searchState, Nat.max_eq_right (Nat.one_le_iff_ne_zero.2 h)]

/-- The better of the best state so far and the one just measured. -/
def bestWith (best : Option (Nat × Int)) (now : Nat × Int) : Nat × Int :=
  match best with | some b => if b.2 < now.2 then now else b | none => now

/-- A state's return loss taken, with others still to test. -/
def stateTested (best : Nat × Int) (x : Mismatch) : Mismatch := { x with testing := false, tested := x.tested + 1, best := some best }

/-- The search ended in its best state. -/
def bestInUse (best : Nat × Int) (x : Mismatch) : Mismatch := { x with search := false, testing := false, tuner := best.1, best := some best }

theorem searchResult_next {s : State} {ch : Nat} {rl : Int} (hsearch : (getMis s ch).search = true) (htest : (getMis s ch).testing = true)
    (hmore : (getMis s ch).tested + 1 + b2n (getMis s ch).usedKnown < tunerStates s.objs ch) :
    searchResult s ch rl = modMis s ch (stateTested (bestWith (getMis s ch).best (searchState s ch, rl))) := by
  simp only [searchResult, hsearch, htest, Bool.not_true, Bool.or_self, Bool.false_eq_true, if_false, if_neg (Nat.not_le.2 hmore), bestWith]
  rfl

theorem searchResult_last {s : State} {ch : Nat} {rl : Int} (hsearch : (getMis s ch).search = true) (htest : (getMis s ch).testing = true)
    (hlast : tunerStates s.objs ch ≤ (getMis s ch).tested + 1 + b2n (getMis s ch).usedKnown) :
    let best := bestWith (getMis s ch).best (searchState s ch, rl)
    searchResult s ch rl = tallyEvent (modMis (writeTuner s ch best.1) ch (bestInUse best)) 0x0701 (srcField 2 ch) [(getMis s ch).st, argI best.2, best.1] := by
  simp only [searchResult, hsearch, htest, Bool.not_true, Bool.or_self, Bool.false_eq_true, if_false, if_pos hlast, bestWith]
  rfl

theorem execTunerSearchStep_of_due {s : State} {ch : Nat} (hcore : coreRuns s = true) (hsearch : (getMis s ch).search = true)
    (htest : (getMis s ch).testing = false) (hst : (getMis s ch).st ≠ 2) (hdue : (getMis s ch).searchAt + 10 * 32000000 ≤ s.time) :
    exec (.tunerSearchStep ch) s = .next (if tunerStates s.objs ch ≤ b2n (getMis s ch).usedKnown then
      modMis s ch fun m => { m with search := false } else searchStep s ch) := by
  change execTunerSearchStep ch s = _
  rw [execTunerSearchStep, if_neg (by simp [hcore, hsearch, htest, hst, elapsedMs_of_le hdue])]
  exact (apply_ite ..).symm

/-- A tuner state put to use: written to the bus and noted. -/
def tunerInUse (s : State) (ch v : Nat) : State := modMis (writeTuner s ch v) ch fun x => { x with tuner := v }

theorem tunerInUse_chans (s : State) (ch v : Nat) : (tunerInUse s ch v).chans = (modMis s ch fun x => { x with tuner := v }).chans := by
  simp only [tunerInUse, modMis, modChan, writeTuner_chans]

section

variable {s : State} {m ch v : Nat} (hm : mayWrite s m = true) (hch : ch < 96)
include hm hch

theorem exec_tunerStateWrite (hv : v < 64) (hidle : (getMis s ch).search = false) : ∃ u t, LockNoted s u ∧
    exec (.tunerStateWrite m ch v) s = .next t ∧ Answers s (tunerInUse u ch v) t m (0x2000 + 16 * ch + 4) 5 0 := by
  obtain ⟨u, hu, ha⟩ := commandValue_radio (o := plain .u8 .rw) (v := v) (status := 0) (w := fun u => tunerInUse u ch v) (off := 4) (sub := 5)
    hm hch (by decide) rfl rfl (.inl rfl) rfl (by omega) rfl
    (fun u hu => by
      obtain ⟨at_, hu⟩ := hu
      have hmis : (getMis u ch).search = false := by rw [hu]; exact hidle
      rw [writeChannel_tuner u hch, tunerStateWrite, hmis, if_neg (by decide), if_neg (by omega), tunerInUse])
    (fun u => by rw [tunerInUse, writeTuner_frame]; rfl)
  exact ⟨u, _, hu, rfl, ha⟩

theorem exec_tunerStateWrite_refused (hv : v < 64) (hsearch : (getMis s ch).search = true) : ∃ u t, LockNoted s u ∧
    exec (.tunerStateWrite m ch v) s = .next t ∧ Answers s u t m (0x2000 + 16 * ch + 4) 5 0x0C := by
  obtain ⟨u, hu, ha⟩ := commandValue_radio (o := plain .u8 .rw) (v := v) (status := 0x0C) (w := fun u => u) (off := 4) (sub := 5)
    hm hch (by decide) rfl rfl (.inl rfl) rfl (by omega) rfl
    (fun u hu => by
      obtain ⟨at_, hu⟩ := hu
      have hmis : (getMis u ch).search = true := by rw [hu]; exact hsearch
      rw [writeChannel_tuner u hch, tunerStateWrite, hmis, if_pos rfl])
    (fun u => rfl)
  exact ⟨u, _, hu, rfl, ha⟩

theorem exec_tunerSearchRequest (hstates : tunerStates s.objs ch ≠ 0) (hidle : (getMis s ch).search = false) : ∃ u t, LockNoted s u ∧
    exec (.tunerSearchRequest m ch) s = .next t ∧
      Answers s (modMis u ch (searchBegun s.time)) t m (0x2000 + 16 * ch + 8) 1 0 := by
  obtain ⟨u, hu, ha⟩ := commandValue_radio (o := ranged .u8 .wo 0 1 2) (v := 2) (status := 0)
    (w := fun u => modMis u ch (searchBegun s.time)) (off := 8) (sub := 1) hm hch (by decide) rfl rfl (.inr rfl) rfl (by decide) rfl
    (fun u hu => by
      obtain ⟨at_, hu⟩ := hu
      rw [writeChannel_cal u hch, calRequest, if_neg (by decide), startSearch_eq (by rw [hu]; exact hstates) (by rw [hu]; exact hidle), hu])
    (fun u => rfl)
  exact ⟨u, _, hu, rfl, ha⟩

end

/-- Settles O35: a write of a state and a step of a search put the state's write on the bus, and the last result writes the best. -/
theorem tuners : Obligations.Tuners := by
  intro s ch hch
  have hothers {f : Mismatch → Mismatch} {t : State} (ht : t.chans = (modMis s ch f).chans) (c : Nat) (hc : c ≠ ch) : getChan t c = getChan s c :=
    (getChan_congr ht c).trans (getChan_modMis_ne s ch c f hc)
  refine ⟨fun m v hm hv hidle => ?_, fun m v hm hv hsearch => ?_, fun m hm hstates hidle => ?_, fun hcore hsearch htest hst hdue =>
    ⟨fun hmore => ?_, fun hnone => ?_⟩, fun rl hsearch htest => ⟨fun hlast => ?_, searchResult_next hsearch htest⟩⟩
  · -- a state is applied
    obtain ⟨u, t, ⟨at_, hu⟩, hexec, ha⟩ := exec_tunerStateWrite hm hch hv hidle
    have hchans := ha.chans.trans ((tunerInUse_chans u ch v).trans (show _ = (modMis s ch fun x => { x with tuner := v }).chans by rw [hu]; rfl))
    have htakes := writeTuner_takes u ch v
    rw [show u.objs = s.objs by rw [hu]] at htakes
    refine ⟨t, hexec, (getMis_congr hchans ch).trans (getMis_modMis ..), ha.answer, ?_, hothers hchans, ?_, ha.notes⟩
    · exact htakes.congr (by rw [hu]) (by rw [hu]) (by rw [hu]) (by rw [ha.rest]; rfl) ha.out
    · rw [ha.rest, tunerInUse, modMis, modChan, writeTuner_frame, hu]
  · -- or refused during a search
    obtain ⟨u, t, ⟨at_, hu⟩, hexec, ha⟩ := exec_tunerStateWrite_refused hm hch hv hsearch
    exact ⟨t, hexec, ha.answer, by rw [ha.rest, hu], ha.notes⟩
  · -- a search begins
    obtain ⟨u, t, ⟨at_, hu⟩, hexec, ha⟩ := exec_tunerSearchRequest hm hch hstates hidle
    have hchans := ha.chans.trans (show _ = (modMis s ch (searchBegun s.time)).chans by rw [hu]; rfl)
    exact ⟨t, hexec, (getMis_congr hchans ch).trans (getMis_modMis ..), ha.answer, hothers hchans, by rw [ha.rest, hu]; rfl, ha.notes⟩
  · -- the next state is written
    have hstates : tunerStates s.objs ch ≠ 0 := by omega
    have hchans := writeTuner_chans (modMis s ch (testBegun s.time)) ch (searchState s ch)
    refine ⟨_, (execTunerSearchStep_of_due hcore hsearch htest hst hdue).trans (congrArg _ (if_neg (Nat.not_le.2 hmore))),
      (getMis_congr hchans ch).trans (getMis_modMis ..), ?_, hothers hchans, ?_⟩
    · rw [searchStep_eq, ← searchState_eq hstates]
      exact (writeTuner_takes (modMis s ch (testBegun s.time)) ch (searchState s ch)).congr rfl rfl rfl rfl (List.append_nil _).symm
    · rw [searchStep_eq, writeTuner_frame]; rfl
  · -- no state to test
    exact ⟨_, (execTunerSearchStep_of_due hcore hsearch htest hst hdue).trans (congrArg _ (if_pos hnone)), getMis_modMis .., hothers rfl, rfl⟩
  · -- the last result
    let best := bestWith (getMis s ch).best (searchState s ch, rl)
    let x := modMis (writeTuner s ch best.1) ch (bestInUse best)
    have hmis : getMis (searchResult s ch rl) ch = _ := (congrArg (getMis · ch) (searchResult_last hsearch htest hlast)).trans
      ((getMis_congr (s := x) (by simp [x, best]) ch).trans (getMis_modMis ..))
    refine ⟨by rw [hmis]; rfl, by rw [hmis]; rfl, ?_⟩
    rw [searchResult_last hsearch htest hlast]
    exact (writeTuner_takes s ch best.1).congr rfl rfl rfl (by simp [best]) (by simp [best])

end Sys2Proof.Machine

namespace Sys2Proof.Machine

/-! ### What a channel's step leaves in its radio (R236, R238, R247) -/

/-- A channel as TXEN falls: the measurement under way fails, and the span of the next begins anew (R255). -/
def Chan.lowered (c : Chan) : Chan := { c with mis := { c.mis with winOk := false }, radio := { c.radio with highAt := none } }

/-- What a fallen TXEN does not change is as it was. -/
theorem txenFalls_reads {α : Type} (read : Chan → α) (hread : ∀ c, read c.lowered = read c) (before s : State) (c : Nat) :
    read (getChan (txenFalls before s) c) = read (getChan s c) := by
  refine forEach_keep (fun u => read (getChan u c)) _ _ (fun u ch => ?_) s
  by_cases h : c = ch
  · subst h
    rw [txenLow, getChan_modChan]
    exact hread _
  · rw [txenLow, getChan_modChan_ne _ _ _ _ h]

/-- What an asserted mute and a fallen TXEN do not change is as it was. -/
theorem addMute_chan_reads {α : Type} (read : Chan → α) (hterm : ∀ c, read { c with muteTerm := false, outClear := false } = read c)
    (hlow : ∀ c, read c.lowered = read c) (s : State) (o : Owner) (sc : Scope) (c : Nat) :
    read (getChan (addMute s o sc) c) = read (getChan s c) := by
  have hmod (u : State) (ch : Nat) (f : Chan → Chan) (hf : ∀ x, read (f x) = read x) : read (getChan (modChan u ch f) c) = read (getChan u c) := by
    by_cases h : c = ch
    · rw [h, getChan_modChan, hf]
    · rw [getChan_modChan_ne _ _ _ _ h]
  unfold addMute
  dsimp only
  split
  · rfl
  · unfold txenDrops dropMuteTerms
    rw [forEach_keep (fun u => read (getChan u c)), forEach_keep (fun u => read (getChan u c))]
    · rfl
    · exact fun u ch => hmod u ch _ hterm
    · exact fun u ch => (hmod (queueEvent u ch 1) ch _ hlow).trans (congrArg read (getChan_congr (by simp) c))

/-- A late transition loses its start and nothing else. -/
theorem noteLate_radio (s : State) (ch : Nat) : ∃ go, (getChan (noteLate s ch) ch).radio = { (getChan s ch).radio with go } := by
  unfold noteLate
  split
  · exact ⟨none, congrArg Chan.radio (getChan_modRadio s ch fun x => { x with go := none })⟩
  · exact ⟨(getChan s ch).radio.go, rfl⟩

theorem beginLead_radio (s : State) (ch : Nat) : ∃ go txEnable,
    (getChan (beginLead s ch) ch).radio = { (getChan s ch).radio with go, txEnable } := by
  unfold beginLead
  dsimp only
  rw [getChan_modRadio]
  exact ⟨_, _, rfl⟩

/-- The radio of a channel whose transition into `goal` becomes due, with the class 1 events `evs`. -/
def RadioCh.starting (goal : Radio) (evs : List Nat) (x : RadioCh) : RadioCh := { x with
  trans := some goal, go := none, held := none, issued := x.issued.filter fun e => !evs.contains e
  lastCmd := if goal.transmits && !x.st.transmits then 1 else x.lastCmd }

theorem startTransition_radio (s : State) (ch : Nat) (goal : Radio) : ∃ go txEnable, (getChan (startTransition s ch goal) ch).radio =
    { (getChan s ch).radio.starting goal (startEvents (getChan s ch).radio.st goal) with go, txEnable } := by
  unfold startTransition
  dsimp only
  generalize hq : forEach _ s _ = q
  have hchans : q.chans = s.chans := by rw [← hq]; simp
  let u := modRadio q ch (RadioCh.starting goal (startEvents (getChan s ch).radio.st goal))
  obtain ⟨_, txEnable, hlead⟩ := beginLead_radio u ch
  obtain ⟨go, hlate⟩ := noteLate_radio (beginLead u ch) ch
  refine ⟨go, txEnable, hlate.trans ?_⟩
  rw [hlead, getChan_modRadio, getChan_congr hchans]

/-- A drop begins with the enable term low where it is to be. -/
theorem startDrop_txEnable (s : State) (ch : Nat) (goal : Radio) : (getChan (startDrop s ch goal true) ch).radio.txEnable = false := by
  rw [startDrop, getChan_modRadio, Bool.not_true, Bool.and_false]

/-- A raised channel that drops to SYNTH has its enable term low at once (R242, R246). -/
theorem dropToSynth_txEnable {s : State} {ch : Nat} (h : raised s ch = true) : (getChan (dropToSynth s ch) ch).radio.txEnable = false := by
  unfold dropToSynth
  dsimp only
  rw [txenFalls_reads (fun c => c.radio.txEnable) fun _ => rfl]
  split
  · next hlow =>
    have htrans : ((getChan s ch).radio.trans.any fun t => decide (2 < t.rank)) = true := by
      simpa [raised, Nat.not_lt.2 hlow] using h
    rw [if_pos htrans]
    exact startDrop_txEnable ..
  · exact startDrop_txEnable ..

theorem txen_of_txEnable {s : State} {ch : Nat} (h : (getChan s ch).radio.txEnable = false) : txen s ch = false := by
  simp [txen, h]

/-- A loop whose turns each concern one channel reaches a listed channel as it found it. -/
theorem chan_turn {xs : List Nat} (hxs : xs.Nodup) {f : State → Nat → State} (hf : ∀ u y c, c ≠ y → getChan (f u y) c = getChan u c)
    {I : State → Prop} (hI : ∀ u y, I u → I (f u y)) {s : State} (hs : I s) {x : Nat} (hx : x ∈ xs) :
    ∃ u, I u ∧ getChan u x = getChan s x ∧ getChan (forEach xs s f) x = getChan (f u x) x := by
  obtain ⟨before, after, rfl, hloop⟩ := forEach_split hx f s
  have hnot : x ∉ before ∧ x ∉ after := by
    rw [List.nodup_append] at hxs
    obtain ⟨_, hafter, hdisj⟩ := hxs
    exact ⟨fun h => hdisj x h x List.mem_cons_self rfl, (List.nodup_cons.1 hafter).1⟩
  refine ⟨forEach before s f, forEach_inv I _ _ hI _ hs, ?_, ?_⟩
  · exact forEach_keep_of_mem (fun u => getChan u x) (fun u y hy => hf u y x fun h => hnot.1 (h ▸ hy)) s
  · rw [hloop]
    exact forEach_keep_of_mem (fun u => getChan u x) (fun u y hy => hf u y x fun h => hnot.2 (h ▸ hy)) _

/-! ### Synthesisers (R240, R243–R246) -/

theorem getSynth_congr {s t : State} {r : Nat} (h : getRod t r = getRod s r) (k : Nat) : getSynth t r k = getSynth s r k := by
  rw [getSynth, getSynth, h]

theorem getSynth_modSynth (s : State) (r n k : Nat) (f : Synth → Synth) :
    getSynth (modSynth s r n f) r k = if k = n then f (getSynth s r n) else getSynth s r k := by
  rw [getSynth, modSynth, getRod_modRod]
  exact smGet_smMod ..

theorem synthUsers_nodup (s : State) (r n : Nat) : (synthUsers s r n).Nodup := (rodChannels_nodup r).filter _

theorem mem_synthUsers {s : State} {r n ch : Nat} :
    ch ∈ synthUsers s r n ↔ ch / 16 = r ∧ ((getChan s ch).radio.rxSynth = some n ∨ (getChan s ch).radio.txSynth = some n) := by
  simp [synthUsers]

/-- A band calibration that ends in a lock has given its result (R243). -/
def bandNoted (s : State) (r n : Nat) : State := if (getSynth s r n).st = 2 then s else noteBand s r (getSynth s r n).lo

/-- A synthesiser as it locks; a band calibration notes the temperature. -/
def synthAtLock (s : State) (r n : Nat) : State := modSynth (bandNoted s r n) r n fun y => { y with
  st := 3, due := false, calTemp := if (getSynth s r n).st = 2 then y.calTemp else some (rodTemp (bandNoted s r n) r) }

theorem bandNoted_rods (s : State) (r n : Nat) : (bandNoted s r n).rods = s.rods := by
  unfold bandNoted
  split <;> rfl

/-- Those rejected for want of the synthesiser may be issued again (R247). -/
def reissued (s : State) (r n : Nat) : State :=
  forEach ((synthUsers s r n).filter fun ch => (getChan s ch).radio.rejected && (getChan s ch).radio.txSynth == some n) s fun s ch =>
    modRadio s ch fun y => { y with rejected := false }

theorem exec_synthLock {s : State} {r n : Nat} (hpowered : (getRod s r).powered = true)
    (hst : (getSynth s r n).st = 1 ∨ (getSynth s r n).st = 2 ∨ (getSynth s r n).st = 6) : exec (.synthLock r n) s =
      .next (driveAll (reissued (synthAtLock s r n) r n) (synthUsers (synthAtLock s r n) r n)) := by
  change execSynthLock r n s = _
  rw [execSynthLock, if_neg (by rcases hst with h | h | h <;> simp [hpowered, h])]
  rfl

theorem getSynth_synthAtLock (s : State) (r n : Nat) : ∃ calTemp,
    getSynth (synthAtLock s r n) r n = { getSynth s r n with st := 3, due := false, calTemp } := by
  rw [synthAtLock, getSynth_modSynth, if_pos rfl, getSynth_congr (getRod_congr (bandNoted_rods s r n) r)]
  exact ⟨_, rfl⟩

theorem getSynth_synthAtLock_ne (s : State) (r : Nat) {n k : Nat} (h : k ≠ n) : getSynth (synthAtLock s r n) r k = getSynth s r k := by
  rw [synthAtLock, getSynth_modSynth, if_neg h, getSynth_congr (getRod_congr (bandNoted_rods s r n) r)]

theorem getRod_synthAtLock_ne (s : State) {r r' : Nat} (h : r' ≠ r) (n : Nat) : getRod (synthAtLock s r n) r' = getRod s r' := by
  rw [synthAtLock, modSynth, getRod_modRod_ne _ _ _ _ h, getRod_congr (bandNoted_rods s r n)]

/-- The turn of a channel whose synthesiser has lost lock (R246). -/
def lockLost (s : State) (ch : Nat) : State := faultEvent (dropToSynth s ch) (2 * ch)

theorem exec_synthLockLoss {s : State} {r n : Nat} (hlocked : synthLocked s r n = true) : exec (.synthLockLoss r n) s =
    .next (forEach (synthUsers s r n) (modSynth s r n fun x => { x with st := 6 }) lockLost) := by
  change execSynthLockLoss r n s = _
  rw [execSynthLockLoss, if_neg (by simp [hlocked])]
  rfl

theorem lockLost_drives (s : State) (ch : Nat) : Drives (· = ch) s (lockLost s ch) :=
  (Drives.dropToSynth (P := (· = ch)) rfl s).trans (.of_chans rfl)

theorem eventActive_faultEvent (s : State) (src n : Nat) :
    eventActive (faultEvent s src) n = (decide (n = src) || eventActive s n) := by
  by_cases h : n = src
  · subst h; simp [eventActive, faultEvent, msUnits]
  · simp [eventActive, faultEvent, h, smGet_smSet_ne]

theorem eventActive_lockLost (s : State) (ch n : Nat) : eventActive (lockLost s ch) n = (decide (n = 2 * ch) || eventActive s n) := by
  rw [lockLost, eventActive_faultEvent, eventActive, eventActive]
  simp

/-! #### Handover to the relief (R244) -/

/-- A channel's radio with the relief `b` in the place of the synthesiser `n`. -/
def RadioCh.handed (n b : Nat) (x : RadioCh) : RadioCh := { x with
  rxSynth := if x.rxSynth = some n then some b else x.rxSynth, txSynth := if x.txSynth = some n then some b else x.txSynth }

/-- The turn of a channel that the relief takes over. -/
def handOver (n b : Nat) (s : State) (ch : Nat) : State :=
  tallyEvent (modRadio s ch (RadioCh.handed n b)) 0x0703 (srcField 2 ch) [0, 0, 0, b]

/-- The due synthesiser becomes the relief, and the handover is counted. -/
def reliefTaken (s : State) (r n : Nat) : State :=
  modRod (modSynth s r n fun _ => { st := 4 }) r fun x => { x with recals := inc32 x.recals, handover := none }

/-- The relief has taken the due synthesiser's channels. -/
def handedOver (s : State) (r n b : Nat) : State := forEach (synthUsers s r n) (reliefTaken s r n) (handOver n b)

theorem exec_reliefHandover {s : State} {r n b : Nat} (hhandover : (getRod s r).handover = some (n, b)) (hcore : coreRuns s = true)
    (hpowered : (getRod s r).powered = true) (hrelief : (getSynth s r b).st = 3) :
    exec (.reliefHandover r) s = .next (recalDue (driveAll (handedOver s r n b) (synthUsers s r n)) r) := by
  change execReliefHandover r s = _
  simp only [execReliefHandover, hhandover]
  rw [if_neg (by simp [hcore, hpowered, hrelief])]
  rfl

theorem getRod_reliefTaken (s : State) (r n : Nat) : getRod (reliefTaken s r n) r = { getRod s r with
    synths := smMod {} (getRod s r).synths n fun _ => { st := 4 }, recals := inc32 (getRod s r).recals, handover := none } := by
  rw [reliefTaken, getRod_modRod, modSynth, getRod_modRod]

theorem handedOver_rods (s : State) (r n b : Nat) : (handedOver s r n b).rods = (reliefTaken s r n).rods := by
  simp [handedOver, handOver]

theorem getSynth_handedOver (s : State) (r n b k : Nat) : getSynth (handedOver s r n b) r k = if k = n then { st := 4 } else getSynth s r k := by
  rw [getSynth, getRod_congr (handedOver_rods s r n b), getRod_reliefTaken]
  exact smGet_smMod ({} : Synth) (getRod s r).synths n k fun _ => { st := 4 }

theorem getChan_handOver_ne (n b : Nat) (u : State) (y c : Nat) (h : c ≠ y) : getChan (handOver n b u y) c = getChan u c := by
  rw [getChan_congr (s := modRadio u y (RadioCh.handed n b)) (by simp [handOver]), getChan_modRadio_ne _ _ _ _ h]

/-- A channel of the rod as the relief takes over: one that does not use the due synthesiser is as it was. -/
theorem getChan_handedOver {s : State} {r n b ch : Nat} (hch : ch / 16 = r) :
    getChan (handedOver s r n b) ch = { getChan s ch with radio := (getChan s ch).radio.handed n b } := by
  by_cases huser : ch ∈ synthUsers s r n
  · obtain ⟨u, _, hu, hturn⟩ := chan_turn (I := fun _ => True) (synthUsers_nodup s r n) (getChan_handOver_ne n b) (fun _ _ _ => trivial)
      (s := reliefTaken s r n) trivial huser
    rw [handedOver, hturn, getChan_congr (s := modRadio u ch (RadioCh.handed n b)) (by simp [handOver]), getChan_modRadio, hu]
    rfl
  · have hkeep : getChan (handedOver s r n b) ch = getChan s ch := forEach_keep_of_mem (fun u => getChan u ch)
      (fun u y hy => getChan_handOver_ne n b u y ch fun h => huser (h ▸ hy)) (reliefTaken s r n)
    rw [mem_synthUsers, not_and, not_or] at huser
    obtain ⟨hrx, htx⟩ := huser hch
    rw [hkeep, RadioCh.handed, if_neg hrx, if_neg htx]

/-- With a relief at hand and no synthesiser due nothing is recalibrated. -/
theorem recalDue_of_none_due {s : State} {r b : Nat} (hb : b < 8) (hrelief : (getSynth s r b).st = 4)
    (hnone : ∀ k, k < 8 → (getSynth s r k).st ≠ 5) : recalDue s r = s := by
  have hfind : (List.range 8).find? (fun n => (getSynth s r n).st == 5) = none :=
    List.find?_eq_none.2 fun k hk => by simpa using hnone k (List.mem_range.1 hk)
  have hsome : (reliefOf s r).isSome = true := List.find?_isSome.2 ⟨b, List.mem_range.2 hb, by simpa using hrelief⟩
  obtain ⟨a, ha⟩ := Option.isSome_iff_exists.1 hsome
  simp [recalDue, ha, hfind]

/-- A channel's target depends on its own radio, its rod, its group and the power state. -/
theorem radioTarget_congr {s t : State} {ch : Nat} (hobjs : t.objs = s.objs) (hlife : t.life = s.life) (hprot : t.prot = s.prot)
    (hwindow : (getChan t ch).radio.inWindow = (getChan s ch).radio.inWindow)
    (hpowered : (getRod t (ch / 16)).powered = (getRod s (ch / 16)).powered)
    (hrestarting : (getRod t (ch / 16)).restarting = (getRod s (ch / 16)).restarting)
    (hcal : (getRod t (ch / 16)).cal = (getRod s (ch / 16)).cal) : radioTarget t ch = radioTarget s ch := by
  have htimed : groupTimed t ch = groupTimed s ch := by simp only [groupTimed, getGroup, hobjs, hprot]
  unfold radioTarget
  dsimp only
  rw [hobjs, hlife, hwindow, hpowered, hrestarting, hcal, htimed]

/-- A channel at SYNTH whose synthesisers are locked begins its transition to RECEIVE. -/
theorem driveRadio_to_receive {s : State} {ch : Nat} (htrans : (getChan s ch).radio.trans = none) (hst : (getChan s ch).radio.st = .synth)
    (hgoal : radioTarget s ch = .receive) (hlocked : bothLocked s ch = true) :
    (getChan (driveRadio s ch) ch).radio.trans = some .receive := by
  have hdrive : driveRadio s ch = startTransition s ch .receive := by
    simp [driveRadio, htrans, stepRadio, hst, hgoal, nextState, Radio.rank, Radio.transmits, hlocked]
  obtain ⟨go, txEnable, h⟩ := startTransition_radio s ch .receive
  rw [hdrive, h]
  rfl

theorem driveAll_frame (s : State) (chs : List Nat) : driveAll s chs = { s with
    chans := (driveAll s chs).chans, buses := (driveAll s chs).buses, out := (driveAll s chs).out } := by
  apply state_ext <;> simp [driveAll]

/-! #### The obligation of the synthesisers -/

theorem driveAll_rods (s : State) (chs : List Nat) : (driveAll s chs).rods = s.rods := by rw [driveAll_frame]

theorem reissued_frame (s : State) (r n : Nat) : reissued s r n = { s with chans := (reissued s r n).chans } := by
  apply state_ext <;> simp [reissued]

/-- Settles O32: a lock and a lock loss are the synthesiser's change and a turn for each of its channels; in a handover the turns come
after every channel has the relief. -/
theorem synthesisers : Obligations.Synthesisers := by
  intro s r n hr hn
  refine ⟨fun hpowered hst => ?_, fun hlocked => ?_, fun b hhandover hbn hrelief hothers hcore hpowered => ?_⟩
  · -- a lock
    let u := synthAtLock s r n
    let t := driveAll (reissued u r n) (synthUsers u r n)
    have hrods : t.rods = u.rods := by rw [driveAll_rods, reissued_frame]
    obtain ⟨calTemp, hself⟩ := getSynth_synthAtLock s r n
    have hsynth (k : Nat) : getSynth t r k = getSynth u r k := getSynth_congr (getRod_congr hrods r) k
    refine ⟨t, exec_synthLock hpowered hst, by rw [hsynth, hself], by rw [hsynth, hself], fun k hk => ?_, fun r' hr' => ?_, ?_⟩
    · rw [hsynth, getSynth_synthAtLock_ne s r hk]
    · rw [getRod_congr hrods, getRod_synthAtLock_ne s hr']
    · apply state_ext <;> simp [t, u, driveAll, reissued, synthAtLock, bandNoted, noteBand, modSynth]
  · -- a lock lost
    let u := modSynth s r n fun x => { x with st := 6 }
    let t := forEach (synthUsers s r n) u lockLost
    have hdrives : Drives (· ∈ synthUsers s r n) u t := Drives.forEach (fun v c hc => (lockLost_drives v c).mono fun _ h => h ▸ hc) u
    have hrods : t.rods = u.rods := by simp [t, lockLost]
    refine ⟨t, exec_synthLockLoss hlocked, ?_, fun ch hch => ⟨?_, fun hraised => ?_⟩, fun ch hch => hdrives.others ch hch, ?_⟩
    · rw [getSynth_congr (getRod_congr hrods r), getSynth_modSynth, if_pos rfl]
    · refine forEach_brings (P := fun v => eventActive v (2 * ch) = true) hch (fun v => ?_) (fun v y hv => ?_) u
      · rw [eventActive_lockLost, decide_eq_true rfl, Bool.true_or]
      · rw [eventActive_lockLost, hv, Bool.or_true]
    · obtain ⟨v, _, hv, hturn⟩ := chan_turn (I := fun _ => True) (synthUsers_nodup s r n) (fun v y c hc => (lockLost_drives v y).others c hc)
        (fun _ _ _ => trivial) (s := u) trivial hch
      have hlow : (getChan t ch).radio.txEnable = false := by
        rw [hturn]
        exact dropToSynth_txEnable (by simpa only [raised, hv.trans (show getChan u ch = getChan s ch from rfl)] using hraised)
      exact ⟨hlow, txen_of_txEnable hlow⟩
    · apply state_ext <;> simp [t, u, lockLost, modSynth]
  · -- a handover
    let u := handedOver s r n b
    let t := driveAll u (synthUsers s r n)
    have huframe : u = { s with chans := u.chans, rods := u.rods, tally := u.tally } := by
      apply state_ext <;> simp [u, handedOver, handOver, reliefTaken, modSynth]
    have hframe : t = { u with chans := t.chans, buses := t.buses, out := t.out } := driveAll_frame ..
    have hrod : getRod t r = _ := (getRod_congr (driveAll_rods u _) r).trans ((getRod_congr (handedOver_rods s r n b) r).trans (getRod_reliefTaken s r n))
    have hsynth (k : Nat) : getSynth t r k = if k = n then { st := 4 } else getSynth s r k :=
      (getSynth_congr (getRod_congr (driveAll_rods u _) r) k).trans (getSynth_handedOver s r n b k)
    have hdue : recalDue t r = t := recalDue_of_none_due hn (by rw [hsynth, if_pos rfl]) fun k hk => by
      rw [hsynth]
      split
      · decide
      · next h => exact hothers k hk h
    have hsteady (ch : Nat) : (getChan t ch).steady = (getChan u ch).steady := (driveAll_drives u _).steady ch
    refine ⟨t, (exec_reliefHandover hhandover hcore hpowered hrelief).trans (congrArg _ hdue), by rw [hsynth, if_pos rfl],
      fun k hk => by rw [hsynth, if_neg hk], by rw [hrod], by rw [hrod], fun ch hch => ?_, fun ch hch => ?_,
      fun ch hch htx hrx htrans hst hgoal => ?_, ?_⟩
    · have h : (getChan t ch).radio.txSynth = (getChan u ch).radio.txSynth := congrArg (·.radio.txSynth) (hsteady ch)
      rw [h, getChan_handedOver hch]
      rfl
    · have h : (getChan t ch).radio.rxSynth = (getChan u ch).radio.rxSynth := congrArg (·.radio.rxSynth) (hsteady ch)
      rw [h, getChan_handedOver hch]
      rfl
    · subst hch
      obtain ⟨v, hv, hchan, hturn⟩ := chan_turn (I := fun v => v = { u with chans := v.chans, buses := v.buses, out := v.out })
        (synthUsers_nodup s _ n) (fun v y c hc => (Drives.driveRadio (P := (· = y)) rfl v).others c hc)
        (fun v y hv => by apply state_ext <;> simp <;> rw [hv]) (s := u) rfl (mem_synthUsers.2 ⟨rfl, .inl hrx⟩)
      have hradio : (getChan v ch).radio = (getChan s ch).radio.handed n b := by rw [hchan, getChan_handedOver rfl]
      have hvrod : getRod v (ch / 16) = _ := (getRod_congr (by rw [hv]) _).trans
        ((getRod_congr (handedOver_rods s _ n b) _).trans (getRod_reliefTaken s _ n))
      have hlocked : synthLocked v (ch / 16) b = true := by
        rw [synthLocked, getSynth_congr (s := u) (getRod_congr (by rw [hv]) _), getSynth_handedOver, if_neg hbn, hrelief]
        rfl
      rw [show getChan t ch = _ from hturn]
      refine driveRadio_to_receive (by rw [hradio]; exact htrans) (by rw [hradio]; exact hst) ?_ ?_
      · rw [← hgoal]
        exact radioTarget_congr (by rw [hv, huframe]) (by rw [hv, huframe]) (by rw [hv, huframe]) (by rw [hradio]; rfl)
          (by rw [hvrod]) (by rw [hvrod]) (by rw [hvrod])
      · simp [bothLocked, txSynthLocked, hradio, RadioCh.handed, htx, hrx, hlocked]
    · rw [hframe, huframe]

end Sys2Proof.Machine

namespace Sys2Proof.Machine

/-! ### Ends of transitions (R236, R238, R253) -/

theorem noteLate_of_on_time {s : State} {ch : Nat}
    (h : ((getChan s ch).radio.known = false ∨ class1Pending s ch = false) ∨ inTransition s ch = false) : noteLate s ch = s :=
  if_neg (by rcases h with (h | h) | h <;> simp [h])

/-- A transition that waits for its class 1 transactions: its start is taken back, and the delay counted. -/
theorem noteLate_of_late {s : State} {ch : Nat} (hknown : (getChan s ch).radio.known = true) (hpending : class1Pending s ch = true)
    (hstarted : inTransition s ch = true) : noteLate s ch =
      modBus (modRadio s ch fun x => { x with go := none }) (ch / 4) fun b => { b with late := inc32 b.late } :=
  if_pos (by simp [hknown, hpending, hstarted])

/-- The radio of a channel that reaches `goal`. -/
def RadioCh.reached (goal : Radio) (x : RadioCh) : RadioCh := { x with
  st := goal, trans := none, go := none, plan := if goal.transmits then 0 else x.plan, callOff := false
  txEnable := goal.transmits && x.txEnable }

/-- A channel's arrival at `goal`: TXEN falls where the enable term has, and event 1 goes out behind a transmitter left (R251). -/
def transmitterLeft (s : State) (ch : Nat) (goal : Radio) : State :=
  let t := txenFalls s (modRadio s ch (RadioCh.reached goal))
  if ((getChan s ch).radio.st.transmits || (getChan s ch).radio.callOff) && !goal.transmits then queueEvent t ch 1 else t

/-- With a channel in a transmit window re-trimmed (R261). -/
def arrived (s : State) (ch : Nat) (goal : Radio) : State :=
  let t := transmitterLeft s ch goal
  if goal.transmits && reqState t.objs ch == 6 then retrimChan t ch else t

theorem exec_radioTransitionEnd_arrives {s : State} {ch : Nat} {goal : Radio} (hontime : noteLate s ch = s)
    (htrans : (getChan s ch).radio.trans = some goal) (hstarted : inTransition s ch = true) (hlocked : goal.rank < 2 ∨ bothLocked s ch = true) :
    exec (.radioTransitionEnd ch) s = .next (driveRadio (recalDue (arrived s ch goal) (ch / 16)) ch) := by
  change execRadioTransitionEnd ch s = _
  simp only [execRadioTransitionEnd, hontime, htrans]
  rw [if_neg]
  · rfl
  · rcases hlocked with h | h
    · simp [hstarted, Nat.not_le.2 h]
    · simp [hstarted, h]

/-- A transition that may not end yet goes on. -/
theorem exec_radioTransitionEnd_waits {s : State} {ch : Nat} (hontime : noteLate s ch = s)
    (hwait : inTransition s ch = false ∨ ∃ goal, (getChan s ch).radio.trans = some goal ∧ 2 ≤ goal.rank ∧
      (getChan s ch).radio.st.rank < goal.rank ∧ bothLocked s ch = false) :
    exec (.radioTransitionEnd ch) s = .next s := by
  change execRadioTransitionEnd ch s = _
  simp only [execRadioTransitionEnd, hontime]
  split
  · rfl
  · next t htrans =>
    refine if_pos ?_
    rcases hwait with h | ⟨goal, hgoal, hrank, hup, hlock⟩
    · simp [h]
    · obtain rfl : t = goal := Option.some.inj (htrans.symm.trans hgoal)
      simp [hrank, hup, hlock]

theorem retrimChan_eq (s : State) (ch : Nat) : ∃ chans, retrimChan s ch = { s with chans } := by
  unfold retrimChan
  dsimp only
  split
  · split_ifs
    · exact ⟨s.chans, rfl⟩
    · exact ⟨_, rfl⟩
    · exact ⟨_, rfl⟩
    · exact ⟨s.chans, rfl⟩
  · exact ⟨s.chans, rfl⟩

theorem transmitterLeft_frame (s : State) (ch : Nat) (goal : Radio) : transmitterLeft s ch goal = { s with
    chans := (transmitterLeft s ch goal).chans, buses := (transmitterLeft s ch goal).buses, out := (transmitterLeft s ch goal).out } := by
  apply state_ext <;> simp [transmitterLeft]

theorem arrived_eq (s : State) (ch : Nat) (goal : Radio) : ∃ chans buses out, arrived s ch goal = { s with chans, buses, out } := by
  unfold arrived
  dsimp only
  split
  · obtain ⟨chans, h⟩ := retrimChan_eq (transmitterLeft s ch goal) ch
    rw [h, transmitterLeft_frame]
    exact ⟨_, _, _, rfl⟩
  · exact ⟨_, _, _, transmitterLeft_frame ..⟩

theorem retrimChan_st (s : State) (ch c : Nat) : (getChan (retrimChan s ch) c).radio.st = (getChan s c).radio.st := by
  have hmod {f : Chan → Chan} (hf : ∀ x, (f x).radio.st = x.radio.st) : (getChan (modChan s ch f) c).radio.st = (getChan s c).radio.st := by
    by_cases h : c = ch
    · rw [h, getChan_modChan, hf]
    · rw [getChan_modChan_ne _ _ _ _ h]
  unfold retrimChan
  dsimp only
  split
  · split_ifs
    · rfl
    · exact hmod fun _ => rfl
    · exact hmod fun _ => rfl
    · rfl
  · rfl

/-- Behind the arrival no channel's state changes. -/
theorem arrived_st (s : State) (ch : Nat) (goal : Radio) (c : Nat) :
    (getChan (arrived s ch goal) c).radio.st = (getChan (modRadio s ch (RadioCh.reached goal)) c).radio.st := by
  have hfalls : Drives (fun _ => True) (modRadio s ch (RadioCh.reached goal)) (txenFalls s (modRadio s ch (RadioCh.reached goal))) :=
    .txenFalls (fun c hc => absurd trivial hc) ⟨rfl, rfl, rfl⟩
  have hleft : Drives (fun _ => True) (modRadio s ch (RadioCh.reached goal)) (transmitterLeft s ch goal) :=
    .ite (hfalls.trans (.of_chans (by simp))) hfalls
  have hst := congrArg (·.radio.st) (hleft.steady c)
  exact ite_holds (I := fun t => (getChan t c).radio.st = (getChan (modRadio s ch (RadioCh.reached goal)) c).radio.st)
    ((retrimChan_st _ ch c).trans hst) hst

/-! ### Sequences ahead of their transitions (R253) -/

/-- The events with which a transition starts are none of class 0 or 2 (Table 10.5). -/
theorem startEvents_class {a b : Radio} {e : Nat} (h : e ∈ startEvents a b) : e ≠ 1 ∧ e ≠ 6 ∧ e ≠ 7 := by
  unfold startEvents at h
  simp only [List.mem_append] at h
  rcases h with (((h | h) | h) | h) | h
  all_goals
    split at h
    · rw [List.mem_singleton.1 h]; decide
    · cases h

theorem comingEvents_class {s : State} {ch e : Nat} (h : e ∈ comingEvents s ch) : e ≠ 1 ∧ e ≠ 6 ∧ e ≠ 7 := by
  unfold comingEvents at h
  simp only [List.mem_append] at h
  rcases h with (h | h) | h
  all_goals
    split at h
    · split at h
      · cases h
      · exact startEvents_class h
    · cases h

/-- The sequence of such an event goes out in class 1. -/
theorem queueEvent_class1 {s : State} {ch e : Nat} (h : e ≠ 1 ∧ e ≠ 6 ∧ e ≠ 7) :
    queueEvent s ch e = busQueue s ch (sequenceTxns s.objs ch e 1) := by
  obtain ⟨h1, h6, h7⟩ := h
  unfold queueEvent
  split
  · exact absurd rfl h1
  · exact absurd rfl h7
  · exact absurd rfl h6
  · rfl

theorem exec_class1SequenceIssue {s : State} {ch e : Nat} (hcoming : e ∈ comingEvents s ch) (hnew : e ∉ (getChan s ch).radio.issued) :
    exec (.class1SequenceIssue ch e) s =
      .next (busQueue (modRadio s ch fun x => { x with issued := insertNat e x.issued }) ch (sequenceTxns s.objs ch e 1)) := by
  change execClass1SequenceIssue ch e s = _
  rw [execClass1SequenceIssue, if_pos (by simp [hcoming, hnew]), queueEvent_class1 (comingEvents_class hcoming)]
  rfl

/-! ### Commands rejected (R247) -/

/-- The radio of a channel whose held command is rejected. -/
def RadioCh.rejectedNow (x : RadioCh) : RadioCh := { x with held := none, rejected := true, lastCmd := 3, rejections := inc32 x.rejections }

theorem exec_txCommandReject {s : State} {ch since : Nat} (hheld : (getChan s ch).radio.held = some since)
    (hunlocked : txSynthLocked s ch = false) (hwait : since + cfgNat s.objs (radIdx ch 0) 3 * 32000 ≤ s.time) :
    exec (.txCommandReject ch) s = .next (faultEvent (tallyEvent (modRadio s ch RadioCh.rejectedNow) 0x0702 (srcField 2 ch)
      [radioCode (getChan (modRadio s ch RadioCh.rejectedNow) ch).radio.st]) (2 * ch)) := by
  change execTxCommandReject ch s = _
  have hlate : ¬ s.time < since + cfgNat s.objs (radIdx ch 0) 3 * usUnits := Nat.not_lt.2 hwait
  simp only [execTxCommandReject, hheld]
  rw [if_neg (by simp [hunlocked, hlate])]
  rfl

/-! ### Steps toward a target (R236, R247) -/

/-- On the way to a state that does not transmit no transmitter is crossed. -/
theorem nextState_transmits {a b : Radio} (h : b.transmits = false) : (nextState a b).transmits = false := by
  unfold nextState
  split
  · exact h
  · split
    · rfl
    · rfl
    · exact h

/-- What a step can do: nothing, settle what is held and known, hold a transmit command, or start the next transition. -/
theorem stepRadio_cases (s : State) (ch : Nat) (goal : Radio) : stepRadio s ch goal = s ∨
    (stepRadio s ch goal = modRadio s ch fun x => { x with held := none, known := false }) ∨
    ((nextState (getChan s ch).radio.st goal).transmits = true ∧
      stepRadio s ch goal = modRadio s ch fun x => { x with held := some s.time, lastCmd := 2 }) ∨
    stepRadio s ch goal = startTransition s ch (nextState (getChan s ch).radio.st goal) := by
  unfold stepRadio
  dsimp only
  split_ifs with _ _ hheld
  · exact .inr (.inl rfl)
  · exact .inl rfl
  · exact .inl rfl
  · simp only [Bool.and_eq_true] at hheld
    exact .inr (.inr (.inl ⟨hheld.1.1, rfl⟩))
  · exact .inl rfl
  · exact .inr (.inr (.inr rfl))

/-- A step toward a target leaves the start that a TDD window has set. -/
theorem stepRadio_plan (s : State) (ch : Nat) (goal : Radio) :
    (getChan (stepRadio s ch goal) ch).radio.plan = (getChan s ch).radio.plan := by
  rcases stepRadio_cases s ch goal with h | h | ⟨_, h⟩ | h
  · rw [h]
  · rw [h, getChan_modRadio]
  · rw [h, getChan_modRadio]
  · obtain ⟨go, txEnable, hradio⟩ := startTransition_radio s ch (nextState (getChan s ch).radio.st goal)
    rw [h, hradio]
    rfl

/-- One toward a state that does not transmit is no transmit command. -/
theorem stepRadio_lastCmd {goal : Radio} (hgoal : goal.transmits = false) (s : State) (ch : Nat) :
    (getChan (stepRadio s ch goal) ch).radio.lastCmd = (getChan s ch).radio.lastCmd := by
  have hnext := nextState_transmits (a := (getChan s ch).radio.st) hgoal
  rcases stepRadio_cases s ch goal with h | h | ⟨htransmits, _⟩ | h
  · rw [h]
  · rw [h, getChan_modRadio]
  · rw [hnext] at htransmits
    cases htransmits
  · obtain ⟨go, txEnable, hradio⟩ := startTransition_radio s ch (nextState (getChan s ch).radio.st goal)
    rw [h, hradio]
    simp only [RadioCh.starting, hnext, Bool.false_and, Bool.false_eq_true, if_false]

theorem driveRadio_plan {s : State} {ch : Nat} (h : (getChan s ch).radio.trans = none) :
    (getChan (driveRadio s ch) ch).radio.plan = (getChan s ch).radio.plan := by
  simp only [driveRadio, h]
  exact stepRadio_plan ..

theorem driveRadio_lastCmd {s : State} {ch : Nat} (h : (radioTarget s ch).transmits = false) :
    (getChan (driveRadio s ch) ch).radio.lastCmd = (getChan s ch).radio.lastCmd := by
  unfold driveRadio
  dsimp only
  split
  · split
    · rw [stepRadio_lastCmd h, callOff_eq, txenFalls_reads (fun c => c.radio.lastCmd) fun _ => rfl, getChan_modRadio]
      rfl
    · rfl
  · exact stepRadio_lastCmd h s ch

/-- Outside its windows a channel under TDD control is not to transmit (R237). -/
theorem radioTarget_outside_window {s : State} {ch : Nat} (hreq : reqState s.objs ch = 6) (hout : (getChan s ch).radio.inWindow = false) :
    (radioTarget s ch).transmits = false := by
  have hlow (x : Radio) (h : x.transmits = false) : x.atMostSynth.transmits = false := ite_holds (I := fun y : Radio => y.transmits = false) rfl h
  have hrest : (if (chanSlots ch).any (rxActive s.objs) = true then Radio.receive else .synth).transmits = false :=
    ite_holds (I := fun y : Radio => y.transmits = false) rfl rfl
  unfold radioTarget
  simp only [hreq, hout, Bool.false_and, Bool.false_eq_true, if_false]
  have hcal {c : Prop} [Decidable c] {x : Radio} (h : x.transmits = false) : (if c then x.atMostSynth else x).transmits = false :=
    ite_holds (I := fun y : Radio => y.transmits = false) (hlow x h) h
  refine ite_holds (I := fun y : Radio => y.transmits = false) rfl ?_
  split
  · rfl
  · rfl
  · rfl
  · exact hlow _ (hcal hrest)
  · exact hcal hrest

/-! ### TDD windows (R248) -/

theorem exec_tddTxWindowStart {s : State} {ch d : Nat} (hcore : coreRuns s = true) (hreq : reqState s.objs ch = 6)
    (htimed : groupTimed s ch = true) (hout : (getChan s ch).radio.inWindow = false) (hstart : windowStart s ch = some d) :
    exec (.tddTxWindowStart ch) s = .next (driveRadio (modRadio s ch fun x => { x with
      inWindow := true, known := true, plan := d + s.time, rejected := false }) ch) := by
  change execTddTxWindowStart ch s = _
  rw [execTddTxWindowStart, if_neg (by simp [hcore, hreq, htimed, hout])]
  simp only [hstart]

/-- The radio of a channel whose window is skipped. -/
def RadioCh.skipped (x : RadioCh) : RadioCh := { x with held := none, lastCmd := 4, rejections := inc32 x.rejections }

/-- A window whose command is still held is skipped, and counted as a rejection. -/
def windowSkipped (s : State) (ch : Nat) : State :=
  if (getChan s ch).radio.held.isSome then
    tallyEvent (modRadio s ch RadioCh.skipped) 0x0702 (srcField 2 ch)
      [radioCode (getChan s ch).radio.st]
  else s

/-- A window left: the transition out of it is planned for its end. -/
def windowLeft (s : State) (ch : Nat) : State := modRadio (windowSkipped s ch) ch fun x => { x with
  inWindow := false, known := true, plan := if reqState s.objs ch = 6 ∧ groupTimed s ch = true then s.time + windowStop s ch else 0 }

theorem windowSkipped_eq (s : State) (ch : Nat) : ∃ chans tally, windowSkipped s ch = { s with chans, tally } := by
  refine ⟨(windowSkipped s ch).chans, (windowSkipped s ch).tally, ?_⟩
  apply state_ext <;> simp [windowSkipped]

theorem exec_tddTxWindowEnd {s : State} {ch : Nat} (hin : (getChan s ch).radio.inWindow = true)
    (hend : reqState s.objs ch ≠ 6 ∨ groupTimed s ch = false ∨ windowRuns s ch = false) :
    exec (.tddTxWindowEnd ch) s = .next (driveRadio (windowLeft s ch) ch) := by
  change execTddTxWindowEnd ch s = _
  rw [execTddTxWindowEnd, if_neg (by rcases hend with h | h | h <;> simp [hin, h])]
  change Host.Outcome.next (driveRadio (modRadio (windowSkipped s ch) ch fun x => { x with
    inWindow := false, known := true
    plan := if reqState (windowSkipped s ch).objs ch = 6 ∧ groupTimed (windowSkipped s ch) ch = true then
      (windowSkipped s ch).time + windowStop (windowSkipped s ch) ch else 0 }) ch) = _
  rw [windowLeft]
  obtain ⟨chans, tally, h⟩ := windowSkipped_eq s ch
  rw [h]
  rfl

theorem getChan_windowLeft_ne (s : State) {ch c : Nat} (h : c ≠ ch) : getChan (windowLeft s ch) c = getChan s c := by
  rw [windowLeft, getChan_modRadio_ne _ _ _ _ h, windowSkipped]
  split
  · rw [getChan_congr (s := modRadio s ch RadioCh.skipped) (by simp), getChan_modRadio_ne _ _ _ _ h]
  · rfl

theorem windowSkipped_radio {s : State} {ch since : Nat} (h : (getChan s ch).radio.held = some since) :
    (getChan (windowSkipped s ch) ch).radio = (getChan s ch).radio.skipped := by
  rw [windowSkipped, if_pos (by simp [h]), getChan_congr (s := modRadio s ch RadioCh.skipped) (by simp), getChan_modRadio]

theorem windowSkipped_trans (s : State) (ch : Nat) : (getChan (windowSkipped s ch) ch).radio.trans = (getChan s ch).radio.trans := by
  cases h : (getChan s ch).radio.held with
  | none => rw [windowSkipped, if_neg (by simp [h])]
  | some since => rw [windowSkipped_radio h]; rfl

theorem windowSkipped_of_none {s : State} {ch : Nat} (h : (getChan s ch).radio.held = none) : windowSkipped s ch = s :=
  if_neg (by simp [h])

/-! ### The obligation of transitions and windows -/

theorem driveRadio_frame (s : State) (ch : Nat) : driveRadio s ch = { s with
    chans := (driveRadio s ch).chans, buses := (driveRadio s ch).buses, out := (driveRadio s ch).out } := by
  apply state_ext <;> simp

/-- Settles O31: each end, issue or rejection is an equation of the command, after which the channel is only driven on; driving leaves
states reached, counts and windows, and the planned start of a channel at rest. -/
theorem radioTransitionsAndWindows : Obligations.RadioTransitionsAndWindows := by
  refine ⟨fun s ch => ⟨fun hfree => ⟨fun goal htrans hstarted hlocked => ?_, fun goal htrans hrank hup hlock => ?_⟩,
      fun hknown hpending hstarted => ?_, fun hidle => ?_, fun event hcoming hnew => ?_, fun since hheld hunlocked hwait => ?_⟩,
    fun s ch => ⟨fun d hcore hreq htimed hout hstart => ?_, fun hin hend => ?_⟩⟩
  · -- the state is reached
    let u := modRadio s ch (RadioCh.reached goal)
    let t := driveRadio (recalDue (arrived s ch goal) (ch / 16)) ch
    have hdrives : Drives (fun _ => True) (arrived s ch goal) t := (recalDue_drives _ _).trans (.driveRadio trivial _)
    have hst (c : Nat) : (getChan t c).radio.st = (getChan u c).radio.st := (congrArg (·.radio.st) (hdrives.steady c)).trans (arrived_st s ch goal c)
    refine ⟨t, exec_radioTransitionEnd_arrives (noteLate_of_on_time (.inl hfree)) htrans hstarted hlocked, ?_, fun c hc => ?_, ?_⟩
    · rw [hst, getChan_modRadio]
      rfl
    · rw [hst, getChan_modRadio_ne _ _ _ _ hc]
    · obtain ⟨chans, buses, out, h⟩ := arrived_eq s ch goal
      apply state_ext <;> simp [t, h]
  · -- the synthesisers are not locked yet
    exact exec_radioTransitionEnd_waits (noteLate_of_on_time (.inl hfree)) (.inr ⟨goal, htrans, hrank, hup, hlock⟩)
  · -- class 1 transactions delay the start
    let u := modRadio s ch fun x => { x with go := none }
    let t := modBus u (ch / 4) fun b => { b with late := inc32 b.late }
    have hnote : noteLate s ch = t := noteLate_of_late hknown hpending hstarted
    have hradio : (getChan t ch).radio = { (getChan s ch).radio with go := none } := by
      rw [getChan_congr (s := u) (t := t) rfl, getChan_modRadio]
    have hidle : inTransition t ch = false := by simp [inTransition, hradio]
    have hexec : exec (.radioTransitionEnd ch) s = .next t := by
      change execRadioTransitionEnd ch s = _
      simp only [execRadioTransitionEnd, hnote, hidle]
      split
      · rfl
      · exact if_pos (by simp)
    exact ⟨t, hexec, hradio, getBus_modBus .., fun c hc =>
      (getChan_congr (s := u) rfl c).trans (getChan_modRadio_ne s ch c _ hc), rfl⟩
  · -- nothing has started
    exact exec_radioTransitionEnd_waits (noteLate_of_on_time (.inr hidle)) (.inl hidle)
  · -- a sequence issued ahead
    let u := modRadio s ch fun x => { x with issued := insertNat event x.issued }
    have hchans : (busQueue u ch (sequenceTxns s.objs ch event 1)).chans = u.chans := by rw [busQueue_frame]
    refine ⟨_, exec_class1SequenceIssue hcoming hnew, ?_, ?_, fun c hc => ?_, ?_⟩
    · rw [getChan_congr hchans, getChan_modRadio]
    · exact (busQueue_takes u ch _).congr rfl rfl rfl rfl (List.append_nil _).symm
    · rw [getChan_congr hchans, getChan_modRadio_ne _ _ _ _ hc]
    · rw [busQueue_frame]
      rfl
  · -- a held command rejected
    let u := modRadio s ch RadioCh.rejectedNow
    let t := faultEvent (tallyEvent u 0x0702 (srcField 2 ch) [radioCode (getChan u ch).radio.st]) (2 * ch)
    have hchans : t.chans = u.chans := by simp [t]
    have hradio : (getChan t ch).radio = (getChan s ch).radio.rejectedNow := by rw [getChan_congr hchans, getChan_modRadio]
    refine ⟨t, exec_txCommandReject hheld hunlocked hwait, by rw [hradio]; rfl, by rw [hradio]; rfl, by rw [hradio]; rfl, by rw [hradio]; rfl,
      ?_, fun c hc => ?_, ?_⟩
    · rw [eventActive_faultEvent, decide_eq_true rfl, Bool.true_or]
    · rw [getChan_congr hchans, getChan_modRadio_ne _ _ _ _ hc]
    · apply state_ext <;> simp [t, u]
  · -- a window opens
    let u := modRadio s ch fun x => { x with inWindow := true, known := true, plan := d + s.time, rejected := false }
    have hdrives : Drives (· = ch) u (driveRadio u ch) := .driveRadio (P := (· = ch)) rfl u
    have hu : getChan u ch = _ := getChan_modRadio s ch _
    have hin : (getChan (driveRadio u ch) ch).radio.inWindow = (getChan u ch).radio.inWindow := congrArg (·.radio.inWindow) (hdrives.steady ch)
    have hrej : (getChan (driveRadio u ch) ch).radio.rejected = (getChan u ch).radio.rejected := congrArg (·.radio.rejected) (hdrives.steady ch)
    refine ⟨_, exec_tddTxWindowStart hcore hreq htimed hout hstart, by rw [hin, hu], by rw [hrej, hu], fun htrans => ?_, fun c hc => ?_, ?_⟩
    · rw [driveRadio_plan (by rw [hu]; exact htrans), hu]
      exact Nat.add_comm d s.time
    · rw [hdrives.others c hc, getChan_modRadio_ne _ _ _ _ hc]
    · rw [driveRadio_frame]
      rfl
  · -- a window ends
    let u := windowLeft s ch
    have hdrives : Drives (· = ch) u (driveRadio u ch) := .driveRadio (P := (· = ch)) rfl u
    have hu : (getChan u ch).radio = _ := congrArg Chan.radio (getChan_modRadio (windowSkipped s ch) ch _)
    have hwindow : (getChan (driveRadio u ch) ch).radio.inWindow = (getChan u ch).radio.inWindow := congrArg (·.radio.inWindow) (hdrives.steady ch)
    have hcount : (getChan (driveRadio u ch) ch).radio.rejections = (getChan u ch).radio.rejections :=
      congrArg (·.radio.rejections) (hdrives.steady ch)
    refine ⟨_, exec_tddTxWindowEnd hin hend, by rw [hwindow, hu], fun since hreq hheld => ⟨?_, ?_⟩, fun hheld => ?_, fun htrans => ?_,
      fun c hc => ?_, ?_⟩
    · rw [hcount, hu, windowSkipped_radio hheld]
      rfl
    · rw [driveRadio_lastCmd (radioTarget_outside_window ?_ (by rw [hu])), hu, windowSkipped_radio hheld]
      · rfl
      · simpa [windowLeft, windowSkipped] using hreq
    · rw [hcount, hu, windowSkipped_of_none hheld]
    · rw [driveRadio_plan (by rw [hu]; exact (windowSkipped_trans s ch).trans htrans), hu]
    · rw [hdrives.others c hc, getChan_windowLeft_ne s hc]
    · apply state_ext <;> simp [windowLeft, windowSkipped]

end Sys2Proof.Machine

namespace Sys2Proof.Machine

/-! ### Reflected windows (R254, R255) -/

/-- What of a mismatch record no step of a measurement's own bookkeeping changes decides whether a window may open. -/
theorem windowAllowed_modMis {s : State} {ch : Nat} {f : Mismatch → Mismatch} (hwin : ∀ x, (f x).win = x.win)
    (hat : ∀ x, (f x).winAt = x.winAt) (p : Int) : windowAllowed (modMis s ch f) ch p = windowAllowed s ch p := by
  have hmis (c : Nat) : (getMis (modMis s ch f) c).win = (getMis s c).win := by
    by_cases h : c = ch
    · rw [h, getMis_modMis, hwin]
    · rw [getMis_modMis_ne s h]
  have hself : (getMis (modMis s ch f) ch).winAt = (getMis s ch).winAt := by rw [getMis_modMis, hat]
  have hradio : (getChan (modMis s ch f) ch).radio = (getChan s ch).radio := by rw [getChan_modMis]
  have htxen : txen (modMis s ch f) ch = txen s ch := by simp only [txen, gateOpen, resetTerm, getChan_modMis, modMis_sent, modMis_pins, modMis_life]
  simp only [windowAllowed, windowFits, highThrough, inTransition, elapsedMs, hmis, hself, hradio, htxen, modMis_objs, modMis_time]

/-- A window as its event 6 sequence goes out; with no used entry it is open at once. -/
def windowBegun (now : Nat) (p : Int) (atOnce : Bool) (x : Mismatch) : Mismatch := { x with
  win := if atOnce then 2 else 1, winAt := if atOnce then some now else x.winAt, winPf := p, winOk := true }

theorem openWindow_eq (s : State) (ch : Nat) (p : Int) : openWindow s ch p =
    busQueue (modMis s ch (windowBegun s.time p (sequenceTxns s.objs ch 6 2).isEmpty)) ch (sequenceTxns s.objs ch 6 2) := by
  unfold openWindow
  cases h : sequenceTxns s.objs ch 6 2 with
  | nil => rfl
  | cons x xs => rfl

/-- A measurement called for. -/
def measureNoted (now : Nat) (x : Mismatch) : Mismatch := { x with lastMeas := now }

section

variable {s : State} {ch : Nat} (hcore : coreRuns s = true) (hdue : measurementDue s ch = true) (hwin : (getMis s ch).win = 0)
include hcore hdue hwin

theorem exec_mismatchMeasurement_opens {p : Int} (hallowed : windowAllowed s ch (forwardAtBall s ch p) = true) :
    exec (.mismatchMeasurement ch (some p)) s = .next (openWindow (modMis s ch (measureNoted s.time)) ch (forwardAtBall s ch p)) := by
  change execMismatchMeasurement ch (some p) s = _
  rw [execMismatchMeasurement, if_neg (by simp [hcore, hdue, hwin])]
  simp only [Option.map_some, hwin]
  rw [if_neg (show ¬ (0 : Nat) = 4 by decide)]
  exact if_pos ((windowAllowed_modMis (f := measureNoted s.time) (fun _ => rfl) (fun _ => rfl) _).trans hallowed)

theorem exec_mismatchMeasurement_skips :
    exec (.mismatchMeasurement ch none) s = .next (skipMeasurement (modMis s ch (measureNoted s.time)) ch) := by
  change execMismatchMeasurement ch none s = _
  rw [execMismatchMeasurement, if_neg (by simp [hcore, hdue, hwin])]
  rfl

end

/-! ### Gains slot by slot -/

/-- A loop that turns each listed slot's gain by one rule. -/
theorem getGain_turns {xs : List Nat} (hxs : xs.Nodup) {f : State → Nat → State} {h : SlotGain → SlotGain}
    (hf : ∀ u g k, getGain (f u g) k = if k = g then h (getGain u g) else getGain u k) (s : State) (k : Nat) :
    getGain (forEach xs s f) k = if k ∈ xs then h (getGain s k) else getGain s k := by
  induction xs generalizing s with
  | nil => rfl
  | cons x xs ih =>
    obtain ⟨hx, hxs⟩ := List.nodup_cons.1 hxs
    rw [forEach, List.foldl_cons, ← forEach, ih hxs, hf]
    by_cases hk : k = x
    · subst hk
      simp [hx]
    · simp [hk]

theorem chanTx_nodup (s : State) (ch : Nat) : (chanTx s ch).Nodup := (chanSlots_nodup ch).filter _

/-! ### Probes (R258) -/

/-- The cap of a probe lies 6.00 dB lower; the one before is kept. -/
def capProbed (x : SlotGain) : SlotGain := { x with
  tunerKept := some x.tunerCap
  tunerCap := clip16 ((if x.tunerCap = 32767 then (x.eff.map effDb).getD x.tunerCap else x.tunerCap) - 600) }

/-- A probe as it begins: the caps of the transmit sides lie lower. -/
def probeCapped (s : State) (ch : Nat) : State :=
  forEach (chanTx s ch) (modMis s ch fun m => { m with probing := true, lastProbe := s.time }) fun s g => modGain s g capProbed

/-- With a search enabled the probe tests the next tuner state. -/
def probeSearches (s : State) (ch : Nat) : State :=
  if cfgBool s.objs (radIdx ch 4) 6 && decide (0 < tunerStates s.objs ch) then searchStep (startSearch s ch) ch else s

theorem exec_mismatchProbe {s : State} {ch : Nat} (hcore : coreRuns s = true) (hst : (getMis s ch).st = 2)
    (hprobing : (getMis s ch).probing = false) (hdue : (getMis s ch).lastProbe + cfgNat s.objs (radIdx ch 5) 7 * 32000000 ≤ s.time) :
    exec (.mismatchProbe ch) s = .next (dropMute (probeSearches (probeCapped s ch) ch) (.mismatch ch)) := by
  change execMismatchProbe ch s = _
  rw [execMismatchProbe, if_neg (by simp [hcore, hst, hprobing, elapsedMs_of_le hdue])]
  rfl

theorem getGain_probeCapped (s : State) (ch k : Nat) :
    getGain (probeCapped s ch) k = if k ∈ chanTx s ch then capProbed (getGain s k) else getGain s k :=
  getGain_turns (chanTx_nodup s ch) (fun u g k => getGain_modGain_eq u g k capProbed) _ k

theorem probeCapped_chans (s : State) (ch : Nat) : (probeCapped s ch).chans = (modMis s ch fun m => { m with probing := true, lastProbe := s.time }).chans := by
  simp [probeCapped]

theorem getMis_searchStep (s : State) (ch : Nat) : getMis (searchStep s ch) ch = testBegun s.time (getMis s ch) :=
  (getMis_congr (writeTuner_chans ..) ch).trans (getMis_modMis ..)

/-- A search that starts, or runs on. -/
theorem startSearch_cases (s : State) (ch : Nat) :
    (startSearch s ch = s ∧ (tunerStates s.objs ch = 0 ∨ (getMis s ch).search = true)) ∨ startSearch s ch = modMis s ch (searchBegun s.time) := by
  by_cases h : tunerStates s.objs ch = 0 ∨ (getMis s ch).search = true
  · exact .inl ⟨if_pos h, h⟩
  · rw [not_or] at h
    exact .inr (startSearch_eq h.1 (by simpa using h.2))

theorem startSearch_eq_chans (s : State) (ch : Nat) : ∃ chans, startSearch s ch = { s with chans } := by
  rcases startSearch_cases s ch with ⟨h, _⟩ | h
  · exact ⟨s.chans, h⟩
  · exact ⟨_, h⟩

theorem startSearch_reads {α : Type} (read : Mismatch → α) (hread : ∀ now x, read (searchBegun now x) = read x) (s : State) (ch : Nat) :
    read (getMis (startSearch s ch) ch) = read (getMis s ch) := by
  rcases startSearch_cases s ch with ⟨h, _⟩ | h
  · rw [h]
  · rw [h, getMis_modMis, hread]

theorem startSearch_search {s : State} {ch : Nat} (h : tunerStates s.objs ch ≠ 0) : (getMis (startSearch s ch) ch).search = true := by
  rcases startSearch_cases s ch with ⟨hs, h0 | hrun⟩ | hs
  · exact absurd h0 h
  · rw [hs, hrun]
  · rw [hs, getMis_modMis]
    rfl

theorem startSearch_others (s : State) {ch c : Nat} (h : c ≠ ch) : getChan (startSearch s ch) c = getChan s c := by
  rcases startSearch_cases s ch with ⟨hs, _⟩ | hs
  · rw [hs]
  · rw [hs, getChan_modMis_ne _ _ _ _ h]

theorem searchStep_eq_frame (s : State) (ch : Nat) : ∃ chans buses out, searchStep s ch = { s with chans, buses, out } := by
  rw [searchStep_eq, writeTuner_frame]
  exact ⟨_, _, _, rfl⟩

theorem searchStep_others (s : State) {ch c : Nat} (h : c ≠ ch) : getChan (searchStep s ch) c = getChan s c := by
  rw [searchStep_eq, getChan_congr (writeTuner_chans ..), getChan_modMis_ne _ _ _ _ h]

theorem probeSearches_eq (s : State) (ch : Nat) : ∃ chans buses out, probeSearches s ch = { s with chans, buses, out } := by
  unfold probeSearches
  split
  · obtain ⟨chans, h⟩ := startSearch_eq_chans s ch
    rw [h]
    exact searchStep_eq_frame _ ch
  · exact ⟨_, _, _, rfl⟩

theorem probeSearches_others (s : State) {ch c : Nat} (h : c ≠ ch) : getChan (probeSearches s ch) c = getChan s c := by
  unfold probeSearches
  split
  · rw [searchStep_others _ h, startSearch_others s h]
  · rfl

theorem probeSearches_reads {α : Type} (read : Mismatch → α) (hbegun : ∀ now x, read (searchBegun now x) = read x)
    (htest : ∀ now x, read (testBegun now x) = read x) (s : State) (ch : Nat) :
    read (getMis (probeSearches s ch) ch) = read (getMis s ch) := by
  unfold probeSearches
  split
  · rw [getMis_searchStep, htest, startSearch_reads read hbegun]
  · rfl

theorem probeSearches_tests {s : State} {ch : Nat} (hon : cfgBool s.objs (radIdx ch 4) 6 = true) (hstates : tunerStates s.objs ch ≠ 0) :
    (getMis (probeSearches s ch) ch).search = true ∧ (getMis (probeSearches s ch) ch).testing = true := by
  rw [probeSearches, if_pos (by simp [hon, Nat.pos_of_ne_zero hstates]), getMis_searchStep]
  exact ⟨startSearch_search hstates, rfl⟩

theorem probeSearches_of_off {s : State} {ch : Nat} (hoff : cfgBool s.objs (radIdx ch 4) 6 = false) : probeSearches s ch = s :=
  if_neg (by simp [hoff])

/-! ### What a measurement brings (R255–R257) -/

/-- The state change that a return loss calls for by Table 10.6, or the end of a probe (3). -/
def tableTurn (x : Mismatch) (rl : Int) (recent : List (Nat × Int)) : Option Nat :=
  match x.st with
  | 0 => if rl < 350 then some 2 else if rl < 600 then some 1 else none
  | 1 => if rl < 350 then some 2 else if 3 ≤ recent.length && recent.all fun x => decide (700 ≤ x.2) then some 0 else none
  | _ => if x.probing then some (if rl ≥ 450 then 1 else 3) else none

/-- A state change noted for the next block boundary, where there is one. -/
def turnNoted (s : State) (ch : Nat) (turn : Option Nat) : State :=
  match turn with | some st => turnDue s ch st | none => s

/-- A measurement's figures taken: its return loss `rl`, in the tuner state under test where a search runs. -/
def measured (now tested : Nat) (rl : Int) (x : Mismatch) : Mismatch := { x with
  pf := clip16 x.winPf, pr := clip16 x.winPr, rl, rlOf := some (if x.search && x.testing then tested else x.tuner)
  recent := (now, rl) :: x.recent.filter fun y => decide (now < y.1 + 2000 * msUnits) }

/-- The return loss of a measurement (R255). -/
def returnLoss (x : Mismatch) : Int := clip16 (x.winPf - x.winPr)

/-- A measurement completed, and with it the test of a tuner state that it was made in. -/
def resultTaken (s : State) (ch : Nat) : State :=
  searchResult (modMis s ch (measured s.time (searchState s ch) (returnLoss (getMis s ch)))) ch (returnLoss (getMis s ch))

theorem mismatchResult_eq (s : State) (ch : Nat) : mismatchResult s ch = turnNoted (resultTaken s ch) ch
    (tableTurn (getMis s ch) (returnLoss (getMis s ch)) (getMis (resultTaken s ch) ch).recent) := by
  let rl := returnLoss (getMis s ch)
  let u := resultTaken s ch
  have hunfold : mismatchResult s ch = (match (getMis s ch).st with
    | 0 => if rl < 350 then turnDue u ch 2 else if rl < 600 then turnDue u ch 1 else u
    | 1 => if rl < 350 then turnDue u ch 2
      else if 3 ≤ (getMis u ch).recent.length && (getMis u ch).recent.all fun x => decide (700 ≤ x.2) then turnDue u ch 0 else u
    | _ => if (getMis s ch).probing then turnDue u ch (if rl ≥ 450 then 1 else 3) else u) := rfl
  rw [hunfold]
  rcases hst : (getMis s ch).st with _ | _ | n
  all_goals
    simp only [tableTurn, hst]
    split_ifs <;> rfl

/-- A result changes of the record what a search notes, and nothing else. -/
def Mismatch.unsearched (x : Mismatch) : Mismatch := { x with search := false, testing := false, tuner := 0, tested := 0, best := none }

theorem searchResult_cases (s : State) (ch : Nat) (rl : Int) : searchResult s ch rl = s ∨
    (∃ f : Mismatch → Mismatch, (∀ x, (f x).unsearched = x.unsearched) ∧ (searchResult s ch rl = modMis s ch f ∨
      ∃ st code source args, searchResult s ch rl = tallyEvent (modMis (writeTuner s ch st) ch f) code source args)) := by
  by_cases h : (getMis s ch).search = true ∧ (getMis s ch).testing = true
  · obtain ⟨hsearch, htest⟩ := h
    by_cases hlast : tunerStates s.objs ch ≤ (getMis s ch).tested + 1 + b2n (getMis s ch).usedKnown
    · exact .inr ⟨bestInUse _, fun _ => rfl, .inr ⟨_, _, _, _, searchResult_last hsearch htest hlast⟩⟩
    · exact .inr ⟨stateTested _, fun _ => rfl, .inl (searchResult_next hsearch htest (Nat.not_le.1 hlast))⟩
  · refine .inl (if_pos ?_)
    rw [not_and_or] at h
    rcases h with h | h <;> simp [h]

theorem searchResult_unsearched (s : State) (ch : Nat) (rl : Int) :
    (getMis (searchResult s ch rl) ch).unsearched = (getMis s ch).unsearched := by
  rcases searchResult_cases s ch rl with h | ⟨f, hf, h | ⟨st, code, source, args, h⟩⟩
  · rw [h]
  · rw [h, getMis_modMis, hf]
  · rw [h, getMis_congr (s := modMis s ch f) (by simp [modMis, modChan]), getMis_modMis, hf]

theorem searchResult_others (s : State) {ch c : Nat} (hc : c ≠ ch) (rl : Int) : getChan (searchResult s ch rl) c = getChan s c := by
  rcases searchResult_cases s ch rl with h | ⟨f, _, h | ⟨st, code, source, args, h⟩⟩
  · rw [h]
  · rw [h, getChan_modMis_ne _ _ _ _ hc]
  · rw [h, getChan_congr (s := modMis s ch f) (by simp [modMis, modChan]), getChan_modMis_ne _ _ _ _ hc]

theorem searchResult_eq_frame (s : State) (ch : Nat) (rl : Int) :
    ∃ chans buses tally out, searchResult s ch rl = { s with chans, buses, tally, out } := by
  rcases searchResult_cases s ch rl with h | ⟨f, _, h | ⟨st, code, source, args, h⟩⟩
  · exact ⟨_, _, _, _, h⟩
  · exact ⟨_, _, _, _, h⟩
  · refine ⟨(searchResult s ch rl).chans, (searchResult s ch rl).buses, (searchResult s ch rl).tally, (searchResult s ch rl).out, ?_⟩
    rw [h, writeTuner_frame]
    apply state_ext <;> simp

theorem getMis_turnNoted (s : State) (ch : Nat) (turn : Option Nat) :
    getMis (turnNoted s ch turn) ch = { getMis s ch with due := turn.or (getMis s ch).due } := by
  cases turn with
  | none => rfl
  | some st => exact getMis_modMis ..

theorem turnNoted_others (s : State) {ch c : Nat} (hc : c ≠ ch) (turn : Option Nat) : getChan (turnNoted s ch turn) c = getChan s c := by
  cases turn with
  | none => rfl
  | some st => exact getChan_modMis_ne _ _ _ _ hc

theorem turnNoted_eq_frame (s : State) (ch : Nat) (turn : Option Nat) : ∃ chans, turnNoted s ch turn = { s with chans } := by
  cases turn with
  | none => exact ⟨_, rfl⟩
  | some st => exact ⟨_, rfl⟩

/-- A completed measurement leaves its figures, and calls for what Table 10.6 says. -/
theorem mismatchResult_mis (s : State) (ch : Nat) : ∃ x : Mismatch,
    x.unsearched = (measured s.time (searchState s ch) (returnLoss (getMis s ch)) (getMis s ch)).unsearched ∧
    getMis (mismatchResult s ch) ch =
      { x with due := (tableTurn (getMis s ch) (returnLoss (getMis s ch)) x.recent).or x.due } := by
  refine ⟨getMis (resultTaken s ch) ch, ?_, ?_⟩
  · rw [resultTaken, searchResult_unsearched, getMis_modMis]
  · rw [mismatchResult_eq, getMis_turnNoted]

theorem mismatchResult_others (s : State) {ch c : Nat} (hc : c ≠ ch) : getChan (mismatchResult s ch) c = getChan s c := by
  rw [mismatchResult_eq, turnNoted_others _ hc, resultTaken, searchResult_others _ hc, getChan_modMis_ne _ _ _ _ hc]

theorem mismatchResult_eq_frame (s : State) (ch : Nat) : ∃ chans buses tally out, mismatchResult s ch = { s with chans, buses, tally, out } := by
  rw [mismatchResult_eq]
  obtain ⟨_, hturn⟩ := turnNoted_eq_frame (resultTaken s ch) ch
    (tableTurn (getMis s ch) (returnLoss (getMis s ch)) (getMis (resultTaken s ch) ch).recent)
  obtain ⟨_, _, _, _, hresult⟩ := searchResult_eq_frame (modMis s ch (measured s.time (searchState s ch) (returnLoss (getMis s ch)))) ch
    (returnLoss (getMis s ch))
  rw [hturn, resultTaken, hresult]
  exact ⟨_, _, _, _, rfl⟩

/-! ### Ends of windows (R254) -/

/-- A window whose length has ended: its power referred to the ball, and whether TXEN stood through it. -/
def reflectedTaken (s : State) (ch : Nat) (p : Int) (x : Mismatch) : Mismatch := { x with
  win := 3, winPr := reflectedAtBall s ch p
  winOk := (getMis s ch).winOk && txen s ch && (getChan s ch).radio.st.transmits && !inTransition s ch }

/-- The event 7 sequence as it goes ahead of every queued transaction. -/
def closingTxns (s : State) (ch : Nat) : List Txn := (sequenceTxns s.objs ch 7 0).map fun x => { x with closing := true }

theorem exec_reflectedWindowLengthEnd {s : State} {ch since : Nat} (hat : (getMis s ch).winAt = some since) (hwin : (getMis s ch).win = 2)
    (hlong : since + cfgNat s.objs (radIdx ch 5) 1 * 32000 ≤ s.time) (p : Int) : exec (.reflectedWindowLengthEnd ch p) s =
      .next (if (closingTxns s ch).isEmpty then closeWindow (modMis s ch (reflectedTaken s ch p)) ch none
        else busQueue (modMis s ch (reflectedTaken s ch p)) ch (closingTxns s ch)) := by
  change execReflectedWindowLengthEnd ch p s = _
  have hlate : ¬ s.time < since + cfgNat s.objs (radIdx ch 5) 1 * usUnits := Nat.not_lt.2 hlong
  simp only [execReflectedWindowLengthEnd, hat]
  rw [if_neg (by simp [hwin, hlate])]
  rfl

theorem closingTxns_isEmpty {s : State} {ch : Nat} : (closingTxns s ch).isEmpty = true ↔ sequenceTxns s.objs ch 7 0 = [] := by
  simp [closingTxns]

/-- A window that closes without a forward measurement at hand waits for one. -/
def windowClosed (x : Mismatch) : Mismatch := { x with win := 4 }

theorem closeWindow_none (s : State) (ch : Nat) : closeWindow s ch none = if (getMis s ch).winOk then
    mismatchResult (modMis s ch windowClosed) ch else skipMeasurement (modMis s ch windowClosed) ch := by
  have hok : (getMis (modMis s ch windowClosed) ch).winOk = (getMis s ch).winOk := by rw [getMis_modMis]; rfl
  rw [← hok]
  rfl

theorem closeWindow_others (s : State) {ch c : Nat} (hc : c ≠ ch) : getChan (closeWindow s ch none) c = getChan s c := by
  rw [closeWindow_none]
  split
  · rw [mismatchResult_others _ hc, getChan_modMis_ne _ _ _ _ hc]
  · rw [skipMeasurement, getChan_modMis_ne _ _ _ _ hc, getChan_modMis_ne _ _ _ _ hc]

theorem closeWindow_eq_frame (s : State) (ch : Nat) : ∃ chans buses tally out, closeWindow s ch none = { s with chans, buses, tally, out } := by
  rw [closeWindow_none]
  split
  · exact mismatchResult_eq_frame (modMis s ch windowClosed) ch
  · exact ⟨_, _, _, _, rfl⟩

/-- A window that closes with the conditions held throughout leaves the measurement's figures. -/
theorem closeWindow_measures {s : State} {ch : Nat} (hok : (getMis s ch).winOk = true) : ∃ x : Mismatch,
    x.unsearched = (measured s.time (searchState s ch) (returnLoss (getMis s ch)) (windowClosed (getMis s ch))).unsearched ∧
    getMis (closeWindow s ch none) ch = { x with due := (tableTurn (getMis s ch) (returnLoss (getMis s ch)) x.recent).or x.due } := by
  obtain ⟨x, hx, hmis⟩ := mismatchResult_mis (modMis s ch windowClosed) ch
  rw [getMis_modMis] at hx hmis
  have hstate : searchState (modMis s ch windowClosed) ch = searchState s ch := by simp only [searchState, getMis_modMis]; rfl
  rw [hstate] at hx
  refine ⟨x, hx, ?_⟩
  rw [closeWindow_none, if_pos hok, hmis]
  rfl

/-- One that closes with a condition broken is an opportunity skipped. -/
theorem closeWindow_skips {s : State} {ch : Nat} (hok : (getMis s ch).winOk = false) : getMis (closeWindow s ch none) ch =
    { windowClosed (getMis s ch) with skipped := inc32 (getMis s ch).skipped, due := if (getMis s ch).probing then some 3 else (getMis s ch).due } := by
  rw [closeWindow_none, if_neg (by simp [hok]), skipMeasurement, getMis_modMis, getMis_modMis]
  rfl

theorem closeWindow_win (s : State) (ch : Nat) :
    (getMis (closeWindow s ch none) ch).win = 4 ∧ (getMis (closeWindow s ch none) ch).winPr = (getMis s ch).winPr := by
  cases hok : (getMis s ch).winOk with
  | true =>
    obtain ⟨x, hx, hmis⟩ := closeWindow_measures hok
    have hwin := congrArg Mismatch.win hx
    have hpr := congrArg Mismatch.winPr hx
    rw [hmis]
    exact ⟨hwin, hpr⟩
  | false =>
    rw [closeWindow_skips hok]
    exact ⟨rfl, rfl⟩

/-- The figures of a closed window's measurement, and the state that it calls for out of each state of Table 10.6. -/
theorem closeWindow_ok {s : State} {ch : Nat} (hok : (getMis s ch).winOk = true) :
    let rl := returnLoss (getMis s ch)
    let x := getMis (closeWindow s ch none) ch
    x.rl = rl ∧ x.pf = clip16 (getMis s ch).winPf ∧ x.pr = clip16 (getMis s ch).winPr ∧
      ((getMis s ch).st = 0 → x.due = if rl < 350 then some 2 else if rl < 600 then some 1 else (getMis s ch).due) ∧
      ((getMis s ch).st = 1 → rl < 350 → x.due = some 2) ∧
      ((getMis s ch).st = 2 → (getMis s ch).probing = true → x.due = some (if 450 ≤ rl then 1 else 3)) := by
  obtain ⟨x, hx, hmis⟩ := closeWindow_measures hok
  have hdue := congrArg Mismatch.due hx
  have hloss := congrArg Mismatch.rl hx
  have hpf := congrArg Mismatch.pf hx
  have hpr := congrArg Mismatch.pr hx
  change x.due = (getMis s ch).due at hdue
  dsimp only
  rw [hmis]
  refine ⟨hloss, hpf, hpr, fun hst => ?_, fun hst hlow => ?_, fun hst hprobing => ?_⟩
  · simp only [tableTurn, hst, hdue]
    split_ifs <;> rfl
  · simp only [tableTurn, hst, if_pos hlow, Option.some_or]
  · simp only [tableTurn, hst, hprobing, if_true, Option.some_or, ge_iff_le]

/-! ### Mismatch states (R257, R258) -/

theorem getMis_setMismatch (s : State) (ch st : Nat) : getMis (setMismatch s ch st) ch = { getMis s ch with st } := by
  rw [setMismatch, getMis_congr (s := modMis s ch fun m => { m with st }) (by simp), getMis_modMis]

/-- What an asserted mute leaves of a mismatch record: TXEN that falls fails the measurement under way. -/
theorem addMute_reads {α : Type} (read : Mismatch → α) (hread : ∀ x, read { x with winOk := false } = read x) (s : State) (o : Owner)
    (sc : Scope) (c : Nat) : read (getMis (addMute s o sc) c) = read (getMis s c) :=
  addMute_chan_reads (fun c => read c.mis) (fun _ => rfl) (fun c => hread c.mis) s o sc c

theorem getGain_addMute (s : State) (o : Owner) (sc : Scope) (g : Nat) : getGain (addMute s o sc) g = getGain s g :=
  getGain_congr (by simp) g

/-- Muted: the mute counted and asserted. -/
theorem enterMuted_spec (s : State) (ch : Nat) : (getMis (enterMuted s ch) ch).st = 2 ∧ muteAt (enterMuted s ch) (.mismatch ch) (.chan ch) ∧
    (getMis (enterMuted s ch) ch).mutes = inc32 (getMis s ch).mutes := by
  refine ⟨?_, (mem_addMute ..).2 (.inr rfl), ?_⟩
  · rw [enterMuted, addMute_reads (·.st) fun _ => rfl, getMis_modMis, getMis_setMismatch]
  · rw [enterMuted, addMute_reads (·.mutes) fun _ => rfl, getMis_modMis, getMis_setMismatch]

/-- The tuner cap of a transmit side as Capped is entered. -/
def capEntered (x : SlotGain) : SlotGain := { x with
  tunerCap := match x.eff with | some e => clip16 (effDb e - 300) | none => x.tunerCap, tunerKept := none }

/-- Capped but for the search that it may start. -/
def cappedSides (s : State) (ch : Nat) : State := forEach (chanTx (setMismatch s ch 1) ch) (setMismatch s ch 1) fun s g => modGain s g capEntered

theorem enterCapped_eq (s : State) (ch : Nat) : enterCapped s ch =
    if cfgBool (cappedSides s ch).objs (radIdx ch 4) 6 then startSearch (cappedSides s ch) ch else cappedSides s ch := rfl

theorem enterCapped_eq_frame (s : State) (ch : Nat) : ∃ chans, enterCapped s ch = { cappedSides s ch with chans } := by
  rw [enterCapped_eq]
  split
  · exact startSearch_eq_chans ..
  · exact ⟨_, rfl⟩

theorem enterCapped_spec (s : State) (ch : Nat) : (getMis (enterCapped s ch) ch).st = 1 ∧ (enterCapped s ch).mutes = s.mutes ∧
    ∀ g, g ∈ chanTx s ch → getGain (enterCapped s ch) g = capEntered (getGain s g) := by
  obtain ⟨chans, h⟩ := enterCapped_eq_frame s ch
  have hst : (getMis (cappedSides s ch) ch).st = 1 := by
    rw [cappedSides, getMis_congr (s := setMismatch s ch 1) (by simp), getMis_setMismatch]
  have hsides : chanTx (setMismatch s ch 1) ch = chanTx s ch := by simp [chanTx, setMismatch]
  refine ⟨?_, by rw [h]; simp [cappedSides, setMismatch], fun g hg => ?_⟩
  · rw [enterCapped_eq]
    split
    · rw [startSearch_reads (·.st) fun _ _ => rfl, hst]
    · exact hst
  · rw [getGain_congr (t := enterCapped s ch) (s := cappedSides s ch) (by rw [h]), cappedSides,
      getGain_turns (chanTx_nodup _ ch) (fun u g k => getGain_modGain_eq u g k capEntered), if_pos (hsides ▸ hg),
      getGain_congr (s := s) (by simp [setMismatch])]

/-- The tuner cap of a side as Normal is entered. -/
def capReleased (x : SlotGain) : SlotGain := if x.tunerCap = 32767 then x else { x with tunerCap := 32767, tunerKept := none }

theorem enterNormal_spec (s : State) (ch : Nat) : (getMis (enterNormal s ch) ch).st = 0 ∧
    ∀ g, g ∈ chanSlots ch → (getGain (enterNormal s ch) g).tunerCap = 32767 := by
  have hturn (u : State) (g k : Nat) :
      getGain (if (getGain u g).tunerCap = 32767 then u else modGain u g fun x => { x with tunerCap := 32767, tunerKept := none }) k =
        if k = g then capReleased (getGain u g) else getGain u k := by
    unfold capReleased
    split_ifs with hcap hk hk
    · rw [hk]
    · rfl
    · rw [getGain_modGain_eq, if_pos hk]
    · rw [getGain_modGain_eq, if_neg hk]
  refine ⟨?_, fun g hg => ?_⟩
  · rw [enterNormal, getMis_congr (s := setMismatch s ch 0) (by simp), getMis_setMismatch]
  · rw [enterNormal, getGain_turns (chanSlots_nodup ch) hturn, if_pos hg]
    unfold capReleased
    split
    · assumption
    · rfl

/-- The cap that a probe set aside, returned. -/
def capRestored (x : SlotGain) : SlotGain := match x.tunerKept with | some c => { x with tunerCap := c, tunerKept := none } | none => x

theorem getGain_restoreCap (s : State) (g k : Nat) : getGain (restoreCap s g) k = if k = g then capRestored (getGain s g) else getGain s k := by
  cases hkept : (getGain s g).tunerKept with
  | none =>
    simp only [restoreCap, capRestored, hkept]
    split_ifs with h
    · rw [h]
    · rfl
  | some c =>
    simp only [restoreCap, capRestored, hkept]
    rw [getGain_modGain_eq]

theorem endProbe_spec {s : State} {ch : Nat} (hprobing : (getMis s ch).probing = true) : (getMis (endProbe s ch) ch).probing = false ∧
    muteAt (endProbe s ch) (.mismatch ch) (.chan ch) ∧ ∀ g, g ∈ chanSlots ch → getGain (endProbe s ch) g = capRestored (getGain s g) := by
  have h : endProbe s ch = addMute (forEach (chanSlots ch) (modMis s ch fun m => { m with probing := false }) restoreCap) (.mismatch ch) (.chan ch) :=
    if_neg (by simp [hprobing])
  rw [h]
  refine ⟨?_, (mem_addMute ..).2 (.inr rfl), fun g hg => ?_⟩
  · rw [addMute_reads (·.probing) fun _ => rfl, getMis_congr (s := modMis s ch fun m => { m with probing := false }) (by simp), getMis_modMis]
  · rw [getGain_addMute, getGain_turns (chanSlots_nodup ch) getGain_restoreCap, if_pos hg]
    rfl

/-- The state that a mismatch turn acts on: what was due is done. -/
def turnTaken (s : State) (ch : Nat) : State := modMis s ch fun m => { m with due := none }

theorem mismatchTurn_muted {s : State} {ch : Nat} (h : (getMis s ch).due = some 2) : mismatchTurn s ch = enterMuted (turnTaken s ch) ch := by
  simp only [mismatchTurn, h]; rfl

theorem mismatchTurn_capped {s : State} {ch : Nat} (h : (getMis s ch).due = some 1) : mismatchTurn s ch =
    enterCapped (dropMute (modMis (turnTaken s ch) ch fun m => { m with probing := false }) (.mismatch ch)) ch := by
  simp only [mismatchTurn, h]; rfl

theorem mismatchTurn_normal {s : State} {ch : Nat} (h : (getMis s ch).due = some 0) : mismatchTurn s ch = enterNormal (turnTaken s ch) ch := by
  simp only [mismatchTurn, h]; rfl

theorem mismatchTurn_probeEnded {s : State} {ch : Nat} (h : (getMis s ch).due = some 3) : mismatchTurn s ch = endProbe (turnTaken s ch) ch := by
  simp only [mismatchTurn, h]; rfl

/-! ### The obligation of the mismatch measurements -/

/-- Settles O34: a measurement's commands change one channel's record and its bus, the figures and the state called for follow Table 10.6,
and the turn at the boundary enters that state. -/
theorem mismatchMeasurements : Obligations.MismatchMeasurements := by
  intro s ch
  refine ⟨fun hcore => ⟨fun p hdue hwin hallowed => ?_, fun hdue hwin => ?_, fun hst hprobing hdue => ?_⟩,
    fun p since hat hwin hlong => ⟨fun hentries => ?_, fun hnone => ?_⟩, fun t ht => ⟨fun hdue => ?_, fun hdue => ?_, fun hdue => ?_,
      fun hdue hprobing => ?_⟩⟩
  · -- a window opens
    let u := modMis (modMis s ch (measureNoted s.time)) ch (windowBegun s.time (forwardAtBall s ch p) (sequenceTxns s.objs ch 6 2).isEmpty)
    let t := busQueue u ch (sequenceTxns s.objs ch 6 2)
    have hexec : exec (.mismatchMeasurement ch (some p)) s = .next t :=
      (exec_mismatchMeasurement_opens hcore hdue hwin hallowed).trans (congrArg _ (openWindow_eq ..))
    have hchans : t.chans = u.chans := by simp only [t, busQueue_keeps]
    have hmis : getMis t ch = windowBegun s.time (forwardAtBall s ch p) (sequenceTxns s.objs ch 6 2).isEmpty (measureNoted s.time (getMis s ch)) := by
      rw [getMis_congr hchans, getMis_modMis, getMis_modMis]
    refine ⟨t, hexec, by rw [hmis]; rfl, by rw [hmis]; rfl, by rw [hmis]; rfl, ?_, ?_, fun c hc => ?_, ?_⟩
    · rw [hmis]
      simp [windowBegun]
    · exact (busQueue_takes u ch _).congr rfl rfl rfl rfl (List.append_nil _).symm
    · rw [getChan_congr hchans, getChan_modMis_ne _ _ _ _ hc, getChan_modMis_ne _ _ _ _ hc]
    · rw [show t = busQueue u ch _ from rfl, busQueue_frame]
      rfl
  · -- an opportunity skipped
    refine ⟨_, exec_mismatchMeasurement_skips hcore hdue hwin, ?_, fun c hc => ?_, rfl⟩
    · rw [skipMeasurement, getMis_modMis, getMis_modMis]
      rfl
    · rw [skipMeasurement, getChan_modMis_ne _ _ _ _ hc, getChan_modMis_ne _ _ _ _ hc]
  · -- a probe
    let u := probeCapped s ch
    let v := probeSearches u ch
    obtain ⟨chans, buses, out, hv⟩ := probeSearches_eq u ch
    have hu : getMis u ch = { getMis s ch with probing := true, lastProbe := s.time } := by
      rw [getMis_congr (probeCapped_chans s ch), getMis_modMis]
    have hobjs : u.objs = s.objs := by simp [u, probeCapped]
    have hstates : tunerStates u.objs ch = tunerStates s.objs ch := by rw [hobjs]
    have hgain (g : Nat) : getGain (dropMute v (.mismatch ch)) g = getGain u g := getGain_congr (by rw [show v = _ from hv]; rfl) g
    refine ⟨dropMute v (.mismatch ch), exec_mismatchProbe hcore hst hprobing hdue, ?_, ?_, hasMute_dropMute v _, fun g hg => ?_, fun g hg => ?_,
      fun c hc => ?_, fun hon hsome => probeSearches_tests (by rwa [hobjs]) (by rwa [hobjs]), fun hoff => ?_, ?_⟩
    · exact (probeSearches_reads (·.probing) (fun _ _ => rfl) (fun _ _ => rfl) u ch).trans (by rw [hu])
    · exact (probeSearches_reads (·.lastProbe) (fun _ _ => rfl) (fun _ _ => rfl) u ch).trans (by rw [hu])
    · rw [hgain, getGain_probeCapped, if_pos hg]
      exact ⟨rfl, fun hcap => by rw [capProbed, if_neg hcap]⟩
    · rw [hgain, getGain_probeCapped, if_neg hg]
    · exact (probeSearches_others u hc).trans ((getChan_congr (probeCapped_chans s ch) c).trans (getChan_modMis_ne _ _ _ _ hc))
    · have hsame : v = u := probeSearches_of_off (by rwa [hobjs])
      rw [hsame]
      exact ⟨by simp [u, probeCapped], by simp [u, probeCapped]⟩
    · rw [show v = _ from hv]
      apply state_ext <;> simp [u, probeCapped]
  · -- the window's length has ended
    let u := modMis s ch (reflectedTaken s ch p)
    have hchans : (busQueue u ch (closingTxns s ch)).chans = u.chans := by simp only [busQueue_keeps]
    have hmis := (getMis_congr hchans ch).trans (getMis_modMis s ch (reflectedTaken s ch p))
    refine ⟨_, (exec_reflectedWindowLengthEnd hat hwin hlong p).trans (congrArg _ (if_neg (by rwa [closingTxns_isEmpty]))), by rw [hmis]; rfl,
      by rw [hmis]; rfl, ?_, fun c hc => ?_, ?_⟩
    · exact (busQueue_takes u ch _).congr rfl rfl rfl rfl (List.append_nil _).symm
    · rw [getChan_congr hchans, getChan_modMis_ne _ _ _ _ hc]
    · rw [busQueue_frame]
      rfl
  · -- and the window closes at once
    intro rl ok
    let u := modMis s ch (reflectedTaken s ch p)
    have hu : getMis u ch = reflectedTaken s ch p (getMis s ch) := getMis_modMis ..
    have hread {α : Type} (read : Mismatch → α) (hkeep : ∀ x, read (reflectedTaken s ch p x) = read x) : read (getMis u ch) = read (getMis s ch) := by
      rw [hu, hkeep]
    have hpr : (getMis u ch).winPr = reflectedAtBall s ch p := by rw [hu]; rfl
    have hrl : returnLoss (getMis u ch) = rl := by rw [hu]; rfl
    have hok : (getMis u ch).winOk = ok := by rw [hu]; rfl
    refine ⟨_, (exec_reflectedWindowLengthEnd hat hwin hlong p).trans (congrArg _ (if_pos (closingTxns_isEmpty.2 hnone))),
      (closeWindow_win u ch).1, (closeWindow_win u ch).2.trans hpr, fun h => ?_, fun h => ?_, fun c hc => ?_, ?_⟩
    · obtain ⟨hloss, hpf, hpr', hnormal, hcapped, hprobe⟩ := closeWindow_ok (hok.trans h)
      rw [hrl] at hloss hnormal hcapped hprobe
      rw [hread (·.winPf) fun _ => rfl] at hpf
      rw [hpr] at hpr'
      rw [hread (·.st) fun _ => rfl] at hnormal hcapped hprobe
      rw [hread (·.due) fun _ => rfl] at hnormal
      rw [hread (·.probing) fun _ => rfl] at hprobe
      exact ⟨hloss, hpf, hpr', hnormal, hcapped, hprobe⟩
    · rw [closeWindow_skips (hok.trans h)]
      exact ⟨congrArg inc32 (hread (·.skipped) fun _ => rfl), hread (·.rl) fun _ => rfl⟩
    · rw [closeWindow_others u hc, getChan_modMis_ne _ _ _ _ hc]
    · obtain ⟨chans, buses, tally, out, hframe⟩ := closeWindow_eq_frame u ch
      rw [hframe]
      rfl
  · -- Muted
    rw [← ht, mismatchTurn_muted hdue]
    obtain ⟨hst, hmute, hcount⟩ := enterMuted_spec (turnTaken s ch) ch
    exact ⟨hst, hmute, by rw [hcount, turnTaken, getMis_modMis]⟩
  · -- Capped
    rw [← ht, mismatchTurn_capped hdue]
    let u := dropMute (modMis (turnTaken s ch) ch fun m => { m with probing := false }) (.mismatch ch)
    obtain ⟨hst, hmutes, hgain⟩ := enterCapped_spec u ch
    refine ⟨hst, (hasMute_congr hmutes _).trans (hasMute_dropMute ..), fun g hg e he => ?_⟩
    have hsame : getGain u g = getGain s g := rfl
    rw [hgain g hg, hsame]
    simp only [capEntered, he]
  · -- Normal
    rw [← ht, mismatchTurn_normal hdue]
    exact enterNormal_spec (turnTaken s ch) ch
  · -- a probe ends without a pass
    rw [← ht, mismatchTurn_probeEnded hdue]
    obtain ⟨hend, hmute, hgain⟩ := endProbe_spec (s := turnTaken s ch) (ch := ch) (by rw [turnTaken, getMis_modMis]; exact hprobing)
    refine ⟨hend, hmute, fun g hg c hc => ?_⟩
    have hsame : getGain (turnTaken s ch) g = getGain s g := rfl
    rw [hgain g hg, hsame]
    simp only [capRestored, hc]

end Sys2Proof.Machine

namespace Sys2Proof.Machine

/-! ### Restart requests (R433) -/

/-- A restart request is carried out by the rule of 0x1240:01. -/
theorem commandRestart_answers {s : State} {m kind num status : Nat} {w : State → State} (hm : mayWrite s m = true) (hkind : kind < 256)
    (hnum : num < 256) (hwrite : ∀ u, LockNoted s u → blockRestartWrite u (256 * kind + num) = (status, w u)) (holp : ∀ u, (w u).olp = u.olp) :
    ∃ u, LockNoted s u ∧ Answers s (w u) (commandRestart s m kind num) m 0x1240 1 status := by
  have hv : 256 * kind + num < 256 ^ 2 := by omega
  rw [commandRestart, Nat.min_eq_left (by omega)]
  refine commandValue_answers (o := plain .u16 .wo) hm rfl (.inr rfl) rfl hv rfl (by omega) (by omega) (fun u hu => ?_) holp
  have hval : ofBytes (beBytes 2 (256 * kind + num)) = 256 * kind + num := by rw [ofBytes_beBytes, Nat.mod_eq_of_lt hv]
  exact (congrArg (blockRestartWrite u) hval).trans (hwrite u hu)

theorem blockRestartWrite_refused {s : State} {kind n : Nat} (hn : n < 256) (hexists : blockExists kind n = true)
    (hbusy : blockRestarting s kind n = true) : blockRestartWrite s (256 * kind + n) = (0x0C, s) := by
  have hkind : (256 * kind + n) / 256 = kind := by omega
  have hnum : (256 * kind + n) % 256 = n := by omega
  simp only [blockRestartWrite, hkind, hnum, hexists, hbusy, Bool.not_true, Bool.false_eq_true, if_false, if_true]

theorem blockRestartWrite_begins {s : State} {kind n : Nat} (hn : n < 256) (hexists : blockExists kind n = true)
    (hfree : blockRestarting s kind n = false) (hpowered : kind = 1 → (getRod s n).powered = true) :
    blockRestartWrite s (256 * kind + n) = (0, restartBlock s kind n 0xFFFF) := by
  have hkind : (256 * kind + n) / 256 = kind := by omega
  have hnum : (256 * kind + n) % 256 = n := by omega
  have hup : ¬ (kind = 1 ∧ (!(getRod s n).powered) = true) := fun h => by simp [hpowered h.1] at h
  simp only [blockRestartWrite, hkind, hnum, hexists, hfree, Bool.not_true, Bool.false_eq_true, if_false, if_neg hup]

/-- A restart of a block that restarts is refused. -/
theorem commandRestart_refused {s : State} {m kind n : Nat} (hm : mayWrite s m = true) (hkind : kind < 256) (hn : n < 256)
    (hexists : blockExists kind n = true) (hbusy : blockRestarting s kind n = true) :
    answered (commandRestart s m kind n) m 0x1240 1 0x0C ∧
      commandRestart s m kind n = { s with
        commit := (commandRestart s m kind n).commit, olp := (commandRestart s m kind n).olp, out := (commandRestart s m kind n).out } ∧
      OnlyNotes s (commandRestart s m kind n) := by
  obtain ⟨u, ⟨at_, rfl⟩, h⟩ := commandRestart_answers (w := id) hm hkind hn (fun u ⟨at_, hu⟩ => by
    subst hu
    exact blockRestartWrite_refused hn hexists hbusy) fun _ => rfl
  exact ⟨h.answer, by rw [h.rest]; rfl, h.notes⟩

theorem restartBlock_olp (s : State) (kind n cause : Nat) : (restartBlock s kind n cause).olp = s.olp := by
  obtain ⟨_, holp, _⟩ := (restartBlock_keeps s kind n cause).records
  exact holp

/-- A restart that begins. -/
theorem commandRestart_begins {s : State} {m kind n : Nat} (hm : mayWrite s m = true) (hkind : kind < 256) (hn : n < 256)
    (hexists : blockExists kind n = true) (hfree : blockRestarting s kind n = false) (hpowered : kind = 1 → (getRod s n).powered = true) :
    ∃ u, LockNoted s u ∧ Answers s (restartBlock u kind n 0xFFFF) (commandRestart s m kind n) m 0x1240 1 0 :=
  commandRestart_answers hm hkind hn (fun u ⟨at_, hu⟩ => by
    subst hu
    exact blockRestartWrite_begins hn hexists hfree hpowered) fun u => restartBlock_olp u kind n 0xFFFF

/-- The restart counted. -/
def restartCounted (s : State) : State := { s with life := { s.life with restarts := inc32 s.life.restarts } }

/-! ### Ports and lanes restart (R286, Table 18.7) -/

theorem endKind_streamCode {kind l n : Nat} (hkind : kind < 4) (hl : l < 16) (hn : n < 128) : endKind (streamCode kind l n) = kind := by
  simp only [endKind, streamCode, bits]
  omega

theorem endLink_streamCode {l n : Nat} (kind : Nat) (hl : l < 16) (hn : n < 128) : endLink (streamCode kind l n) = l := by
  simp only [endLink, streamCode, bits]
  omega

/-- The stream codes of a port. -/
theorem code_of_portStreams {cfg : SMap Nat} {kind l dir n : Nat} (hkind : kind < 4) (hl : l < 16) (hn : n ∈ portStreams cfg kind l dir) :
    endKind (streamCode kind l n) = kind ∧ endLink (streamCode kind l n) = l := by
  have hn : n < 128 := Nat.lt_trans (List.mem_range.1 (List.mem_of_mem_filter hn)) (by decide)
  exact ⟨endKind_streamCode hkind hl hn, endLink_streamCode kind hl hn⟩

/-- Of the DN ports (`dn`) or the XL lanes only number `l` may differ, and whether a port or lane restarts is as it was. -/
structure StreamsOnly (dn : Bool) (l : Nat) (s t : State) : Prop where
  dns : ∀ k, (dn = true → k ≠ l) → getDn t k = getDn s k
  xls : ∀ k, (dn = false → k ≠ l) → getXl t k = getXl s k
  dnRun : ∀ k, (getDn t k).restarting = (getDn s k).restarting
  xlRun : ∀ k, (getXl t k).restarting = (getXl s k).restarting

namespace StreamsOnly

variable {dn : Bool} {l : Nat} {s t u : State}

theorem of_ports (hdn : t.links.dn = s.links.dn) (hxl : t.links.xl = s.links.xl) : StreamsOnly dn l s t := by
  have hgetDn (k : Nat) : getDn t k = getDn s k := by rw [getDn, getDn, hdn]
  have hgetXl (k : Nat) : getXl t k = getXl s k := by rw [getXl, getXl, hxl]
  exact ⟨fun k _ => hgetDn k, fun k _ => hgetXl k, fun k => by rw [hgetDn], fun k => by rw [hgetXl]⟩

theorem of_links (h : t.links = s.links) : StreamsOnly dn l s t := of_ports (by rw [h]) (by rw [h])

theorem refl : StreamsOnly dn l s s := of_links rfl

theorem trans (h : StreamsOnly dn l s t) (h' : StreamsOnly dn l t u) : StreamsOnly dn l s u where
  dns k hk := (h'.dns k hk).trans (h.dns k hk)
  xls k hk := (h'.xls k hk).trans (h.xls k hk)
  dnRun k := (h'.dnRun k).trans (h.dnRun k)
  xlRun k := (h'.xlRun k).trans (h.xlRun k)

theorem ite {c : Prop} [Decidable c] (ht : StreamsOnly dn l s t) (hu : StreamsOnly dn l s u) : StreamsOnly dn l s (if c then t else u) :=
  ite_holds ht hu

theorem forEach {α : Type} {xs : List α} {f : State → α → State} (h : ∀ u, ∀ x ∈ xs, StreamsOnly dn l u (f u x)) (s : State) :
    StreamsOnly dn l s (Machine.forEach xs s f) :=
  List.foldlRecOn (motive := StreamsOnly dn l s) xs f refl fun u hu x hx => hu.trans (h u x hx)

theorem modDn {f : DnPort → DnPort} (hf : ∀ x, (f x).restarting = x.restarting) (s : State) : StreamsOnly true l s (Machine.modDn s l f) where
  dns k hk := getDn_modDn_ne _ _ _ _ (hk rfl)
  xls k _ := rfl
  dnRun k := by
    by_cases h : k = l
    · rw [h, getDn_modDn, hf]
    · rw [getDn_modDn_ne _ _ _ _ h]
  xlRun k := rfl

theorem modXl {f : XlLane → XlLane} (hf : ∀ x, (f x).restarting = x.restarting) (s : State) : StreamsOnly false l s (Machine.modXl s l f) where
  dns k _ := rfl
  xls k hk := getXl_modXl_ne _ _ _ _ (hk rfl)
  dnRun k := rfl
  xlRun k := by
    by_cases h : k = l
    · rw [h, getXl_modXl, hf]
    · rw [getXl_modXl_ne _ _ _ _ h]

section

variable {code : Nat} (hkind : (endKind code == 1) = dn) (hlink : endLink code = l)
include hkind hlink

theorem modIn (f : InStream → InStream) (s : State) : StreamsOnly dn l s (Machine.modIn s code f) := by
  subst hkind hlink
  unfold Machine.modIn
  split
  case isTrue h => rw [h]; exact modDn (fun _ => by rfl) s
  case isFalse h => rw [beq_eq_false_iff_ne.2 h]; exact modXl (fun _ => by rfl) s

theorem modOut (f : OutStream → OutStream) (s : State) : StreamsOnly dn l s (Machine.modOut s code f) := by
  subst hkind hlink
  unfold Machine.modOut
  split
  case isTrue h => rw [h]; exact modDn (fun _ => by rfl) s
  case isFalse h => rw [beq_eq_false_iff_ne.2 h]; exact modXl (fun _ => by rfl) s

theorem setStream (st : Nat) (s : State) : StreamsOnly dn l s (Machine.setStream s code st) := by
  unfold Machine.setStream
  extract_lets x u v
  have hu : StreamsOnly dn l s u := modIn hkind hlink _ s
  exact ite refl (hu.trans (ite (of_links (by simp [v])) (of_links (by simp [v]))))

end

section

variable {kind : Nat} (hkind : kind = 1 ∨ kind = 2) (hl : l < 16)
include hkind hl

theorem code {cfg : SMap Nat} {dir n : Nat} (hn : n ∈ portStreams cfg kind l dir) :
    (endKind (streamCode kind l n) == 1) = (kind == 1) ∧ endLink (streamCode kind l n) = l := by
  obtain ⟨hk, hlink⟩ := code_of_portStreams (by omega) hl hn
  exact ⟨by rw [hk], hlink⟩

theorem losePort (s : State) : StreamsOnly (kind == 1) l s (Machine.losePort s kind l) :=
  forEach (fun u _ hn => setStream (code hkind hl hn).1 (code hkind hl hn).2 3 u) s

theorem acquirePort (s : State) : StreamsOnly (kind == 1) l s (Machine.acquirePort s kind l) := by
  refine forEach (fun u n hn => ite ?_ refl) s
  obtain ⟨hk, hlink⟩ := code hkind hl hn
  exact (setStream hk hlink 1 u).trans (modIn hk hlink _ _)

theorem emptyOuts (s : State) : StreamsOnly (kind == 1) l s (Machine.emptyOuts s kind l) :=
  forEach (fun u _ hn => modOut (code hkind hl hn).1 (code hkind hl hn).2 _ u) s

end

theorem requestFlush (s : State) (q num : Nat) : StreamsOnly dn l s (Machine.requestFlush s q num) := of_ports rfl rfl

theorem restartSeqs (hl : l < 16) (s : State) : StreamsOnly true l s (Machine.restartSeqs s l) :=
  forEach (fun u _ hn => modOut (code (kind := 1) (.inl rfl) hl hn).1 (code (kind := 1) (.inl rfl) hl hn).2 _ u) s

/-- The egress queue of a DN port is queue 3, that of a lane 5, its relay queue 7. -/
theorem flushQueue {q : Nat} (hl : l < 16) (hdn : q = 3 → dn = true) (hxl : q = 5 ∨ q = 7 → dn = false) (s : State) :
    StreamsOnly dn l s (Machine.flushQueue s q l) := by
  unfold Machine.flushQueue
  extract_lets links u
  have hu : StreamsOnly dn l s u := of_ports rfl rfl
  split
  · rw [hdn rfl] at hu ⊢
    exact hu.trans (emptyOuts (kind := 1) (.inl rfl) hl u)
  · rw [hxl (.inl rfl)] at hu ⊢
    exact hu.trans (emptyOuts (kind := 2) (.inr rfl) hl u)
  · rw [hxl (.inr rfl)] at hu ⊢
    exact hu.trans (modXl (fun _ => by rfl) u)
  · exact of_ports rfl rfl
  · exact hu

theorem flushPort {queues : List Nat} (hl : l < 16) (hdn : ∀ q ∈ queues, q = 3 → dn = true)
    (hxl : ∀ q ∈ queues, q = 5 ∨ q = 7 → dn = false) (s : State) :
    StreamsOnly dn l s (Machine.flushPort s queues l) :=
  forEach (fun u q hq => ite (flushQueue hl (hdn q hq) (hxl q hq) u) refl) s

end StreamsOnly

theorem restartDn_ports {l : Nat} (hl : l < 16) (s : State) : (getDn (restartDn s l) l).restarting = true ∧
    ∀ k, k ≠ l → getDn (restartDn s l) k = getDn s k := by
  let u := dnDown s l
  have hu : StreamsOnly true l s u := (StreamsOnly.losePort (kind := 1) (.inl rfl) hl s).trans
    ((StreamsOnly.requestFlush _ 2 l).trans (.requestFlush _ 3 l))
  have hsame (k : Nat) : getDn (restartDn s l) k = getDn (modDn u l fun p => { p with restarting := true }) k := by
    have hlinks : (restartDn s l).links = (modDn u l fun p => { p with restarting := true }).links := by simp [restartDn, u]
    rw [getDn, getDn, hlinks]
  refine ⟨?_, fun k hk => ?_⟩
  · rw [hsame, getDn_modDn]
  · rw [hsame, getDn_modDn_ne _ _ _ _ hk, hu.dns k fun _ => hk]

/-- A lane's streams as the lane goes down: lost where no ring partner carries them (R307). -/
def xlRefresh (s : State) (l : Nat) : State := if xlFed s l then s else modXl (losePort s 2 l) l fun x => { x with done := 0, ring := [] }

/-- The ring partner's streams with them. -/
def partnerRefresh (s : State) (l : Nat) : State := match ringPartner s l with | some p => xlRefresh s p | none => s

/-- The lane's own record as it goes down. -/
def laneLow (keepLock : Bool) (x : XlLane) : XlLane := { x with up := false, good := 0, bad := 0, locked := x.locked && keepLock, release := 0 }

/-- What a lane that goes down leaves of its streams. -/
def laneEmptied (s : State) (l : Nat) (keepLock : Bool) : State := partnerRefresh (xlRefresh (modXl s l (laneLow keepLock)) l) l

theorem xlDown_eq (s : State) (l : Nat) (keepLock : Bool) : xlDown s l keepLock =
    forEach (throughQueues (laneEmptied s l keepLock) l) (requestFlush (requestFlush (laneEmptied s l keepLock) 4 l) 7 l)
      fun s m => requestFlush s 6 m := rfl

theorem xlRefresh_streams {l : Nat} (hl : l < 16) (s : State) : StreamsOnly false l s (xlRefresh s l) :=
  .ite .refl ((StreamsOnly.losePort (kind := 2) (.inr rfl) hl s).trans (.modXl (fun _ => by rfl) _))

theorem partnerRefresh_run (s : State) (l k : Nat) : (getXl (partnerRefresh s l) k).restarting = (getXl s k).restarting := by
  unfold partnerRefresh
  split
  case h_1 p hp =>
    have hp : p < 16 := by
      unfold ringPartner at hp
      dsimp only at hp
      split at hp
      · exact Option.some.inj hp ▸ ‹_›
      · cases hp
    exact (xlRefresh_streams hp s).xlRun k
  case h_2 => rfl

theorem getXl_congr {s t : State} (h : t.links = s.links) (k : Nat) : getXl t k = getXl s k := by rw [getXl, getXl, h]

theorem getDn_congr {s t : State} (h : t.links = s.links) (k : Nat) : getDn t k = getDn s k := by rw [getDn, getDn, h]

theorem getXl_requestFlush (s : State) (q num k : Nat) : getXl (requestFlush s q num) k = getXl s k := rfl

theorem xlDown_run {l : Nat} (hl : l < 16) (s : State) (keepLock : Bool) (k : Nat) :
    (getXl (xlDown s l keepLock) k).restarting = (getXl s k).restarting := by
  let u := modXl s l (laneLow keepLock)
  have hu : StreamsOnly false l s (xlRefresh u l) := (StreamsOnly.modXl (fun _ => by rfl) s).trans (xlRefresh_streams hl u)
  have hflush : getXl (xlDown s l keepLock) k = getXl (laneEmptied s l keepLock) k := by
    rw [xlDown_eq]
    rw [forEach_keep (fun u : State => getXl u k) _ _ fun u m => getXl_requestFlush u 6 m k, getXl_requestFlush, getXl_requestFlush]
  rw [hflush, laneEmptied, partnerRefresh_run, hu.xlRun]

theorem restartXl_run {l : Nat} (hl : l < 16) (s : State) : (getXl (restartXl s l) l).restarting = true := by
  let u := modXl s l fun x => { x with restarting := true }
  have hlinks : (restartXl s l).links = (requestFlush (xlDown u l false) 5 l).links := by simp [restartXl, u]
  have hsame : getXl (restartXl s l) l = getXl (xlDown u l false) l := (getXl_congr hlinks l).trans (getXl_requestFlush ..)
  rw [hsame, xlDown_run hl, getXl_modXl]

/-- What a port or lane that goes down may touch. -/
def PortFrame (s t : State) : Prop :=
  t = { s with links := t.links, chans := t.chans, buses := t.buses, mutes := t.mutes, tally := t.tally, out := t.out }

theorem PortFrame.trans {s t u : State} (h : PortFrame s t) (h' : PortFrame t u) : PortFrame s u := by
  unfold PortFrame at h h' ⊢
  rw [h', h]

theorem PortFrame.modXl (s : State) (l : Nat) (f : XlLane → XlLane) : PortFrame s (Machine.modXl s l f) := rfl

theorem PortFrame.requestFlush (s : State) (q num : Nat) : PortFrame s (Machine.requestFlush s q num) := rfl

theorem losePort_frame (s : State) (kind l : Nat) : PortFrame s (losePort s kind l) := by
  apply state_ext <;> simp [losePort]

theorem restartDn_frame (s : State) (l : Nat) : PortFrame s (restartDn s l) := by
  apply state_ext <;> simp [restartDn, dnDown, losePort]

theorem xlRefresh_frame (s : State) (l : Nat) : PortFrame s (xlRefresh s l) :=
  ite_holds (I := PortFrame s) rfl ((losePort_frame s 2 l).trans (.modXl ..))

theorem partnerRefresh_frame (s : State) (l : Nat) : PortFrame s (partnerRefresh s l) := by
  unfold partnerRefresh
  split
  · exact xlRefresh_frame ..
  · rfl

theorem xlDown_frame (s : State) (l : Nat) (keepLock : Bool) : PortFrame s (xlDown s l keepLock) := by
  have hempty : PortFrame s (laneEmptied s l keepLock) :=
    ((PortFrame.modXl s l (laneLow keepLock)).trans (xlRefresh_frame _ l)).trans (partnerRefresh_frame _ l)
  have hflush := (hempty.trans (.requestFlush _ 4 l)).trans (.requestFlush _ 7 l)
  rw [xlDown_eq]
  exact forEach_inv (PortFrame s) _ _ (fun u m hu => hu.trans (.requestFlush u 6 m)) _ hflush

theorem noteLinkState_frame (was : Nat) (s : State) (kind l : Nat) : PortFrame s (noteLinkState was s kind l) := by
  apply state_ext <;> simp

theorem restartXl_frame (s : State) (l : Nat) : PortFrame s (restartXl s l) := by
  have hdown := xlDown_frame (modXl s l fun x => { x with restarting := true }) l false
  exact (((PortFrame.modXl s l _).trans hdown).trans (.requestFlush _ 5 l)).trans (noteLinkState_frame ..)

/-- The end of the PLL restart touches no port. -/
theorem endPllRestart_ports (s : State) : (endPllRestart s).links.dn = s.links.dn ∧ (endPllRestart s).links.xl = s.links.xl := by
  unfold endPllRestart
  split <;> exact ⟨rfl, rfl⟩

/-- A DN port's record as its restart ends, its queues flushed. -/
def dnReturned (s : State) (l : Nat) : State := modDn (restartSeqs (flushPort s [2, 3] l) l) l fun p => { p with restarting := false }

/-- The returned port's state noted. -/
def dnNoted (s : State) (l : Nat) : State := endPllRestart (noteLinkState (dnState s l) (dnReturned s l) 1 l)

theorem portRestarted_dn {s : State} {l : Nat} (hl : l < 16) (hrun : (getDn s l).restarting = true) :
    portRestarted s l = if dnUp (dnNoted s l) l then acquirePort (dnNoted s l) 1 l else dnNoted s l := by
  rw [portRestarted, if_pos hl, if_neg (by simp [hrun])]
  rfl

theorem dnNoted_ports (s : State) (l : Nat) : StreamsOnly true l (dnReturned s l) (dnNoted s l) := by
  obtain ⟨hdn, hxl⟩ := endPllRestart_ports (noteLinkState (dnState s l) (dnReturned s l) 1 l)
  have hnote : (noteLinkState (dnState s l) (dnReturned s l) 1 l).links = (dnReturned s l).links := by simp
  exact .of_ports (hdn.trans (congrArg Links.dn hnote)) (hxl.trans (congrArg Links.xl hnote))

/-- A DN port whose restart ends restarts no more; the other ports are as they were. -/
theorem portRestarted_dn_ports {s : State} {l : Nat} (hl : l < 16) (hrun : (getDn s l).restarting = true) :
    (getDn (portRestarted s l) l).restarting = false ∧ ∀ k, k ≠ l → getDn (portRestarted s l) k = getDn s k := by
  let u := restartSeqs (flushPort s [2, 3] l) l
  have hu : StreamsOnly true l s u :=
    (StreamsOnly.flushPort hl (fun _ _ _ => rfl) (fun q hq h => by simp at hq; omega) s).trans (.restartSeqs hl _)
  have hv : StreamsOnly true l (dnReturned s l) (portRestarted s l) := by
    rw [portRestarted_dn hl hrun]
    exact (dnNoted_ports s l).trans (.ite (.acquirePort (kind := 1) (.inl rfl) hl _) .refl)
  refine ⟨?_, fun k hk => ?_⟩
  · rw [hv.dnRun, dnReturned, getDn_modDn]
  · rw [hv.dns k fun _ => hk, dnReturned, getDn_modDn_ne _ _ _ _ hk, hu.dns k fun _ => hk]

theorem portRestarted_dn_frame {s : State} {l : Nat} (hl : l < 16) (hrun : (getDn s l).restarting = true) : portRestarted s l = { s with
    chans := (portRestarted s l).chans, buses := (portRestarted s l).buses, mutes := (portRestarted s l).mutes, olp := (portRestarted s l).olp
    links := (portRestarted s l).links, tally := (portRestarted s l).tally, out := (portRestarted s l).out } := by
  rw [portRestarted_dn hl hrun]
  apply state_ext <;> simp [dnNoted, dnReturned, flushPort, restartSeqs, endPllRestart]

/-- A lane's record as its restart ends, its queues flushed. -/
def xlReturned (s : State) (l : Nat) : State := modXl (forgetLane (flushPort s [4, 5, 6, 7] l) l) l fun x => { x with restarting := false }

theorem portRestarted_xl {s : State} {l : Nat} (hrun : (getXl s l).restarting = true) :
    portRestarted s (l + 16) = endPllRestart (noteLinkState (xlState s l) (xlReturned s l) 2 l) := by
  rw [portRestarted, if_neg (by omega)]
  simp only [Nat.add_sub_cancel]
  rw [if_neg (by simp [hrun])]
  rfl

/-- A lane whose restart ends restarts no more; the other lanes are as they were. -/
theorem portRestarted_xl_ports {s : State} {l : Nat} (hl : l < 16) (hrun : (getXl s l).restarting = true) :
    (getXl (portRestarted s (l + 16)) l).restarting = false ∧ ∀ k, k ≠ l → getXl (portRestarted s (l + 16)) k = getXl s k := by
  let u := forgetLane (flushPort s [4, 5, 6, 7] l) l
  have hu : StreamsOnly false l s u :=
    (StreamsOnly.flushPort hl (fun q hq h => by simp at hq; omega) (fun _ _ _ => rfl) s).trans (.of_ports rfl rfl)
  have hxl : (portRestarted s (l + 16)).links.xl = (xlReturned s l).links.xl := by
    rw [portRestarted_xl hrun, (endPllRestart_ports _).2]
    simp
  have hsame (k : Nat) : getXl (portRestarted s (l + 16)) k = getXl (xlReturned s l) k := by rw [getXl, getXl, hxl]
  refine ⟨?_, fun k hk => ?_⟩
  · rw [hsame, xlReturned, getXl_modXl]
  · rw [hsame, xlReturned, getXl_modXl_ne _ _ _ _ hk, hu.xls k fun _ => hk]

theorem portRestarted_xl_frame {s : State} {l : Nat} (hrun : (getXl s l).restarting = true) : portRestarted s (l + 16) = { s with
    olp := (portRestarted s (l + 16)).olp, links := (portRestarted s (l + 16)).links, tally := (portRestarted s (l + 16)).tally } := by
  rw [portRestarted_xl hrun]
  apply state_ext <;> simp [xlReturned, forgetLane, flushPort, endPllRestart]

end Sys2Proof.Machine

namespace Sys2Proof.Machine

/-! ### The capture controller restarts (R337, R339) -/

/-- A mark unused; its firings go on counting. -/
def Mark.unused (x : Mark) : Mark := { firings := x.firings }

theorem smGet_unuse (ks : List Nat) (marks : SMap Mark) (k : Nat) :
    smGet {} (ks.foldl (fun l m => smMod {} l m Mark.unused) marks) k = if k ∈ ks then (smGet {} marks k).unused else smGet {} marks k := by
  induction ks generalizing marks with
  | nil => rfl
  | cons x ks ih =>
    rw [List.foldl_cons, ih, smGet_smMod]
    by_cases h : k = x
    · simp [h, Mark.unused]
    · simp [h]

theorem getMark_unuseMarks (s : State) (k : Nat) : getMark (unuseMarks s) k = (getMark s k).unused := by
  have h : getMark (unuseMarks s) k = smGet {} ((s.cap.marks.map (·.1)).foldl (fun l m => smMod {} l m Mark.unused) s.cap.marks) k := rfl
  rw [h, smGet_unuse]
  split
  · rfl
  · next hk => rw [getMark, smGet_of_not_mem _ hk]; rfl

/-- A stop of the capture leaves its marks and replays. -/
theorem captureHalt_cap (s : State) (st : Nat) : (captureHalt s st).cap.marks = s.cap.marks ∧ (captureHalt s st).cap.replays = s.cap.replays := by
  have hpage (u : State) (e : Nat × Nat) : (closePage u e.1 e.2 true).cap.marks = u.cap.marks ∧
      (closePage u e.1 e.2 true).cap.replays = u.cap.replays := by
    unfold closePage
    dsimp only
    split <;> exact ⟨rfl, rfl⟩
  constructor
  · refine forEach_keep (fun u : State => u.cap.marks) _ _ (fun u e => ?_) s
    change (if (getSrc u e.1).on = true then closePage u e.1 e.2 true else u).cap.marks = u.cap.marks
    split
    · exact (hpage u e).1
    · rfl
  · refine forEach_keep (fun u : State => u.cap.replays) _ _ (fun u e => ?_) s
    change (if (getSrc u e.1).on = true then closePage u e.1 e.2 true else u).cap.replays = u.cap.replays
    split
    · exact (hpage u e).2
    · rfl

theorem getReplay_endReplay (s : State) (r st k : Nat) : (getReplay (endReplay s r st) k).st =
    if k = r ∧ (getReplay s r).st = 1 then st else (getReplay s k).st := by
  unfold endReplay
  split
  case isTrue h =>
    have hmod : getReplay (tallyEvent (modReplay s r fun x => { x with st, rest := [], all := [] }) 0x0A04 (srcField 8 (16 + r)) []) k =
        getReplay (modReplay s r fun x => { x with st, rest := [], all := [] }) k := by simp only [getReplay, tallyEvent_keeps]
    rw [hmod, getReplay, modReplay, smGet_smMod]
    by_cases hk : k = r
    · simp [hk, h]
    · simp [hk, getReplay]
  case isFalse h => simp [h]

/-- Where every replay is stopped none runs. -/
theorem stopReplays_stops (s : State) {i : Nat} (hi : i < 8) : (getReplay (stopReplays s fun _ => true) i).st ≠ 1 := by
  by_cases h : (getReplay s i).st = 1
  · refine forEach_brings (P := fun u => (getReplay u i).st ≠ 1) (x := i) ?_ (fun u => ?_) (fun u y hu => ?_) s
    · simp [hi, h]
    · rw [getReplay_endReplay]
      split
      · decide
      · next hnot => exact fun hrun => hnot ⟨rfl, hrun⟩
    · rw [getReplay_endReplay]
      split
      · decide
      · exact hu
  · refine forEach_inv (fun u => (getReplay u i).st ≠ 1) _ _ (fun u y hu => ?_) s h
    rw [getReplay_endReplay]
    split
    · decide
    · exact hu

theorem stopReplays_marks (s : State) (p : Replay → Bool) : (stopReplays s p).cap.marks = s.cap.marks := by
  refine forEach_keep (fun u : State => u.cap.marks) _ _ (fun u r => ?_) s
  unfold endReplay
  split
  · simp [modReplay]
  · rfl

theorem restartCapture_cap (s : State) : (restartCapture s).cap.restarting = true ∧ (restartCapture s).cap.st = 3 ∧
    (∀ k, getMark (restartCapture s) k = { firings := (getMark s k).firings }) ∧
    ∀ i, i < 8 → (smGet {} (restartCapture s).cap.replays i).st ≠ 1 := by
  let u := stopReplays s fun _ => true
  obtain ⟨hmarks, hreplays⟩ := captureHalt_cap u 3
  refine ⟨by unfold restartCapture; rfl, by unfold restartCapture unuseMarks captureHalt; rfl, fun k => ?_, fun i hi => ?_⟩
  · refine (getMark_unuseMarks (captureHalt u 3) k).trans ?_
    rw [getMark, hmarks, stopReplays_marks]
    rfl
  · have h : (restartCapture s).cap.replays = u.cap.replays := hreplays
    rw [h]
    exact stopReplays_stops s hi

theorem restartCapture_frame (s : State) : restartCapture s = { s with cap := (restartCapture s).cap, tally := (restartCapture s).tally } := by
  apply state_ext <;> simp [restartCapture, unuseMarks]

theorem formRing_cap (s : State) : (formRing s).cap.restarting = s.cap.restarting := by
  have htrain (u : State) (n : Nat) : (retrainDdr u n).cap.restarting = u.cap.restarting := by
    unfold retrainDdr
    dsimp only
    split <;> simp
  have hexport (u : State) (l : Nat) (f : Export → Export) : (modExport u l f).cap.restarting = u.cap.restarting := rfl
  unfold formRing
  rw [forEach_keep (fun u : State => u.cap.restarting) _ _ fun u l => hexport u l _]
  exact forEach_keep (fun u : State => u.cap.restarting) _ _ htrain s

/-- A change of the capture store alone, with draws. -/
def StoreFrame (s t : State) : Prop := t = { s with cap := t.cap, free := t.free }

theorem StoreFrame.trans {s t u : State} (h : StoreFrame s t) (h' : StoreFrame t u) : StoreFrame s u := by
  unfold StoreFrame at h h' ⊢
  rw [h', h]

theorem StoreFrame.setCap (s : State) (cap : Capture) : StoreFrame s { s with cap } := rfl

theorem retrainDdr_frame (s : State) (n : Nat) : StoreFrame s (retrainDdr s n) := by
  unfold retrainDdr
  dsimp only
  split <;> rfl

theorem formRing_frame (s : State) : StoreFrame s (formRing s) := by
  have hexport (u : State) (l : Nat) (f : Export → Export) : StoreFrame u (modExport u l f) := rfl
  have htrained : StoreFrame s (forEach s.cap.ddrFailed s retrainDdr) :=
    forEach_inv (StoreFrame s) _ _ (fun u n hu => hu.trans (retrainDdr_frame u n)) s rfl
  exact forEach_inv (StoreFrame s) _ _ (fun u l hu => hu.trans (hexport u l _)) _ (htrained.trans (.setCap _ _))

/-! ### Ends of block restarts (Table 18.7) -/

theorem blockRestartComplete_due {s : State} {kind n : Nat} (hon : s.life.power ≠ .off) (hexists : blockExists kind n = true)
    (hbusy : blockRestarting s kind n = true) :
    ¬ (s.life.power = .off ∨ (!blockExists kind n) = true ∨ (!blockRestarting s kind n) = true) := by
  simp [hon, hexists, hbusy]

/-- A Cell Finder back at work (R231). -/
def finderBack (s : State) (r : Nat) : State := endFallback (modRod s r fun x => { x with
  finder := b2n (!(rodSides s.objs r).isEmpty), visited := [], dwellAt := s.time, dwellUsable := false }) r

theorem finderBack_rod (s : State) (r : Nat) : (getRod (finderBack s r) r).finder ≤ 1 ∧ (getRod (finderBack s r) r).visited = [] := by
  have hle (b : Bool) : b2n b ≤ 1 := by cases b <;> decide
  unfold finderBack endFallback
  dsimp only
  split
  · rw [getRod_modRod, getRod_modRod]
    exact ⟨hle _, rfl⟩
  · rw [getRod_modRod]
    exact ⟨hle _, rfl⟩

theorem finderBack_frame (s : State) (r : Nat) : finderBack s r = { s with rods := (finderBack s r).rods } := by
  unfold finderBack endFallback
  dsimp only
  split <;> rfl

end Sys2Proof.Machine

namespace Sys2Proof.Machine

/-! ### What mutes and radio control leave of a channel -/

/-- Of a channel: what its rod's restart and calibration set back, and neither mutes nor radio control change. -/
def Chan.figures (c : Chan) : Nat × Nat × Int × Int × Bool × Nat :=
  (c.adcOver, c.nines.recomputed, c.notchRe, c.notchIm, c.sent.locked, c.cal.frame)

/-- Every channel's figures are as they were. -/
def FiguresKept (s t : State) : Prop := ∀ c, (getChan t c).figures = (getChan s c).figures

namespace FiguresKept

variable {s t u : State}

theorem of_chans (h : t.chans = s.chans) : FiguresKept s t := fun c => by rw [getChan_congr h c]

theorem refl : FiguresKept s s := fun _ => rfl

theorem trans (h : FiguresKept s t) (h' : FiguresKept t u) : FiguresKept s u := fun c => (h' c).trans (h c)

theorem ite {c : Prop} [Decidable c] (ht : FiguresKept s t) (hu : FiguresKept s u) : FiguresKept s (if c then t else u) := ite_holds ht hu

theorem forEach {α : Type} {xs : List α} {f : State → α → State} (h : ∀ u x, FiguresKept u (f u x)) (s : State) :
    FiguresKept s (Machine.forEach xs s f) :=
  forEach_inv (FiguresKept s) xs f (fun u x hu => hu.trans (h u x)) s refl

theorem of_drives {P : Nat → Prop} (h : Drives P s t) : FiguresKept s t := fun c => by
  have hfigures := congrArg Chan.figures (h.steady c)
  exact hfigures

theorem modRadio (s : State) (ch : Nat) (f : RadioCh → RadioCh) : FiguresKept s (Machine.modRadio s ch f) := fun c => by
  by_cases h : c = ch
  · rw [h, Machine.modRadio, getChan_modChan]
    rfl
  · rw [Machine.modRadio, getChan_modChan_ne _ _ _ _ h]

theorem addMute (s : State) (o : Owner) (sc : Scope) : FiguresKept s (Machine.addMute s o sc) :=
  addMute_chan_reads Chan.figures (fun _ => rfl) (fun _ => rfl) s o sc

theorem txenFalls (before s : State) : FiguresKept s (Machine.txenFalls before s) := txenFalls_reads Chan.figures (fun _ => rfl) before s

theorem driveFree (s : State) (chs : List Nat) : FiguresKept s (Machine.driveFree s chs) :=
  forEach (fun u ch => (ite (modRadio u ch _) refl).trans (of_drives (Drives.driveRadio (P := (· = ch)) rfl _))) s

theorem setGroup (s : State) (i st : Nat) : FiguresKept s (Machine.setGroup s i st) := by
  unfold Machine.setGroup
  extract_lets old u had v w
  have hu : FiguresKept s u := .of_chans rfl
  have hv : FiguresKept u v := ite (forEach (fun u ch => addMute u _ _) u) (ite refl (.of_chans rfl))
  exact (hu.trans hv).trans (.of_chans (by simp [w]))

theorem muteLostRoutes (s : State) : FiguresKept s (Machine.muteLostRoutes s) := ite (forEach (fun u _ => addMute u _ _) s) refl

theorem changePower (s : State) (p : Power) (source : Nat) : FiguresKept s (Machine.changePower s p source) := by
  unfold Machine.changePower
  extract_lets old gone life u v w x
  have hu : FiguresKept s u := .of_chans rfl
  have hv : FiguresKept u v := ite (addMute u _ _) (.of_chans rfl)
  have hx : FiguresKept v x := .of_chans (by simp [x, w])
  exact ite refl (((hu.trans hv).trans hx).trans (driveFree x allChannels))

theorem enterSafe (s : State) (cause : Nat) : FiguresKept s (Machine.enterSafe s cause) := by
  have hlife (life : Life) : FiguresKept s { s with life } := .of_chans rfl
  have hpower (life : Life) : FiguresKept s (Machine.changePower { s with life } .safe 0) := (hlife life).trans (changePower _ .safe 0)
  unfold Machine.enterSafe
  split
  · exact hlife _
  · exact hpower _
  · exact hpower _
  · exact hpower _
  · exact hlife _
  · exact refl

theorem lastRod (before s : State) (cause : Nat) : FiguresKept s (Machine.lastRod before s cause) := ite (enterSafe s cause) (muteLostRoutes s)

theorem startRodCal (s : State) (r : Nat) : FiguresKept s (Machine.startRodCal s r) :=
  trans (t := Machine.addMute (modRod s r fun x => { x with cal := 1 }) (.rodCal r) (.rod r))
    (trans (.of_chans rfl) (addMute (modRod s r fun x => { x with cal := 1 }) _ _)) (driveFree _ _)

theorem assignChan (s : State) (ch : Nat) : FiguresKept s (Machine.assignChan s ch) := by
  unfold Machine.assignChan
  extract_lets on a b before u
  have hu : FiguresKept s u := ite refl (modRadio s ch _)
  exact ite (hu.trans ((modRadio u ch _).trans (txenFalls _ _))) hu

theorem assignSynths (s : State) (r : Nat) : FiguresKept s (Machine.assignSynths s r) :=
  trans (.of_chans (by simp)) (forEach assignChan _)

end FiguresKept

end Sys2Proof.Machine

namespace Sys2Proof.Machine

/-! ### A rod restart begins (R434, Table 18.6) -/

theorem mem_insertNat {n m : Nat} (xs : List Nat) : m ∈ insertNat n xs ↔ m = n ∨ m ∈ xs := by
  induction xs with
  | nil => simp [insertNat]
  | cons x xs ih =>
    unfold insertNat
    split_ifs with hlt heq
    · simp
    · subst heq
      simp
    · simp only [List.mem_cons, ih]
      exact or_left_comm

theorem flushPending_requestFlush (s : State) (q num q' num' : Nat) : flushPending (requestFlush s q num) q' num' =
    (decide (q' * 256 + num' = q * 256 + num) || flushPending s q' num') := by
  rw [Bool.eq_iff_iff]
  simp [flushPending, requestFlush, mem_insertNat]

/-- What a rod restart may touch. -/
def RodFrame (s t : State) : Prop := t = { s with
  objs := t.objs, slots := t.slots, chans := t.chans, rods := t.rods, buses := t.buses, mutes := t.mutes, links := t.links
  prot := t.prot, cap := t.cap, tally := t.tally, life := t.life, out := t.out }

theorem RodFrame.refl (s : State) : RodFrame s s := rfl

theorem RodFrame.trans {s t u : State} (h : RodFrame s t) (h' : RodFrame t u) : RodFrame s u := by
  unfold RodFrame at h h' ⊢
  rw [h', h]

theorem RodFrame.forEach {α : Type} {xs : List α} {f : State → α → State} (h : ∀ u x, RodFrame u (f u x)) (s : State) :
    RodFrame s (Machine.forEach xs s f) :=
  forEach_inv (RodFrame s) xs f (fun u x hu => hu.trans (h u x)) s rfl

/-- The rod as it goes down. -/
def Rod.restarted (now : Nat) (x : Rod) : Rod := { x with restarting := true, rejoin := false, linkSince := now }

/-- The rod muted, its radio off and its die-to-die queues to be flushed. -/
def rodDown (s : State) (r : Nat) : State :=
  requestFlush (requestFlush (radioOff (modRod (addMute s (.rodRestart r) (.rod r)) r (Rod.restarted s.time)) r) 0 r) 1 r

/-- Its swaps completed. -/
def rodSwapped (s : State) (r : Nat) : State := forEach ((rodChannels r).flatMap chanSlots) (rodDown s r) completeSwaps

/-- Its paths untrained, its counters and lines cleared. -/
def rodCleared (s : State) (r : Nat) : State := clearRodLines (clearRodCounters (cancellerRod (rodSwapped s r) r true) r) r

/-- A timing group held from now on. -/
def groupHeld (s : State) (i : Nat) : State := setGroup (modGroup s i fun g => { g with heldAt := s.time }) i 3

/-- The groups that take their timing from the rod are held. -/
def rodHeld (s : State) (r : Nat) : State :=
  forEach ((List.range 8).filter fun i => (getGroup s i).st == 2 && groupRef s.objs i / 128 == r && groupSource s.objs i == 1) s groupHeld

theorem restartRod_eq {s : State} {r : Nat} (hfree : (getRod s r).restarting = false) (hpowered : (getRod s r).powered = true) (cause : Nat) :
    restartRod s r cause = lastRod s (startRodCal (rodHeld (rodCleared s r) r) r) cause := by
  have htime : (addMute s (.rodRestart r) (.rod r)).time = s.time := by simp
  rw [restartRod, if_neg (by simp [hfree, hpowered]), rodCleared, rodSwapped, rodDown, ← htime]
  rfl

theorem dropHandover_rod (s : State) (r : Nat) : (∃ synths handover, getRod (dropHandover s r) r = { getRod s r with synths, handover }) ∧
    ∀ k, k ≠ r → getRod (dropHandover s r) k = getRod s k := by
  unfold dropHandover
  split
  · exact ⟨⟨_, _, rfl⟩, fun _ _ => rfl⟩
  · refine ⟨⟨_, _, by rw [getRod_modRod, modSynth, getRod_modRod]⟩, fun k hk => ?_⟩
    rw [getRod_modRod_ne _ _ _ _ hk, modSynth, getRod_modRod_ne _ _ _ _ hk]

theorem sleepChannel_rods (s : State) (ch : Nat) : (sleepChannel s ch).rods = s.rods := by simp [sleepChannel]

/-- Of the rods a radio that goes off changes one's synthesisers. -/
theorem radioOff_rod (s : State) (r : Nat) : (∃ synths handover, getRod (radioOff s r) r = { getRod s r with synths, handover }) ∧
    ∀ k, k ≠ r → getRod (radioOff s r) k = getRod s k := by
  let u := forEach (rodChannels r) s sleepChannel
  have hu (k : Nat) : getRod u k = getRod s k := getRod_congr (forEach_rods _ _ _ sleepChannel_rods) k
  let v := modRod (dropHandover u r) r fun x => { x with synths := x.synths.filter fun e => e.2.st == 4 }
  have hv (k : Nat) : getRod (radioOff s r) k = getRod v k := getRod_congr (by simp [radioOff, v, u]) k
  obtain ⟨⟨synths, handover, hself⟩, hother⟩ := dropHandover_rod u r
  refine ⟨⟨synths.filter fun e => e.2.st == 4, handover, ?_⟩, fun k hk => ?_⟩
  · rw [hv, getRod_modRod, hself, hu]
  · rw [hv, getRod_modRod_ne _ _ _ _ hk, hother k hk, hu]

theorem radioOff_frame (s : State) (r : Nat) : RodFrame s (radioOff s r) := by
  have hdrop (u : State) : RodFrame u (dropHandover u r) := by
    unfold dropHandover
    split <;> rfl
  have hsleep (u : State) (ch : Nat) : RodFrame u (sleepChannel u ch) := by
    apply state_ext <;> simp [sleepChannel]
  have hmod (u : State) (f : Rod → Rod) : RodFrame u (modRod u r f) := rfl
  have hfalls (before u : State) : RodFrame u (txenFalls before u) := by
    apply state_ext <;> simp
  exact (((RodFrame.forEach hsleep s).trans (hdrop _)).trans (hmod _ _)).trans (hfalls _ _)

theorem addMute_frame (s : State) (o : Owner) (sc : Scope) : RodFrame s (addMute s o sc) := by
  apply state_ext <;> simp

theorem rodDown_frame (s : State) (r : Nat) : RodFrame s (rodDown s r) := by
  have hmod (u : State) (f : Rod → Rod) : RodFrame u (modRod u r f) := rfl
  have hflush (u : State) (q : Nat) : RodFrame u (requestFlush u q r) := rfl
  exact ((((addMute_frame s _ _).trans (hmod _ _)).trans (radioOff_frame _ r)).trans (hflush _ 0)).trans (hflush _ 1)

theorem dieFlushes_keep (s : State) (r : Nat) : (requestFlush (requestFlush s 0 r) 1 r).rods = s.rods ∧
    (requestFlush (requestFlush s 0 r) 1 r).mutes = s.mutes := ⟨rfl, rfl⟩

theorem rodDown_rod (s : State) (r : Nat) : (∃ synths handover, getRod (rodDown s r) r = { (getRod s r).restarted s.time with synths, handover }) ∧
    ∀ k, k ≠ r → getRod (rodDown s r) k = getRod s k := by
  let u := modRod (addMute s (.rodRestart r) (.rod r)) r (Rod.restarted s.time)
  obtain ⟨⟨synths, handover, hself⟩, hother⟩ := radioOff_rod u r
  have hdown (k : Nat) : getRod (rodDown s r) k = getRod (radioOff u r) k := getRod_congr (dieFlushes_keep (radioOff u r) r).1 k
  have hmuted (k : Nat) : getRod (addMute s (.rodRestart r) (.rod r)) k = getRod s k := getRod_congr (by simp) k
  refine ⟨⟨synths, handover, ?_⟩, fun k hk => ?_⟩
  · rw [hdown, hself, getRod_modRod, hmuted]
  · rw [hdown, hother k hk, getRod_modRod_ne _ _ _ _ hk, hmuted]

theorem rodDown_mute (s : State) (r : Nat) : muteAt (rodDown s r) (.rodRestart r) (.rod r) := by
  let u := modRod (addMute s (.rodRestart r) (.rod r)) r (Rod.restarted s.time)
  have hmutes : (rodDown s r).mutes = (radioOff u r).mutes := (dieFlushes_keep (radioOff u r) r).2
  have hmem : (⟨.rodRestart r, .rod r⟩ : Mute) ∈ u.mutes := (mem_addMute ..).2 (.inr rfl)
  rw [muteAt, hmutes, (radioOff_mutes_muteTerms u r).1]
  exact hmem

theorem radioOff_links (s : State) (r : Nat) : (radioOff s r).links = s.links := by
  have hdrop (u : State) : (dropHandover u r).links = u.links := by
    unfold dropHandover
    split <;> rfl
  simp [radioOff, hdrop, sleepChannel]

theorem rodDown_links (s : State) (r : Nat) : flushPending (rodDown s r) 0 r = true ∧ flushPending (rodDown s r) 1 r = true ∧
    (rodDown s r).links = { s.links with flushing := (rodDown s r).links.flushing } := by
  let u := radioOff (modRod (addMute s (.rodRestart r) (.rod r)) r (Rod.restarted s.time)) r
  have hlinks : u.links = s.links := by simp [u, radioOff_links]
  refine ⟨?_, ?_, ?_⟩
  · simp [rodDown, flushPending_requestFlush]
  · simp [rodDown, flushPending_requestFlush]
  · rw [← hlinks]
    rfl

/-! ### Its swaps completed -/

/-- What the slots' own changes, the seals' mutes and a dropped swap keep, the completion of swaps keeps. -/
theorem completeSwaps_inv {I : State → Prop} (hslot : ∀ u g f, I u → I (modSlot u g f)) (hseal : ∀ u g, I u → I (sealMute u g))
    (hdrop : ∀ u g, I u → I (dropSwap u g)) {s : State} (h : I s) (g : Nat) : I (completeSwaps s g) := by
  unfold completeSwaps
  split
  · exact h
  case h_2 f _ =>
    have hended := hslot s g (fun x => { x with holds := f.target, xf := none, pendSwap := none }) h
    unfold endFade
    dsimp only
    split
    · exact hseal _ g hended
    · split
      · exact hseal _ g (hseal _ g (hslot _ g _ hended))
      · exact hdrop _ g hended

theorem completeSwaps_frame (s : State) (g : Nat) : RodFrame s (completeSwaps s g) := by
  refine completeSwaps_inv (I := RodFrame s) (fun u g f hu => ?_) (fun u g hu => hu.trans ?_) (fun u g hu => hu.trans ?_)
    (.refl s) g
  · exact hu.trans (show RodFrame u (modSlot u g f) from rfl)
  · apply state_ext <;> simp
  · apply state_ext <;> simp [dropSwap]

theorem completeSwaps_units (s : State) (g : Nat) : (completeSwaps s g).rods = s.rods ∧ (completeSwaps s g).links = s.links ∧
    (completeSwaps s g).life = s.life := by
  refine completeSwaps_inv (I := fun u => u.rods = s.rods ∧ u.links = s.links ∧ u.life = s.life) (fun u g f hu => hu) (fun u g hu => ?_)
    (fun u g hu => ?_) ⟨rfl, rfl, rfl⟩ g
  · simpa using hu
  · simpa [dropSwap] using hu

/-- A mute that is no seal's stays. -/
theorem mem_sealMute {s : State} {m : Mute} (hm : ∀ g, m.owner ≠ .bankSeal g) (h : m ∈ s.mutes) (g : Nat) : m ∈ (sealMute s g).mutes := by
  unfold sealMute
  split_ifs
  · exact (mem_addMute ..).2 (.inl h)
  · exact h
  · exact (mem_dropMute ..).2 ⟨h, hm g⟩
  · exact h

theorem mem_completeSwaps {s : State} {m : Mute} (hm : ∀ g, m.owner ≠ .bankSeal g) (h : m ∈ s.mutes) (g : Nat) :
    m ∈ (completeSwaps s g).mutes := by
  refine completeSwaps_inv (I := fun u => m ∈ u.mutes) (fun u g f hu => hu) (fun u g hu => mem_sealMute hm hu g) (fun u g hu => ?_) h g
  exact mem_sealMute hm (by simpa using hu) g

theorem rodSwapped_units (s : State) (r : Nat) : (rodSwapped s r).rods = (rodDown s r).rods ∧ (rodSwapped s r).links = (rodDown s r).links ∧
    (rodSwapped s r).life = (rodDown s r).life := by
  refine forEach_inv (fun u : State => u.rods = (rodDown s r).rods ∧ u.links = (rodDown s r).links ∧ u.life = (rodDown s r).life) _ _
    (fun u g ⟨hrods, hlinks, hlife⟩ => ?_) _ ⟨rfl, rfl, rfl⟩
  obtain ⟨hrods', hlinks', hlife'⟩ := completeSwaps_units u g
  exact ⟨hrods'.trans hrods, hlinks'.trans hlinks, hlife'.trans hlife⟩

theorem rodSwapped_mute (s : State) (r : Nat) : muteAt (rodSwapped s r) (.rodRestart r) (.rod r) :=
  forEach_inv (fun u : State => muteAt u (.rodRestart r) (.rod r)) _ _ (fun u g hu => mem_completeSwaps (by simp) hu g) _ (rodDown_mute s r)

theorem rodSwapped_frame (s : State) (r : Nat) : RodFrame s (rodSwapped s r) :=
  (rodDown_frame s r).trans (RodFrame.forEach completeSwaps_frame _)

/-! ### Its counters and lines cleared -/

/-- A channel's counters at a rod restart. -/
def Chan.countersCleared (c : Chan) : Chan := { c with
  adcOver := 0, rxSat := 0, txSat := 0, nines := { inject := c.nines.inject }
  canc := { c.canc with updates := 0, reversions := 0, clips := 0, noUpdate := 0, discarded := 0 }
  radio := { c.radio with rejections := 0 }, mis := { c.mis with mutes := 0, skipped := 0 } }

/-- Its lines and its notch. -/
def Chan.linesCleared (c : Chan) : Chan := { c with
  notchRe := 0, notchIm := 0, rodLine := [], rxLink := [], txLink := [], rodUp1 := [], rodUp2 := [], rxIn := [] }

/-- A change of each listed channel by one rule. -/
theorem getChan_turns {xs : List Nat} (hxs : xs.Nodup) (f : Chan → Chan) (s : State) (c : Nat) :
    getChan (forEach xs s fun s ch => modChan s ch f) c = if c ∈ xs then f (getChan s c) else getChan s c := by
  split
  case isTrue h =>
    obtain ⟨u, -, hu, hturn⟩ := chan_turn (I := fun _ => True) hxs (fun u y c hc => getChan_modChan_ne u y c f hc) (fun _ _ h => h) trivial h
    rw [hturn, getChan_modChan, hu]
  case isFalse h => exact forEach_keep_of_mem (fun u => getChan u c) (fun u y hy => getChan_modChan_ne u y c f fun e => h (e ▸ hy)) s

/-- A change of a rod's channels by one rule. -/
def turnChans (f : Chan → Chan) (s : State) (r : Nat) : State := forEach (rodChannels r) s fun s ch => modChan s ch f

theorem turnChans_eq (f : Chan → Chan) (s : State) (r : Nat) : ∃ chans, turnChans f s r = { s with chans } := by
  have hmod (u v : State) (ch : Nat) (hu : v = { u with chans := v.chans }) : modChan v ch f = { u with chans := (modChan v ch f).chans } := by
    rw [hu]
    rfl
  exact ⟨_, forEach_inv (fun v : State => v = { s with chans := v.chans }) _ _ (fun v ch hv => hmod s v ch hv) s rfl⟩

theorem getChan_turnChans (f : Chan → Chan) (s : State) {r ch : Nat} (hch : ch / 16 = r) : getChan (turnChans f s r) ch = f (getChan s ch) :=
  (getChan_turns (rodChannels_nodup r) f s ch).trans (if_pos (mem_rodChannels.2 hch))

/-- A bus's counters at a rod restart. -/
def Bus.countersCleared (b : Bus) : Bus := { b with count := 0, late := 0 }

/-- The counters of a rod's four buses. -/
def busesCleared (s : State) (r : Nat) : State := forEach (List.range 4) s fun s i => modBus s (4 * r + i) Bus.countersCleared

theorem busesCleared_eq (s : State) (r : Nat) : ∃ buses, busesCleared s r = { s with buses } := by
  have hmod (u v : State) (i : Nat) (hu : v = { u with buses := v.buses }) :
      modBus v (4 * r + i) Bus.countersCleared = { u with buses := (modBus v (4 * r + i) Bus.countersCleared).buses } := by
    rw [hu]
    rfl
  exact ⟨_, forEach_inv (fun v : State => v = { s with buses := v.buses }) _ _ (fun v i hv => hmod s v i hv) s rfl⟩

/-- The rod's own. -/
def Rod.countersCleared (x : Rod) : Rod := { x with recals := 0, ninesLog := [] }

theorem rodCleared_eq (s : State) (r : Nat) : rodCleared s r = turnChans Chan.linesCleared (modRod (busesCleared
    (turnChans Chan.countersCleared (cancellerRod (rodSwapped s r) r true) r) r) r Rod.countersCleared) r := rfl

theorem rodCleared_figures {s : State} {r ch : Nat} (hch : ch / 16 = r) : (getChan (rodCleared s r) ch).adcOver = 0 ∧
    (getChan (rodCleared s r) ch).nines.recomputed = 0 ∧ (getChan (rodCleared s r) ch).notchRe = 0 ∧
    (getChan (rodCleared s r) ch).notchIm = 0 := by
  let u := turnChans Chan.countersCleared (cancellerRod (rodSwapped s r) r true) r
  obtain ⟨buses, hbuses⟩ := busesCleared_eq u r
  have hcounters : getChan (modRod (busesCleared u r) r Rod.countersCleared) ch =
      (getChan (cancellerRod (rodSwapped s r) r true) ch).countersCleared := by
    have hchans : (modRod (busesCleared u r) r Rod.countersCleared).chans = u.chans := by
      rw [modRod_chans, hbuses]
    rw [getChan_congr hchans]
    exact getChan_turnChans Chan.countersCleared (cancellerRod (rodSwapped s r) r true) hch
  rw [rodCleared_eq, getChan_turnChans _ _ hch, hcounters]
  exact ⟨rfl, rfl, rfl, rfl⟩

theorem cancellerRod_eq (s : State) (r : Nat) (all : Bool) : ∃ chans, cancellerRod s r all = { s with chans } := by
  refine ⟨(cancellerRod s r all).chans, ?_⟩
  apply state_ext <;> simp [cancellerRod]

theorem rodCleared_frame (s : State) (r : Nat) : ∃ chans buses, rodCleared s r =
    modRod { rodSwapped s r with chans, buses } r Rod.countersCleared := by
  obtain ⟨_, hcanceller⟩ := cancellerRod_eq (rodSwapped s r) r true
  obtain ⟨_, hcounters⟩ := turnChans_eq Chan.countersCleared (cancellerRod (rodSwapped s r) r true) r
  obtain ⟨buses, hbuses⟩ := busesCleared_eq (turnChans Chan.countersCleared (cancellerRod (rodSwapped s r) r true) r) r
  obtain ⟨chans, hlines⟩ := turnChans_eq Chan.linesCleared (modRod (busesCleared
    (turnChans Chan.countersCleared (cancellerRod (rodSwapped s r) r true) r) r) r Rod.countersCleared) r
  refine ⟨chans, buses, ?_⟩
  rw [rodCleared_eq, hlines, hbuses, hcounters, hcanceller]
  generalize rodSwapped s r = u
  rfl

theorem rodCleared_rodFrame (s : State) (r : Nat) : RodFrame (rodSwapped s r) (rodCleared s r) := by
  obtain ⟨chans, buses, h⟩ := rodCleared_frame s r
  rw [h]
  generalize rodSwapped s r = u
  rfl

theorem rodCleared_units (s : State) (r : Nat) : (rodCleared s r).rods = (modRod (rodSwapped s r) r Rod.countersCleared).rods ∧
    (rodCleared s r).links = (rodSwapped s r).links ∧ (rodCleared s r).mutes = (rodSwapped s r).mutes ∧
    (rodCleared s r).life = (rodSwapped s r).life := by
  obtain ⟨chans, buses, h⟩ := rodCleared_frame s r
  rw [h]
  generalize rodSwapped s r = u
  exact ⟨rfl, rfl, rfl, rfl⟩

/-! ### It calibrates (R260) -/

theorem groupHeld_units (s : State) (i : Nat) : (groupHeld s i).rods = s.rods ∧ (groupHeld s i).links = s.links ∧ (groupHeld s i).life = s.life := by
  simp [groupHeld]

theorem groupHeld_frame (s : State) (i : Nat) : RodFrame s (groupHeld s i) := by
  apply state_ext <;> simp [groupHeld]

theorem rodHeld_units (s : State) (r : Nat) : (rodHeld s r).rods = s.rods ∧ (rodHeld s r).links = s.links ∧ (rodHeld s r).life = s.life :=
  forEach_inv (fun u : State => u.rods = s.rods ∧ u.links = s.links ∧ u.life = s.life) _ _ (fun u i ⟨hrods, hlinks, hlife⟩ => by
    obtain ⟨hrods', hlinks', hlife'⟩ := groupHeld_units u i
    exact ⟨hrods'.trans hrods, hlinks'.trans hlinks, hlife'.trans hlife⟩) s ⟨rfl, rfl, rfl⟩

/-- A mute that is no timing group's stays. -/
theorem mem_rodHeld {s : State} {m : Mute} (hm : ∀ i, m.owner ≠ .tdd i) (h : m ∈ s.mutes) (r : Nat) : m ∈ (rodHeld s r).mutes :=
  have hheld (u : State) (i : Nat) (hu : m ∈ u.mutes) : m ∈ (groupHeld u i).mutes := (mem_setGroup_released (.inr rfl) m).2 ⟨hu, hm i⟩
  forEach_inv (fun u : State => m ∈ u.mutes) _ groupHeld hheld s h

theorem rodHeld_figures (s : State) (r : Nat) : FiguresKept s (rodHeld s r) :=
  FiguresKept.forEach (fun u i => FiguresKept.trans (t := modGroup u i fun g => { g with heldAt := u.time }) (.of_chans rfl) (.setGroup _ i 3)) s

theorem startRodCal_rod (s : State) (r : Nat) : getRod (startRodCal s r) r = { getRod s r with cal := 1 } ∧
    ∀ k, k ≠ r → getRod (startRodCal s r) k = getRod s k := by
  have hrods (k : Nat) : getRod (startRodCal s r) k = getRod (modRod s r fun x => { x with cal := 1 }) k := getRod_congr (by simp [startRodCal]) k
  refine ⟨?_, fun k hk => ?_⟩
  · rw [hrods, getRod_modRod]
  · rw [hrods, getRod_modRod_ne _ _ _ _ hk]

theorem mem_startRodCal {s : State} {m : Mute} (r : Nat) : m ∈ (startRodCal s r).mutes ↔ m ∈ s.mutes ∨ m = ⟨.rodCal r, .rod r⟩ := by
  simp [startRodCal]

theorem startRodCal_frame (s : State) (r : Nat) : startRodCal s r = { s with
    chans := (startRodCal s r).chans, rods := (startRodCal s r).rods, buses := (startRodCal s r).buses
    mutes := (startRodCal s r).mutes, out := (startRodCal s r).out } := by
  apply state_ext <;> simp

theorem lastRod_restarts (before s : State) (cause : Nat) : (lastRod before s cause).life.restarts = s.life.restarts := by
  have hpower (u : State) (p : Power) : (changePower u p).life.restarts = u.life.restarts := by
    by_cases h : u.life.power = p
    · simp [changePower, h]
    · rw [changePower_life 0 h]
  unfold lastRod
  split
  · unfold enterSafe
    split
    · rfl
    · exact hpower _ .safe
    · exact hpower _ .safe
    · exact hpower _ .safe
    · rfl
    · rfl
  · simp

theorem lastRod_frame (before s : State) (cause : Nat) : RodFrame s (lastRod before s cause) := by
  apply state_ext <;> simp

section

variable {s : State} {r : Nat} (hfree : (getRod s r).restarting = false) (hpowered : (getRod s r).powered = true) (cause : Nat)
include hfree hpowered

theorem restartRod_rod : (getRod (restartRod s r cause) r).restarting = true ∧ (getRod (restartRod s r cause) r).cal = 1 ∧
    (getRod (restartRod s r cause) r).recals = 0 ∧ ∀ k, k ≠ r → getRod (restartRod s r cause) k = getRod s k := by
  obtain ⟨hself, hother⟩ := startRodCal_rod (rodHeld (rodCleared s r) r) r
  obtain ⟨⟨synths, handover, hdown⟩, hdownother⟩ := rodDown_rod s r
  obtain ⟨hswappedrods, _, _⟩ := rodSwapped_units s r
  obtain ⟨hclearedrods, _, _, _⟩ := rodCleared_units s r
  obtain ⟨hheldrods, _, _⟩ := rodHeld_units (rodCleared s r) r
  have hlast (k : Nat) : getRod (restartRod s r cause) k = getRod (startRodCal (rodHeld (rodCleared s r) r) r) k := by
    rw [restartRod_eq hfree hpowered]
    exact getRod_congr (by simp) k
  have hswapped (k : Nat) : getRod (rodSwapped s r) k = getRod (rodDown s r) k := getRod_congr hswappedrods k
  have hheld (k : Nat) : getRod (rodHeld (rodCleared s r) r) k = getRod (modRod (rodSwapped s r) r Rod.countersCleared) k :=
    getRod_congr (hheldrods.trans hclearedrods) k
  have hrod := (hlast r).trans hself
  rw [hheld, getRod_modRod, hswapped, hdown] at hrod
  refine ⟨?_, ?_, ?_, fun k hk => ?_⟩
  · rw [hrod]
    rfl
  · rw [hrod]
  · rw [hrod]
    rfl
  · rw [hlast, hother k hk, hheld, getRod_modRod_ne _ _ _ _ hk, hswapped, hdownother k hk]

theorem restartRod_mutes : muteAt (restartRod s r cause) (.rodRestart r) (.rod r) ∧ muteAt (restartRod s r cause) (.rodCal r) (.rod r) := by
  obtain ⟨_, _, hmutes, _⟩ := rodCleared_units s r
  have hdown : muteAt (rodCleared s r) (.rodRestart r) (.rod r) := by
    rw [muteAt, hmutes]
    exact rodSwapped_mute s r
  rw [restartRod_eq hfree hpowered]
  exact ⟨mem_lastRod ((mem_startRodCal r).2 (.inl (mem_rodHeld (by simp) hdown r))), mem_lastRod ((mem_startRodCal r).2 (.inr rfl))⟩

theorem restartRod_links : flushPending (restartRod s r cause) 0 r = true ∧ flushPending (restartRod s r cause) 1 r = true ∧
    (restartRod s r cause).links = { s.links with flushing := (restartRod s r cause).links.flushing } := by
  obtain ⟨_, hswapped, _⟩ := rodSwapped_units s r
  obtain ⟨_, hcleared, _, _⟩ := rodCleared_units s r
  obtain ⟨_, hheld, _⟩ := rodHeld_units (rodCleared s r) r
  have hlast : (restartRod s r cause).links = (rodHeld (rodCleared s r) r).links := by
    rw [restartRod_eq hfree hpowered]
    simp
  have hlinks := ((hlast.trans hheld).trans hcleared).trans hswapped
  obtain ⟨hsend, hreceive, hframe⟩ := rodDown_links s r
  simp only [flushPending] at hsend hreceive ⊢
  rw [hlinks]
  exact ⟨hsend, hreceive, hframe⟩

theorem restartRod_figures {ch : Nat} (hch : ch / 16 = r) : (getChan (restartRod s r cause) ch).adcOver = 0 ∧
    (getChan (restartRod s r cause) ch).nines.recomputed = 0 ∧ (getChan (restartRod s r cause) ch).notchRe = 0 ∧
    (getChan (restartRod s r cause) ch).notchIm = 0 := by
  have hkept : FiguresKept (rodCleared s r) (restartRod s r cause) := by
    rw [restartRod_eq hfree hpowered]
    exact ((rodHeld_figures _ r).trans (.startRodCal _ r)).trans (.lastRod s _ cause)
  obtain ⟨hover, hnines, hre, him⟩ := rodCleared_figures (s := s) hch
  have hfigures := hkept ch
  simp only [Chan.figures, Prod.mk.injEq] at hfigures
  obtain ⟨hover', hnines', hre', him', _⟩ := hfigures
  exact ⟨hover'.trans hover, hnines'.trans hnines, hre'.trans hre, him'.trans him⟩

theorem restartRod_restarts : (restartRod s r cause).life.restarts = s.life.restarts := by
  obtain ⟨_, _, hswapped⟩ := rodSwapped_units s r
  obtain ⟨_, _, _, hcleared⟩ := rodCleared_units s r
  obtain ⟨_, _, hheld⟩ := rodHeld_units (rodCleared s r) r
  have hdown : (rodDown s r).life = s.life := by simp [rodDown]
  have hcal : (startRodCal (rodHeld (rodCleared s r) r) r).life = (rodHeld (rodCleared s r) r).life := by simp
  rw [restartRod_eq hfree hpowered, lastRod_restarts, hcal, hheld, hcleared, hswapped, hdown]

theorem restartRod_frame : RodFrame s (restartRod s r cause) := by
  have hcal (u : State) : RodFrame u (startRodCal u r) := by
    apply state_ext <;> simp
  rw [restartRod_eq hfree hpowered]
  exact ((((rodSwapped_frame s r).trans (rodCleared_rodFrame s r)).trans (RodFrame.forEach groupHeld_frame _)).trans (hcal _)).trans
    (lastRod_frame _ _ _)

end

end Sys2Proof.Machine

namespace Sys2Proof.Machine

/-! ### A rod restart ends (R434, Table 18.6) -/

theorem not_rodReady {s : State} {r : Nat} (h : (getRod s r).cal = 1 ∨ (getRod s r).linkOk = false ∨ (getRod s r).pll = false ∨
    coreRuns s = false ∨ ∃ ch, ch ∈ rodChannels r ∧ (getChan s ch).radio.trans ≠ none) : rodReady s r = false := by
  by_contra hready
  rw [Bool.not_eq_false] at hready
  simp only [rodReady, Bool.and_eq_true, bne_iff_ne, List.all_eq_true] at hready
  obtain ⟨⟨⟨⟨⟨hcal, hlink⟩, hpll⟩, hcore⟩, _⟩, hrisen⟩ := hready
  rcases h with h | h | h | h | ⟨ch, hmem, htrans⟩
  · exact hcal h
  · simp [hlink] at h
  · simp [hpll] at h
  · simp [hcore] at h
  · have hrise := hrisen ch hmem
    simp only [hasRisen, Bool.and_eq_true, Option.isNone_iff_eq_none] at hrise
    obtain ⟨hnone, _⟩ := hrise
    exact htrans hnone

/-- The two die-to-die flushes of a rod in effect. -/
def diesFlushed (s : State) (r : Nat) : State :=
  { s with links := { s.links with flushing := (s.links.flushing.filter (· != 0 * 256 + r)).filter (· != 1 * 256 + r) } }

/-- A flush that is not asked for has nothing to take out. -/
theorem flushDie_eq (s : State) {q : Nat} (hq : q = 0 ∨ q = 1) (r : Nat) : (if flushPending s q r then flushQueue s q r else s) =
    { s with links := { s.links with flushing := s.links.flushing.filter (· != q * 256 + r) } } := by
  split
  · rcases hq with rfl | rfl <;> rfl
  · next h =>
    have hnone : s.links.flushing.filter (· != q * 256 + r) = s.links.flushing := by
      refine List.filter_eq_self.2 fun x hx => bne_iff_ne.2 fun e => h ?_
      rw [flushPending, List.contains_iff_mem, ← e]
      exact hx
    rw [hnone]

theorem flushPort_dies (s : State) (r : Nat) : flushPort s [0, 1] r = diesFlushed s r := by
  have hloop (f : State → Nat → State) : forEach [0, 1] s f = f (f s 0) 1 := rfl
  rw [flushPort, hloop, flushDie_eq s (.inl rfl), flushDie_eq _ (.inr rfl)]
  rfl

/-- The rod as it returns. -/
def Rod.returned (x : Rod) : Rod := { x with restarting := false, rejoin := true }

/-- The rod returned, before its synchronising reset. -/
def rodReturned (s : State) (r : Nat) : State := restartDwell (modRod (diesFlushed s r) r Rod.returned) r

theorem exec_rodRestartComplete {s : State} {r : Nat} (hbusy : (getRod s r).restarting = true) (hready : rodReady s r = true) :
    exec (.rodRestartComplete r) s = .next (resetRod (rodReturned s r) r) := by
  change execRodRestartComplete r s = _
  rw [execRodRestartComplete, if_neg (by simp [hbusy, hready])]
  simp only [flushPort_dies]
  rfl

theorem getRod_rodReturned (s : State) (r : Nat) : (getRod (rodReturned s r) r).restarting = false ∧ (getRod (rodReturned s r) r).rejoin = true ∧
    ∀ k, k ≠ r → getRod (rodReturned s r) k = getRod s k := by
  have hself : getRod (rodReturned s r) r = { (getRod s r).returned with dwellAt := s.time, dwellUsable := false } := by
    rw [rodReturned, restartDwell, getRod_modRod, getRod_modRod]
    rfl
  refine ⟨by rw [hself]; rfl, by rw [hself]; rfl, fun k hk => ?_⟩
  rw [rodReturned, restartDwell, getRod_modRod_ne _ _ _ _ hk, getRod_modRod_ne _ _ _ _ hk]
  rfl

theorem diesFlushed_pending (s : State) (r : Nat) : flushPending (diesFlushed s r) 0 r = false ∧ flushPending (diesFlushed s r) 1 r = false := by
  simp [flushPending, diesFlushed]

theorem resetRod_frame (s : State) (r : Nat) : resetRod s r = { s with slots := (resetRod s r).slots, chans := (resetRod s r).chans } := by
  apply state_ext <;> simp [resetRod, resetChannel, resetSlot, noteReset]

theorem rodBack_frame (s : State) (r : Nat) : resetRod (rodReturned s r) r = { s with
    slots := (resetRod (rodReturned s r) r).slots, chans := (resetRod (rodReturned s r) r).chans
    rods := (resetRod (rodReturned s r) r).rods, links := (resetRod (rodReturned s r) r).links } := by
  have hchain {t u : State} (hu : u = { s with rods := u.rods, links := u.links }) (ht : t = { u with slots := t.slots, chans := t.chans }) :
      t = { s with slots := t.slots, chans := t.chans, rods := t.rods, links := t.links } := by
    rw [ht, hu]
  exact hchain rfl (resetRod_frame (rodReturned s r) r)

theorem resetRod_lastReset {s : State} {r ch : Nat} (hch : ch / 16 = r) : (getChan (resetRod s r) ch).lastReset = s.clk.frame + 1 := by
  obtain ⟨_, _, hchan⟩ := (resetRod_resets s r).reset ch (mem_rodChannels.2 hch)
  rw [hchan]

/-! ### The mutes of completed restarts end (Table 18.6) -/

/-- One rod's turn at the boundary. -/
def rejoin (s : State) (r : Nat) : State := dropMute (modRod s r fun x => { x with rejoin := false }) (.rodRestart r)

theorem rejoin_rod (s : State) (r k : Nat) : (getRod (rejoin s r) k).rejoin = if k = r then false else (getRod s k).rejoin := by
  have hrods : getRod (rejoin s r) k = getRod (modRod s r fun x => { x with rejoin := false }) k := rfl
  rw [hrods]
  split
  · next h => rw [h, getRod_modRod]
  · next h => rw [getRod_modRod_ne _ _ _ _ h]

theorem rejoinRods_eq (s : State) : rejoinRods s = forEach ((List.range 6).filter fun r => (getRod s r).rejoin) s rejoin := rfl

theorem rejoinRods_done {s : State} {r : Nat} (hr : r < 6) (h : (getRod s r).rejoin = true) :
    hasMute (rejoinRods s) (.rodRestart r) = false ∧ (getRod (rejoinRods s) r).rejoin = false := by
  rw [rejoinRods_eq]
  refine forEach_brings (P := fun u => hasMute u (.rodRestart r) = false ∧ (getRod u r).rejoin = false) (x := r)
    (List.mem_filter.2 ⟨List.mem_range.2 hr, h⟩) (fun u => ⟨hasMute_dropMute .., ?_⟩) (fun u k ⟨hmute, hrejoin⟩ => ⟨?_, ?_⟩) s
  · rw [rejoin_rod, if_pos rfl]
  · rw [Bool.eq_false_iff, ne_eq, hasMute_iff] at hmute ⊢
    rintro ⟨m, hm, ho⟩
    exact hmute ⟨m, ((mem_dropMute ..).1 hm).1, ho⟩
  · rw [rejoin_rod]
    split
    · rfl
    · exact hrejoin

theorem rejoinRods_frame (s : State) : rejoinRods s = { s with rods := (rejoinRods s).rods, mutes := (rejoinRods s).mutes } := by
  apply state_ext <;> simp

theorem mem_rejoinRods {s : State} {m : Mute} (h : m ∈ (rejoinRods s).mutes) : m ∈ s.mutes := by
  rw [rejoinRods_eq] at h
  exact forEach_inv (fun u : State => m ∈ u.mutes → m ∈ s.mutes) _ rejoin (fun u r hu hm => hu ((mem_dropMute ..).1 hm).1) s id h

/-! ### A rod calibration ends (R260, R279) -/

/-- A rod but for its synthesisers. -/
def Rod.unsynthed (x : Rod) : Rod := { x with synths := [], handover := none }

theorem Rod.cal_of_unsynthed {x y : Rod} (h : x.unsynthed = y.unsynthed) : x.cal = y.cal ∧ x.calStep = y.calStep ∧
    x.calPending = y.calPending ∧ x.refTrim = y.refTrim := by
  have hcal := congrArg Rod.cal h
  have hstep := congrArg Rod.calStep h
  have hpending := congrArg Rod.calPending h
  have htrim := congrArg Rod.refTrim h
  exact ⟨hcal, hstep, hpending, htrim⟩

/-- What an assignment of synthesisers may touch. -/
def SynthFrame (s t : State) : Prop := t = { s with
  chans := t.chans, rods := t.rods, buses := t.buses, mutes := t.mutes, nv := t.nv, out := t.out }

theorem SynthFrame.trans {s t u : State} (h : SynthFrame s t) (h' : SynthFrame t u) : SynthFrame s u := by
  unfold SynthFrame at h h' ⊢
  rw [h', h]

/-- Of the rods only the synthesisers of one have changed. -/
structure OnlySynths (r : Nat) (s t : State) : Prop where
  self : (getRod t r).unsynthed = (getRod s r).unsynthed
  others : ∀ k, k ≠ r → getRod t k = getRod s k
  frame : SynthFrame s t

namespace OnlySynths

variable {r : Nat} {s t u : State}

theorem of_rods (h : t.rods = s.rods) (hframe : SynthFrame s t) : OnlySynths r s t := ⟨by rw [getRod_congr h], fun k _ => getRod_congr h k, hframe⟩

theorem refl : OnlySynths r s s := of_rods rfl rfl

theorem trans (h : OnlySynths r s t) (h' : OnlySynths r t u) : OnlySynths r s u :=
  ⟨h'.self.trans h.self, fun k hk => (h'.others k hk).trans (h.others k hk), h.frame.trans h'.frame⟩

theorem ite {c : Prop} [Decidable c] (ht : OnlySynths r s t) (hu : OnlySynths r s u) : OnlySynths r s (if c then t else u) := ite_holds ht hu

theorem forEach {α : Type} {xs : List α} {f : State → α → State} (h : ∀ u x, OnlySynths r u (f u x)) (s : State) :
    OnlySynths r s (Machine.forEach xs s f) :=
  forEach_inv (OnlySynths r s) xs f (fun u x hu => hu.trans (h u x)) s refl

theorem modRod {f : Rod → Rod} (hf : ∀ x, (f x).unsynthed = x.unsynthed) (s : State) : OnlySynths r s (Machine.modRod s r f) :=
  ⟨by rw [getRod_modRod, hf], fun _ hk => getRod_modRod_ne _ _ _ _ hk, rfl⟩

theorem modSynth (n : Nat) (f : Synth → Synth) (s : State) : OnlySynths r s (Machine.modSynth s r n f) := by
  unfold Machine.modSynth
  exact modRod (fun _ => by rfl) s

theorem dropHandover (s : State) : OnlySynths r s (Machine.dropHandover s r) := by
  unfold Machine.dropHandover
  split
  · exact refl
  · exact (modSynth _ _ s).trans (modRod (fun _ => by rfl) _)

theorem freeSynths (s : State) : OnlySynths r s (Machine.freeSynths s r) := by
  unfold Machine.freeSynths
  extract_lets need hold u
  have hu : OnlySynths r s u := by
    unfold u
    split
    · exact ite refl (dropHandover s)
    · exact refl
  exact hu.trans (forEach (fun v n => ite refl (modSynth _ _ v)) u)

theorem fillSynths (s : State) : OnlySynths r s (Machine.fillSynths s r) := by
  unfold Machine.fillSynths
  extract_lets u
  have hu : OnlySynths r s u := forEach (fun v lo => by
    split
    · exact modSynth _ _ v
    · exact refl) s
  refine hu.trans (ite ?_ refl)
  split
  · exact modSynth _ _ u
  · exact refl

theorem assignChan (s : State) (ch : Nat) : OnlySynths r s (Machine.assignChan s ch) := by
  refine of_rods (by simp [Machine.assignChan]) ?_
  apply state_ext <;> simp [Machine.assignChan]

theorem assignSynths (s : State) : OnlySynths r s (Machine.assignSynths s r) :=
  ((freeSynths s).trans (fillSynths _)).trans (forEach assignChan _)

theorem freshSynths (s : State) : OnlySynths r s (Machine.freshSynths s r) := by
  unfold Machine.freshSynths
  extract_lets u
  have hnote (v : State) (lo : Nat) : OnlySynths r v (noteBand v r lo) := of_rods rfl rfl
  have hu : OnlySynths r s u := forEach hnote s
  exact (hu.trans (dropHandover u)).trans (forEach (fun v n => ite refl (modSynth _ _ v)) _)

theorem driveFree (chs : List Nat) (s : State) : OnlySynths r s (Machine.driveFree s chs) := by
  refine of_rods (by simp) ?_
  apply state_ext <;> simp

end OnlySynths

/-- The rod's record as its calibration passes, and as it fails at a step. -/
def Rod.calPassed (x : Rod) : Rod := { x with cal := 2, calStep := 0, calPending := false, refTrim := 0 }
def Rod.calFailed (step : Nat) (x : Rod) : Rod := { x with cal := 3, calStep := step }

/-- A channel's Sentinel gate unlocked (R279). -/
def Chan.gateUnlocked (c : Chan) : Chan := { c with sent := { c.sent with locked := false, trips := [] } }

/-- A channel's calibration noted, of temperature `temp` and frame `frame` (R260). -/
def Chan.calNoted (temp : Int) (frame : Nat) (c : Chan) : Chan := { c with
  cal := { c.cal with temp, frame }, radio := { c.radio with trimTemp := some temp } }

/-- The same of the rod's channels. -/
def calNoted (s : State) (r : Nat) : State := forEach (rodChannels r) s fun s ch => modChan s ch (Chan.calNoted (rodTemp s r) s.clk.frame)

/-- The passed calibration noted. -/
def calPassed (s : State) (r : Nat) : State := calNoted (turnChans Chan.gateUnlocked (modRod s r Rod.calPassed) r) r

/-- The rod back at work after it. -/
def calDone (s : State) (r : Nat) : State := freshSynths (assignSynths (dropMute (calPassed s r) (.rodCal r)) r) r

section

variable {s : State} {r : Nat} (hcal : (getRod s r).cal = 1) (hpowered : (getRod s r).powered = true) (hcore : coreRuns s = true)
include hcal hpowered hcore

theorem exec_rodCalibrationComplete_passed : exec (.rodCalibrationComplete r 0 []) s = .next (driveFree (calDone s r) (rodChannels r)) := by
  change execRodCalibrationComplete r 0 [] s = _
  rw [execRodCalibrationComplete, if_neg (by simp [hcal, hpowered, hcore]), if_neg (by simp), if_neg (by simp)]
  have hnone (u : State) (f : State → CalValues → State) : forEach [] u f = u := rfl
  simp only [List.filter_nil, hnone]
  unfold calDone calPassed calNoted turnChans
  rfl

theorem exec_rodCalibrationComplete_failed {step : Nat} (hlow : 1 ≤ step) (hhigh : step ≤ 15) :
    exec (.rodCalibrationComplete r step []) s =
      .next (lastRod s (driveFree (assignSynths (modRod s r (Rod.calFailed step)) r) (rodChannels r)) (197 + 6 * r)) := by
  change execRodCalibrationComplete r step [] s = _
  have hstep : max 1 (step % 16) = step := by omega
  rw [execRodCalibrationComplete, if_neg (by simp [hcal, hpowered, hcore]), if_pos (by omega), hstep]
  rfl

end

theorem calNoted_eq (s : State) (r : Nat) : ∃ chans, calNoted s r = { s with chans } := by
  have hmod (u v : State) (ch : Nat) (f : Chan → Chan) (hu : v = { u with chans := v.chans }) :
      modChan v ch f = { u with chans := (modChan v ch f).chans } := by
    rw [hu]
    rfl
  exact ⟨_, forEach_inv (fun v : State => v = { s with chans := v.chans }) _ _ (fun v ch hv => hmod s v ch _ hv) s rfl⟩

theorem getChan_calNoted (s : State) {r ch : Nat} (hch : ch / 16 = r) :
    (getChan (calNoted s r) ch).sent = (getChan s ch).sent ∧ (getChan (calNoted s r) ch).cal.frame = s.clk.frame := by
  obtain ⟨u, hclk, hu, hturn⟩ := chan_turn (I := fun u => u.clk = s.clk) (s := s) (rodChannels_nodup r)
    (f := fun s ch => modChan s ch (Chan.calNoted (rodTemp s r) s.clk.frame)) (fun u y c hc => getChan_modChan_ne u y c _ hc)
    (fun _ _ h => h) rfl (mem_rodChannels.2 hch)
  rw [calNoted, hturn, getChan_modChan, hu, hclk]
  exact ⟨rfl, rfl⟩

theorem calPassed_eq (s : State) (r : Nat) : ∃ chans, calPassed s r = { modRod s r Rod.calPassed with chans } := by
  obtain ⟨_, hgates⟩ := turnChans_eq Chan.gateUnlocked (modRod s r Rod.calPassed) r
  obtain ⟨chans, hnoted⟩ := calNoted_eq (turnChans Chan.gateUnlocked (modRod s r Rod.calPassed) r) r
  refine ⟨chans, ?_⟩
  rw [calPassed, hnoted, hgates]

theorem calPassed_figures (s : State) {r ch : Nat} (hch : ch / 16 = r) :
    (getChan (calPassed s r) ch).sent.locked = false ∧ (getChan (calPassed s r) ch).cal.frame = s.clk.frame := by
  obtain ⟨hsent, hframe⟩ := getChan_calNoted (turnChans Chan.gateUnlocked (modRod s r Rod.calPassed) r) hch
  obtain ⟨chans, hgates⟩ := turnChans_eq Chan.gateUnlocked (modRod s r Rod.calPassed) r
  rw [getChan_turnChans _ _ hch] at hsent
  rw [calPassed, hsent, hframe, hgates]
  exact ⟨rfl, rfl⟩

theorem calPassed_rods (s : State) (r : Nat) : (calPassed s r).rods = (modRod s r Rod.calPassed).rods := by
  obtain ⟨chans, h⟩ := calPassed_eq s r
  rw [h]

theorem dropMute_units (s : State) (o : Owner) : (dropMute s o).rods = s.rods ∧ (dropMute s o).chans = s.chans := ⟨rfl, rfl⟩

/-- A rod record changed by `f`, its synthesisers apart, after synthesisers are assigned. -/
theorem OnlySynths.after {r : Nat} {s u t : State} {f : Rod → Rod} (hrods : u.rods = (Machine.modRod s r f).rods) (h : OnlySynths r u t) :
    (getRod t r).unsynthed = (f (getRod s r)).unsynthed ∧ ∀ k, k ≠ r → getRod t k = getRod s k := by
  refine ⟨h.self.trans (congrArg Rod.unsynthed ?_), fun k hk => (h.others k hk).trans ?_⟩
  · rw [getRod_congr hrods, getRod_modRod]
  · rw [getRod_congr hrods, getRod_modRod_ne _ _ _ _ hk]

theorem calDone_synths (s : State) (r : Nat) :
    OnlySynths r (dropMute (calPassed s r) (.rodCal r)) (driveFree (calDone s r) (rodChannels r)) :=
  ((OnlySynths.assignSynths _).trans (.freshSynths _)).trans (.driveFree _ _)

theorem calDone_rod (s : State) (r : Nat) : (getRod (driveFree (calDone s r) (rodChannels r)) r).cal = 2 ∧
    (getRod (driveFree (calDone s r) (rodChannels r)) r).calStep = 0 ∧
    (getRod (driveFree (calDone s r) (rodChannels r)) r).calPending = false ∧
    (getRod (driveFree (calDone s r) (rodChannels r)) r).refTrim = 0 ∧
    ∀ k, k ≠ r → getRod (driveFree (calDone s r) (rodChannels r)) k = getRod s k := by
  obtain ⟨hself, hothers⟩ := OnlySynths.after ((dropMute_units (calPassed s r) _).1.trans (calPassed_rods s r)) (calDone_synths s r)
  obtain ⟨hcal, hstep, hpending, htrim⟩ := Rod.cal_of_unsynthed hself
  exact ⟨hcal, hstep, hpending, htrim, hothers⟩

theorem calDone_frame (s : State) (r : Nat) : SynthFrame s (driveFree (calDone s r) (rodChannels r)) := by
  have hdrop (u : State) (o : Owner) : SynthFrame u (dropMute u o) := rfl
  have hpassed : SynthFrame s (calPassed s r) := by
    obtain ⟨chans, h⟩ := calPassed_eq s r
    rw [h]
    rfl
  exact (hpassed.trans (hdrop _ _)).trans (calDone_synths s r).frame

theorem calDone_figures (s : State) {r ch : Nat} (hch : ch / 16 = r) :
    (getChan (driveFree (calDone s r) (rodChannels r)) ch).sent.locked = false ∧
    (getChan (driveFree (calDone s r) (rodChannels r)) ch).cal.frame = s.clk.frame := by
  have hkept : FiguresKept (calPassed s r) (driveFree (calDone s r) (rodChannels r)) :=
    (((FiguresKept.of_chans (dropMute_units _ _).2).trans (.assignSynths (dropMute (calPassed s r) (.rodCal r)) r)).trans
      (.of_chans (freshSynths_mutes_chans _ r).2)).trans (.driveFree (calDone s r) _)
  obtain ⟨hlocked, hframe⟩ := calPassed_figures s hch
  have hfigures := hkept ch
  simp only [Chan.figures, Prod.mk.injEq] at hfigures
  obtain ⟨_, _, _, _, hlocked', hframe'⟩ := hfigures
  exact ⟨hlocked'.trans hlocked, hframe'.trans hframe⟩

theorem calDone_mute (s : State) (r : Nat) : hasMute (driveFree (calDone s r) (rodChannels r)) (.rodCal r) = false := by
  have hmutes : (driveFree (calDone s r) (rodChannels r)).mutes = (dropMute (calPassed s r) (.rodCal r)).mutes := by simp [calDone]
  rw [hasMute_congr hmutes, hasMute_dropMute]

/-! ### A rod calibration fails (R260, R435) -/

/-- The failed calibration noted, the rod's channels on their way. -/
def calFailed (s : State) (r step : Nat) : State := driveFree (assignSynths (modRod s r (Rod.calFailed step)) r) (rodChannels r)

theorem calFailed_synths (s : State) (r step : Nat) : OnlySynths r (modRod s r (Rod.calFailed step)) (calFailed s r step) :=
  (OnlySynths.assignSynths _).trans (.driveFree _ _)

/-- The loss of a rod asserts and ends no mute but those of the power state and of lost donor paths. -/
theorem hasMute_lastRod (before s : State) (cause : Nat) {o : Owner} (hpower : o ≠ .power) (hpath : ∀ g, o ≠ .donorPath g) :
    hasMute (lastRod before s cause) o = hasMute s o := by
  have hchange (u : State) (p : Power) : hasMute (changePower u p) o = hasMute u o := by
    unfold changePower
    extract_lets old gone life v w x y
    have hw : hasMute w o = hasMute v o := ite_holds (I := fun t => hasMute t o = hasMute v o) (hasMute_addMute_ne v hpower.symm _)
      (hasMute_of_released_ne (fun m => mem_dropMute ..) hpower.symm)
    have hy : hasMute (driveFree y allChannels) o = hasMute w o := hasMute_congr (by simp [y, x]) o
    exact ite_holds (I := fun t => hasMute t o = hasMute u o) rfl (hy.trans hw)
  unfold lastRod
  split
  · unfold enterSafe
    split
    · rfl
    · exact hchange _ .safe
    · exact hchange _ .safe
    · exact hchange _ .safe
    · rfl
    · rfl
  · unfold muteLostRoutes
    split
    · exact forEach_keep (fun u => hasMute u o) _ _ (fun u g => hasMute_addMute_ne u (hpath g).symm _) s
    · rfl

/-- A rod whose calibration has failed shows in its source. -/
theorem rawLine_of_calStep {s : State} {r : Nat} (hr : r < 6) (h : (getRod s r).calStep ≠ 0) : rawLine s (197 + 6 * r) = true := by
  have hreserved : reservedSrc (197 + 6 * r) = false := decide_eq_false (by omega)
  have hrod : (197 + 6 * r - 192) / 6 = r := by omega
  have hline : (197 + 6 * r - 192) % 6 = 5 := by omega
  rw [rawLine, hreserved, if_neg (by decide), if_neg (by omega), if_pos (by omega), hrod, hline]
  simp [rodLevel, rodDieLevel, h]

theorem lastRod_eq (before s : State) (cause : Nat) : lastRod before s cause = { s with
    chans := (lastRod before s cause).chans, buses := (lastRod before s cause).buses, mutes := (lastRod before s cause).mutes
    cap := (lastRod before s cause).cap, tally := (lastRod before s cause).tally, life := (lastRod before s cause).life
    out := (lastRod before s cause).out } := by
  apply state_ext <;> simp

theorem getRod_lastRod (before s : State) (cause k : Nat) : getRod (lastRod before s cause) k = getRod s k := getRod_congr (by simp) k

theorem calFailed_rod (s : State) (r step : Nat) : (getRod (calFailed s r step) r).cal = 3 ∧ (getRod (calFailed s r step) r).calStep = step ∧
    ∀ k, k ≠ r → getRod (calFailed s r step) k = getRod s k := by
  obtain ⟨hself, hothers⟩ := OnlySynths.after rfl (calFailed_synths s r step)
  obtain ⟨hcal, hstep, _, _⟩ := Rod.cal_of_unsynthed hself
  exact ⟨hcal, hstep, hothers⟩

theorem calFailed_mutes (s : State) (r step : Nat) : (calFailed s r step).mutes = s.mutes := by simp [calFailed]

theorem calFailed_frame (s : State) (r step : Nat) : SynthFrame s (calFailed s r step) := by
  have hmod : SynthFrame s (modRod s r (Rod.calFailed step)) := rfl
  exact hmod.trans (calFailed_synths s r step).frame

end Sys2Proof.Machine

namespace Sys2Proof.Machine

/-! ### The obligation of the restarts -/

/-- A request to calibrate a rod that works, in HOLD or QUIET. -/
theorem calRequest_starts {s : State} {ch : Nat} (hpower : s.life.power = .hold ∨ s.life.power = .quiet)
    (hpowered : (getRod s (ch / 16)).powered = true) (hcal : (getRod s (ch / 16)).cal ≠ 1) (hfree : (getRod s (ch / 16)).restarting = false) :
    calRequest s ch 1 = (0, startRodCal s (ch / 16)) := by
  rw [calRequest, if_pos rfl, if_neg (by rcases hpower with h | h <;> simp [h]), if_neg (by simp [hcal, hfree]), if_neg (by simp [hpowered])]

/-- What a port's restart leaves, counted and answered. -/
theorem portRestart_frame {s u v t : State} (hu : LockNoted s u) (hv : PortFrame (restartCounted u) v)
    (ht : t = { v with olp := t.olp, out := t.out }) : t.life = { s.life with restarts := inc32 s.life.restarts } ∧
    t = { s with links := t.links, chans := t.chans, buses := t.buses, mutes := t.mutes, tally := t.tally, life := t.life
                 commit := t.commit, olp := t.olp, out := t.out } := by
  obtain ⟨at_, rfl⟩ := hu
  unfold PortFrame at hv
  constructor
  · rw [ht, hv]
    rfl
  · rw [ht, hv]
    rfl

section

variable {s : State} {m : Nat} (hm : mayWrite s m = true)
include hm

theorem exec_rodCalibrationRequest {ch : Nat} (hch : ch < 96) (hpower : s.life.power = .hold ∨ s.life.power = .quiet)
    (hpowered : (getRod s (ch / 16)).powered = true) (hcal : (getRod s (ch / 16)).cal ≠ 1) (hfree : (getRod s (ch / 16)).restarting = false) :
    ∃ u t, LockNoted s u ∧ exec (.rodCalibrationRequest m ch) s = .next t ∧
      Answers s (startRodCal u (ch / 16)) t m (0x2000 + 16 * ch + 8) 1 0 := by
  obtain ⟨u, hu, ha⟩ := commandValue_radio (o := ranged .u8 .wo 0 1 2) (v := 1) (status := 0)
    (w := fun u => startRodCal u (ch / 16)) (off := 8) (sub := 1) hm hch (by decide) rfl rfl (.inr rfl) rfl (by decide) rfl
    (fun u ⟨at_, hu⟩ => by
      subst hu
      exact (writeChannel_cal _ hch 1 1).trans (calRequest_starts hpower hpowered hcal hfree))
    (fun u => by simp)
  exact ⟨u, _, hu, rfl, ha⟩

/-- A rod that works restarts. -/
theorem exec_rodRestart {r : Nat} (hr : r < 6) (hpowered : (getRod s r).powered = true) (hfree : (getRod s r).restarting = false)
    (hterms : MuteTermInv s) : ∃ t, exec (.rodRestart m r) s = .next t ∧ (getRod t r).restarting = true ∧ (getRod t r).cal = 1 ∧
      (getRod t r).recals = 0 ∧ muteAt t (.rodRestart r) (.rod r) ∧ muteAt t (.rodCal r) (.rod r) ∧ t.life.restarts = inc32 s.life.restarts ∧
      (∀ ch, ch / 16 = r → txen t ch = false ∧ (getChan t ch).adcOver = 0 ∧ (getChan t ch).nines.recomputed = 0 ∧
        (getChan t ch).notchRe = 0 ∧ (getChan t ch).notchIm = 0) ∧
      flushPending t 0 r = true ∧ flushPending t 1 r = true ∧ t.links = { s.links with flushing := t.links.flushing } ∧
      (∀ r', r' ≠ r → getRod t r' = getRod s r') ∧ answered t m 0x1240 1 0 ∧ OnlySelects s t ∧ OnlyNotes s t ∧
      t = { s with objs := t.objs, slots := t.slots, chans := t.chans, rods := t.rods, buses := t.buses, mutes := t.mutes, links := t.links,
                   prot := t.prot, cap := t.cap, tally := t.tally, life := t.life, commit := t.commit, olp := t.olp, out := t.out } := by
  obtain ⟨u, ⟨at_, hu⟩, ha⟩ := commandRestart_begins (kind := 1) hm (by decide) (by omega) (decide_eq_true hr) hfree fun _ => hpowered
  let t := commandRestart s m 1 r
  let v := restartRod (restartCounted u) r 0xFFFF
  have hrest : t = { v with olp := t.olp, out := t.out } := ha.rest
  have hrods (k : Nat) : getRod t k = getRod v k := getRod_congr ha.rods k
  have hmutes : t.mutes = v.mutes := ha.mutes
  have hlinks : t.links = v.links := ha.links
  have hfree' : (getRod (restartCounted u) r).restarting = false := by rw [hu]; exact hfree
  have hpowered' : (getRod (restartCounted u) r).powered = true := by rw [hu]; exact hpowered
  obtain ⟨hrestarting, hcal, hrecals, hothers⟩ := restartRod_rod hfree' hpowered' 0xFFFF
  obtain ⟨hmute, hcalmute⟩ := restartRod_mutes hfree' hpowered' 0xFFFF
  obtain ⟨hsend, hreceive, hlinksframe⟩ := restartRod_links hfree' hpowered' 0xFFFF
  have hterms' : TermsLow t := exec_termsLow (.rodRestart m r) s ((muteTermInv_iff s).1 hterms) t rfl
  have hmute' : muteAt t (.rodRestart r) (.rod r) := by rw [muteAt, hmutes]; exact hmute
  refine ⟨t, rfl, by rw [hrods, hrestarting], by rw [hrods, hcal], by rw [hrods, hrecals], hmute', by rw [muteAt, hmutes]; exact hcalmute, ?_,
    fun ch hch => ⟨txen_of_muteTerm (hterms' ch (chanMuted_of_rod hmute' hch)), ?_⟩, by rw [flushPending, hlinks]; exact hsend,
    by rw [flushPending, hlinks]; exact hreceive, ?_, fun k hk => ?_, ha.answer, ?_, ha.notes, ?_⟩
  · have hrestarts := restartRod_restarts hfree' hpowered' 0xFFFF
    rw [hrest, show _ = _ from hrestarts, hu]
    rfl
  · have hchans : getChan t ch = getChan v ch := getChan_congr ha.chans ch
    rw [hchans]
    exact restartRod_figures hfree' hpowered' 0xFFFF hch
  · rw [hlinks]
    have hcounted : (restartCounted u).links = s.links := by rw [hu]; rfl
    rw [← hcounted]
    exact hlinksframe
  · rw [hrods, hothers k hk, hu]
    rfl
  · have hselects := (restartBlock_keeps u 1 r 0xFFFF).objs
    have hslots : u.slots = s.slots := by rw [hu]
    have hobjs : u.objs = s.objs := by rw [hu]
    have hleft : t.objs = v.objs := by rw [hrest]
    refine .of_selectsSet ?_
    rw [hleft, ← hslots, ← hobjs]
    exact hselects
  · have hframe := restartRod_frame hfree' hpowered' 0xFFFF
    rw [hrest, show v = _ from hframe, hu]
    rfl

theorem exec_dnPortRestart {n : Nat} (hn : n < 16) (hfree : (getDn s n).restarting = false) : ∃ t, exec (.dnPortRestart m n) s = .next t ∧
    (getDn t n).restarting = true ∧ t.life = { s.life with restarts := inc32 s.life.restarts } ∧ answered t m 0x1240 1 0 ∧
    (∀ k, k ≠ n → getDn t k = getDn s k) ∧ OnlyNotes s t ∧
    t = { s with links := t.links, chans := t.chans, buses := t.buses, mutes := t.mutes, tally := t.tally, life := t.life
                 commit := t.commit, olp := t.olp, out := t.out } := by
  obtain ⟨u, hnoted, ha⟩ := commandRestart_begins (kind := 2) hm (by decide) (by omega) (decide_eq_true hn) hfree (by simp)
  let t := commandRestart s m 2 n
  let v := restartDn (restartCounted u) n
  obtain ⟨hlife, hframe⟩ := portRestart_frame hnoted (restartDn_frame (restartCounted u) n) ha.rest
  have hdn (k : Nat) : getDn t k = getDn v k := getDn_congr ha.links k
  obtain ⟨hself, hothers⟩ := restartDn_ports hn (restartCounted u)
  refine ⟨t, rfl, by rw [hdn, hself], hlife, ha.answer, fun k hk => ?_, ha.notes, hframe⟩
  obtain ⟨at_, hu⟩ := hnoted
  rw [hdn, hothers k hk, hu]
  rfl

theorem exec_xlLaneRestart {n : Nat} (hn : n < 16) (hfree : (getXl s n).restarting = false) : ∃ t, exec (.xlLaneRestart m n) s = .next t ∧
    (getXl t n).restarting = true ∧ t.life = { s.life with restarts := inc32 s.life.restarts } ∧ answered t m 0x1240 1 0 ∧ OnlyNotes s t ∧
    t = { s with links := t.links, chans := t.chans, buses := t.buses, mutes := t.mutes, tally := t.tally, life := t.life
                 commit := t.commit, olp := t.olp, out := t.out } := by
  obtain ⟨u, hnoted, ha⟩ := commandRestart_begins (kind := 3) hm (by decide) (by omega) (decide_eq_true hn) hfree (by simp)
  let t := commandRestart s m 3 n
  let v := restartXl (restartCounted u) n
  obtain ⟨hlife, hframe⟩ := portRestart_frame hnoted (restartXl_frame (restartCounted u) n) ha.rest
  have hxl : getXl t n = getXl v n := getXl_congr ha.links n
  exact ⟨t, rfl, by rw [hxl, restartXl_run hn], hlife, ha.answer, ha.notes, hframe⟩

theorem exec_captureControllerRestart (hfree : s.cap.restarting = false) : ∃ t, exec (.captureControllerRestart m) s = .next t ∧
    t.cap.restarting = true ∧ t.cap.st = 3 ∧ (∀ k, getMark t k = { firings := (getMark s k).firings }) ∧
    (∀ i, i < 8 → (smGet {} t.cap.replays i).st ≠ 1) ∧ t.life = { s.life with restarts := inc32 s.life.restarts } ∧ answered t m 0x1240 1 0 ∧
    OnlyNotes s t ∧ t = { s with cap := t.cap, tally := t.tally, life := t.life, commit := t.commit, olp := t.olp, out := t.out } := by
  obtain ⟨u, ⟨at_, hu⟩, ha⟩ := commandRestart_begins (kind := 4) (n := 0) hm (by decide) (by decide) rfl hfree (by simp)
  let t := commandRestart s m 4 0
  let v := restartCapture (restartCounted u)
  have hrest : t = { v with olp := t.olp, out := t.out } := ha.rest
  have hframe : v = _ := restartCapture_frame (restartCounted u)
  have hcap : t.cap = v.cap := by rw [hrest]
  obtain ⟨hrestarting, hst, hmarks, hreplays⟩ := restartCapture_cap (restartCounted u)
  refine ⟨t, rfl, by rw [hcap, hrestarting], by rw [hcap, hst], fun k => ?_, fun i hi => by rw [hcap]; exact hreplays i hi, ?_, ha.answer, ha.notes, ?_⟩
  · rw [getMark, hcap]
    exact (hmarks k).trans (by rw [hu]; rfl)
  · rw [hrest, hframe, hu]
    rfl
  · rw [hrest, hframe, hu]
    rfl

theorem exec_tallyRestart (hfree : s.tally.restarting = false) : ∃ t, exec (.tallyRestart m) s = .next t ∧
    t.tally = { s.tally with restarting := true } ∧ t.life.restarts = inc32 s.life.restarts ∧ answered t m 0x1240 1 0 ∧
    t = { s with tally := t.tally, life := t.life, commit := t.commit, olp := t.olp, out := t.out } ∧ OnlyNotes s t := by
  obtain ⟨u, ⟨at_, hu⟩, ha⟩ := commandRestart_begins (kind := 5) (n := 0) hm (by decide) (by decide) rfl hfree (by simp)
  have hrest := ha.rest
  refine ⟨_, rfl, ?_, ?_, ha.answer, ?_, ha.notes⟩
  · rw [hrest, hu]
    rfl
  · rw [hrest, hu]
    rfl
  · rw [hrest, hu]
    rfl

theorem exec_cellFinderRestart {r : Nat} (hr : r < 6) (hworks : (getRod s r).finder ≠ 2) : ∃ t, exec (.cellFinderRestart m r) s = .next t ∧
    (getRod t r).finder = 2 ∧ (getRod t r).fallback = true ∧ (getRod t r).visited = [] ∧
    t.life = { s.life with restarts := inc32 s.life.restarts } ∧ answered t m 0x1240 1 0 ∧ (∀ r', r' ≠ r → getRod t r' = getRod s r') ∧
    OnlyNotes s t ∧
    t = { s with gains := t.gains, chans := t.chans, rods := t.rods, buses := t.buses, mutes := t.mutes, prot := t.prot, tally := t.tally, life := t.life,
                 commit := t.commit, olp := t.olp, out := t.out } := by
  obtain ⟨u, ⟨at_, hu⟩, ha⟩ := commandRestart_begins (kind := 6) hm (by decide) (by omega) (decide_eq_true hr) (beq_eq_false_iff_ne.2 hworks) (by simp)
  let t := commandRestart s m 6 r
  let v := finderLost (restartCounted u) r 2
  have hrest : t = { v with olp := t.olp, out := t.out } := ha.rest
  have hframe : v = _ := finderLost_keeps (restartCounted u) r 2
  have hrods (k : Nat) : getRod t k = getRod (modRod (restartCounted u) r fun x =>
      { x with finder := 2, fallback := true, visited := [], dwellUsable := false }) k :=
    getRod_congr (ha.rods.trans (finderLost_rods (restartCounted u) r 2)) k
  refine ⟨t, rfl, by rw [hrods, getRod_modRod], by rw [hrods, getRod_modRod], by rw [hrods, getRod_modRod], ?_, ha.answer, fun k hk => ?_, ha.notes, ?_⟩
  · rw [hrest, hframe, hu]
    rfl
  · rw [hrods, getRod_modRod_ne _ _ _ _ hk, hu]
    rfl
  · rw [hrest, hframe, hu]
    rfl

end

/-- Settles O30: a restart, a calibration and their ends, each by the parts of the state that it goes through in turn. -/
theorem restartsOfRodsAndBlocks : Obligations.RestartsOfRodsAndBlocks := by
  refine ⟨fun s r hr => ⟨fun m hm hpowered hfree hterms => exec_rodRestart hm hr hpowered hfree hterms,
    fun m ch hch hrod hm hpower hpowered hcal hfree => ?_, fun hbusy => ⟨fun hwait => ?_, not_rodReady, fun hready => ?_⟩,
    fun hrejoin => ?_, fun hcal hpowered hcore => ⟨?_, fun step hlow hhigh => ?_⟩⟩,
    fun s => ⟨fun m n hm hn hfree => exec_dnPortRestart hm hn hfree, fun m n hm hn hfree => exec_xlLaneRestart hm hn hfree,
      fun m hm hfree => exec_captureControllerRestart hm hfree, fun m hm hfree => exec_tallyRestart hm hfree, fun m n hm => ?_,
      fun m r hm hr hworks => exec_cellFinderRestart hm hr hworks, fun hon => ⟨fun n hn hbusy => ?_, fun n hn hbusy => ?_, fun hbusy => ?_,
        fun hbusy => ?_, fun r hr hbusy => ?_⟩⟩⟩
  · -- a calibration begins
    subst hrod
    obtain ⟨u, t, ⟨at_, hu⟩, hexec, ha⟩ := exec_rodCalibrationRequest hm hch hpower hpowered hcal hfree
    obtain ⟨hself, hothers⟩ := startRodCal_rod u (ch / 16)
    have hrods (k : Nat) : getRod t k = getRod (startRodCal u (ch / 16)) k := getRod_congr ha.rods k
    refine ⟨t, hexec, by rw [hrods, hself], ?_, fun k hk => ?_, ha.answer, ha.notes, ?_⟩
    · rw [muteAt, ha.mutes]
      exact (mem_startRodCal _).2 (.inr rfl)
    · rw [hrods, hothers k hk, hu]
      rfl
    · rw [ha.rest, startRodCal_frame, hu]
  · -- a rod that is not ready waits
    exact if_pos (by simp [hwait])
  · -- one that is returns
    obtain ⟨hself, hrejoin, hothers⟩ := getRod_rodReturned s r
    have hframe := resetRod_frame (rodReturned s r) r
    have hrods (k : Nat) : getRod (resetRod (rodReturned s r) r) k = getRod (rodReturned s r) k := getRod_congr (by rw [hframe]) k
    have hlinks : (resetRod (rodReturned s r) r).links = (diesFlushed s r).links := by rw [hframe]; rfl
    obtain ⟨hsend, hreceive⟩ := diesFlushed_pending s r
    refine ⟨_, exec_rodRestartComplete hbusy hready, by rw [hrods, hself], by rw [hrods, hrejoin], by rw [hframe]; rfl, ?_, ?_,
      fun ch hch => resetRod_lastReset hch, fun k hk => by rw [hrods, hothers k hk], ?_⟩
    · rw [flushPending, hlinks]
      exact hsend
    · rw [flushPending, hlinks]
      exact hreceive
    · rw [rodBack_frame]
  · -- its mute ends at the boundary
    obtain ⟨hmute, hdone⟩ := rejoinRods_done hr hrejoin
    exact ⟨hmute, hdone, rejoinRods_frame s, fun m hmem => mem_rejoinRods hmem⟩
  · -- a calibration passes
    obtain ⟨hpassed, hstep, hpending, htrim, hothers⟩ := calDone_rod s r
    exact ⟨_, exec_rodCalibrationComplete_passed hcal hpowered hcore, hpassed, hstep, hpending, htrim, calDone_mute s r,
      fun ch hch => calDone_figures s hch, hothers, calDone_frame s r⟩
  · -- and fails
    obtain ⟨hfailed, hstep, hothers⟩ := calFailed_rod s r step
    let t := lastRod s (calFailed s r step) (197 + 6 * r)
    have hrods (k : Nat) : getRod t k = getRod (calFailed s r step) k := getRod_lastRod ..
    have hcalStep : (getRod t r).calStep = step := by rw [hrods, hstep]
    refine ⟨t, exec_rodCalibrationComplete_failed hcal hpowered hcore hlow hhigh, by rw [hrods, hfailed], hcalStep, ?_,
      rawLine_of_calStep hr (by omega), fun k hk => by rw [hrods, hothers k hk], ?_⟩
    · rw [hasMute_lastRod s _ _ (by simp) (by simp), hasMute_congr (calFailed_mutes s r step)]
    · rw [show t = _ from lastRod_eq .., show calFailed s r step = _ from calFailed_frame ..]
  · -- a block that restarts is not restarted
    intro refused
    exact ⟨fun hn hbusy => ⟨_, rfl, commandRestart_refused (kind := 1) hm (by decide) (by omega) (decide_eq_true hn) hbusy⟩,
      fun hn hbusy => ⟨_, rfl, commandRestart_refused (kind := 2) hm (by decide) (by omega) (decide_eq_true hn) hbusy⟩,
      fun hn hbusy => ⟨_, rfl, commandRestart_refused (kind := 3) hm (by decide) (by omega) (decide_eq_true hn) hbusy⟩,
      fun hbusy => ⟨_, rfl, commandRestart_refused (kind := 4) hm (by decide) (by decide) rfl hbusy⟩,
      fun hbusy => ⟨_, rfl, commandRestart_refused (kind := 5) hm (by decide) (by decide) rfl hbusy⟩,
      fun hn hbusy => ⟨_, rfl, commandRestart_refused (kind := 6) hm (by decide) (by omega) (decide_eq_true hn) (beq_iff_eq.2 hbusy)⟩⟩
  · -- a port returns
    obtain ⟨hself, hothers⟩ := portRestarted_dn_ports hn hbusy
    exact ⟨_, if_neg (blockRestartComplete_due (kind := 2) hon (decide_eq_true hn) hbusy), hself, hothers, portRestarted_dn_frame hn hbusy⟩
  · -- a lane returns
    obtain ⟨hself, hothers⟩ := portRestarted_xl_ports hn hbusy
    exact ⟨_, if_neg (blockRestartComplete_due (kind := 3) hon (decide_eq_true hn) hbusy), hself, hothers, portRestarted_xl_frame hbusy⟩
  · -- the capture controller returns
    exact ⟨_, if_neg (blockRestartComplete_due (kind := 4) (n := 0) hon rfl hbusy), formRing_cap _, (StoreFrame.setCap s _).trans (formRing_frame _)⟩
  · -- Tally returns
    exact if_neg (blockRestartComplete_due (kind := 5) (n := 0) hon rfl hbusy)
  · -- a Cell Finder returns
    obtain ⟨hfinder, hvisited⟩ := finderBack_rod s r
    exact ⟨_, if_neg (blockRestartComplete_due (kind := 6) hon (decide_eq_true hr) (beq_iff_eq.2 hbusy)), hfinder, hvisited,
      fun k hk => (getRod_endFallback_ne _ hk).trans (getRod_modRod_ne _ _ _ _ hk), finderBack_frame s r⟩

end Sys2Proof.Machine

namespace Sys2Proof.Machine

/-! ### Fuses (R266, R403, R408) -/

/-- The fuses as they stand, seen from those that `fs` held: no less is burned, and a generation consumed then holds what it held. -/
def FusesAhead (fs : NonVol) (burned secVersion : Nat) (gens : SMap LicGen) : Prop :=
  fs.burned ≤ burned ∧ fs.secVersion ≤ secVersion ∧ ∀ g, (smGet {} fs.gens g).consumed = true → smGet {} gens g = smGet {} fs.gens g

/-- From `fs` the state's fuses have only burned. -/
@[simp] abbrev Burnt (fs : NonVol) (s : State) : Prop := FusesAhead fs s.nv.burned s.nv.secVersion s.nv.gens

/-- An operation that leaves the fuses, whatever else it writes of what is kept across a reset. -/
@[simp] abbrev SameFuses (s t : State) : Prop := t.nv.burned = s.nv.burned ∧ t.nv.secVersion = s.nv.secVersion ∧ t.nv.gens = s.nv.gens

theorem fusesKept_iff (s t : State) : FusesKept s t ↔ Burnt s.nv t := Iff.rfl

theorem Burnt.refl (s : State) : Burnt s.nv s := ⟨le_rfl, le_rfl, fun _ _ => rfl⟩

section

variable {fs : NonVol}

theorem burnt_ite {c : Prop} [Decidable c] {a b : State} (ha : Burnt fs a) (hb : Burnt fs b) : Burnt fs (if c then a else b) := by
  split
  · exact ha
  · exact hb

/-- The same where an answer stands beside the state. -/
theorem burnt_ite_snd {c : Prop} [Decidable c] {a b : Nat × State} (ha : Burnt fs a.2) (hb : Burnt fs b.2) :
    Burnt fs (if c then a else b).2 := by
  split
  · exact ha
  · exact hb

@[simp] theorem ite_burned (c : Prop) [Decidable c] (a b : NonVol) : (if c then a else b).burned = if c then a.burned else b.burned :=
  apply_ite NonVol.burned c a b
@[simp] theorem ite_secVersion (c : Prop) [Decidable c] (a b : NonVol) :
    (if c then a else b).secVersion = if c then a.secVersion else b.secVersion := apply_ite NonVol.secVersion c a b
@[simp] theorem ite_gens (c : Prop) [Decidable c] (a b : NonVol) : (if c then a else b).gens = if c then a.gens else b.gens :=
  apply_ite NonVol.gens c a b

@[simp] theorem forEach_sameFuses {α : Type} (xs : List α) (f : State → α → State) (s : State) (h : ∀ u x, SameFuses u (f u x)) :
    SameFuses s (forEach xs s f) :=
  ⟨forEach_keep (·.nv.burned) xs f (fun u x => (h u x).1) s, forEach_keep (·.nv.secVersion) xs f (fun u x => (h u x).2.1) s,
    forEach_keep (·.nv.gens) xs f (fun u x => (h u x).2.2) s⟩

/-! ### What each operation does to the fuses

In the order of the model's files: an operation that leaves all that a reset keeps, one that leaves the fuses, one that only
burns them. -/

/-! #### Ops.lean -/

@[simp] theorem foldWall_nv (s : State) : (foldWall s).nv = s.nv := by simp [foldWall]
@[simp] theorem alignStamp_nv (s : State) : (alignStamp s).nv = s.nv := by simp [alignStamp]

/-! #### Nines.lean -/

@[simp] theorem execRodDieExitFailure_burnt (ch frame : Nat) (s : State) (h : Burnt fs s) :
    Ends (Burnt fs) (execRodDieExitFailure ch frame s) := by simp [execRodDieExitFailure, h]

/-! #### Loops.lean -/

@[simp] theorem loopMute_nv (s : State) (r row : Nat) (e : Eval) : (loopMute s r row e).nv = s.nv := by simp [loopMute]
@[simp] theorem loopUnmute_nv (s : State) (r : Nat) (e : Eval) : (loopUnmute s r e).nv = s.nv := by simp [loopUnmute]

/-! #### Protection.lean -/

@[simp] theorem pinEntry_nv (s : State) (i : Nat) : (pinEntry s i).2.nv = s.nv := by simp [pinEntry]
@[simp] theorem unpinEntry_nv (s : State) (i : Nat) : (unpinEntry s i).nv = s.nv := by simp [unpinEntry]
@[simp] theorem clearLedger_nv (s : State) : (clearLedger s).nv = s.nv := by simp [clearLedger]
@[simp] theorem execDonorLossEntry_burnt (g : Nat) (s : State) (h : Burnt fs s) : Ends (Burnt fs) (execDonorLossEntry g s) := by
  simp [execDonorLossEntry, h]
@[simp] theorem execDonorLossRelease_burnt (g : Nat) (s : State) (h : Burnt fs s) : Ends (Burnt fs) (execDonorLossRelease g s) := by
  unfold execDonorLossRelease; (repeat' split) <;> simp [h]
@[simp] theorem execIdentityTest_burnt (s : State) (h : Burnt fs s) : Ends (Burnt fs) (execIdentityTest s) := by
  unfold execIdentityTest
  dsimp only
  split
  · simp [h]
  · rw [ends_next, Burnt, forEach_nv]
    · simp [h]
    · intro u g
      (repeat' split) <;> simp
@[simp] theorem shownRise_nv (s : State) (g : Nat) (k ntx : Int) (pl ncell : Int) : (shownRise s g k ntx pl ncell).nv = s.nv := by
  unfold shownRise; (repeat' split) <;> simp
@[simp] theorem noiseRiseTick_nv (s : State) (g : Nat) : (noiseRiseTick s g).nv = s.nv := by
  unfold noiseRiseTick; (repeat' split) <;> simp
@[simp] theorem noiseRise_nv (s : State) : (noiseRise s).nv = s.nv := by simp [noiseRise]
@[simp] theorem tidyGroup_nv (s : State) (i : Nat) : (tidyGroup s i).nv = s.nv := by simp [tidyGroup]
@[simp] theorem execFrameSyncInEdge_burnt (highNs pos : Nat) (s : State) (h : Burnt fs s) :
    Ends (Burnt fs) (execFrameSyncInEdge highNs pos s) := by simp [execFrameSyncInEdge, h]
@[simp] theorem execPpsInEdge_burnt (highNs pos : Nat) (s : State) (h : Burnt fs s) :
    Ends (Burnt fs) (execPpsInEdge highNs pos s) := by simp [execPpsInEdge, h]
@[simp] theorem execTddEpochMissing_burnt (grp : Nat) (s : State) (h : Burnt fs s) : Ends (Burnt fs) (execTddEpochMissing grp s) := by
  simp [execTddEpochMissing, h]
@[simp] theorem execHoldoverLimitExpiry_burnt (grp : Nat) (s : State) (h : Burnt fs s) :
    Ends (Burnt fs) (execHoldoverLimitExpiry grp s) := by simp [execHoldoverLimitExpiry, h]
@[simp] theorem execSearchDwellComplete_burnt (r g : Nat) (dwell : Dwell) (s : State) (h : Burnt fs s) :
    Ends (Burnt fs) (execSearchDwellComplete r g dwell s) := by simp [execSearchDwellComplete, h]
@[simp] theorem missedOccasion_nv (s : State) (entry : Nat) : (missedOccasion s entry).nv = s.nv := by simp [missedOccasion]
@[simp] theorem execTrackingMeasurement_burnt (entry : Nat) (meas : Option CellMeas) (parity : Bool) (s : State) (h : Burnt fs s) :
    Ends (Burnt fs) (execTrackingMeasurement entry meas parity s) := by
  unfold execTrackingMeasurement; dsimp only; (repeat' split) <;> simp [h]
@[simp] theorem execCellFinderFailure_burnt (r : Nat) (s : State) (h : Burnt fs s) : Ends (Burnt fs) (execCellFinderFailure r s) := by
  simp [execCellFinderFailure, h]

/-! #### Radio.lean -/

@[simp] theorem staleBands_sameFuses (s : State) (r : Nat) : SameFuses s (staleBands s r) := by simp [staleBands]
@[simp] theorem noteBand_sameFuses (s : State) (r lo : Nat) : SameFuses s (noteBand s r lo) := by simp [noteBand]
@[simp] theorem driveAll_nv (s : State) (chs : List Nat) : (driveAll s chs).nv = s.nv := by simp [driveAll]
@[simp] theorem retrimChan_nv (s : State) (ch : Nat) : (retrimChan s ch).nv = s.nv := by
  unfold retrimChan; (repeat' split) <;> simp
@[simp] theorem execRadioTransitionEnd_burnt (ch : Nat) (s : State) (h : Burnt fs s) : Ends (Burnt fs) (execRadioTransitionEnd ch s) := by
  unfold execRadioTransitionEnd; dsimp only; (repeat' split) <;> simp [h]
@[simp] theorem execClass1SequenceIssue_burnt (ch event : Nat) (s : State) (h : Burnt fs s) :
    Ends (Burnt fs) (execClass1SequenceIssue ch event s) := by simp [execClass1SequenceIssue, h]
@[simp] theorem execTxCommandReject_burnt (ch : Nat) (s : State) (h : Burnt fs s) : Ends (Burnt fs) (execTxCommandReject ch s) := by
  unfold execTxCommandReject; (repeat' split) <;> simp [h]
@[simp] theorem execSynthLock_burnt (r n : Nat) (s : State) (h : Burnt fs s) : Ends (Burnt fs) (execSynthLock r n s) := by
  simp [execSynthLock, h]
@[simp] theorem execSynthLockLoss_burnt (r n : Nat) (s : State) (h : Burnt fs s) : Ends (Burnt fs) (execSynthLockLoss r n s) := by
  simp [execSynthLockLoss, h]
@[simp] theorem execReliefHandover_burnt (r : Nat) (s : State) (h : Burnt fs s) : Ends (Burnt fs) (execReliefHandover r s) := by
  unfold execReliefHandover; (repeat' split) <;> simp [h]
@[simp] theorem dueSynths_sameFuses (s : State) (r : Nat) : SameFuses s (dueSynths s r) := by
  have aged : SameFuses (staleBands s r) (dueSynths s r) := by
    unfold dueSynths
    dsimp only
    simp only [SameFuses, recalDue_keeps]
    refine forEach_sameFuses _ _ _ fun u n => ?_
    (repeat' split) <;> simp
  simpa using aged
@[simp] theorem freshSynths_sameFuses (s : State) (r : Nat) : SameFuses s (freshSynths s r) := by simp [freshSynths]
@[simp] theorem execTddTxWindowStart_burnt (ch : Nat) (s : State) (h : Burnt fs s) : Ends (Burnt fs) (execTddTxWindowStart ch s) := by
  unfold execTddTxWindowStart; (repeat' split) <;> simp [h]
@[simp] theorem execTddTxWindowEnd_burnt (ch : Nat) (s : State) (h : Burnt fs s) : Ends (Burnt fs) (execTddTxWindowEnd ch s) := by
  simp [execTddTxWindowEnd, h]
@[simp] theorem writeTuner_nv (s : State) (ch st : Nat) : (writeTuner s ch st).nv = s.nv := by simp [writeTuner]
@[simp] theorem searchStep_nv (s : State) (ch : Nat) : (searchStep s ch).nv = s.nv := by simp [searchStep]
@[simp] theorem searchResult_nv (s : State) (ch : Nat) (rl : Int) : (searchResult s ch rl).nv = s.nv := by simp [searchResult]
@[simp] theorem mismatchResult_nv (s : State) (ch : Nat) : (mismatchResult s ch).nv = s.nv := by
  unfold mismatchResult; dsimp only; (repeat' split) <;> simp
@[simp] theorem openWindow_nv (s : State) (ch : Nat) (p : Int) : (openWindow s ch p).nv = s.nv := by simp [openWindow]
@[simp] theorem switchTest_nv (s : State) (ch : Nat) (p : Int) : (switchTest s ch p).nv = s.nv := by simp [switchTest]
@[simp] theorem execMismatchMeasurement_burnt (ch : Nat) (power : Option Int) (s : State) (h : Burnt fs s) :
    Ends (Burnt fs) (execMismatchMeasurement ch power s) := by
  unfold execMismatchMeasurement; dsimp only; (repeat' split) <;> simp [h]
@[simp] theorem closeWindow_nv (s : State) (ch : Nat) (power : Option Int) : (closeWindow s ch power).nv = s.nv := by
  unfold closeWindow; (repeat' split) <;> simp
@[simp] theorem execReflectedWindowLengthEnd_burnt (ch : Nat) (power : Int) (s : State) (h : Burnt fs s) :
    Ends (Burnt fs) (execReflectedWindowLengthEnd ch power s) := by
  unfold execReflectedWindowLengthEnd; dsimp only; (repeat' split) <;> simp [h]
@[simp] theorem txnDone_nv (s : State) (t : Txn) : (txnDone s t).nv = s.nv := by simp [txnDone]
@[simp] theorem execRffeTransactionComplete_burnt (bus : Nat) (power : Option Int) (s : State) (h : Burnt fs s) :
    Ends (Burnt fs) (execRffeTransactionComplete bus power s) := by
  unfold execRffeTransactionComplete; (repeat' split) <;> simp [h]
@[simp] theorem execMismatchProbe_burnt (ch : Nat) (s : State) (h : Burnt fs s) : Ends (Burnt fs) (execMismatchProbe ch s) := by
  simp [execMismatchProbe, h]
@[simp] theorem execTunerSearchStep_burnt (ch : Nat) (s : State) (h : Burnt fs s) : Ends (Burnt fs) (execTunerSearchStep ch s) := by
  simp [execTunerSearchStep, h]
@[simp] theorem tunerStateWrite_nv (s : State) (ch v : Nat) : (tunerStateWrite s ch v).2.nv = s.nv := by simp [tunerStateWrite]
@[simp] theorem calRequest_nv (s : State) (ch v : Nat) : (calRequest s ch v).2.nv = s.nv := by simp [calRequest]
@[simp] theorem trimRefs_nv (s : State) (r : Nat) : (trimRefs s r).nv = s.nv := by simp [trimRefs]
@[simp] theorem retrimRod_nv (s : State) (r : Nat) : (retrimRod s r).nv = s.nv := by simp [retrimRod]

/-! #### Canceller.lean -/

@[simp] theorem endPeriod_nv (s : State) (ch : Nat) (skips : Bool) : (endPeriod s ch skips).nv = s.nv := by simp [endPeriod]
@[simp] theorem execCancellerUpdatePeriod_burnt (ch : Nat) (bad : Option Nat) (s : State) (h : Burnt fs s) :
    Ends (Burnt fs) (execCancellerUpdatePeriod ch bad s) := by
  unfold execCancellerUpdatePeriod; dsimp only; (repeat' split) <;> simp [h]
@[simp] theorem execCancellerModelApply_burnt (ch : Nat) (s : State) (h : Burnt fs s) : Ends (Burnt fs) (execCancellerModelApply ch s) := by
  simp [execCancellerModelApply, h]
@[simp] theorem execTrainingTimeout_burnt (ch p : Nat) (s : State) (h : Burnt fs s) :
    Ends (Burnt fs) (execTrainingTimeout ch p s) := by simp [execTrainingTimeout, h]
@[simp] theorem execPathStale_burnt (ch p : Nat) (s : State) (h : Burnt fs s) : Ends (Burnt fs) (execPathStale ch p s) := by
  simp [execPathStale, h]
@[simp] theorem execSurveyComplete_burnt (ch : Nat) (badDelay : Option Nat) (badGain : Option Nat) (s : State) (h : Burnt fs s) :
    Ends (Burnt fs) (execSurveyComplete ch badDelay badGain s) := by simp [execSurveyComplete, h]
@[simp] theorem execSurveyAbandon_burnt (ch : Nat) (s : State) (h : Burnt fs s) : Ends (Burnt fs) (execSurveyAbandon ch s) := by
  simp [execSurveyAbandon, h]
@[simp] theorem surveyWrite_nv (s : State) (ch v : Nat) : (surveyWrite s ch v).2.nv = s.nv := by simp [surveyWrite]
@[simp] theorem freezeWrite_nv (s : State) (ch p v : Nat) : (freezeWrite s ch p v).nv = s.nv := by simp [freezeWrite]
@[simp] theorem modelResetWrite_nv (s : State) (ch p v : Nat) : (modelResetWrite s ch p v).2.nv = s.nv := by simp [modelResetWrite]
@[simp] theorem snapshotWrite_nv (s : State) (ch v : Nat) : (snapshotWrite s ch v).2.nv = s.nv := by simp [snapshotWrite]

/-! #### Links.lean -/

@[simp] theorem pushBlock_nv (s : State) (code k frames : Nat) (xs : List Smp) :
    (pushBlock s code k frames xs).nv = s.nv := by simp [pushBlock]
@[simp] theorem pushPoison_nv (s : State) (code k : Nat) (frames n : Nat) : (pushPoison s code k frames n).nv = s.nv := by simp [pushPoison]
@[simp] theorem itemArrives_nv (s : State) (queue num : Nat) (lost go : State → State) (hl : ∀ u, (lost u).nv = u.nv)
    (hg : ∀ u, (go u).nv = u.nv) : (itemArrives s queue num lost go).nv = s.nv := by simp [itemArrives, hl, hg]
@[simp] theorem laneDown_nv (s : State) (l : Nat) : (laneDown s l).nv = s.nv := by simp [laneDown]
@[simp] theorem flushPort_nv (s : State) (queues : List Nat) (l : Nat) : (flushPort s queues l).nv = s.nv := by simp [flushPort]
@[simp] theorem restartSeqs_nv (s : State) (l : Nat) : (restartSeqs s l).nv = s.nv := by simp [restartSeqs]
@[simp] theorem forgetLane_nv (s : State) (l : Nat) : (forgetLane s l).nv = s.nv := by simp [forgetLane]
@[simp] theorem portRestarted_nv (s : State) (port : Nat) : (portRestarted s port).nv = s.nv := by simp [portRestarted]
@[simp] theorem execPortRestartComplete_burnt (port : Nat) (s : State) (h : Burnt fs s) :
    Ends (Burnt fs) (execPortRestartComplete port s) := by simp [execPortRestartComplete, h]
@[simp] theorem execDnPortDown_burnt (l : Nat) (s : State) (h : Burnt fs s) : Ends (Burnt fs) (execDnPortDown l s) := by
  simp [execDnPortDown, h]
@[simp] theorem execDnPortUp_burnt (l : Nat) (s : State) (h : Burnt fs s) : Ends (Burnt fs) (execDnPortUp l s) := by simp [execDnPortUp, h]
@[simp] theorem execQueueFlush_burnt (queue num : Nat) (s : State) (h : Burnt fs s) :
    Ends (Burnt fs) (execQueueFlush queue num s) := by simp [execQueueFlush, h]
@[simp] theorem readFrame_nv (s : State) (l : Nat) (f : DnFrame) (go : State → State) (hg : ∀ u, (go u).nv = u.nv) :
    (readFrame s l f go).nv = s.nv := by simp [readFrame, hg]
@[simp] theorem takeFrame_nv (s : State) (l : Nat) (f : DnFrame) (typ : Nat) (go : State → State) (hg : ∀ u, (go u).nv = u.nv) :
    (takeFrame s l f typ go).nv = s.nv := by simp [takeFrame, hg]
@[simp] theorem execDnFrameDiscard_burnt (port : Nat) (frame : DnFrame) (s : State) (h : Burnt fs s) :
    Ends (Burnt fs) (execDnFrameDiscard port frame s) := by simp [execDnFrameDiscard, h]
@[simp] theorem resyncStream_nv (s : State) (code : Nat) : (resyncStream s code).nv = s.nv := by simp [resyncStream]
@[simp] theorem acquireStream_nv (s : State) (code k seq : Nat) (xs : List Smp) :
    (acquireStream s code k seq xs).nv = s.nv := by simp [acquireStream]
@[simp] theorem scheduleMessage_nv (s : State) (code k seq : Nat) (xs : List Smp) :
    (scheduleMessage s code k seq xs).nv = s.nv := by simp [scheduleMessage]
@[simp] theorem execEcpriIqMessage_burnt (port : Nat) (frame : DnFrame) (s : State) (h : Burnt fs s) :
    Ends (Burnt fs) (execEcpriIqMessage port frame s) := by
  unfold execEcpriIqMessage
  rw [ends_next, Burnt, takeFrame_nv]
  · exact h
  · intro u
    dsimp only
    (repeat' split) <;> simp
@[simp] theorem execEcpriDelayRequest_burnt (port : Nat) (frame : DnFrame) (s : State) (h : Burnt fs s) :
    Ends (Burnt fs) (execEcpriDelayRequest port frame s) := by simp [execEcpriDelayRequest, h]
@[simp] theorem execEcpriRemoteDelayRequest_burnt (port : Nat) (frame : DnFrame) (s : State) (h : Burnt fs s) :
    Ends (Burnt fs) (execEcpriRemoteDelayRequest port frame s) := by simp [execEcpriRemoteDelayRequest, h]
@[simp] theorem execEcpriDelayResponse_burnt (port : Nat) (frame : DnFrame) (s : State) (h : Burnt fs s) :
    Ends (Burnt fs) (execEcpriDelayResponse port frame s) := by simp [execEcpriDelayResponse, h]
@[simp] theorem delayWrite_nv (s : State) (l v : Nat) : (delayWrite s l v).2.nv = s.nv := by simp [delayWrite]
@[simp] theorem execDelayResponseTimeout_burnt (port : Nat) (s : State) (h : Burnt fs s) :
    Ends (Burnt fs) (execDelayResponseTimeout port s) := by simp [execDelayResponseTimeout, h]
@[simp] theorem execStreamLossTimeout_burnt (port str : Nat) (s : State) (h : Burnt fs s) :
    Ends (Burnt fs) (execStreamLossTimeout port str s) := by simp [execStreamLossTimeout, h]
@[simp] theorem execStreamMuteRelease_burnt (code : Nat) (s : State) (h : Burnt fs s) : Ends (Burnt fs) (execStreamMuteRelease code s) := by
  simp [execStreamMuteRelease, h]
@[simp] theorem execStreamDonorPathLost_burnt (code : Nat) (s : State) (h : Burnt fs s) :
    Ends (Burnt fs) (execStreamDonorPathLost code s) := by simp [execStreamDonorPathLost, h]
@[simp] theorem execEcpriEgressMessage_burnt (port str : Nat) (s : State) (h : Burnt fs s) :
    Ends (Burnt fs) (execEcpriEgressMessage port str s) := by
  unfold execEcpriEgressMessage; dsimp only; (repeat' split) <;> simp [h]
@[simp] theorem relayShare_nv (s : State) (l : Nat) : (relayShare s l).nv = s.nv := by simp [relayShare]
@[simp] theorem sendSuperframe_nv (s : State) (l : Nat) (iq : List (BitVec 64)) (trailer : BitVec 56) (m : Nat) :
    (sendSuperframe s l iq trailer m).nv = s.nv := by simp [sendSuperframe]
@[simp] theorem deliverQuarters_nv (s : State) (l rel flags : Nat) (qs : SMap (List Smp)) :
    (deliverQuarters s l rel flags qs).nv = s.nv := by simp [deliverQuarters]
@[simp] theorem missSuperframes_nv (s : State) (l n : Nat) : (missSuperframes s l n).nv = s.nv := by simp [missSuperframes]
@[simp] theorem patchQuarters_nv (s : State) (l back flags : Nat) (qs : SMap (List Smp)) :
    (patchQuarters s l back flags qs).nv = s.nv := by simp [patchQuarters]
@[simp] theorem noteSwitch_nv (s : State) (l n : Nat) : (noteSwitch s l n).nv = s.nv := by simp [noteSwitch]
@[simp] theorem laneUp_nv (s : State) (l : Nat) (drift : Int) : (laneUp s l drift).nv = s.nv := by
  unfold laneUp; dsimp only; (repeat' split) <;> simp
@[simp] theorem laneDrift_nv (s : State) (l : Nat) (drift : Int) : (laneDrift s l drift).nv = s.nv := by simp [laneDrift]
@[simp] theorem delayLane_nv (s : State) (l rel : Nat) : (delayLane s l rel).nv = s.nv := by simp [delayLane]
@[simp] theorem shareBoundary_nv (s : State) (l : Nat) : (shareBoundary s l).nv = s.nv := by simp [shareBoundary]
@[simp] theorem placeQuarters_nv (s : State) (a l : Nat) (n flags : Nat) (qs : SMap (List Smp)) :
    (placeQuarters s a l n flags qs).nv = s.nv := by
  unfold placeQuarters; dsimp only; (repeat' split) <;> simp
@[simp] theorem skipSwitches_nv (s : State) (l skipped : Nat) : (skipSwitches s l skipped).nv = s.nv := by simp [skipSwitches]
@[simp] theorem deliverSuperframe_nv (s : State) (l : Nat) (sf : Superframe) (good : Bool) (skipped : Nat) :
    (deliverSuperframe s l sf good skipped).nv = s.nv := by
  unfold deliverSuperframe; dsimp only; (repeat' split) <;> simp
@[simp] theorem execSuperframeReceive_burnt (lane : Nat) (sf : Superframe) (drift : Int) (s : State) (h : Burnt fs s) :
    Ends (Burnt fs) (execSuperframeReceive lane sf drift s) := by simp [execSuperframeReceive, h]
@[simp] theorem execLaneBlockLockLoss_burnt (lane : Nat) (s : State) (h : Burnt fs s) : Ends (Burnt fs) (execLaneBlockLockLoss lane s) := by
  simp [execLaneBlockLockLoss, h]
@[simp] theorem execSuperframeTransmit_burnt (lane : Nat) (s : State) (h : Burnt fs s) :
    Ends (Burnt fs) (execSuperframeTransmit lane s) := by simp [execSuperframeTransmit, h]
@[simp] theorem execThroughRepeat_burnt (lane : Nat) (sf : Superframe) (s : State) (h : Burnt fs s) :
    Ends (Burnt fs) (execThroughRepeat lane sf s) := by simp [execThroughRepeat, h]

/-! #### Capture.lean -/

@[simp] theorem captureControl_nv (s : State) (v : Nat) : (captureControl s v).2.nv = s.nv := by simp [captureControl]
@[simp] theorem markControl_nv (s : State) (m v : Nat) : (markControl s m v).nv = s.nv := by simp [markControl]
@[simp] theorem manualFire_nv (s : State) (m : Nat) : (manualFire s m).nv = s.nv := by simp [manualFire]
@[simp] theorem noteBadPage_nv (s : State) (n : Nat) : (noteBadPage s n).nv = s.nv := by simp [noteBadPage]
@[simp] theorem replayControl_nv (s : State) (r v : Nat) : (replayControl s r v).2.nv = s.nv := by
  unfold replayControl; dsimp only; (repeat' split) <;> simp
@[simp] theorem exportControl_nv (s : State) (l v : Nat) : (exportControl s l v).nv = s.nv := by simp [exportControl]
@[simp] theorem exportPage_nv (s : State) (port : Nat) (p : List Word) (endFlag : Bool) : (exportPage s port p endFlag).nv = s.nv :=
  forEach_nv _ _ _ fun _ _ => rfl
@[simp] theorem execExportPageSend_burnt (port : Nat) (s : State) (h : Burnt fs s) : Ends (Burnt fs) (execExportPageSend port s) := by
  unfold execExportPageSend; dsimp only; (repeat' split) <;> simp [h]
@[simp] theorem reachMarks_nv (s : State) (hit : List Nat) : (reachMarks s hit).nv = s.nv := by simp [reachMarks]
@[simp] theorem noteClosed_nv (s : State) (e : Nat) (p : List Word) (m : Nat) : (noteClosed s e p m).nv = s.nv := by simp [noteClosed]
@[simp] theorem fillMarks_nv (s : State) (e : Nat) (p : List Word) : (fillMarks s e p).nv = s.nv := by simp [fillMarks]
@[simp] theorem execCapturePageWrite_burnt (entry : Nat) (parity : Bool) (overflow : Bool) (s : State) (h : Burnt fs s) :
    Ends (Burnt fs) (execCapturePageWrite entry parity overflow s) := by
  unfold execCapturePageWrite; (repeat' split) <;> simp [h]
@[simp] theorem execReplayEnd_burnt (rep : Nat) (s : State) (h : Burnt fs s) : Ends (Burnt fs) (execReplayEnd rep s) := by
  simp [execReplayEnd, h]
@[simp] theorem spoilPage_nv (s : State) (n : Nat) : (spoilPage s n).nv = s.nv := by
  unfold spoilPage; dsimp only; (repeat' split) <;> simp
@[simp] theorem execDdrChannelFailure_burnt (n : Nat) (trainingOrPhy : Bool) (s : State) (h : Burnt fs s) :
    Ends (Burnt fs) (execDdrChannelFailure n trainingOrPhy s) := by simp [execDdrChannelFailure, h]
@[simp] theorem retrainDdr_nv (s : State) (n : Nat) : (retrainDdr s n).nv = s.nv := by simp [retrainDdr]
@[simp] theorem formRing_nv (s : State) : (formRing s).nv = s.nv := by simp [formRing]

/-! #### Filters.lean -/

@[simp] theorem resetWrite_nv (s : State) (ch sub v : Nat) : (resetWrite s ch sub v).nv = s.nv := by simp [resetWrite]
@[simp] theorem swapWrite_nv (s : State) (g t : Nat) : (swapWrite s g t).2.nv = s.nv := by
  unfold swapWrite; dsimp only; (repeat' split) <;> simp
@[simp] theorem endFade_nv (s : State) (g : Nat) (f : XFade) (go : State → Nat → State) (hg : ∀ u t, (go u t).nv = u.nv) :
    (endFade s g f go).nv = s.nv := by
  unfold endFade; dsimp only; (repeat' split) <;> simp [hg]
@[simp] theorem execCrossFadeEnd_burnt (g : Nat) (s : State) (h : Burnt fs s) : Ends (Burnt fs) (execCrossFadeEnd g s) := by
  unfold execCrossFadeEnd; (repeat' split) <;> simp [h]
@[simp] theorem completeSwaps_nv (s : State) (g : Nat) : (completeSwaps s g).nv = s.nv := by
  unfold completeSwaps; (repeat' split) <;> simp
@[simp] theorem judgeThresholds_nv (s : State) (g : Nat) : (judgeThresholds s g).nv = s.nv := by simp [judgeThresholds]
@[simp] theorem execPowerDetectorWindow_burnt (g : Nat) (s : State) (h : Burnt fs s) : Ends (Burnt fs) (execPowerDetectorWindow g s) := by
  unfold execPowerDetectorWindow; (repeat' split) <;> simp [h]

/-! #### Licence.lean -/

@[simp] theorem licenceTest_nv (s : State) : (licenceTest s).nv = s.nv := by simp [licenceTest]
/-- A burn takes the next generation, which was not consumed (R266, R268). -/
theorem nextGen_not_consumed {s : State} {g : Nat} (hg : nextGen s = some g) : (smGet {} s.nv.gens g).consumed = false := by
  simpa [getGen] using List.find?_some hg
/-- What is burned into the next generation leaves those consumed before. -/
theorem burnt_next_gen {s : State} {g : Nat} (gen : LicGen) (hg : nextGen s = some g) (h : Burnt fs s) :
    FusesAhead fs s.nv.burned s.nv.secVersion (smSet {} s.nv.gens g gen) := by
  obtain ⟨hburned, hsec, hgens⟩ := h
  refine ⟨hburned, hsec, fun k hk => ?_⟩
  have hne : k ≠ g := by
    rintro rfl
    have used : (smGet {} s.nv.gens k).consumed = true := by rw [hgens k hk, hk]
    rw [nextGen_not_consumed hg] at used
    cases used
  rw [smGet_smSet_ne _ _ _ _ _ hne, hgens k hk]
@[simp] theorem burnLicence_burnt (s : State) (g : Nat) (readBackOk : Bool) (h : Burnt fs s) : Burnt fs (burnLicence s g readBackOk).2 := by
  unfold burnLicence
  dsimp only
  split
  · simp [h]
  split
  · simp [h]
  split
  · simp [h]
  next n hn =>
  split
  · simp [h]
  next hng =>
  have burned (gen : LicGen) := burnt_next_gen gen (Decidable.not_not.1 hng ▸ hn) h
  (repeat' split) <;> simp [h, burned]
@[simp] theorem loadShadow_nv (s : State) : (loadShadow s).nv = s.nv := by simp [loadShadow]
@[simp] theorem bootShadow_nv (s : State) : (bootShadow s).nv = s.nv := by simp [bootShadow]
@[simp] theorem execLicenceGenerationActivate_burnt (s : State) (h : Burnt fs s) : Ends (Burnt fs) (execLicenceGenerationActivate s) := by
  unfold execLicenceGenerationActivate; (repeat' split) <;> simp [h]
@[simp] theorem execLicenceShadowCompare_burnt (shadowOk : Bool) (s : State) (h : Burnt fs s) :
    Ends (Burnt fs) (execLicenceShadowCompare shadowOk s) := by simp [execLicenceShadowCompare, h]

/-! #### Sentinel.lean -/

@[simp] theorem execSentinelOverpowerInterval_burnt (ch : Nat) (fb : Int) (s : State) (h : Burnt fs s) :
    Ends (Burnt fs) (execSentinelOverpowerInterval ch fb s) := by simp [execSentinelOverpowerInterval, h]
@[simp] theorem execSentinelSpectralWindow_burnt (ch : Nat) (bins : List Int) (s : State) (h : Burnt fs s) :
    Ends (Burnt fs) (execSentinelSpectralWindow ch bins s) := by simp [execSentinelSpectralWindow, h]
@[simp] theorem gateWrite_nv (s : State) (ch : Nat) : (gateWrite s ch).2.nv = s.nv := by simp [gateWrite]
@[simp] theorem sentinelFail_nv (s : State) : (sentinelFail s).nv = s.nv := by simp [sentinelFail]
@[simp] theorem execSentinelSelfTest_burnt (failed : List Nat) (s : State) (h : Burnt fs s) :
    Ends (Burnt fs) (execSentinelSelfTest failed s) := by simp [execSentinelSelfTest, h]
@[simp] theorem execSentinelSelfCheckFailure_burnt (kind : Nat) (s : State) (h : Burnt fs s) :
    Ends (Burnt fs) (execSentinelSelfCheckFailure kind s) := by simp [execSentinelSelfCheckFailure, h]
@[simp] theorem execSentinelFuseRead_burnt (lost : List Nat) (s : State) (h : Burnt fs s) :
    Ends (Burnt fs) (execSentinelFuseRead lost s) := by simp [execSentinelFuseRead, h]
@[simp] theorem execMuteNAssert_burnt (lowNs : Nat) (s : State) (h : Burnt fs s) : Ends (Burnt fs) (execMuteNAssert lowNs s) := by
  simp [execMuteNAssert, h]
@[simp] theorem execMuteNRelease_burnt (s : State) (h : Burnt fs s) : Ends (Burnt fs) (execMuteNRelease s) := by simp [execMuteNRelease, h]

/-! #### Power.lean -/

@[simp] theorem abandonCal_nv (s : State) (r : Nat) : (abandonCal s r).nv = s.nv := by simp [abandonCal]
@[simp] theorem powerDownRod_nv (s : State) (r : Nat) : (powerDownRod s r).nv = s.nv := by simp [powerDownRod]
@[simp] theorem powerUpRod_nv (s : State) (r : Nat) : (powerUpRod s r).nv = s.nv := by simp [powerUpRod]
@[simp] theorem restartRod_nv (s : State) (r cause : Nat) : (restartRod s r cause).nv = s.nv := by simp [restartRod]
@[simp] theorem execRodRestartComplete_burnt (r : Nat) (s : State) (h : Burnt fs s) : Ends (Burnt fs) (execRodRestartComplete r s) := by
  simp [execRodRestartComplete, h]
@[simp] theorem afterCal_nv (s : State) (r : Nat) : (afterCal s r).nv = s.nv := by simp [afterCal]
@[simp] theorem failCal_nv (s : State) (r step : Nat) : (failCal s r step).nv = s.nv := by simp [failCal]
@[simp] theorem execRodCalibrationComplete_burnt (r failStep : Nat) (values : List CalValues) (s : State) (h : Burnt fs s) :
    Ends (Burnt fs) (execRodCalibrationComplete r failStep values s) := by simp [execRodCalibrationComplete, h]
@[simp] theorem revertTrial_sameFuses (s : State) : SameFuses s (revertTrial s) := by simp [revertTrial]
@[simp] theorem stopSupervisor_sameFuses (s : State) (cause : Nat) : SameFuses s (stopSupervisor s cause) := by simp [stopSupervisor]
@[simp] theorem powerRequest_nv (s : State) (m v : Nat) : (powerRequest s m v).2.nv = s.nv := by
  unfold powerRequest; dsimp only; (repeat' split) <;> simp

/-! #### Thermal.lean -/

@[simp] theorem execThermalDemand_burnt (s : State) (h : Burnt fs s) : Ends (Burnt fs) (execThermalDemand s) := by
  simp [execThermalDemand, h]
@[simp] theorem modSensor_nv (s : State) (n : Nat) (f : Sensor → Sensor) : (modSensor s n f).nv = s.nv := by simp [modSensor]
@[simp] theorem takeResult_nv (get : Nat → Int) (s : State) (n : Nat) : (takeResult get s n).nv = s.nv := by simp [takeResult]
@[simp] theorem countRuns_nv (s : State) (z k : Nat) (v : Int) : (countRuns s z k v).nv = s.nv := by simp [countRuns]
@[simp] theorem judgeState_nv (s : State) (z k : Nat) (v : Int) : (judgeState s z k v).nv = s.nv := by simp [judgeState]
@[simp] theorem enterShutdown_nv (s : State) : (enterShutdown s).nv = s.nv := by
  unfold enterShutdown; (repeat' split) <;> simp
@[simp] theorem shutZone_nv (s : State) (z : Nat) : (shutZone s z).nv = s.nv := by simp [shutZone]
@[simp] theorem judgeShut_nv (s : State) (z : Nat) (v : Int) : (judgeShut s z v).nv = s.nv := by simp [judgeShut]
@[simp] theorem setReduction_nv (s : State) (z : Nat) (t : Int) : (setReduction s z t).nv = s.nv := by simp [setReduction]
@[simp] theorem noteLost_nv (wasFlagged : Nat → Bool) (s : State) (z : Nat) : (noteLost wasFlagged s z).nv = s.nv := by simp [noteLost]
@[simp] theorem noSensor_nv (s : State) (z : Nat) : (noSensor s z).nv = s.nv := by simp [noSensor]
@[simp] theorem holdReduction_nv (s : State) (z : Nat) : (holdReduction s z).nv = s.nv := by
  unfold holdReduction; (repeat' split) <;> simp
@[simp] theorem readZone_nv (s : State) (z : Nat) (top : Int) (hot valid : Nat) : (readZone s z top hot valid).nv = s.nv := by
  simp [readZone]
@[simp] theorem evalZone_nv (wasFlagged : Nat → Bool) (s : State) (z : Nat) : (evalZone wasFlagged s z).nv = s.nv := by
  unfold evalZone; dsimp only; (repeat' split) <;> simp
@[simp] theorem compensate_nv (s : State) : (compensate s).nv = s.nv := by
  unfold compensate; (repeat' split) <;> simp
@[simp] theorem execThermalReading_burnt (results : List Int) (s : State) (h : Burnt fs s) :
    Ends (Burnt fs) (execThermalReading results s) := by
  unfold execThermalReading; dsimp only; (repeat' split) <;> simp [h]
@[simp] theorem execThrottleFreezeEnd_burnt (z : Nat) (s : State) (h : Burnt fs s) : Ends (Burnt fs) (execThrottleFreezeEnd z s) := by
  unfold execThrottleFreezeEnd; (repeat' split) <;> simp [h]
@[simp] theorem leaveZone_nv (s : State) (z : Nat) : (leaveZone s z).nv = s.nv := by simp [leaveZone]
@[simp] theorem leaveWrite_nv (s : State) (v : Nat) : (leaveWrite s v).2.nv = s.nv := by simp [leaveWrite]
@[simp] theorem execAutomaticResume_burnt (z : Nat) (s : State) (h : Burnt fs s) : Ends (Burnt fs) (execAutomaticResume z s) := by
  unfold execAutomaticResume; (repeat' split) <;> simp [h]
@[simp] theorem execJunctionComparatorTrip_burnt (z : Nat) (s : State) (h : Burnt fs s) :
    Ends (Burnt fs) (execJunctionComparatorTrip z s) := by simp [execJunctionComparatorTrip, h]
@[simp] theorem execJunctionComparatorReset_burnt (z : Nat) (s : State) (h : Burnt fs s) :
    Ends (Burnt fs) (execJunctionComparatorReset z s) := by simp [execJunctionComparatorReset, h]

/-! #### Lines.lean -/

@[simp] theorem holdLines_nv (s : State) : (holdLines s).nv = s.nv := by simp [holdLines]

/-! #### Restart.lean -/

@[simp] theorem restartBlock_nv (s : State) (kind n cause : Nat) : (restartBlock s kind n cause).nv = s.nv := by
  unfold restartBlock; (repeat' split) <;> simp
@[simp] theorem blockRestartWrite_nv (s : State) (v : Nat) : (blockRestartWrite s v).2.nv = s.nv := by simp [blockRestartWrite]
@[simp] theorem execBlockRestartComplete_burnt (kind num : Nat) (s : State) (h : Burnt fs s) :
    Ends (Burnt fs) (execBlockRestartComplete kind num s) := by
  unfold execBlockRestartComplete; (repeat' split) <;> simp [h]
@[simp] theorem reactionRestart_nv (s : State) (n : Nat) : (reactionRestart s n).nv = s.nv := by
  unfold reactionRestart; (repeat' split) <;> simp
@[simp] theorem execRestartWithheldExpiry_burnt (src : Nat) (s : State) (h : Burnt fs s) :
    Ends (Burnt fs) (execRestartWithheldExpiry src s) := by simp [execRestartWithheldExpiry, h]

/-! #### Collector.lean -/

@[simp] theorem execFaultNPulseEnd_burnt (s : State) (h : Burnt fs s) : Ends (Burnt fs) (execFaultNPulseEnd s) := by
  simp [execFaultNPulseEnd, h]
@[simp] theorem reactionAct_nv (s : State) (n code : Nat) : (reactionAct s n code).nv = s.nv := by
  unfold reactionAct; (repeat' split) <;> simp
@[simp] theorem react_nv (merged : Bool) (s : State) (n : Nat) : (react merged s n).nv = s.nv := by simp [react]
@[simp] theorem collect_nv (s : State) (mask : BitVec 320) : (collect s mask).nv = s.nv := by simp [collect]
@[simp] theorem takeLevel_nv (s : State) (e : Nat × Bool) : (takeLevel s e).nv = s.nv := by
  unfold takeLevel; (repeat' split) <;> simp
@[simp] theorem execCollectorCycle_burnt (inp : CollectorInput) (s : State) (h : Burnt fs s) :
    Ends (Burnt fs) (execCollectorCycle inp s) := by simp [execCollectorCycle, h]
@[simp] theorem clearWrite_nv (s : State) (v : Nat) : (clearWrite s v).2.nv = s.nv := by simp [clearWrite]

/-! #### Clocks.lean -/

@[simp] theorem execDieLinkAlignmentLoss_burnt (r : Nat) (sentinelLanes : Bool) (s : State) (h : Burnt fs s) :
    Ends (Burnt fs) (execDieLinkAlignmentLoss r sentinelLanes s) := by simp [execDieLinkAlignmentLoss, h]
@[simp] theorem execDieLinkErrorFreeExpiry_burnt (r : Nat) (s : State) (h : Burnt fs s) :
    Ends (Burnt fs) (execDieLinkErrorFreeExpiry r s) := by simp [execDieLinkErrorFreeExpiry, h]
@[simp] theorem execRefclkLoss_burnt (s : State) (h : Burnt fs s) : Ends (Burnt fs) (execRefclkLoss s) := by simp [execRefclkLoss, h]
@[simp] theorem execRefclkReturn_burnt (s : State) (h : Burnt fs s) : Ends (Burnt fs) (execRefclkReturn s) := by simp [execRefclkReturn, h]
@[simp] theorem execCorePllUnlock_burnt (s : State) (h : Burnt fs s) : Ends (Burnt fs) (execCorePllUnlock s) := by
  simp [execCorePllUnlock, h]
@[simp] theorem execCoreClockReturn_burnt (s : State) (h : Burnt fs s) : Ends (Burnt fs) (execCoreClockReturn s) := by
  simp [execCoreClockReturn, h]
@[simp] theorem execSupclkLoss_burnt (s : State) (h : Burnt fs s) : Ends (Burnt fs) (execSupclkLoss s) := by simp [execSupclkLoss, h]
@[simp] theorem execSupclkReturn_burnt (s : State) (h : Burnt fs s) : Ends (Burnt fs) (execSupclkReturn s) := by simp [execSupclkReturn, h]

/-! #### Tally.lean -/

@[simp] theorem formRecord_nv (s : State) (o : Occ) (summary : Bool) : (formRecord s o summary).nv = s.nv := by simp [formRecord]
@[simp] theorem drawToken_nv (s : State) (code : Nat) : (drawToken s code).nv = s.nv := by simp [drawToken]
@[simp] theorem burstChange_nv (s : State) (codes : List Nat) (change : State → State) (hc : (change s).nv = s.nv) :
    (burstChange s codes change).nv = s.nv := by simp [burstChange, hc]
@[simp] theorem execRecordForm_burnt (s : State) (h : Burnt fs s) : Ends (Burnt fs) (execRecordForm s) := by
  unfold execRecordForm; (repeat' split) <;> simp [h]
@[simp] theorem execTokenRefill_burnt (code : Nat) (s : State) (h : Burnt fs s) : Ends (Burnt fs) (execTokenRefill code s) := by
  simp [execTokenRefill, h]
@[simp] theorem execSummaryRecord_burnt (code : Nat) (s : State) (h : Burnt fs s) : Ends (Burnt fs) (execSummaryRecord code s) := by
  unfold execSummaryRecord; dsimp only; (repeat' split) <;> simp [h]
@[simp] theorem execEventNPulseEnd_burnt (s : State) (h : Burnt fs s) : Ends (Burnt fs) (execEventNPulseEnd s) := by
  simp [execEventNPulseEnd, h]
@[simp] theorem markWithheld_nv (s : State) (seq : Nat) : (markWithheld s seq).nv = s.nv := by simp [markWithheld]
@[simp] theorem execPersistentWrite_burnt (ok : Bool) (s : State) (h : Burnt fs s) : Ends (Burnt fs) (execPersistentWrite ok s) := by
  unfold execPersistentWrite; (repeat' split) <;> simp [h]
@[simp] theorem execOperatingTimeSave_burnt (s : State) (h : Burnt fs s) : Ends (Burnt fs) (execOperatingTimeSave s) := by
  simp [execOperatingTimeSave, h]
@[simp] theorem excludePage_nv (s : State) (page : Nat) : (excludePage s page).nv = s.nv := by
  unfold excludePage; dsimp only; (repeat' split) <;> simp
@[simp] theorem execRingScan_burnt (parity : Bool) (s : State) (h : Burnt fs s) : Ends (Burnt fs) (execRingScan parity s) := by
  simp [execRingScan, h]
@[simp] theorem wallWrite_nv (s : State) (m v : Nat) : (wallWrite s m v).nv = s.nv := by simp [wallWrite]
@[simp] theorem snapEntryWrite_nv (s : State) (entry v : Nat) : (snapEntryWrite s entry v).2.nv = s.nv := by
  unfold snapEntryWrite; (repeat' split) <;> simp

/-! #### Life.lean -/

@[simp] theorem setSlot_sameFuses (s : State) (slot : Nat) (img : List Word) : SameFuses s (setSlot s slot img) := by simp [setSlot]
@[simp] theorem execImageProgrammingComplete_burnt (s : State) (h : Burnt fs s) : Ends (Burnt fs) (execImageProgrammingComplete s) := by
  simp [execImageProgrammingComplete, h]
@[simp] theorem imageFault_nv (s : State) : (imageFault s).nv = s.nv := by simp [imageFault]
@[simp] theorem execSupervisorStart_burnt (s : State) (h : Burnt fs s) : Ends (Burnt fs) (execSupervisorStart s) := by
  simp [execSupervisorStart, h]
@[simp] theorem execLockstepMismatch_burnt (s : State) (h : Burnt fs s) : Ends (Burnt fs) (execLockstepMismatch s) := by
  simp [execLockstepMismatch, h]
@[simp] theorem execSupervisorMemoryParity_burnt (s : State) (h : Burnt fs s) : Ends (Burnt fs) (execSupervisorMemoryParity s) := by
  simp [execSupervisorMemoryParity, h]
@[simp] theorem execSupervisorWatchdogMiss_burnt (s : State) (h : Burnt fs s) : Ends (Burnt fs) (execSupervisorWatchdogMiss s) := by
  simp [execSupervisorWatchdogMiss, h]
@[simp] theorem execTrialLimitExpiry_burnt (s : State) (h : Burnt fs s) : Ends (Burnt fs) (execTrialLimitExpiry s) := by
  simp [execTrialLimitExpiry, h]
@[simp] theorem activateWrite_nv (s : State) (v : Nat) : (activateWrite s v).2.nv = s.nv := by simp [activateWrite]
@[simp] theorem dueStops_sameFuses (s : State) : SameFuses s (dueStops s) := by
  unfold dueStops; split <;> simp
@[simp] theorem confirmWrite_burnt (s : State) (h : Burnt fs s) : Burnt fs (confirmWrite s).2 := by
  obtain ⟨hburned, hsec, hgens⟩ := h
  unfold confirmWrite
  split
  · exact ⟨hburned, hsec, hgens⟩
  · exact ⟨hburned, hsec.trans (le_max_left _ _), hgens⟩
@[simp] theorem execAutonomyLimitExpiry_burnt (s : State) (h : Burnt fs s) : Ends (Burnt fs) (execAutonomyLimitExpiry s) := by
  simp [execAutonomyLimitExpiry, h]
@[simp] theorem dieReset_nv (s : State) (power : Power) (cause : Nat) : (dieReset s power cause).nv = s.nv := by simp [dieReset]
@[simp] theorem startTally_sameFuses (s : State) (flash : BootFlash) : SameFuses s (startTally s flash) := by simp [startTally]
@[simp] theorem freeFlash_nv (s : State) : (freeFlash s).2.nv = s.nv := by simp [freeFlash]
@[simp] theorem bootLifecycle_sameFuses (s : State) : SameFuses s (bootLifecycle s) := by simp [bootLifecycle]
@[simp] theorem bootStart_sameFuses (s : State) (flash : BootFlash) : SameFuses s (bootStart s flash) := by
  unfold bootStart; dsimp only; (repeat' split) <;> simp
@[simp] theorem execResetNAssert_burnt (lowNs : Nat) (s : State) (h : Burnt fs s) : Ends (Burnt fs) (execResetNAssert lowNs s) := by
  simp [execResetNAssert, h]
@[simp] theorem execSupplyMonitorReset_burnt (s : State) (h : Burnt fs s) : Ends (Burnt fs) (execSupplyMonitorReset s) := by
  simp [execSupplyMonitorReset, h]
@[simp] theorem execResetNRelease_burnt (flash : BootFlash) (s : State) (h : Burnt fs s) : Ends (Burnt fs) (execResetNRelease flash s) := by
  simp [execResetNRelease, h]
@[simp] theorem execAutonomyWatchdogReset_burnt (s : State) (h : Burnt fs s) : Ends (Burnt fs) (execAutonomyWatchdogReset s) := by
  simp [execAutonomyWatchdogReset, h]
@[simp] theorem execBootComplete_burnt (s : State) (h : Burnt fs s) : Ends (Burnt fs) (execBootComplete s) := by
  unfold execBootComplete; dsimp only; (repeat' split) <;> simp [h]

/-! #### BulkWindows.lean -/

@[simp] theorem takeClaim_nv (s : State) (m w : Nat) : (takeClaim s m w).nv = s.nv := by simp [takeClaim]
@[simp] theorem selectorWrite_nv (s : State) (m w v : Nat) : (selectorWrite s m w v).2.nv = s.nv := by simp [selectorWrite]
@[simp] theorem cursorWrite_nv (s : State) (m w v : Nat) : (cursorWrite s m w v).2.nv = s.nv := by simp [cursorWrite]
@[simp] theorem execWindowClaimTimeout_burnt (w : Nat) (s : State) (h : Burnt fs s) : Ends (Burnt fs) (execWindowClaimTimeout w s) := by
  simp [execWindowClaimTimeout, h]
@[simp] theorem modBank_nv (s : State) (g b : Nat) (f : Bank → Bank) : (modBank s g b f).nv = s.nv := by simp [modBank]
@[simp] theorem dataWrite_nv (s : State) (m w : Nat) (ws : List Word) : (dataWrite s m w ws).2.nv = s.nv := by simp [dataWrite]
@[simp] theorem crcMismatch_nv (s : State) (w : Nat) : (crcMismatch s w).2.nv = s.nv := by simp [crcMismatch]
@[simp] theorem crcConfirm_burnt (s : State) (m w : Nat) (crc : BitVec 32) (event : Bool) (h : Burnt fs s) :
    Burnt fs (crcConfirm s m w crc event).2 := by
  unfold crcConfirm
  dsimp only
  iterate 7 refine burnt_ite_snd (by simp [h]) ?_
  refine burnt_ite_snd ?_ ?_
  · exact burnt_ite (by simp [h]) (by simp [h])
  · exact burnt_ite_snd (by simp [h]) (by simp [h])

/-! #### Governor.lean -/

@[simp] theorem detectOsc_nv (s : State) : (detectOsc s).nv = s.nv := by simp [detectOsc]
@[simp] theorem measureInputs_nv (s : State) : (measureInputs s).nv = s.nv := by simp [measureInputs]
@[simp] theorem licenceCaps_nv (s : State) (ch : Nat) : (licenceCaps s ch).nv = s.nv := by simp [licenceCaps]
@[simp] theorem loopAct_nv (s : State) (r : Nat) (e : Eval) : (loopAct s r e).nv = s.nv := by
  unfold loopAct; (repeat' split) <;> simp
@[simp] theorem showLoop_nv (s : State) (r : Nat) (x : LoopSnap) : (showLoop s r x).nv = s.nv := by simp [showLoop]
@[simp] theorem loopTick_nv (s : State) (r : Nat) : (loopTick s r).nv = s.nv := by
  unfold loopTick; dsimp only; (repeat' split) <;> simp
@[simp] theorem orphanTick_nv (s : State) (r : Nat) : (orphanTick s r).nv = s.nv := by
  unfold orphanTick; (repeat' split) <;> simp
@[simp] theorem snapSides_nv (s : State) : (snapSides s).nv = s.nv := by simp [snapSides]
@[simp] theorem dropSpectrum_nv (s : State) (b : Nat × Nat) : (dropSpectrum s b).nv = s.nv := by simp [dropSpectrum]
@[simp] theorem execGovernorTick_burnt (bad : List (Nat × Nat)) (s : State) (h : Burnt fs s) :
    Ends (Burnt fs) (execGovernorTick bad s) := by simp [execGovernorTick, h]
@[simp] theorem loopRelease_nv (s : State) : (loopRelease s).nv = s.nv := by simp [loopRelease]

/-! #### Commit.lean -/

@[simp] theorem stageEntry_nv (s : State) (k v : Nat) : (stageEntry s k v).2.nv = s.nv := by simp [stageEntry]
@[simp] theorem startCommit_nv (s : State) : (startCommit s).nv = s.nv := by simp [startCommit]
@[simp] theorem endChecks_nv (s : State) : (endChecks s).nv = s.nv := by
  unfold endChecks; (repeat' split) <;> simp
@[simp] theorem clearDetector_nv (s : State) (g : Nat) : (clearDetector s g).nv = s.nv := by simp [clearDetector]
@[simp] theorem commitSwap_nv (old : SMap Nat) (s : State) (g : Nat) : (commitSwap old s g).nv = s.nv := by
  unfold commitSwap; dsimp only; (repeat' split) <;> simp
@[simp] theorem commitSlot_nv (old : SMap Nat) (s : State) (g : Nat) : (commitSlot old s g).nv = s.nv := by simp [commitSlot]
@[simp] theorem applySnapshot_sameFuses (s : State) : SameFuses s (applySnapshot s) := by simp [applySnapshot, filtersCommit]
@[simp] theorem applyCommit_sameFuses (s : State) : SameFuses s (applyCommit s) := by
  unfold applyCommit; (repeat' split) <;> simp
@[simp] theorem discardStaged_nv (s : State) : (discardStaged s).nv = s.nv := by simp [discardStaged]
@[simp] theorem execStagingLockTimeout_burnt (s : State) (h : Burnt fs s) : Ends (Burnt fs) (execStagingLockTimeout s) := by
  simp [execStagingLockTimeout, h]

/-! #### Access.lean -/

@[simp] theorem lockWrite_nv (s : State) (m v : Nat) : (lockWrite s m v).2.nv = s.nv := by simp [lockWrite]
@[simp] theorem commitWrite_nv (s : State) (m v : Nat) : (commitWrite s m v).2.nv = s.nv := by simp [commitWrite]
@[simp] theorem writeDevice_burnt (s : State) (m idx : Nat) (sub v : Nat) (h : Burnt fs s) : Burnt fs (writeDevice s m idx sub v).2 := by
  unfold writeDevice; (repeat' split) <;> simp [h]
@[simp] theorem writeStore_nv (s : State) (idx sub v : Nat) : (writeStore s idx sub v).2.nv = s.nv := by simp [writeStore]
@[simp] theorem writeChannel_nv (s : State) (idx sub v : Nat) : (writeChannel s idx sub v).2.nv = s.nv := by
  unfold writeChannel; (repeat' split) <;> simp
@[simp] theorem writeWindow_burnt (s : State) (m w sub : Nat) (data : List Byte) (h : Burnt fs s) :
    Burnt fs (writeWindow s m w sub data).2 := by
  unfold writeWindow; (repeat' split) <;> simp [h]
@[simp] theorem writeGovernor_nv (s : State) (idx sub v : Nat) : (writeGovernor s idx sub v).2.nv = s.nv := by
  unfold writeGovernor; (repeat' split) <;> simp
@[simp] theorem ownWrite_burnt (s : State) (m idx sub : Nat) (o : Obj) (data : List Byte) (h : Burnt fs s) :
    Burnt fs (ownWrite s m idx sub o data).2 := by
  unfold ownWrite; (repeat' split) <;> simp [h]
@[simp] theorem writeObject_burnt (s : State) (m idx sub : Nat) (data : List Byte) (h : Burnt fs s) :
    Burnt fs (writeObject s m idx sub data).2 := by
  unfold writeObject; dsimp only; (repeat' split) <;> simp [h]
@[simp] theorem dropSnapshots_nv (s : State) : (dropSnapshots s).nv = s.nv := by simp [dropSnapshots]
@[simp] theorem readStaged_nv (s : State) (m idx : Nat) (sub n : Nat) : (readStaged s m idx sub n).2.2.nv = s.nv := by
  unfold readStaged; dsimp only; (repeat' split) <;> simp
@[simp] theorem commandWrite_burnt (s : State) (m idx sub : Nat) (data : List Byte) (h : Burnt fs s) :
    Burnt fs (commandWrite s m idx sub data) := by
  unfold commandWrite; dsimp only; (repeat' split) <;> simp [h]
@[simp] theorem commandValue_burnt (s : State) (m idx : Nat) (sub v : Nat) (h : Burnt fs s) : Burnt fs (commandValue s m idx sub v) := by
  unfold commandValue; (repeat' split) <;> simp [h]
@[simp] theorem alone_nv (s : State) (f : State → State) : (alone s f).nv = (f (dropSnapshots s)).nv := rfl
@[simp] theorem commandRead_nv (s : State) (m idx : Nat) (sub n : Nat) : (commandRead s m idx sub n).nv = s.nv := by simp [commandRead]
@[simp] theorem commandStaged_nv (s : State) (m idx : Nat) (sub n : Nat) : (commandStaged s m idx sub n).nv = s.nv := by
  simp [commandStaged]

/-! #### Chain.lean -/

@[simp] theorem execCableDelayMeasurement_burnt (lane roundTrip turnaround : Nat) (s : State) (h : Burnt fs s) :
    Ends (Burnt fs) (execCableDelayMeasurement lane roundTrip turnaround s) := by simp [execCableDelayMeasurement, h]
@[simp] theorem execHelloSend_burnt (s : State) (h : Burnt fs s) : Ends (Burnt fs) (execHelloSend s) := by simp [execHelloSend, h]
@[simp] theorem execRelayAddressAgeOut_burnt (addr : Nat) (s : State) (h : Burnt fs s) :
    Ends (Burnt fs) (execRelayAddressAgeOut addr s) := by simp [execRelayAddressAgeOut, h]

/-! #### Olp.lean -/

@[simp] theorem subscribeOp_nv (s : State) (m idx sub : Nat) (data : List Byte) (origin : Origin) :
    (subscribeOp s m idx sub data origin).2.nv = s.nv := by
  unfold subscribeOp; dsimp only; (repeat' split) <;> simp
@[simp] theorem execNotify_burnt (m : Nat) (s : State) (h : Burnt fs s) : Ends (Burnt fs) (execNotify m s) := by
  unfold execNotify; (repeat' split) <;> simp [h]
@[simp] theorem execSubscriptionLeaseExpiry_burnt (m index sub : Nat) (s : State) (h : Burnt fs s) :
    Ends (Burnt fs) (execSubscriptionLeaseExpiry m index sub s) := by simp [execSubscriptionLeaseExpiry, h]
@[simp] theorem execOp_burnt (s : State) (p : InProgress) (op : OlpOp) (h : Burnt fs s) : Burnt fs (execOp s p op).2.2 := by
  unfold execOp; (repeat' split) <;> simp [h]
@[simp] theorem finish_nv (s : State) (p : InProgress) (flags : Nat) : (finish s p flags).nv = s.nv := by simp [finish]
@[simp] theorem runOps_burnt (ops : List OlpOp) (full : Bool) (s : State) (p : InProgress) (h : Burnt fs s) : Burnt fs (runOps ops full s p) := by
  induction ops generalizing full s p with
  | nil => simp [runOps, h]
  | cons op rest ih =>
    unfold runOps
    dsimp only
    split
    · exact ih _ _ _ h
    · split
      · exact execOp_burnt s p op h
      · exact ih _ _ _ (execOp_burnt s p op h)
@[simp] theorem startMessage_burnt (s : State) (origin : Origin) (bs : List Byte) (h : Burnt fs s) :
    Burnt fs (startMessage s origin bs) := by
  unfold startMessage; dsimp only; (repeat' split) <;> simp [h]
@[simp] theorem serveQueue_burnt (n : Nat) (s : State) (h : Burnt fs s) : Burnt fs (serveQueue n s) := by
  induction n generalizing s with
  | zero => exact h
  | succ n ih =>
    unfold serveQueue
    (repeat' split)
    · exact h
    · exact h
    · exact ih _ (startMessage_burnt _ _ _ h)
@[simp] theorem commitAnswered_burnt (s : State) (status : Nat) (h : Burnt fs s) : Burnt fs (commitAnswered s status) := by
  unfold commitAnswered
  split
  · simp [h]
  · split
    · exact h
    · exact serveQueue_burnt _ _ (runOps_burnt _ _ _ _ h)
@[simp] theorem relayRequest_nv (s : State) (origin : Origin) (h : OlpHeader) (bs : List Byte) :
    (relayRequest s origin h bs).nv = s.nv := by simp [relayRequest]
@[simp] theorem relayResponse_nv (s : State) (bs : List Byte) : (relayResponse s bs).nv = s.nv := by
  unfold relayResponse; dsimp only; (repeat' split) <;> simp
@[simp] theorem execRelayResponseReturn_burnt (lane : Nat) (bytes : List Byte) (s : State) (h : Burnt fs s) :
    Ends (Burnt fs) (execRelayResponseReturn lane bytes s) := by simp [execRelayResponseReturn, h]
@[simp] theorem execRelayResponseTimeout_burnt (s : State) (h : Burnt fs s) : Ends (Burnt fs) (execRelayResponseTimeout s) := by
  unfold execRelayResponseTimeout; (repeat' split) <;> simp [h]
@[simp] theorem olpReceive_burnt (s : State) (origin : Origin) (bs : List Byte) (h : Burnt fs s) : Burnt fs (olpReceive s origin bs) := by
  unfold olpReceive; dsimp only; (repeat' split) <;> simp [h]
@[simp] theorem execOlpMessage_burnt (origin : Origin) (bytes : List Byte) (s : State) (h : Burnt fs s) :
    Ends (Burnt fs) (execOlpMessage origin bytes s) := by
  unfold execOlpMessage; (repeat' split) <;> simp [h]
@[simp] theorem execCommitChecksDone_burnt (s : State) (h : Burnt fs s) : Ends (Burnt fs) (execCommitChecksDone s) := by
  unfold execCommitChecksDone; dsimp only; (repeat' split) <;> simp [h]
@[simp] theorem execCommitApply_burnt (s : State) (h : Burnt fs s) : Ends (Burnt fs) (execCommitApply s) := by simp [execCommitApply, h]

/-! #### Monitor.lean -/

/-- A monitor command burns what its body burns. -/
theorem monitorCommand_burnt (s : State) (inBoot : Bool) (f : State → State) (hf : ∀ u, Burnt fs u → Burnt fs (f u)) (h : Burnt fs s) :
    Ends (Burnt fs) (monitorCommand s inBoot f) := by
  unfold monitorCommand
  split
  · simpa using h
  · exact (ends_next _ _).2 (burnt_ite (by simpa using h) (hf _ h))
@[simp] theorem setLevel_nv (s : State) (l : Nat) : (setLevel s l).nv = s.nv := by simp [setLevel]
@[simp] theorem execMonitorChallenge_burnt (level : Nat) (s : State) (h : Burnt fs s) : Ends (Burnt fs) (execMonitorChallenge level s) :=
  monitorCommand_burnt _ _ _ (fun u hu => by (repeat' split) <;> simp [hu]) h
@[simp] theorem unlockFailed_nv (s : State) : (unlockFailed s).nv = s.nv := by simp [unlockFailed]
@[simp] theorem execMonitorUnlock_burnt (level : Nat) (response : List Byte) (s : State) (h : Burnt fs s) :
    Ends (Burnt fs) (execMonitorUnlock level response s) :=
  monitorCommand_burnt _ _ _ (fun u hu => by (repeat' split) <;> simp [hu]) h
@[simp] theorem execUnlockLockoutEnd_burnt (s : State) (h : Burnt fs s) : Ends (Burnt fs) (execUnlockLockoutEnd s) := by
  simp [execUnlockLockoutEnd, h]
@[simp] theorem execMonitorLock_burnt (s : State) (h : Burnt fs s) : Ends (Burnt fs) (execMonitorLock s) :=
  monitorCommand_burnt _ _ _ (fun u hu => by simp [hu]) h
@[simp] theorem execMonitorLevel_burnt (s : State) (h : Burnt fs s) : Ends (Burnt fs) (execMonitorLevel s) :=
  monitorCommand_burnt _ _ _ (fun u hu => by simp [hu]) h
@[simp] theorem execMonitorIdleTimeout_burnt (s : State) (h : Burnt fs s) : Ends (Burnt fs) (execMonitorIdleTimeout s) := by
  simp [execMonitorIdleTimeout, h]
@[simp] theorem execMonitorRd_burnt (index sub n : Nat) (s : State) (h : Burnt fs s) : Ends (Burnt fs) (execMonitorRd index sub n s) :=
  monitorCommand_burnt _ _ _ (fun u hu => by simp [hu]) h
@[simp] theorem execMonitorWr_burnt (index sub : Nat) (data : List Byte) (s : State) (h : Burnt fs s) :
    Ends (Burnt fs) (execMonitorWr index sub data s) :=
  monitorCommand_burnt _ _ _ (fun u hu => by simp [hu]) h
@[simp] theorem execMonitorMkey_burnt (level : Nat) (newKey : List Byte) (s : State) (h : Burnt fs s) :
    Ends (Burnt fs) (execMonitorMkey level newKey s) :=
  monitorCommand_burnt _ _ _ (fun u hu => by (repeat' split) <;> simp [hu]) h
@[simp] theorem setOlpKey_sameFuses (s : State) (slot : Nat) (newKey : List Byte) : SameFuses s (setOlpKey s slot newKey) := by
  simp [setOlpKey]
@[simp] theorem execMonitorOkey_burnt (slot : Nat) (newKey : List Byte) (s : State) (h : Burnt fs s) :
    Ends (Burnt fs) (execMonitorOkey slot newKey s) :=
  monitorCommand_burnt _ _ _ (fun u hu => by (repeat' split) <;> simp [hu]) h
/-- A transition is to a later lifecycle than the one burned (R403). -/
theorem burned_lt_of_transitionLevel {s : State} {target l : Nat} (h : transitionLevel s target = some l) : s.nv.burned < target := by
  by_contra hle
  rw [transitionLevel, if_pos (Nat.not_lt.1 hle)] at h
  cases h
@[simp] theorem execMonitorLifecycle_burnt (target : Nat) (token : List Word) (s : State) (h : Burnt fs s) :
    Ends (Burnt fs) (execMonitorLifecycle target token s) := by
  refine monitorCommand_burnt _ _ _ (fun u hu => ?_) h
  split
  · simpa using hu
  next l hl =>
  obtain ⟨hburned, hkept⟩ := id hu
  have later : FusesAhead fs target u.nv.secVersion u.nv.gens := ⟨hburned.trans (burned_lt_of_transitionLevel hl).le, hkept⟩
  (repeat' split) <;> simp [hu, later]
@[simp] theorem execMonitorScanOn_burnt (s : State) (h : Burnt fs s) : Ends (Burnt fs) (execMonitorScanOn s) :=
  monitorCommand_burnt _ _ _ (fun u hu => by (repeat' split) <;> simp [hu]) h
@[simp] theorem execMonitorScanOff_burnt (s : State) (h : Burnt fs s) : Ends (Burnt fs) (execMonitorScanOff s) :=
  monitorCommand_burnt _ _ _ (fun u hu => by (repeat' split) <;> simp [hu]) h
@[simp] theorem execMonitorRecover_burnt (image : List Word) (s : State) (h : Burnt fs s) : Ends (Burnt fs) (execMonitorRecover image s) :=
  monitorCommand_burnt _ _ _ (fun u hu => by (repeat' split) <;> simp [hu]) h

/-! #### Relay.lean -/

@[simp] theorem learn_nv (s : State) (lane : Nat) (msg : RelayMsg) : (learn s lane msg).nv = s.nv := by simp [learn]
@[simp] theorem hello_nv (s : State) (lane : Nat) (msg : RelayMsg) : (hello s lane msg).nv = s.nv := by simp [hello]
@[simp] theorem deliverOlp_burnt (s : State) (lane : Nat) (msg : RelayMsg) (h : Burnt fs s) : Burnt fs (deliverOlp s lane msg) := by
  unfold deliverOlp; (repeat' split) <;> simp [h]
@[simp] theorem execRelayMessageReceive_burnt (lane : Nat) (blocks : List (BitVec 64)) (bad : Option Nat) (s : State) (h : Burnt fs s) :
    Ends (Burnt fs) (execRelayMessageReceive lane blocks bad s) := by
  unfold execRelayMessageReceive; dsimp only; (repeat' split) <;> simp [h]
@[simp] theorem execFrameSyncOutPulse_burnt (s : State) (h : Burnt fs s) : Ends (Burnt fs) (execFrameSyncOutPulse s) := by
  simp [execFrameSyncOutPulse, h]
@[simp] theorem execFrameSyncOutPulseEnd_burnt (s : State) (h : Burnt fs s) : Ends (Burnt fs) (execFrameSyncOutPulseEnd s) := by
  simp [execFrameSyncOutPulseEnd, h]

/-! #### Frame.lean -/

@[simp] theorem boundary_sameFuses (s : State) : SameFuses s (boundary s) := by simp [boundary]
@[simp] theorem execReckonerFrame_burnt (inp : FrameInput) (s : State) (h : Burnt fs s) : Ends (Burnt fs) (execReckonerFrame inp s) := by
  simp [execReckonerFrame, h]

/-! #### Requests.lean -/

@[simp] theorem execRead_burnt (m index sub : Nat) (s : State) (h : Burnt fs s) :
    Ends (Burnt fs) (execRead m index sub s) := by simp [execRead, h]
@[simp] theorem execWrite_burnt (m index sub : Nat) (data : List Byte) (s : State) (h : Burnt fs s) :
    Ends (Burnt fs) (execWrite m index sub data s) := by simp [execWrite, h]
@[simp] theorem execReadStaged_burnt (m index sub : Nat) (s : State) (h : Burnt fs s) :
    Ends (Burnt fs) (execReadStaged m index sub s) := by simp [execReadStaged, h]
@[simp] theorem execSubscribe_burnt (m index sub : Nat) (data : List Byte) (origin : Origin) (s : State) (h : Burnt fs s) :
    Ends (Burnt fs) (execSubscribe m index sub data origin s) := by simp [execSubscribe, h]
@[simp] theorem execStagingLock_burnt (m v : Nat) (s : State) (h : Burnt fs s) : Ends (Burnt fs) (execStagingLock m v s) := by
  simp [execStagingLock, h]
@[simp] theorem execCommit_burnt (m : Nat) (s : State) (h : Burnt fs s) : Ends (Burnt fs) (execCommit m s) := by simp [execCommit, h]
@[simp] theorem execDiscard_burnt (m : Nat) (s : State) (h : Burnt fs s) : Ends (Burnt fs) (execDiscard m s) := by simp [execDiscard, h]
@[simp] theorem execWindowSelectorWrite_burnt (m w v : Nat) (s : State) (h : Burnt fs s) :
    Ends (Burnt fs) (execWindowSelectorWrite m w v s) := by simp [execWindowSelectorWrite, h]
@[simp] theorem execWindowCursorWrite_burnt (m w v : Nat) (s : State) (h : Burnt fs s) :
    Ends (Burnt fs) (execWindowCursorWrite m w v s) := by simp [execWindowCursorWrite, h]
@[simp] theorem execWindowDataWrite_burnt (m w : Nat) (words : List Word) (s : State) (h : Burnt fs s) :
    Ends (Burnt fs) (execWindowDataWrite m w words s) := by simp [execWindowDataWrite, h]
@[simp] theorem execWindowDataRead_burnt (m w n : Nat) (s : State) (h : Burnt fs s) :
    Ends (Burnt fs) (execWindowDataRead m w n s) := by simp [execWindowDataRead, h]
@[simp] theorem execWindowCrcConfirm_burnt (m w : Nat) (crc : BitVec 32) (s : State) (h : Burnt fs s) :
    Ends (Burnt fs) (execWindowCrcConfirm m w crc s) := by simp [execWindowCrcConfirm, h]
@[simp] theorem execBankSeal_burnt (m : Nat) (crc : BitVec 32) (s : State) (h : Burnt fs s) : Ends (Burnt fs) (execBankSeal m crc s) := by
  simp [execBankSeal, h]
@[simp] theorem execTallyWindowRead_burnt (m n : Nat) (parityPage : Option Nat) (s : State) (h : Burnt fs s) :
    Ends (Burnt fs) (execTallyWindowRead m n parityPage s) := by
  unfold execTallyWindowRead; (repeat' split) <;> simp [h]
@[simp] theorem confirmImage_burnt (s : State) (m : Nat) (crc : BitVec 32) (event : Bool) (h : Burnt fs s) :
    Burnt fs (confirmImage s m crc event) := by
  unfold confirmImage; dsimp only; (repeat' split) <;> simp [h]
@[simp] theorem execLicenceBurn_burnt (m : Nat) (crc : BitVec 32) (readBackOk : Bool) (s : State) (h : Burnt fs s) :
    Ends (Burnt fs) (execLicenceBurn m crc readBackOk s) := by simp [execLicenceBurn, h]
@[simp] theorem execImageSeal_burnt (m : Nat) (crc : BitVec 32) (parityBad : Bool) (s : State) (h : Burnt fs s) :
    Ends (Burnt fs) (execImageSeal m crc parityBad s) := by simp [execImageSeal, h]
@[simp] theorem execSlotReset_burnt (m ch v : Nat) (s : State) (h : Burnt fs s) :
    Ends (Burnt fs) (execSlotReset m ch v s) := by simp [execSlotReset, h]
@[simp] theorem execChannelReset_burnt (m ch v : Nat) (s : State) (h : Burnt fs s) :
    Ends (Burnt fs) (execChannelReset m ch v s) := by simp [execChannelReset, h]
@[simp] theorem execRodReset_burnt (m ch v : Nat) (s : State) (h : Burnt fs s) :
    Ends (Burnt fs) (execRodReset m ch v s) := by simp [execRodReset, h]
@[simp] theorem execSwapRequest_burnt (m g v : Nat) (s : State) (h : Burnt fs s) :
    Ends (Burnt fs) (execSwapRequest m g v s) := by simp [execSwapRequest, h]
@[simp] theorem execCheckInjection_burnt (m ch v : Nat) (s : State) (h : Burnt fs s) :
    Ends (Burnt fs) (execCheckInjection m ch v s) := by simp [execCheckInjection, h]
@[simp] theorem execSurveyStart_burnt (m ch v : Nat) (s : State) (h : Burnt fs s) :
    Ends (Burnt fs) (execSurveyStart m ch v s) := by simp [execSurveyStart, h]
@[simp] theorem execSurveyStop_burnt (m ch : Nat) (s : State) (h : Burnt fs s) : Ends (Burnt fs) (execSurveyStop m ch s) := by
  simp [execSurveyStop, h]
@[simp] theorem execManualFreeze_burnt (m ch : Nat) (p v : Nat) (s : State) (h : Burnt fs s) :
    Ends (Burnt fs) (execManualFreeze m ch p v s) := by simp [execManualFreeze, h]
@[simp] theorem execModelReset_burnt (m ch : Nat) (p v : Nat) (s : State) (h : Burnt fs s) :
    Ends (Burnt fs) (execModelReset m ch p v s) := by simp [execModelReset, h]
@[simp] theorem execModelSnapshot_burnt (m ch v : Nat) (s : State) (h : Burnt fs s) :
    Ends (Burnt fs) (execModelSnapshot m ch v s) := by simp [execModelSnapshot, h]
@[simp] theorem execLoopRelease_burnt (m v : Nat) (s : State) (h : Burnt fs s) : Ends (Burnt fs) (execLoopRelease m v s) := by
  simp [execLoopRelease, h]
@[simp] theorem execLedgerPin_burnt (m v : Nat) (s : State) (h : Burnt fs s) : Ends (Burnt fs) (execLedgerPin m v s) := by
  simp [execLedgerPin, h]
@[simp] theorem execLedgerUnpin_burnt (m v : Nat) (s : State) (h : Burnt fs s) : Ends (Burnt fs) (execLedgerUnpin m v s) := by
  simp [execLedgerUnpin, h]
@[simp] theorem execLedgerClear_burnt (m v : Nat) (s : State) (h : Burnt fs s) : Ends (Burnt fs) (execLedgerClear m v s) := by
  simp [execLedgerClear, h]
@[simp] theorem execTunerStateWrite_burnt (m ch v : Nat) (s : State) (h : Burnt fs s) :
    Ends (Burnt fs) (execTunerStateWrite m ch v s) := by simp [execTunerStateWrite, h]
@[simp] theorem execRodCalibrationRequest_burnt (m ch : Nat) (s : State) (h : Burnt fs s) :
    Ends (Burnt fs) (execRodCalibrationRequest m ch s) := by simp [execRodCalibrationRequest, h]
@[simp] theorem execTunerSearchRequest_burnt (m ch : Nat) (s : State) (h : Burnt fs s) :
    Ends (Burnt fs) (execTunerSearchRequest m ch s) := by simp [execTunerSearchRequest, h]
@[simp] theorem execGateRelease_burnt (m v : Nat) (s : State) (h : Burnt fs s) : Ends (Burnt fs) (execGateRelease m v s) := by
  simp [execGateRelease, h]
@[simp] theorem execDelayRequest_burnt (m port v : Nat) (s : State) (h : Burnt fs s) :
    Ends (Burnt fs) (execDelayRequest m port v s) := by simp [execDelayRequest, h]
@[simp] theorem execCaptureStart_burnt (m v : Nat) (s : State) (h : Burnt fs s) : Ends (Burnt fs) (execCaptureStart m v s) := by
  simp [execCaptureStart, h]
@[simp] theorem execCaptureStop_burnt (m v : Nat) (s : State) (h : Burnt fs s) : Ends (Burnt fs) (execCaptureStop m v s) := by
  simp [execCaptureStop, h]
@[simp] theorem execMarkWrite_burnt (m mark v : Nat) (s : State) (h : Burnt fs s) :
    Ends (Burnt fs) (execMarkWrite m mark v s) := by simp [execMarkWrite, h]
@[simp] theorem execManualTrigger_burnt (m mark v : Nat) (s : State) (h : Burnt fs s) :
    Ends (Burnt fs) (execManualTrigger m mark v s) := by simp [execManualTrigger, h]
@[simp] theorem execExportSelect_burnt (m port v : Nat) (s : State) (h : Burnt fs s) :
    Ends (Burnt fs) (execExportSelect m port v s) := by simp [execExportSelect, h]
@[simp] theorem execReplayStart_burnt (m rep v : Nat) (s : State) (h : Burnt fs s) :
    Ends (Burnt fs) (execReplayStart m rep v s) := by simp [execReplayStart, h]
@[simp] theorem execReplayStop_burnt (m rep v : Nat) (s : State) (h : Burnt fs s) :
    Ends (Burnt fs) (execReplayStop m rep v s) := by simp [execReplayStop, h]
@[simp] theorem execFaultNDrive_burnt (m v : Nat) (s : State) (h : Burnt fs s) : Ends (Burnt fs) (execFaultNDrive m v s) := by
  simp [execFaultNDrive, h]
@[simp] theorem execClearMask_burnt (m : Nat) (mask : BitVec 320) (s : State) (h : Burnt fs s) :
    Ends (Burnt fs) (execClearMask m mask s) := by simp [execClearMask, h]
@[simp] theorem execReactionWrite_burnt (m src v : Nat) (s : State) (h : Burnt fs s) :
    Ends (Burnt fs) (execReactionWrite m src v s) := by simp [execReactionWrite, h]
@[simp] theorem execWallTimeSet_burnt (m v : Nat) (s : State) (h : Burnt fs s) : Ends (Burnt fs) (execWallTimeSet m v s) := by
  simp [execWallTimeSet, h]
@[simp] theorem execLastResortClear_burnt (m v : Nat) (s : State) (h : Burnt fs s) :
    Ends (Burnt fs) (execLastResortClear m v s) := by simp [execLastResortClear, h]
@[simp] theorem execSnapshotEntryWrite_burnt (m entry v : Nat) (s : State) (h : Burnt fs s) :
    Ends (Burnt fs) (execSnapshotEntryWrite m entry v s) := by simp [execSnapshotEntryWrite, h]
@[simp] theorem execLeaveShutdown_burnt (m v : Nat) (s : State) (h : Burnt fs s) : Ends (Burnt fs) (execLeaveShutdown m v s) := by
  simp [execLeaveShutdown, h]
@[simp] theorem execRequestHold_burnt (m : Nat) (s : State) (h : Burnt fs s) : Ends (Burnt fs) (execRequestHold m s) := by
  simp [execRequestHold, h]
@[simp] theorem execRequestServe_burnt (m : Nat) (s : State) (h : Burnt fs s) : Ends (Burnt fs) (execRequestServe m s) := by
  simp [execRequestServe, h]
@[simp] theorem execRequestQuiet_burnt (m : Nat) (s : State) (h : Burnt fs s) : Ends (Burnt fs) (execRequestQuiet m s) := by
  simp [execRequestQuiet, h]
@[simp] theorem execActivate_burnt (m v : Nat) (s : State) (h : Burnt fs s) : Ends (Burnt fs) (execActivate m v s) := by
  simp [execActivate, h]
@[simp] theorem execConfirm_burnt (m v : Nat) (s : State) (h : Burnt fs s) : Ends (Burnt fs) (execConfirm m v s) := by simp [execConfirm, h]
@[simp] theorem execSupervisorRestart_burnt (m v : Nat) (s : State) (h : Burnt fs s) :
    Ends (Burnt fs) (execSupervisorRestart m v s) := by simp [execSupervisorRestart, h]
@[simp] theorem commandRestart_burnt (s : State) (m kind num : Nat) (h : Burnt fs s) :
    Burnt fs (commandRestart s m kind num) := by simp [commandRestart, h]
@[simp] theorem execRodRestart_burnt (m r : Nat) (s : State) (h : Burnt fs s) : Ends (Burnt fs) (execRodRestart m r s) := by
  simp [execRodRestart, h]
@[simp] theorem execDnPortRestart_burnt (m port : Nat) (s : State) (h : Burnt fs s) :
    Ends (Burnt fs) (execDnPortRestart m port s) := by simp [execDnPortRestart, h]
@[simp] theorem execXlLaneRestart_burnt (m lane : Nat) (s : State) (h : Burnt fs s) :
    Ends (Burnt fs) (execXlLaneRestart m lane s) := by simp [execXlLaneRestart, h]
@[simp] theorem execCaptureControllerRestart_burnt (m : Nat) (s : State) (h : Burnt fs s) :
    Ends (Burnt fs) (execCaptureControllerRestart m s) := by simp [execCaptureControllerRestart, h]
@[simp] theorem execTallyRestart_burnt (m : Nat) (s : State) (h : Burnt fs s) : Ends (Burnt fs) (execTallyRestart m s) := by
  simp [execTallyRestart, h]
@[simp] theorem execCellFinderRestart_burnt (m r : Nat) (s : State) (h : Burnt fs s) :
    Ends (Burnt fs) (execCellFinderRestart m r s) := by simp [execCellFinderRestart, h]

/-! ### Every command -/

/-- Each command only burns fuses, by the rule of its own. -/
theorem exec_burnt (c : Instr) (s : State) (h : Burnt fs s) : Ends (Burnt fs) (exec c s) := by
  cases c <;> simp [exec, h]

end

/-- Settles O7: a step runs the front command, or lets a frame time pass, which touches no fuse. -/
theorem stepKeepsFuses : Obligations.StepKeepsFuses := by
  intro s t hstep
  rw [fusesKept_iff]
  cases hp : s.pending with
  | nil => rw [step, hp] at hstep; cases hstep; exact Burnt.refl s
  | cons c rest => rw [step, hp] at hstep; exact exec_burnt c { s with pending := rest } (Burnt.refl s) t hstep

end Sys2Proof.Machine

namespace Sys2Proof.Machine

/-! ### The Sentinel's self-checks (R273, R280) -/

/-- While the Sentinel has failed every gate is closed. -/
theorem txen_of_sentFailed {s : State} (h : s.sent.failed = true) (ch : Nat) : txen s ch = false := by
  simp [txen, gateOpen, h]

/-- A self-check failure stands, whether it is new or not, and beside it only mutes, TXEN and what follows them change. -/
theorem sentinelFail_sent (s : State) : (sentinelFail s).sent = { s.sent with failed := true } := by
  unfold sentinelFail
  split
  · next h => rw [← h]
  · simp

theorem sentinelFail_frame (s : State) : sentinelFail s = { s with
    sent := (sentinelFail s).sent, chans := (sentinelFail s).chans, buses := (sentinelFail s).buses
    mutes := (sentinelFail s).mutes, out := (sentinelFail s).out } := by
  unfold sentinelFail
  split
  · rfl
  · apply state_ext <;> simp

theorem muteAt_sentinelFail {s : State} (h : s.sent.failed = false) : muteAt (sentinelFail s) .sentinelSelf .device := by
  rw [sentinelFail, if_neg (by simp [h])]
  exact (mem_addMute ..).2 (.inr rfl)

/-- A round of self-tests counts the detectors that passed, and fails where one did not. -/
theorem execSentinelSelfTest_failed {s : State} {failed : List Nat} {ch : Nat} (hon : s.life.power ≠ .off) (hch : ch < 96) (hmem : ch ∈ failed) :
    ∃ selfTests, execSentinelSelfTest failed s = .next (sentinelFail { s with sent := { s.sent with selfTests } }) := by
  have hbad : ((List.range 96).filter failed.contains).isEmpty = false :=
    List.isEmpty_eq_false_iff_exists_mem.2 ⟨ch, List.mem_filter.2 ⟨List.mem_range.2 hch, List.contains_iff_mem.2 hmem⟩⟩
  rw [execSentinelSelfTest, if_neg hon]
  simp only [hbad]
  exact ⟨_, rfl⟩

/-- A round without failure counts its 96 tests and ends a standing failure (log 23). -/
theorem execSentinelSelfTest_passed {s : State} (hon : s.life.power ≠ .off) : execSentinelSelfTest [] s =
    .next (dropMute { s with sent := { s.sent with failed := false, selfTests := min (2 ^ 64 - 1) (s.sent.selfTests + 96) } } .sentinelSelf) := by
  have hbad : (List.range 96).filter ([] : List Nat).contains = [] := List.filter_eq_nil_iff.2 fun _ _ => by simp
  rw [execSentinelSelfTest, if_neg hon]
  simp only [hbad]
  rfl

/-! ### MUTE_N (R281) -/

/-- MUTE_N found low, before its record: its level, the outputs that fall and the mute. -/
def muteNTaken (s : State) (lowNs : Nat) : State :=
  addMute (txenDrops s { s with pins := { s.pins with muteN := false, muteNRose := s.time + lowNs * 32 } }) .muteN .device

theorem execMuteNAssert_long {s : State} {lowNs : Nat} (hon : s.life.power ≠ .off) (hlow : 200 ≤ lowNs) :
    execMuteNAssert lowNs s = .next (tallyEvent (muteNTaken s lowNs) 0x0802 0 []) := by
  rw [execMuteNAssert, if_neg hon, if_neg (by omega), if_neg (by omega)]
  rfl

theorem execMuteNAssert_short {s : State} {lowNs : Nat} (hon : s.life.power ≠ .off) (hlow : lowNs < 50) : execMuteNAssert lowNs s = .next s := by
  rw [execMuteNAssert, if_neg hon, if_pos hlow]

theorem execMuteNRelease_due {s : State} (hlow : s.pins.muteN = false) (hdue : s.pins.muteNRose + 10 * 32000000 ≤ s.time)
    (hclock : coreClock s = true) :
    execMuteNRelease s = .next (tallyEvent (dropMute { s with pins := { s.pins with muteN := true } } .muteN) 0x0803 0 []) := by
  have hwaits : ¬ (s.pins.muteN = true ∨ s.time < s.pins.muteNRose + 10 * msUnits ∨ coreClock s = false) := by
    simp [hlow, hclock, msUnits]; omega
  rw [execMuteNRelease, if_neg hwaits]

/-- Settles O41: a failure that stands closes every gate, and MUTE_N taken low is a term of every TXEN. -/
theorem sentinelSelfAndMuteN : Obligations.SentinelSelfAndMuteN := by
  refine ⟨fun s hon => ⟨?_, fun failed ch hch hmem => ?_, fun kind hkind hok => ?_, ?_, fun r hr => ?_⟩,
    fun s hon => ⟨fun lowNs hlow => ?_, fun lowNs hlow => execMuteNAssert_short hon hlow, fun hlow hdue hclock => ?_⟩⟩
  · exact ⟨_, execSentinelSelfTest_passed hon, rfl, hasMute_dropMute .., rfl⟩
  · obtain ⟨selfTests, hexec⟩ := execSentinelSelfTest_failed hon hch hmem
    have hsent := sentinelFail_sent { s with sent := { s.sent with selfTests } }
    refine ⟨_, hexec, by rw [hsent], txen_of_sentFailed (by rw [hsent]), ?_⟩
    rw [sentinelFail_frame]
  · have hexec : execSentinelSelfCheckFailure kind s = .next (sentinelFail s) := if_neg (by rintro (h | ⟨h, -⟩); exacts [hon h, by omega])
    refine ⟨_, hexec, sentinelFail_sent s, muteAt_sentinelFail hok, txen_of_sentFailed (by rw [sentinelFail_sent]), sentinelFail_frame s⟩
  · exact if_neg hon
  · exact ⟨_, if_neg hon, fun x => by simp [hr, mem_insertNat], by simp⟩
  · have hpins : (tallyEvent (muteNTaken s lowNs) 0x0802 0 []).pins = { s.pins with muteN := false, muteNRose := s.time + lowNs * 32 } := by
      simp [muteNTaken]
    have hmute : muteAt (tallyEvent (muteNTaken s lowNs) 0x0802 0 []) .muteN .device := by
      simp [muteAt, muteNTaken]
    refine ⟨_, execMuteNAssert_long hon hlow, hpins, hmute, fun ch => txen_of_muteN (by rw [hpins]), ?_⟩
    apply state_ext <;> simp [muteNTaken]
  · refine ⟨_, execMuteNRelease_due hlow hdue hclock, by simp, fun u => by simp, ?_⟩
    apply state_ext <;> simp

end Sys2Proof.Machine

namespace Sys2Proof.Machine

/-! ### A burn whose conditions hold (R268) -/

/-- The conditions of a burn of generation `g` (R268, Tables 11.1 to 11.3). -/
structure BurnPermitted (s : State) (g : Nat) : Prop where
  lifecycle : s.nv.lifecycle = 1
  power : s.life.power = .hold ∨ s.life.power = .quiet
  next : nextGen s = some g
  signed : Config.signatureOk 1 ((List.range 2836).map (imageWord (transferImage s))) = true
  sound : firstField (fun r => if bit (recWord (imageRecord (transferImage s) r) 0) 31 then recordBreach (imageRecord (transferImage s) r) else none) =
    none
  kept : sealedGen s = 0 ∨
    firstField (fun r => relaxed (smGet [] (genRecords s (sealedGen s)) r) (imageRecord (transferImage s) r)) = none

/-- What a burn leaves in the fuses of its generation: sealed where the read-back equals the image. -/
def burnedGen (s : State) (readBackOk : Bool) : LicGen :=
  { consumed := true, integrator := (imageWord (transferImage s) 1).toNat, sealed := readBackOk, records := imageRecords (transferImage s) }

/-- The fuses with generation `g` burned. -/
def genBurned (s : State) (g : Nat) (readBackOk : Bool) : State :=
  { s with nv := { s.nv with gens := smSet {} s.nv.gens g (burnedGen s readBackOk) } }

theorem getGen_genBurned (s : State) (g k : Nat) (ok : Bool) :
    getGen (genBurned s g ok) k = if k = g then burnedGen s ok else getGen s k := by
  rw [getGen, genBurned, smGet_smSet]
  rfl

theorem burnLicence_of_permitted {s : State} {g : Nat} (h : BurnPermitted s g) (readBackOk : Bool) : burnLicence s g readBackOk =
    if readBackOk then (0, { genBurned s g true with lic := { s.lic with burn := 3, reason := 0, field := 0, due := some g } })
    else refuseBurn (genBurned s g false) 0x05 0x05 0 := by
  have hpower : ¬ (s.life.power ≠ .hold ∧ s.life.power ≠ .quiet) := fun hne => h.power.elim hne.1 hne.2
  have hkept : (if sealedGen s = 0 then none else
      firstField fun r => relaxed (smGet [] (genRecords s (sealedGen s)) r) (imageRecord (transferImage s) r)) = none :=
    ite_eq_left_iff.2 fun hne => h.kept.resolve_left hne
  rw [burnLicence]
  dsimp only
  rw [if_neg (not_not.2 h.lifecycle), if_neg hpower, h.next]
  dsimp only
  rw [if_neg (not_not.2 rfl), if_neg (by simp [h.signed]), h.sound]
  dsimp only
  rw [hkept]
  cases readBackOk <;> rfl

/-- A burn is the CRC confirm of the image window with a licence generation selected (R267). -/
theorem crcConfirm_licence {s : State} {m g : Nat} {crc : BitVec 32} (event : Bool) (hfree : windowBusy s m 4 = false)
    (hsel : (getWindow s 4).sel = 0x100 + g) (hg : g ≤ 4) (hcrc : crcOut (getWindow s 4).crc = crc) : crcConfirm s m 4 crc event =
    ((burnLicence s g event).1, if (burnLicence s g event).1 = 0 then windowSealed (burnLicence s g event).2 4 else (burnLicence s g event).2) := by
  have hrelease : ¬ 0x100 + g = releaseSel := by unfold releaseSel; omega
  have himage : 1 < 0x100 + g := by omega
  have hgen : 0x100 + g - 0x100 = g := by omega
  simp [crcConfirm, hfree, hsel, hcrc, hrelease, himage, hgen]

theorem le_four_of_nextGen {s : State} {g : Nat} (h : nextGen s = some g) : g ≤ 4 := by
  have hmem := List.mem_of_find?_eq_some h
  simp only [List.mem_cons, List.not_mem_nil, or_false] at hmem
  omega

/-- An operation on a window notes the time of the claim of its holder (R61). -/
theorem touchWindow_eq (s : State) (m w : Nat) : ∃ windows claimAt,
    touchWindow s m w = { s with windows } ∧ smGet {} windows w = { getWindow s w with claimAt } := by
  by_cases hclaim : (getWindow s w).claim = some m
  · exact ⟨_, s.time, if_pos hclaim, getWindow_modWindow s w fun x => { x with claimAt := s.time }⟩
  · exact ⟨s.windows, (getWindow s w).claimAt, if_neg hclaim, rfl⟩

/-- An operation on the image window notes the times of the lock and of the claim (R54, R61). -/
theorem touch_imageWindow (s : State) (m : Nat) : ∃ lockAt windows claimAt,
    touch s m 0x6500 = { s with commit := { s.commit with lockAt }, windows } ∧
    smGet {} windows 4 = { getWindow s 4 with claimAt } := by
  have htouch : touch s m 0x6500 = touchWindow (if s.commit.lock = some m then { s with commit := { s.commit with lockAt := s.time } } else s) m 4 := by
    rw [touch, if_pos (by decide)]
  rw [htouch]
  by_cases hlock : s.commit.lock = some m
  · rw [if_pos hlock]
    obtain ⟨windows, claimAt, heq, hread⟩ := touchWindow_eq { s with commit := { s.commit with lockAt := s.time } } m 4
    exact ⟨s.time, windows, claimAt, heq, hread⟩
  · rw [if_neg hlock]
    obtain ⟨windows, claimAt, heq, hread⟩ := touchWindow_eq s m 4
    exact ⟨s.commit.lockAt, windows, claimAt, heq, hread⟩

/-- A CRC confirm of the image window by a manager is answered with what its rule answers. -/
theorem confirmImage_eq {s : State} {m : Nat} (crc : BitVec 32) (event : Bool) (hm : mayWrite s m = true) : confirmImage s m crc event =
    answer (noteChanges (crcConfirm (touch s m 0x6500) m 4 crc event).2) m 2 0x6500 4 (crcConfirm (touch s m 0x6500) m 4 crc event).1 [] := by
  have hsup : s.life.sup = true := by simp_all [mayWrite]
  have htest : writeTest (touch s m 0x6500) m 0x6500 4 (beBytes 4 crc.toNat) = 0 := by
    refine writeTest_of_mayWrite (o := plain .u32 .rw) (by simpa [mayWrite] using hm) rfl ?_ rfl (by simp [plain]) ?_
    · rw [length_beBytes]; rfl
    · rfl
  simp [confirmImage, hsup, htest]

/-- The times noted by an operation on the image window are no part of what a burn reads. -/
theorem transferImage_touch (s : State) (m : Nat) : transferImage (touch s m 0x6500) = transferImage s := by
  obtain ⟨lockAt, windows, claimAt, htouch, hread⟩ := touch_imageWindow s m
  have hwindow : getWindow (touch s m 0x6500) 4 = { getWindow s 4 with claimAt } := by rw [htouch]; exact hread
  have hlic : (touch s m 0x6500).lic = s.lic := by rw [htouch]
  simp only [transferImage, hwindow, hlic]

theorem BurnPermitted.touch {s : State} {g : Nat} (h : BurnPermitted s g) (m : Nat) : BurnPermitted (Machine.touch s m 0x6500) g := by
  have himage := transferImage_touch s m
  obtain ⟨lockAt, windows, claimAt, htouch, -⟩ := touch_imageWindow s m
  rw [htouch] at himage ⊢
  refine ⟨h.lifecycle, h.power, h.next, ?_, ?_, ?_⟩ <;> rw [himage]
  exacts [h.signed, h.sound, h.kept]

/-- A permitted burn by a manager at a free image window, its CRC confirmed: what the read-back decides is answered. -/
theorem confirmImage_burn {s : State} {m g : Nat} {crc : BitVec 32} (readBackOk : Bool) (h : BurnPermitted s g) (hm : mayWrite s m = true)
    (hfree : windowFree s m 4 = true) (hsel : (getWindow s 4).sel = 0x100 + g) (hcrc : crcOut (getWindow s 4).crc = crc) :
    let u := touch s m 0x6500
    confirmImage s m crc readBackOk =
      if readBackOk then answer (noteChanges (windowSealed
        { genBurned u g true with lic := { s.lic with burn := 3, reason := 0, field := 0, due := some g } } 4)) m 2 0x6500 4 0 []
      else answer (noteChanges (refuseBurn (genBurned u g false) 0x05 0x05 0).2) m 2 0x6500 4 0x05 [] := by
  intro u
  obtain ⟨lockAt, windows, claimAt, htouch, hread⟩ := touch_imageWindow s m
  have hwindow : getWindow u 4 = { getWindow s 4 with claimAt } := by simp only [u, htouch]; exact hread
  have hlic : u.lic = s.lic := by simp only [u, htouch]
  have hbusy : windowBusy u m 4 = false := by
    simp only [windowFree, Bool.or_eq_true, beq_iff_eq] at hfree
    rcases hfree with hfree | hfree <;> simp [windowBusy, hwindow, hfree]
  rw [confirmImage_eq crc readBackOk hm, crcConfirm_licence readBackOk hbusy (by rw [hwindow, hsel]) (le_four_of_nextGen h.next) (by rw [hwindow, hcrc]),
    burnLicence_of_permitted (h.touch m)]
  cases readBackOk
  · rfl
  · simp only [if_true, ← hlic]
    rfl

/-- A burn whose read-back fails is refused with reason 5 (R268). -/
theorem refuseBurn_readBack (s : State) : ∃ tally,
    (refuseBurn s 0x05 0x05 0).2 = { s with lic := { s.lic with burn := 4, reason := 5, field := 0 }, tally } :=
  ⟨(refuseBurn s 0x05 0x05 0).2.tally, by apply state_ext <;> simp [refuseBurn]⟩

theorem genBurned_touch_gens (s : State) (m g k : Nat) (ok : Bool) :
    getGen (genBurned (touch s m 0x6500) g ok) k = if k = g then burnedGen s ok else getGen s k := by
  obtain ⟨lockAt, windows, claimAt, htouch, -⟩ := touch_imageWindow s m
  have himage := transferImage_touch s m
  rw [getGen_genBurned, burnedGen, himage, htouch]
  rfl

/-! ### The shadow (R270, R272) -/

theorem smGet_foldl_smSet (xs : List Nat) (sm : SMap Nat) (v r : Nat) :
    smGet 0 (xs.foldl (fun sm x => smSet 0 sm x v) sm) r = if r ∈ xs then v else smGet 0 sm r := by
  induction xs generalizing sm with
  | nil => simp
  | cons x xs ih =>
    rw [List.foldl_cons, ih, smGet_smSet]
    by_cases hx : r = x <;> by_cases hxs : r ∈ xs <;> simp [hx, hxs]

/-- A record that changed is marked by the generation it comes from. -/
theorem setBy_loadShadow (s : State) {r : Nat} (hr : r < 64) : smGet 0 (loadShadow s).lic.setBy r =
    if smGet [] (genRecords s (sealedGen s)) r ≠ smGet [] s.lic.shadow r then sealedGen s else smGet 0 s.lic.setBy r := by
  simp [loadShadow, smGet_foldl_smSet, hr]

/-- Nothing but what a mute acts on differs. -/
def MuteFrame (s u : State) : Prop := u = { s with chans := u.chans, buses := u.buses, mutes := u.mutes, out := u.out }

theorem muteFrame_addMute (s : State) (o : Owner) (sc : Scope) : MuteFrame s (addMute s o sc) := by apply state_ext <;> simp

theorem MuteFrame.trans {s u v : State} (hu : MuteFrame s u) (hv : MuteFrame u v) : MuteFrame s v := by
  unfold MuteFrame at hu hv ⊢
  rw [hv, hu]

/-- The test of the active sides adds mutes only. -/
theorem licenceTest_frame (s : State) : MuteFrame s (licenceTest s) := by
  refine forEach_inv (MuteFrame s) _ _ (fun u x hu => ?_) s rfl
  split
  · exact hu
  · exact hu.trans (muteFrame_addMute ..)

/-- A shadow that does not match is loaded again and source 292 is set (R272). -/
theorem execLicenceShadowCompare_mismatch {s : State} (hpower : s.life.power ≠ .off) (hdue : s.lic.due = none) :
    exec (.licenceShadowCompare false) s = .next (licenceTest (loadShadow (faultEvent s 292))) := by
  simp [exec, execLicenceShadowCompare, hpower, hdue]

/-- The replays that go on at an activation (R270). -/
def replayGrant (s : State) (x : Replay) : Bool := ((boundRecord s s.objs x.target).map recReplay).getD false

/-- The state at whose sides an activation tests the licence: the shadow loaded, the replays it no longer grants stopped. -/
def shadowActivated (s : State) : State :=
  let u := loadShadow { s with lic := { s.lic with due := none } }
  stopReplays u fun x => (x.mode == 1 || replayGrant s x) && !replayGrant u x

theorem execLicenceGenerationActivate_due {s : State} {g : Nat} (hdue : s.lic.due = some g) (hclock : coreClock s = true) :
    exec .licenceGenerationActivate s = .next (tallyEvent (licenceTest (shadowActivated s)) 0x0804 0 [g]) := by
  simp [exec, execLicenceGenerationActivate, hdue, hclock, shadowActivated, replayGrant]

/-- Settles O42: a permitted burn is the confirmed transfer's answer; a loaded shadow is the sealed generation's. -/
theorem licences : Obligations.Licences := by
  constructor
  · intro s m g crc img hm hfree hsel hnext hcrc hlife hpower hsigned hsound hkept
    have hburn : BurnPermitted s g := ⟨hlife, hpower, hnext, hsigned, hsound, hkept⟩
    have hm8 : m < 8 := by simp_all [mayWrite]
    have hexec (ok : Bool) : exec (.licenceBurn m crc ok) s = .next _ := congrArg Host.Outcome.next (confirmImage_burn ok hburn hm hfree hsel hcrc)
    obtain ⟨lockAt, windows, claimAt, htouch, -⟩ := touch_imageWindow s m
    constructor
    · let w := windowSealed
        { genBurned (touch s m 0x6500) g true with lic := { s.lic with burn := 3, reason := 0, field := 0, due := some g } } 4
      let t := answer (noteChanges w) m 2 0x6500 4 0 []
      have hgen (k : Nat) : getGen t k = if k = g then burnedGen s true else getGen s k := by
        rw [← genBurned_touch_gens s m g k true]
        simp [getGen, t, w]
      have hwindow : (getWindow t 4).st = 2 := by
        have hsealed : (getWindow w 4).st = 2 := by simp only [w, windowSealed, getWindow_modWindow]
        simpa [getWindow, t] using hsealed
      refine ⟨t, hexec true, by rw [hgen, if_pos rfl]; rfl, fun k hk => by rw [hgen, if_neg hk], by simp [t, w], hwindow,
        answered_answer hm8, ?_, onlyNotes_of_olp (u := w) (by simp [w, genBurned, htouch]) (by simp [t])⟩
      apply state_ext <;> simp [t, w, genBurned, htouch]
    · obtain ⟨tally, hrefuse⟩ := refuseBurn_readBack (genBurned (touch s m 0x6500) g false)
      let w := (refuseBurn (genBurned (touch s m 0x6500) g false) 0x05 0x05 0).2
      let t := answer (noteChanges w) m 2 0x6500 4 0x05 []
      have hgen (k : Nat) : getGen t k = if k = g then burnedGen s false else getGen s k := by
        rw [← genBurned_touch_gens s m g k false]
        simp [getGen, t, w, hrefuse]
      refine ⟨t, hexec false, by rw [hgen, if_pos rfl]; rfl, by rw [hgen, if_pos rfl]; rfl, fun k hk => by rw [hgen, if_neg hk],
        by simp [t, w, hrefuse, genBurned, htouch], answered_answer hm8,
        onlyNotes_of_olp (u := w) (by simp [w, hrefuse, genBurned, htouch]) (by simp [t]), ?_⟩
      apply state_ext <;> simp [t, w, hrefuse, genBurned, htouch]
  · intro s
    refine ⟨fun g hdue hclock => ?_, fun hpower hdue => ⟨?_, by simp [exec, execLicenceShadowCompare]⟩⟩
    · let cleared : State := { s with lic := { s.lic with due := none } }
      have hframe : MuteFrame (shadowActivated s) _ := licenceTest_frame (shadowActivated s)
      have hlic : (licenceTest (shadowActivated s)).lic = (loadShadow cleared).lic := by rw [hframe]; simp [shadowActivated, cleared]
      refine ⟨_, execLicenceGenerationActivate_due hdue hclock, ?_, ?_, ?_, fun r hr => ?_, ?_⟩
      · simp only [tallyEvent_keeps, hlic]; rfl
      · simp only [tallyEvent_keeps, hlic]; rfl
      · simp only [tallyEvent_keeps, hlic]; rfl
      · simp only [tallyEvent_keeps, hlic]; exact setBy_loadShadow cleared hr
      · rw [hframe]
        apply state_ext <;> simp [shadowActivated, loadShadow]
    · have hframe : MuteFrame _ _ := licenceTest_frame (loadShadow (faultEvent s 292))
      refine ⟨_, execLicenceShadowCompare_mismatch hpower hdue, ?_, ?_, ?_⟩
      · rw [hframe]; rfl
      · rw [hframe]
        simpa [eventActive, loadShadow] using eventActive_faultEvent s 292 292
      · rw [hframe]; rfl
end Sys2Proof.Machine

namespace Sys2Proof.Machine

/-! ### Trips of the Sentinel (R276–R278) -/

/-- What makes a trip of a kind no new one: 1 overpower, 2 spectral, 3 power with TXEN low. -/
def tripLatched (s : State) (ch kind : Nat) : Bool := match kind with
  | 1 => (getChan s ch).sent.overpower | 2 => (getChan s ch).sent.spectral | _ => rodTripped s (ch / 16)

/-- A channel's Sentinel at a trip. -/
def SentCh.tripped (now kind : Nat) (x : SentCh) : SentCh :=
  let trips := now :: x.trips.filter fun t => decide (now < t + 60000 * msUnits)
  { x with
    overpower := x.overpower || kind == 1, spectral := x.spectral || kind == 2, txLow := x.txLow || kind == 3
    closed := x.closed || kind != 3, trips, locked := x.locked || decide (3 ≤ trips.length), overRun := 0, lowRun := 0 }

/-- The mute of a trip: power with TXEN low mutes the rod. -/
def tripMute (ch kind : Nat) : Mute := if kind = 3 then ⟨.sentinelRod (ch / 16), .rod (ch / 16)⟩ else ⟨.sentinel ch, .chan ch⟩

/-- The fault source of a trip. -/
def tripSource (kind : Nat) : Nat := if kind = 2 then 294 else 293

/-- A trip up to its record: the channel's Sentinel, the outputs that fall, the count, the mute and the fault source. -/
def tripActs (s : State) (ch kind : Nat) : State :=
  let u := txenDrops s (modSent s ch (SentCh.tripped s.time kind))
  faultEvent (addMute { u with sent := { u.sent with trips := inc32 u.sent.trips } } (tripMute ch kind).owner (tripMute ch kind).scope) (tripSource kind)

/-- What follows a trip in the records and the captures. -/
def tripNotes (s : State) (ch kind : Nat) (limit : Int) : State :=
  fireMarks (stopReplays (tallyEvent s 0x0800 (srcField 2 ch) [kind, argI limit]) fun x => x.target / 8 == ch) 5
    fun a => bits a 6 0 == 0x7F || bits a 6 0 == ch

theorem trip_new {s : State} {ch kind : Nat} (h : tripLatched s ch kind = false) :
    trip s ch kind = tripNotes (tripActs s ch kind) ch kind (ceiling (tripActs s ch kind) ch) := by
  refine Eq.trans (if_neg (ne_true_of_eq_false h)) ?_
  by_cases hkind : kind = 3
  · simp only [tripActs, tripMute, if_pos hkind]
    rfl
  · simp only [tripActs, tripMute, if_neg hkind]
    rfl

/-- What follows a trip leaves the device's rules alone. -/
theorem tripNotes_frame (s : State) (ch kind : Nat) (limit : Int) : tripNotes s ch kind limit =
    { s with cap := (tripNotes s ch kind limit).cap, tally := (tripNotes s ch kind limit).tally } := by
  apply state_ext <;> simp [tripNotes]

/-- A channel's Sentinel is touched by its own rules only: falling outputs leave it. -/
theorem sent_txenDrops (before s : State) (c : Nat) : (getChan (txenDrops before s) c).sent = (getChan s c).sent := by
  refine forEach_keep (fun u => (getChan u c).sent) _ _ (fun u ch => ?_) s
  have hqueue : getChan (queueEvent u ch 1) c = getChan u c := getChan_congr (by simp) c
  by_cases hc : c = ch
  · subst hc
    rw [txenLow, getChan_modChan]
    exact (congrArg Chan.sent hqueue :)
  · rw [txenLow, getChan_modChan_ne _ _ _ _ hc, hqueue]

/-- A new trip: the gate and the channel's trip bits, the mute, the count, the fault source. -/
structure Tripped (s t : State) (ch kind : Nat) : Prop where
  sent : (getChan t ch).sent = (getChan s ch).sent.tripped s.time kind
  mute : tripMute ch kind ∈ t.mutes
  trips : t.sent = { s.sent with trips := inc32 s.sent.trips }
  event : eventActive t (tripSource kind) = true
  rest : t = { s with chans := t.chans, buses := t.buses, mutes := t.mutes, sent := t.sent, cap := t.cap, flt := t.flt, tally := t.tally, out := t.out }

theorem tripped_tripActs (s : State) (ch kind : Nat) : Tripped s (tripActs s ch kind) ch kind where
  sent := by
    refine (addMute_chan_reads Chan.sent (fun _ => rfl) (fun _ => rfl) _ _ _ ch).trans ?_
    refine (sent_txenDrops s _ ch).trans ?_
    rw [getChan_modSent]
  mute := (mem_addMute ..).2 (.inr rfl)
  trips := by simp [tripActs]
  event := by rw [tripActs, eventActive_faultEvent]; simp
  rest := by apply state_ext <;> simp [tripActs]

theorem trip_tripped {s : State} {ch kind : Nat} (h : tripLatched s ch kind = false) : Tripped s (trip s ch kind) ch kind := by
  have hacts := tripped_tripActs s ch kind
  rw [trip_new h, tripNotes_frame]
  exact ⟨hacts.sent, hacts.mute, hacts.trips, hacts.event, by rw [hacts.rest]⟩

/-- A closed gate holds TXEN low. -/
theorem txen_of_closed {s : State} {ch : Nat} (h : (getChan s ch).sent.closed = true) : txen s ch = false := by
  simp [txen, gateOpen, h]

/-- The kinds of trip that close the channel's gate. -/
theorem Tripped.closes {s t : State} {ch kind : Nat} (h : Tripped s t ch kind) (hkind : kind ≠ 3) :
    (getChan t ch).sent.closed = true ∧ txen t ch = false ∧ muteAt t (.sentinel ch) (.chan ch) := by
  have hclosed : (getChan t ch).sent.closed = true := by simp [h.sent, SentCh.tripped, hkind]
  have hmute := h.mute
  rw [tripMute, if_neg hkind] at hmute
  exact ⟨hclosed, txen_of_closed hclosed, hmute⟩

/-- The channel's counts noted before a trip are no part of what the trip leaves alone. -/
theorem Tripped.rest_of_modSent {s t : State} {ch kind : Nat} {f : SentCh → SentCh} (h : Tripped (modSent s ch f) t ch kind) :
    t = { s with chans := t.chans, buses := t.buses, mutes := t.mutes, sent := t.sent, cap := t.cap, flt := t.flt, tally := t.tally, out := t.out } := by
  rw [h.rest]
  rfl

/-! ### Overpower intervals and spectral windows (R276) -/

/-- The channel's counts after an interval with TXEN high. -/
def SentCh.highInterval (run : Nat) (x : SentCh) : SentCh := { x with overRun := min 2 run, lowRun := 0 }

/-- The channel's counts after an interval with TXEN low. -/
def SentCh.lowInterval (run : Nat) (x : SentCh) : SentCh := { x with lowRun := min 2 run }

/-- The intervals in a row over the ceiling, an interval with TXEN high counted. -/
def overRunAfter (s : State) (ch : Nat) (fb : Int) : Nat := if ceiling s ch < ballPower s ch fb then (getChan s ch).sent.overRun + 1 else 0

/-- The intervals in a row over −30 dBm, an interval with TXEN low counted. -/
def lowRunAfter (s : State) (ch : Nat) (fb : Int) : Nat := if -3000 < ballPower s ch fb then (getChan s ch).sent.lowRun + 1 else 0

/-- The bins of a spectral window that are over their limit. -/
def exceedingBins (s : State) (ch : Nat) (bins : List Int) : List Nat := (List.range 64).filter fun b =>
  match bins[b]?, binLimit s ch b with
  | some v, some l => decide (l < ballPower s ch v)
  | _, _ => false

/-- A bin over its limit in two windows in a row. -/
def spectralAgain (s : State) (ch : Nat) (bins : List Int) : Bool :=
  (exceedingBins s ch bins).any fun b => (getChan s ch).sent.binsOver.contains b

/-- The channel with the bins of its last window noted. -/
def binsNoted (s : State) (ch : Nat) (bs : List Nat) : State := modSent s ch fun x => { x with binsOver := bs }

section
variable {s : State} {ch : Nat} {fb : Int} (hon : s.life.power ≠ .off) (hch : ch < 96)
include hon hch

theorem execSentinelOverpowerInterval_high (hrefl : reflected s ch = false) (htxen : txen s ch = true) :
    exec (.sentinelOverpowerInterval ch fb) s = .next (if 2 ≤ overRunAfter s ch fb ∨ ceiling s ch + 600 ≤ ballPower s ch fb then
      trip (modSent s ch (SentCh.highInterval (overRunAfter s ch fb))) ch 1 else modSent s ch (SentCh.highInterval (overRunAfter s ch fb))) := by
  show execSentinelOverpowerInterval ch fb s = _
  rw [execSentinelOverpowerInterval, if_neg (by simp [hon, hch, hrefl])]
  simp only [htxen, if_true]
  rfl

theorem execSentinelOverpowerInterval_low (hrefl : reflected s ch = false) (htxen : txen s ch = false) :
    exec (.sentinelOverpowerInterval ch fb) s = .next (if 2 ≤ lowRunAfter s ch fb then
      trip (modSent s ch (SentCh.lowInterval (lowRunAfter s ch fb))) ch 3 else modSent s ch (SentCh.lowInterval (lowRunAfter s ch fb))) := by
  show execSentinelOverpowerInterval ch fb s = _
  rw [execSentinelOverpowerInterval, if_neg (by simp [hon, hch, hrefl])]
  simp only [htxen, Bool.false_eq_true, if_false]
  rfl

theorem execSentinelSpectralWindow_high (bins : List Int) (htxen : txen s ch = true) :
    let u := binsNoted s ch (if spectralAgain s ch bins then [] else exceedingBins s ch bins)
    exec (.sentinelSpectralWindow ch bins) s = .next (if spectralAgain s ch bins then trip u ch 2 else u) := by
  show execSentinelSpectralWindow ch bins s = _
  rw [execSentinelSpectralWindow, if_neg (by simp [hon, hch, htxen])]
  rfl

theorem execSentinelSpectralWindow_again {bins : List Int} {b : Nat} (htxen : txen s ch = true) (hmem : b ∈ exceedingBins s ch bins)
    (hagain : b ∈ (getChan s ch).sent.binsOver) : exec (.sentinelSpectralWindow ch bins) s = .next (trip (binsNoted s ch []) ch 2) := by
  have hany : spectralAgain s ch bins = true := List.any_eq_true.2 ⟨b, hmem, List.contains_iff_mem.2 hagain⟩
  rw [execSentinelSpectralWindow_high hon hch bins htxen, hany]
  rfl

theorem execSentinelSpectralWindow_first (bins : List Int) (htxen : txen s ch = true) (hfirst : (getChan s ch).sent.binsOver = []) :
    exec (.sentinelSpectralWindow ch bins) s = .next (binsNoted s ch (exceedingBins s ch bins)) := by
  have hany : spectralAgain s ch bins = false := by simp [spectralAgain, hfirst]
  rw [execSentinelSpectralWindow_high hon hch bins htxen, hany]
  rfl

end

/-- Counts noted of a channel leave what a trip with TXEN low has marked. -/
theorem rodTripped_modSent {f : SentCh → SentCh} (hf : ∀ x, (f x).txLow = x.txLow) (s : State) (ch r : Nat) :
    rodTripped (modSent s ch f) r = rodTripped s r := by
  have hlow (c : Nat) : (getChan (modSent s ch f) c).sent.txLow = (getChan s c).sent.txLow := by
    by_cases hc : c = ch
    · rw [hc, getChan_modSent, hf]
    · rw [getChan_modSent_ne _ _ _ _ hc]
  simp only [rodTripped, hlow]

theorem mem_exceedingBins {s : State} {ch b : Nat} {bins : List Int} {v l : Int} (hb : b < 64) (hv : bins[b]? = some v)
    (hl : binLimit s ch b = some l) (hover : l < ballPower s ch v) : b ∈ exceedingBins s ch bins :=
  List.mem_filter.2 ⟨List.mem_range.2 hb, by simp [hv, hl, hover]⟩

/-! ### Releases of a gate (R279) -/

/-- A trip that R279 does not release: the channel's own is locked, or its rod's with TXEN low is. -/
def gateLocked (s : State) (ch : Nat) : Prop :=
  (getChan s ch).sent.locked = true ∨ ∃ c, c / 16 = ch / 16 ∧ (getChan s c).sent.locked = true ∧ (getChan s c).sent.txLow = true

theorem gateLocked_iff (s : State) (ch : Nat) : gateLocked s ch ↔
    (getChan s ch).sent.locked = true ∨ ((rodChannels (ch / 16)).any fun c => (getChan s c).sent.locked && (getChan s c).sent.txLow) = true := by
  simp [gateLocked]

theorem gateWrite_locked {s : State} {ch : Nat} (hch : ch < 96) (h : gateLocked s ch) : gateWrite s ch = (0x05, s) := by
  rw [gateWrite, if_neg (by omega)]
  exact if_pos ((gateLocked_iff s ch).1 h)

/-- A channel's Sentinel at its release. -/
def SentCh.released (x : SentCh) : SentCh := { x with closed := false, overpower := false, spectral := false, overRun := 0, binsOver := [] }

/-- `u` is `s` with the trips with TXEN low of the rod cleared, and nothing else. -/
structure LowTripsCleared (s u : State) (r : Nat) : Prop where
  low : ∀ c, c / 16 = r → (getChan u c).sent.txLow = false
  rest : u = { s with chans := u.chans }

/-- `t` is `s` with the gate of `ch` released: its trips and those of its rod with TXEN low are clear, the mutes of both ended. -/
structure GateReleased (s t : State) (ch : Nat) : Prop where
  opened : (getChan t ch).sent.closed = false ∧ (getChan t ch).sent.overpower = false ∧ (getChan t ch).sent.spectral = false
  low : ∀ c, c / 16 = ch / 16 → (getChan t c).sent.txLow = false
  mutes : ∀ m, m ∈ t.mutes ↔ m ∈ s.mutes ∧ m.owner ≠ .sentinel ch ∧ m.owner ≠ .sentinelRod (ch / 16)
  rest : t = { s with chans := t.chans, mutes := t.mutes, tally := t.tally }

theorem lowTripsCleared_forEach (s : State) (r : Nat) :
    LowTripsCleared s (forEach (rodChannels r) s fun u c => modSent u c fun x => { x with txLow := false }) r where
  low c hc := by
    refine forEach_brings (P := fun u => (getChan u c).sent.txLow = false) (mem_rodChannels.2 hc) (fun u => ?_) (fun u k hu => ?_) s
    · rw [getChan_modSent]
    · by_cases hk : c = k
      · rw [hk, getChan_modSent]
      · rw [getChan_modSent_ne _ _ _ _ hk]
        exact hu
  rest := forEach_inv (fun u => u = { s with chans := u.chans }) _ _ (fun u c hu => by
    rw [hu]
    rfl) s rfl

theorem LowTripsCleared.released {s u : State} {ch : Nat} (h : LowTripsCleared s u (ch / 16)) :
    GateReleased s (dropMute (dropMute (modSent u ch SentCh.released) (.sentinel ch)) (.sentinelRod (ch / 16))) ch := by
  have hself : (getChan (modSent u ch SentCh.released) ch).sent = (getChan u ch).sent.released := by rw [getChan_modSent]
  have hmutes : (modSent u ch SentCh.released).mutes = s.mutes := by rw [h.rest]; rfl
  refine ⟨?_, fun c hc => ?_, fun m => ?_, ?_⟩
  · have hsent : (getChan (dropMute (dropMute (modSent u ch SentCh.released) (.sentinel ch)) (.sentinelRod (ch / 16))) ch).sent =
        (getChan u ch).sent.released := hself
    rw [hsent]
    exact ⟨rfl, rfl, rfl⟩
  · show (getChan (modSent u ch SentCh.released) c).sent.txLow = false
    by_cases hcs : c = ch
    · rw [hcs, hself]
      exact h.low ch rfl
    · rw [getChan_modSent_ne _ _ _ _ hcs]
      exact h.low c hc
  · rw [mem_dropMute, mem_dropMute, hmutes, and_assoc]
  · rw [h.rest]
    rfl

theorem GateReleased.tallyEvent {s t : State} {ch : Nat} (h : GateReleased s t ch) (code source : Nat) (args : List Nat) :
    GateReleased s (tallyEvent t code source args) ch := by
  have hchan (c : Nat) : getChan (Machine.tallyEvent t code source args) c = getChan t c := getChan_congr (by simp) c
  refine ⟨by rw [hchan]; exact h.opened, fun c hc => by rw [hchan]; exact h.low c hc, fun m => by simpa using h.mutes m, ?_⟩
  have htally : Machine.tallyEvent t code source args = { t with tally := (Machine.tallyEvent t code source args).tally } := by
    apply state_ext <;> simp
  rw [htally, h.rest]

theorem gateWrite_released {s : State} {ch : Nat} (hch : ch < 96) (h : ¬ gateLocked s ch) :
    (gateWrite s ch).1 = 0 ∧ GateReleased s (gateWrite s ch).2 ch := by
  have hcleared := lowTripsCleared_forEach s (ch / 16)
  rw [gateWrite, if_neg (by omega), if_neg (mt (gateLocked_iff s ch).2 h)]
  generalize (forEach (rodChannels (ch / 16)) s fun u c => modSent u c fun x => { x with txLow := false }) = u at hcleared ⊢
  have hreleased : GateReleased s _ ch := hcleared.released
  refine ⟨rfl, ?_⟩
  dsimp only
  split
  · exact hreleased.tallyEvent ..
  · exact hreleased

theorem gateWrite_olp {ch : Nat} (hch : ch < 96) (s : State) : (gateWrite s ch).2.olp = s.olp := by
  by_cases h : gateLocked s ch
  · rw [gateWrite_locked hch h]
  · rw [(gateWrite_released hch h).2.rest]

/-- A release is carried out by the rule of 0x1310:01. -/
theorem execGateRelease_answers {s : State} {m ch status : Nat} {w : State → State} (hm : mayWrite s m = true) (hch : ch < 96)
    (hwrite : ∀ u, LockNoted s u → gateWrite u ch = (status, w u)) (holp : ∀ u, (w u).olp = u.olp) :
    ∃ u, LockNoted s u ∧ Answers s (w u) (commandValue s m 0x1310 1 ch) m 0x1310 1 status := by
  refine commandValue_answers (o := ranged .u8 .wo 0 0 95) hm rfl (.inr rfl) rfl (by simp only [ranged, Typ.len]; omega)
    (by simp [ranged, Typ.toInt]; omega) (by omega) (by omega) (fun u hu => ?_) holp
  have hval : ofBytes (beBytes 1 ch) = ch := by rw [ofBytes_beBytes, Nat.mod_eq_of_lt (by omega)]
  exact (congrArg (gateWrite u) hval).trans (hwrite u hu)

/-- Settles O40: a trip not latched closes the gate or mutes the rod; a release undoes both where no trip that counts is locked. -/
theorem sentinelTripsAndReleases : Obligations.SentinelTripsAndReleases := by
  constructor
  · intro s ch hon hch x
    refine ⟨fun fb hrefl htxen hnew hover => ?_, fun fb hrefl htxen hover hbelow hrun => ?_, fun fb hrefl htxen hover hrun hnew => ?_,
      fun bins b htxen hb v hv l hl hover hnew => ⟨fun hagain => ?_, fun hfirst => ?_⟩⟩
    · have htrips : 2 ≤ overRunAfter s ch fb ∨ ceiling s ch + 600 ≤ ballPower s ch fb := by
        rcases hover with hfar | ⟨hover, hrun⟩
        · exact .inr hfar
        · exact .inl (by rw [overRunAfter, if_pos hover]; exact Nat.succ_le_succ hrun)
      have hexec := execSentinelOverpowerInterval_high (fb := fb) hon hch hrefl htxen
      rw [if_pos htrips] at hexec
      have h := trip_tripped (s := modSent s ch (SentCh.highInterval (overRunAfter s ch fb))) (ch := ch) (kind := 1) (by
        rw [tripLatched, getChan_modSent]
        exact hnew)
      obtain ⟨hclosed, hlow, hmute⟩ := h.closes (by decide)
      exact ⟨_, hexec, hclosed, by simp [h.sent, SentCh.tripped], hlow, hmute, by rw [h.trips]; rfl, h.event, h.rest_of_modSent⟩
    · have hrunNow : overRunAfter s ch fb = 1 := by rw [overRunAfter, if_pos hover]; exact congrArg (· + 1) hrun
      have hexec := execSentinelOverpowerInterval_high (fb := fb) hon hch hrefl htxen
      rw [hrunNow, if_neg (by omega)] at hexec
      exact ⟨_, hexec, by rw [getChan_modSent]; rfl, rfl⟩
    · have htrips : 2 ≤ lowRunAfter s ch fb := by rw [lowRunAfter, if_pos hover]; exact Nat.succ_le_succ hrun
      have hexec := execSentinelOverpowerInterval_low (fb := fb) hon hch hrefl htxen
      rw [if_pos htrips] at hexec
      have h := trip_tripped (s := modSent s ch (SentCh.lowInterval (lowRunAfter s ch fb))) (ch := ch) (kind := 3)
        ((rodTripped_modSent (f := SentCh.lowInterval (lowRunAfter s ch fb)) (fun _ => rfl) s ch _).trans hnew)
      exact ⟨_, hexec, by simp [h.sent, SentCh.tripped], h.mute, by rw [h.trips]; rfl, h.event, h.rest_of_modSent⟩
    · have h := trip_tripped (s := binsNoted s ch []) (ch := ch) (kind := 2) (by
        rw [tripLatched, binsNoted, getChan_modSent]
        exact hnew)
      obtain ⟨hclosed, hlow, hmute⟩ := h.closes (by decide)
      exact ⟨_, execSentinelSpectralWindow_again hon hch htxen (mem_exceedingBins hb hv hl hover) hagain, hclosed,
        by simp [h.sent, SentCh.tripped], hlow, hmute, h.event, h.rest_of_modSent⟩
    · refine ⟨_, execSentinelSpectralWindow_first hon hch bins htxen hfirst, ?_, ?_, rfl⟩ <;> rw [binsNoted, getChan_modSent]
      exact mem_exceedingBins hb hv hl hover
  · intro s m ch hm hch
    refine ⟨fun hfree hrod => ?_, fun hlocked => ?_⟩
    · have hopen : ¬ gateLocked s ch := by
        rintro (h | ⟨c, hc, hlocked, hlow⟩)
        · simp [hfree] at h
        · simpa [hlocked, hlow] using hrod c hc
      have hwrite (u : State) (hu : LockNoted s u) : (gateWrite u ch).1 = 0 ∧ GateReleased u (gateWrite u ch).2 ch := by
        obtain ⟨at_, rfl⟩ := hu
        exact gateWrite_released hch hopen
      obtain ⟨u, ⟨at_, rfl⟩, h⟩ := execGateRelease_answers (w := fun u => (gateWrite u ch).2) (status := 0) hm hch
        (fun u hu => Prod.ext (hwrite u hu).1 rfl) (gateWrite_olp hch)
      obtain ⟨-, hreleased⟩ := hwrite _ ⟨at_, rfl⟩
      have hchan (c : Nat) := getChan_congr h.chans c
      obtain ⟨hclosed, hover, hspectral⟩ := hreleased.opened
      refine ⟨_, rfl, by rw [hchan]; exact hclosed, by rw [hchan]; exact hover, by rw [hchan]; exact hspectral,
        fun c hc => by rw [hchan]; exact hreleased.low c hc, fun m => by rw [h.mutes]; exact hreleased.mutes m, h.answer, ?_, h.notes⟩
      rw [h.rest, hreleased.rest]
    · obtain ⟨u, ⟨at_, rfl⟩, h⟩ := execGateRelease_answers (w := id) hm hch (fun u ⟨at_, hu⟩ => by
        subst hu
        exact gateWrite_locked hch hlocked) fun _ => rfl
      exact ⟨_, rfl, h.answer, by rw [h.rest]; rfl, h.notes⟩

end Sys2Proof.Machine
